-- ==== Sys2Proof/Word.lean ====
section
/-! DEFINITION. The word and the byte of the module: registers and descriptor words are 32 bits wide,
memory is counted in bytes (spec/00_scope.md, Registers). -/

namespace Sys2Proof

/-- A 32-bit register, descriptor or record word. -/
abbrev Word := BitVec 32

/-- One byte of module memory. -/
abbrev Byte := BitVec 8

/-- The word that holds `n` modulo 2^32. -/
abbrev word (n : Nat) : Word := BitVec.ofNat 32 n

/-- The byte that holds `n` modulo 2^8. -/
abbrev byte (n : Nat) : Byte := BitVec.ofNat 8 n

end Sys2Proof
end

