-- ==== Sys2Proof/Syntax.lean ====
section
/-! DEFINITION. The commands the block takes, one constructor per row of spec/opcode_table.json, and the records
they carry. -/

namespace Sys2Proof

/-- An error the symbol code finds in a read (R31, R32): its region (R431), the region a payload in transit was bound
for, its module address, the core whose local memory or the unit whose data it was (R32), and whether it corrects. -/
structure EccHit where
  region : Fin 8
  dest : Fin 7
  addr : Nat
  who : Nat
  correctable : Bool
deriving DecidableEq, Repr

/-- Which host-memory read failed (R106): of a doorbell line, of a ring's descriptors, or of a buffer. -/
inductive HostRead where
  | line (m : Fin 4)
  | desc (r : Fin 64)
  | buffer
deriving DecidableEq, Repr

/-- A frame as a ring frame: the switch port it arrived on, its source MAC address, its EtherType and its two header
words (R108). -/
structure FrameSource where
  port : Nat
  mac : Nat
  ethertype : Nat
  w0 : Word
  w1 : Word
deriving DecidableEq, Repr

/-- What an active edge of a shaft shows beside its instant (R119): the direction of the quadrature phase, and in
dir_mode 3 the width of the pulse that ends, in ns. -/
structure ShaftEdge where
  quadFwd : Bool
  width : Nat
deriving DecidableEq, Repr

/-- A frame on a CAN bus (R355): its fields, its data bytes and the cycle of the
CAN clock, of 12.5 ns, in which it started. -/
structure CanFrame where
  ide : Bool
  fdf : Bool
  brs : Bool
  esi : Bool
  rtr : Bool
  id : Nat
  dlc : Nat
  data : List Byte
  sof : Nat
deriving DecidableEq, Repr

/-- A bus error a CAN channel detects (R364): in the frame it sends or in one it receives, what ISO 11898-1 adds to
TEC or REC for it (0, 1 or 8), and whether it is forced by TST_CANERR (R492). -/
structure CanFault where
  own : Bool
  add : Nat
  forced : Bool
deriving DecidableEq, Repr

/-- A satellite in the sky (R324 to R326): its constellation by bit of GNS_CFG.con, its number, its elevation in degrees,
whether its L1 and its L5 signal reach antenna 0 and antenna 1, whether the solution uses it while it is tracked, its code
and its carrier range in L1 and L5 in mm, and its ionospheric delay at L1 in mm by SBAS and by the broadcast model. -/
structure SatView where
  con : Nat
  id : Nat
  elev : Int
  a0 : Bool × Bool
  a1 : Bool × Bool
  used : Bool
  code : Int × Int
  carrier : Int × Int
  iono : Int × Int
deriving DecidableEq, Repr

/-- What the always-on domain sees at a thermal shutdown (R453): the comparator's thermistor in 1/16 °C, and the draw that
port B's decision of R416 rests on. -/
structure HwReading where
  temp : Int
  draw : Nat
deriving DecidableEq, Repr

/-- A sample that test perturbation or inference has held back (R257): its raw values, the shaft speeds sampled with it, and
its DEFER and SAT flags. -/
structure HeldSample where
  vals : List Int
  speeds : List Int
  defer : Bool
  sat : Bool
deriving DecidableEq, Repr

/-- What an analog input shows at a conversion (R244): its voltage and the sensor reference, in nV. -/
structure AinLevel where
  nv : Int
  ref : Nat
deriving DecidableEq, Repr

/-- What a frequency input shows once it has stood on one side of its threshold (R246): its voltage and the peak of the
cycle before in mV, and the cycle in which it crossed. -/
structure FinCross where
  mv : Int
  peak : Nat
  since : Nat
deriving DecidableEq, Repr

/-- A copy of a hit map that ends (R272): the ring, and the cycles the copy took. -/
structure MapCopy where
  ring : Fin 64
  took : Nat
deriving DecidableEq, Repr

/-- A Frame Start (R299): its frame number, and the errors found in SRAM when it closes a frame in progress. -/
structure FrameHead where
  fnum : Nat
  ecc : List EccHit
deriving DecidableEq, Repr

/-- A frame closed by its timeout (R300): the camera, and the errors found in SRAM. -/
structure FrameCut where
  cam : Fin 12
  ecc : List EccHit
deriving DecidableEq, Repr

/-- What a model computes in a run (R320). -/
structure InferResult where
  scal : List Word
  blob : List Byte
deriving DecidableEq, Repr

/-- An operation that takes words (R307): its ring, and the words of its buffer in host memory. -/
structure RingWords where
  ring : Fin 64
  buf : List Word
deriving DecidableEq, Repr

/-- A reading of an antenna supply (R327), in mA. -/
structure AntReading where
  ant : Fin 2
  ma : Nat
deriving DecidableEq, Repr

/-- What the receiver's solution gives at a fix epoch (R325 to R331). -/
structure GnssFix where
  sky : List SatView
  /-- The antenna 0 phase centre: latitude and longitude in 10^-9 degree, height in mm. -/
  lat : Int
  lon : Int
  hgt : Int
  /-- Velocity in mm/s and its accuracy. -/
  vn : Int
  ve : Int
  vd : Int
  sAcc : Nat
  /-- Measured baseline: length in mm, azimuth and elevation in 0.01°, heading accuracy. -/
  baseline : Option (Nat × Nat × Int × Nat)
  /-- Course over ground and its accuracy, and the pitch without a baseline, in 0.01°. -/
  course : Nat
  courseAcc : Nat
  pitch : Int
  /-- The ground speed is against the heading (R124). -/
  back : Bool
  hAcc : Nat
  vAcc : Nat
  /-- The best fix type available with corrections, and without them (R334). -/
  fix : Nat
  fall : Nat
  cAge : Option Nat
  cur0 : Nat
  cur1 : Nat
deriving DecidableEq, Repr

/-- What the checks of one second measure (R335), signals by number and constellations by bit of GNS_CFG.con. -/
structure GnssCheck where
  /-- Satellites: their signals, ionospheric delay at L1 in mm, disagreement of its change over 10 s in mm. -/
  iono : List (List Nat × Int × Nat)
  /-- Signals: change of code minus carrier over 1 s in mm. -/
  code : List (Nat × Nat)
  /-- Signals: C/N0 in 0.1 dB-Hz. -/
  cn0 : List (Nat × Nat)
  /-- Front ends, each with its signals: satellites, C/N0 spread and fall of the gain below its learnt level in 0.1 dB. -/
  fronts : List (List Nat × Nat × Nat × Nat)
  /-- Constellations: distance of their own solution in mm, step of their system time offset in ps. -/
  cons : List (Nat × Nat × Nat)
  /-- No two constellations agree. -/
  noAgree : Bool
  /-- Departures of the clock from the oscillator model: phase in ps, frequency in 0.001 ppb. -/
  phase : Nat
  freq : Nat
deriving DecidableEq, Repr

/-- The time solution of one second (R338 to R343): satellites in it, the phase error e in ns, its accuracy in ns, UTC
offset, a leap second announced, the offset of the true second in ps, and the frequency correction in 10^-12 that removes
the oscillator's measured frequency error. -/
structure TimeSol where
  sats : Nat
  e : Int
  acc : Nat
  utc : Nat
  leap : Bool
  qerr : Int
  foff : Int
deriving DecidableEq, Repr

/-- The record a Garid core delivers to the voter (R178, R179): the one the firmware makes, none by the last instant, or
other words. -/
inductive CoreRec where
  | same
  | missing
  | other (ws : List Word)
deriving DecidableEq, Repr

/-- How a command of axolotl comes (R469): 0 PCIe, 1 Ethernet, 2 CAN0; its seq; on CAN0 whether its frame is FD; on
Ethernet its source MAC address. -/
structure AxoVia where
  path : Fin 3
  seq : Nat
  fd : Bool
  src : BitVec 48
deriving DecidableEq, Repr

/-- What a housekeeping round measures (R47, R63, R447): the logic feed in mV and whether each of its inputs is above
6.0 V, the bank's usable energy in 0.1 J, of each feed the voltage in mV and the averages over 100 ms and 1 s in 0.1 A,
the base and the power-area thermistors in 1/16 °C, the total dissipation in 0.1 W. -/
structure Round where
  lf : Nat
  x1 : Bool
  x3 : Bool
  bank : Nat
  feeds : List (Nat × Nat × Nat)
  base : List Int
  areas : List Int
  pwr : Nat
deriving DecidableEq, Repr

/-- The commands: one constructor per row of spec/opcode_table.json. The first operand `t` of every command is the
cycle of the Nymgor/timebase clock domain (5 ns each, R22) at which the command happens; the others are what the
command carries from outside: register values, ring and channel numbers, measurements, the results of checks whose
function the spec does not give (DESIGN CHOICE, log entries 1 and 10). -/
inductive Instr where
  /-- A host write to a register that has no row of its own, acting per its access code, set-up rules and counters. (R7) -/
  | registerWrite (t : Nat) (off : Nat) (v : Word)
  /-- A BAR0 access to an undefined offset reads 0 or is ignored and is counted as F3 note 0x00F1. (R25) -/
  | unmappedBar0Access (t : Nat) (off : Nat)
  /-- A write to SYS_BAR2_BASE moves the BAR2 window for all later accesses and clears oob_cnt. (R28) -/
  | sysBar2BaseWrite (t : Nat) (v : Word)
  /-- A host read through BAR2 reaches module memory by region rules, or returns 0 and counts oob_cnt. (R27) -/
  | bar2Read (t : Nat) (off len : Nat) (ecc : List EccHit)
  /-- A host write through BAR2 is performed, merged into its codeword, or dropped by region rules. (R29) -/
  | bar2Write (t : Nat) (off : Nat) (bs : List Byte) (ecc : List EccHit)
  /-- The background scrubber reads codewords on its SRAM and DRAM cadence and writes back corrections not overtaken by writes. (R33) -/
  | scrubPass (t : Nat) (ecc : List EccHit)
  /-- At the end of each 1 ms window the Class A loop load is computed, CLE_LOAD updated and load_over set or cleared. (R18) -/
  | loadWindowEnd (t : Nat)
  /-- Logic feed, WAKE and internal rails first hold together, starting the start-up sequence and sampling the strap. (R68) -/
  | powerGood (t : Nat) (strap : Fin 3)
  /-- Stage 2: gate drivers powered with every channel held off and safe_hold set. (R69) -/
  | outputsSafeHold (t : Nat)
  /-- Stage 3: the first housekeeping round ends and supply registers begin to read live values. (R63) -/
  | firstHousekeepingEnd (t : Nat) (x : Round)
  /-- Stage 4: DRAM is trained and initialised with ECC. (R69) -/
  | dramTrained (t : Nat)
  /-- Stage 5: the boot ROM verifies the triad image of the active slot, falling back to the other slot or axolotl. (R70) -/
  | triadImageVerified (t : Nat) (okA okB header record : Bool)
  /-- Stage 6: the three Garid cores are released from the same image. (R69) -/
  | triadRelease (t : Nat)
  /-- Stage 7: CAN channels are set up from the set-up copy and CROAK starts toggling. (R69) -/
  | canCroakAlive (t : Nat)
  /-- Stage 8: the PCIe endpoint becomes configuration-ready and SYS, RNG and DMA become ready. (R81) -/
  | pcieConfigReady (t : Nat)
  /-- Stage 9: the settings store is read and checked, then used, migrated or replaced by defaults. (R79) -/
  | settingsRead (t : Nat) (ok image : Bool)
  /-- The write of default settings to the store completes and clears fault 0x0014. (R79) -/
  | defaultSettingsWritten (t : Nat) (ok : Bool)
  /-- Stage 10: Class A images are loaded and verified, the reload flag clears and Class A blocks become ready. (R73) -/
  | classAImagesLoaded (t : Nat) (bad : List (Fin 12))
  /-- Stage 11: leases can be granted, the machine state begins and the K12 engine takes its leases. (R69) -/
  | authorityPossible (t : Nat)
  /-- Stage 12: Ethernet PHYs train, port B presence is read and the dirty map is cleared where needed. (R81) -/
  | networkPanelBStart (t : Nat) (present : Bool) (temp : Option Int) (waves copyOk mapOk : Bool)
  /-- Stage 13: GNSS firmware runs, loads its settings and begins acquisition. (R348) -/
  | gnssFirmwareRunning (t : Nat) (ok : Bool)
  /-- Stage 14: the port A panel is powered and the eDP power-on sequence starts. (R408) -/
  | portAPowerOn (t : Nat) (umap : Bool)
  /-- Stage 15: vision firmware runs, camera supplies come on and A-PHY links start. (R322) -/
  | visionFirmwareRunning (t : Nat) (ok : Bool)
  /-- Stage 16: the inference model images named in the settings are loaded and verified. (R316) -/
  | modelsLoaded (t : Nat) (named bad : List (Fin 8))
  /-- Full native readiness is reached, setting native_ready and ready_ms, with an F3 note if late. (R71) -/
  | nativeReady (t : Nat) (gnss : Bool)
  /-- A start that runs 1 s without reaching stage 11 adds 1 to bfail. (R464) -/
  | bootFailTimer (t : Nat)
  /-- A write of SYS_PERSONALITY.pers_sel is accepted for storage. (R76) -/
  | persSelWrite (t : Nat) (v : Word)
  /-- The new pers_sel reaches the settings store within 100 ms. (R76) -/
  | persSelStored (t : Nat)
  /-- The host PCIe link trains to the highest common speed and width. (R81) -/
  | pcieLinkTrained (t : Nat) (gen : Fin 4) (width : Fin 3)
  /-- No host link 1 s after PERST# deassertion raises F3 note 0x0020. (R81) -/
  | pcieNoLinkTimeout (t : Nat)
  /-- Host PERST# assertion resets the PCIe endpoint only. (R82) -/
  | perstAssert (t : Nat)
  /-- A PCIe Function Level Reset acts as PERST#. (R382) -/
  | functionLevelReset (t : Nat)
  /-- Loss of the host link moves PCIe rings not OFF to HALTED and sets link_lost. (R107) -/
  | hostLinkLoss (t : Nat)
  /-- An Ethernet port gains or loses link, updating eth_up. (R81) -/
  | ethLinkChange (t : Nat) (k : Fin 7) (up : Bool)
  /-- The debounced WAKE input goes on, cancelling a pending stop or starting the module. (R55) -/
  | wakeOn (t : Nat)
  /-- The debounced WAKE input goes off and the stop delay begins. (R83) -/
  | wakeOff (t : Nat)
  /-- A write of SYS_STOP_CFG applies to a running stop delay and may begin the stop at once. (R83) -/
  | stopCfgWrite (t : Nat) (v : Word)
  /-- The stop delay or the 3,600 s limit expires and the orderly stop begins. (R83) -/
  | stopDelayEnd (t : Nat)
  /-- Yield records, recorder buffer and settings store are flushed to flash during the stop. (R84) -/
  | stopFlushDone (t : Nat)
  /-- The stop ends with endpoint and ports stopped and rails off, followed by the restart rule that applies. (R84) -/
  | orderlyStopEnd (t : Nat)
  /-- A keyed SYS_RESTART write with off 0 runs the orderly stop and restarts with cause 0x2. (R86) -/
  | sysRestartRestart (t : Nat)
  /-- A keyed SYS_RESTART write with off 1 runs the orderly stop and stays off until WAKE cycles. (R86) -/
  | sysRestartOff (t : Nat)
  /-- A power feed leaves 8.0 to 40.0 V, turning its channels off and raising F2 0x1208 + n. (R45) -/
  | feedOutOfRange (t : Nat) (n : Fin 6) (under : Bool)
  /-- A feed returns within 8.5 to 38.0 V and its fault clears. (R45) -/
  | feedBackInRange (t : Nat) (n : Fin 6)
  /-- After 1 ms in range the feed's channels restart on their own. (R45) -/
  | feedRestartDelayEnd (t : Nat) (n : Fin 6)
  /-- A feed rises through 36.0 V, beginning an excursion with F3 note 0x1228 + n. (R45) -/
  | feedOvervoltExcursion (t : Nat) (n : Fin 6)
  /-- The logic feed above 36 V for 50 µs turns every power channel off with F2 0x120E. (R46) -/
  | logicFeedOvervoltage (t : Nat)
  /-- After 1 ms at 34 V or below the channels recover and the fault clears. (R46) -/
  | logicFeedOvRecover (t : Nat)
  /-- Every 10 ms supplies, feeds and thermistors are measured and their registers, notes and band updated. (R63) -/
  | housekeepingRound (t : Nat) (x : Round)
  /-- A sensor supply overloaded for 10 ms turns off and raises an F2 fault. (R51) -/
  | supplyOverload (t : Nat) (n : Fin 8)
  /-- 1 s after an overload turn-off the sensor supply retries. (R51) -/
  | supplyRetry (t : Nat) (n : Fin 8)
  /-- The logic feed below 6.0 V for 50 µs turns every channel off, revokes leases, stops CROAK and starts the hold-up. (R59) -/
  | powerFailWarning (t : Nat) (draw : Nat) (low : Bool)
  /-- The hold-up ends with rails off for 100 ms and a start or stay-off decision. (R62) -/
  | internalPowerCycle (t : Nat) (lf : Bool) (stored : Nat)
  /-- A doorbell line read is issued at the shortest poll interval of its rings. (R92) -/
  | doorbellLineRead (t : Nat) (m : Fin 4)
  /-- The line data returns and moved tails cause descriptor reads in ring order. (R94) -/
  | lineReadReturn (t : Nat) (m : Fin 4) (slots : List Word)
  /-- A descriptor arrives and its operation starts in ring order, or completes with a ring-layer status. (R94) -/
  | descriptorArrival (t : Nat) (r : Fin 64) (ws : List Word)
  /-- A NOP completes DONE with no other effect. (R96) -/
  | nop (t : Nat) (r : Fin 64)
  /-- Completion entries are written in ring order, then the completion doorbell word and any interrupt. (R99) -/
  | completionWrite (t : Nat) (r : Fin 64)
  /-- A ring's interrupt holdoff ends and merged interrupts are sent. (R100) -/
  | irqHoldoffEnd (t : Nat) (r : Fin 64)
  /-- An RNG_CTLn start moves an OFF ring to RUNNING with both pointers at zero. (R90) -/
  | ringStart (t : Nat) (r : Fin 64)
  /-- An RNG_CTLn stop moves a ring to DRAINING or from HALTED to OFF, aborting unstarted descriptors. (R103) -/
  | ringStop (t : Nat) (r : Fin 64)
  /-- An RNG_CTLn stop_discard also aborts started operations that may be abandoned. (R103) -/
  | ringStopDiscard (t : Nat) (r : Fin 64)
  /-- A DRAINING ring goes OFF within 10 µs of its last completion and writes its doorbell word. (R101) -/
  | ringDrainEnd (t : Nat) (r : Fin 64)
  /-- A failed or timed-out host-memory read raises F2 and halts the rings concerned. (R106) -/
  | hostReadFailure (t : Nat) (what : HostRead)
  /-- A DOORBELL ring frame replaces the line in module memory and is evaluated at once. (R109) -/
  | ethDoorbellFrame (t : Nat) (src : FrameSource) (m : Fin 4) (image : List Word)
  /-- A WRITE ring frame writes bytes to module memory. (R108) -/
  | ethWriteFrame (t : Nat) (src : FrameSource) (addr : Nat) (bs : List Byte)
  /-- A READ ring frame reads module memory and returns a READ_DATA frame. (R108) -/
  | ethReadFrame (t : Nat) (src : FrameSource) (lo hi : Word) (len : Nat)
  /-- A COMPLETION frame is sent when 32 entries are pending or the holdoff has run. (R109) -/
  | completionFrameSend (t : Nat) (r : Fin 64)
  /-- A write setting NYM_SHAFT_CFGk.en moves the domain to SEEK. (R117) -/
  | shaftEnable (t : Nat) (k : Fin 8) (v : Word)
  /-- A write clearing en moves the shaft domain to UNSYNC, holds its entries and clears its LOST fault. (R123) -/
  | shaftDisable (t : Nat) (k : Fin 8) (v : Word)
  /-- A shaft edge snaps the position, updates the rate and runs the synchronisation check. (R118) -/
  | shaftEdge (t : Nat) (k : Fin 8) (edge : ShaftEdge)
  /-- No edge within the stall time makes the shaft stalled with rate 0. (R120) -/
  | shaftStall (t : Nat) (k : Fin 8)
  /-- A wheel pulse updates the measured wheel speed and the GROUND rate. (R124) -/
  | wheelPulse (t : Nat) (n : Nat)
  /-- No wheel pulse within one pulse time at 0.05 m/s sets the wheel speed to 0. (R124) -/
  | wheelTimeout (t : Nat)
  /-- Once per second the wheel scale is updated from GNSS and wheel distances. (R124) -/
  | groundScaleUpdate (t : Nat)
  /-- No source speed for 200 ms sets the rate to 0, coast to 1 and raises F2 0x0220. (R126) -/
  | groundCoast (t : Nat)
  /-- A read of NYM_MTIME_LO latches MTIME and all domain positions into the snapshot registers. (R114) -/
  | mtimeSnapshotRead (t : Nat)
  /-- An armed event entry whose position is reached is released, its action issued and its schedule advanced. (R134) -/
  | eventRelease (t : Nat)
  /-- A pending commit copies the shadow half to the active half and numbers the hand-over. (R138) -/
  | eventHandover (t : Nat) (i : Fin 16384)
  /-- Ring WRITE writes shadow halves of the event table and commits them if asked. (R141) -/
  | nymWrite (t : Nat) (r : Fin 64) (buf : List Word)
  /-- Ring COMMIT sets pending on a range of event entries. (R141) -/
  | nymCommit (t : Nat) (r : Fin 64)
  /-- Ring READ copies shadow halves, active halves or run states of event entries. (R141) -/
  | nymRead (t : Nat) (r : Fin 64)
  /-- Ring DISARM clears armed on a range of event entries. (R141) -/
  | nymDisarm (t : Nat) (r : Fin 64)
  /-- Window command 1 writes the selected entry's shadow half. (R142) -/
  | tblWriteShadow (t : Nat)
  /-- Window command 2 writes the shadow and commits at arm. (R142) -/
  | tblWriteCommitArm (t : Nat)
  /-- Window command 3 writes the shadow and commits now. (R142) -/
  | tblWriteCommitNow (t : Nat)
  /-- Window command 4 reads the selected entry's shadow half. (R142) -/
  | tblReadShadow (t : Nat)
  /-- Window command 5 reads the selected entry's active half. (R142) -/
  | tblReadActive (t : Nat)
  /-- Window command 6 reads the selected entry's run state. (R142) -/
  | tblReadRunState (t : Nat)
  /-- Window command 7 disarms the selected entry. (R142) -/
  | tblDisarm (t : Nat)
  /-- A loop's capture trigger at G minus 24 µs starts its conversion or latches its input. (R151) -/
  | loopTrigger (t : Nat) (n : Fin 64)
  /-- A loop evaluates in its slot, taking its target and writing its output to the channel shadow or CAN queue. (R158) -/
  | loopEvaluation (t : Nat) (n : Fin 64) (ecc : List EccHit)
  /-- A late evaluation runs on the catch-up lane once its sample is held. (R148) -/
  | catchupEvaluation (t : Nat) (n : Fin 64)
  /-- A pending loop commit copies the shadow descriptor to the active half. (R169) -/
  | loopHandover (t : Nat) (n : Fin 64)
  /-- Ring SET_TARGET gives one loop a target taken at its next evaluation. (R172) -/
  | setTarget (t : Nat) (r : Fin 64)
  /-- Ring SET_TARGETS gives several loops targets, completing when the last is taken. (R172) -/
  | setTargets (t : Nat) (r : Fin 64) (buf : List Word)
  /-- Ring WRITE writes loop shadow halves and commits them if asked. (R173) -/
  | cleWrite (t : Nat) (r : Fin 64) (buf : List Word)
  /-- Ring COMMIT sets pending on a range of loops. (R173) -/
  | cleCommit (t : Nat) (r : Fin 64)
  /-- Ring READ copies loop shadow halves, active halves or run states. (R173) -/
  | cleRead (t : Nat) (r : Fin 64)
  /-- Ring CLEAR_STATE resets the run state of loops at their next evaluation. (R173) -/
  | clearState (t : Nat) (r : Fin 64)
  /-- Ring POOL_WRITE writes friction and cogging pool entries. (R173) -/
  | poolWrite (t : Nat) (r : Fin 64) (buf : List Word)
  /-- Ring POOL_READ reads pool entries. (R173) -/
  | poolRead (t : Nat) (r : Fin 64)
  /-- CLE window command 1 writes the selected loop's shadow. (R174) -/
  | winWriteShadow (t : Nat)
  /-- CLE window command 2 writes the shadow and commits. (R174) -/
  | winWriteCommit (t : Nat)
  /-- CLE window command 3 reads the selected loop's shadow. (R174) -/
  | winReadShadow (t : Nat)
  /-- CLE window command 4 reads the selected loop's active half. (R174) -/
  | winReadActive (t : Nat)
  /-- CLE window command 5 reads the selected loop's run state. (R174) -/
  | winReadRunState (t : Nat)
  /-- CLE window command 6 clears the selected loop's state as CLEAR_STATE. (R174) -/
  | winClearState (t : Nat)
  /-- An access to CLE_POOL_DATA reads or writes the selected entry and advances the index with autoinc. (R174) -/
  | poolDataAccess (t : Nat) (v : Option Word)
  /-- The voter compares the cores' records for commit k and applies, tail-drops or escalates. (R179) -/
  | commitVote (t : Nat) (c0 c1 c2 : CoreRec)
  /-- Within 500 µs the limp-home sequencer writes each granted group's safe state. (R182) -/
  | limpSafeStateApply (t : Nat)
  /-- A lease not renewed for its lifetime lapses, applying the safe state with F3 0x0421. (R186) -/
  | leaseExpiry (t : Nat) (g : Fin 32)
  /-- After hold_lim the HOLD safe state turns the group's channels off. (R188) -/
  | holdLimitEnd (t : Nat) (g : Fin 32)
  /-- An enabled steering override input becomes active and revokes group 0 with OFF. (R189) -/
  | overrideActive (t : Nat) (n : Fin 2)
  /-- Both override inputs inactive for the re-arm time allow group 0 to be granted again. (R189) -/
  | overrideRearm (t : Nat)
  /-- Ring SET_SP places a set-point in a slot, completing at the commit that carries it. (R193) -/
  | setSp (t : Nat) (r : Fin 64)
  /-- Ring PATH_APPEND stores path points for tracking. (R193) -/
  | pathAppend (t : Nat) (r : Fin 64) (buf : List Word)
  /-- Ring PATH_CLEAR clears the path and sets origin and wheelbase at the next commit. (R193) -/
  | pathClear (t : Nat) (r : Fin 64)
  /-- Ring GRANT requests a group lease for a holder, completing at the commit that carries or refuses it. (R193) -/
  | grant (t : Nat) (r : Fin 64)
  /-- Ring RELEASE ends a group's lease. (R193) -/
  | release (t : Nat) (r : Fin 64)
  /-- Ring SET_STATE moves the machine state along an allowed transition. (R192) -/
  | setState (t : Nat) (r : Fin 64)
  /-- Ring DRIVE writes a value to a channel shadow under a host direct-drive lease. (R193) -/
  | drive (t : Nat) (r : Fin 64)
  /-- Ring RENEW keeps a host direct-drive lease renewable. (R193) -/
  | renew (t : Nat) (r : Fin 64)
  /-- A TRI_GMAP_DATA write moves an item to another group or is ignored when a holder or K12 rule forbids it. (R195) -/
  | triGmapWrite (t : Nat) (v : Word)
  /-- A write setting VDR_CFGn.en starts the channel's staggered period grid. (R205) -/
  | valveEnable (t : Nat) (n : Fin 48) (v : Word)
  /-- A write clearing VDR_CFGn.en turns the channel off at once. (R207) -/
  | valveDisable (t : Nat) (n : Fin 48) (v : Word)
  /-- At each PWM period end the regulator updates the duty, ramp and dither. (R199) -/
  | valvePeriodEnd (t : Nat) (n : Fin 48) (cur mv : Nat)
  /-- The minimum off-time ends and a waiting code hands over at the next period end. (R208) -/
  | valveOfftimeEnd (t : Nat) (n : Fin 48)
  /-- Current above 8 A for 2 µs trips the channel off with an F2 fault and may latch it. (R209) -/
  | valveTrip (t : Nat) (n : Fin 48) (rtn : Bool)
  /-- After the retry wait the valve restarts from its active code. (R210) -/
  | valveRetryEnd (t : Nat) (n : Fin 48)
  /-- A restart that runs 100 ms without a trip clears retry_cnt and the fault. (R210) -/
  | valveRestartOk (t : Nat) (n : Fin 48)
  /-- A write of clr_latch clears LATCH and restarts the channel with retry_cnt 0. (R210) -/
  | valveClrLatch (t : Nat) (n : Fin 48) (v : Word)
  /-- Current below 20 % of target at full duty for 10 ms sets open with an F3 note. (R211) -/
  | valveOpenLoad (t : Nat) (n : Fin 48)
  /-- Current below 95 % of target at full duty for 20 ms sets head with an F3 note. (R212) -/
  | valveHeadroom (t : Nat) (n : Fin 48)
  /-- A write clearing LSW_CFGn.en turns the load switch off at once. (R227) -/
  | lswDisable (t : Nat) (n : Fin 64) (v : Word)
  /-- A load-switch PWM period ends on the MTIME grid and the next on-phase begins. (R222) -/
  | lswPeriodEnd (t : Nat) (n : Fin 64) (cur : Nat)
  /-- The inrush window of a load switch ends. (R228) -/
  | inrushEnd (t : Nat) (n : Fin 64)
  /-- Current at I_lim with output below 2.0 V for tsb trips the channel as a short. (R229) -/
  | lswShortTrip (t : Nat) (n : Fin 64)
  /-- Current at I_lim for 1 ms outside inrush trips the channel as an overload. (R230) -/
  | lswOverloadTrip (t : Nat) (n : Fin 64)
  /-- After the retry wait the load switch turns on again with a new inrush window. (R231) -/
  | lswRetryEnd (t : Nat) (n : Fin 64)
  /-- A restart that runs 100 ms without a trip clears retry_cnt and the fault. (R231) -/
  | lswRestartOk (t : Nat) (n : Fin 64)
  /-- A write of clr_latch clears LATCH and restarts the channel. (R231) -/
  | lswClrLatch (t : Nat) (n : Fin 64) (v : Word)
  /-- A write of clr_therm clears a LATCH-mode thermal latch once Tj is low enough. (R232) -/
  | lswClrTherm (t : Nat) (n : Fin 64) (v : Word)
  /-- A channel's start-up or recovery protected phase ends after pdur. (R234) -/
  | protectedPhaseEnd (t : Nat) (n : Fin 64)
  /-- Current below the open-load threshold for 10 ms of on-time sets open with an F3 note. (R237) -/
  | lswOpenLoad (t : Nat) (n : Fin 64)
  /-- An analog input's periodic grid instant triggers a conversion. (R245) -/
  | ainPeriodicTrigger (t : Nat) (n : Fin 64)
  /-- A conversion deferred by the 100 µs spacing starts and carries DEFER. (R245) -/
  | ainDeferredConversion (t : Nat) (n : Fin 64)
  /-- An analog conversion completes and its sample reaches its requesters. (R244) -/
  | ainConversionDone (t : Nat) (n : Fin 64) (edge : Fin 201) (x : AinLevel)
  /-- A frequency-input crossing held for glitch µs is accepted as an edge. (R246) -/
  | finEdge (t : Nat) (n : Fin 24) (x : FinCross)
  /-- Every 10 µs SNS_FIN_DATAn is updated, going to 0 after 2 s without a rising edge. (R246) -/
  | finDataUpdate (t : Nat) (n : Fin 24)
  /-- Every 10 µs the digital inputs are sampled and filtered into accepted levels. (R247) -/
  | dinSample (t : Nat) (lo hi : Word)
  /-- A loss sample reaches its detector and runs the impact state machine. (R249) -/
  | lossSample (t : Nat) (n : Fin 16) (x : Int)
  /-- An excited loss input out of 2 to 22 V for 100 ms sets excf with an F3 note. (R248) -/
  | lossExcFault (t : Nat) (n : Fin 16)
  /-- At I plus S the hit-map banks swap and held impacts are binned. (R251) -/
  | mapBankSwap (t : Nat) (k : Fin 16)
  /-- A feature unit issues its result at I plus settle. (R255) -/
  | fuIssue (t : Nat) (u : Fin 16)
  /-- A sample arriving after its unit issued is sent to the raw stream with LATE and counted. (R257) -/
  | lateSample (t : Nat) (src : Fin 256) (cap : Nat) (v : HeldSample) (value : Word)
  /-- The collector commits an instant's results as a fused record, marking missing units. (R260) -/
  | collectorCommit (t : Nat) (k : Fin 16)
  /-- Every 10 ms a position history entry is written. (R266) -/
  | historyEntry (t : Nat)
  /-- Waiting yield records are written to the flash yield store. (R269) -/
  | yieldFlashWrite (t : Nat)
  /-- The header going up starts a transport delay measurement. (R270) -/
  | headerLift (t : Nat)
  /-- A delay measurement adapts the delay, or is rejected on timeout, with a note. (R270) -/
  | delayMeasurementEnd (t : Nat)
  /-- SNS ring FILL supplies a buffer for raw stream records. (R271) -/
  | rawFill (t : Nat) (r : Fin 64)
  /-- A receive buffer's completion time after its first record expires and it completes DONE. (R271) -/
  | receiveBufferTimeout (t : Nat) (r : Fin 64)
  /-- FUS ring FILL supplies a buffer for fused records. (R272) -/
  | fusedFill (t : Nat) (r : Fin 64)
  /-- FUS ring READ_MAP copies a filled hit-map bank. (R272) -/
  | readMap (t : Nat) (x : MapCopy)
  /-- FUS ring FILL supplies a buffer for yield records. (R272) -/
  | yieldFill (t : Nat) (r : Fin 64)
  /-- A setting-loop trigger is released, handing over the problem and starting a step unless frozen. (R282) -/
  | hslTriggerRelease (t : Nat)
  /-- A step's iterations end, targets are written, lag computed and the report queued. (R280) -/
  | hslStepEnd (t : Nat)
  /-- A write of HSL_CFG changes the mode from the next release, arming or disarming the trigger. (R287) -/
  | hslModeWrite (t : Nat) (v : Word)
  /-- Ring WRITE writes problem words into the shadow and commits if asked. (R290) -/
  | hslWrite (t : Nat) (r : Fin 64) (buf : List Word)
  /-- Ring COMMIT sets the problem's pending. (R290) -/
  | hslCommit (t : Nat) (r : Fin 64)
  /-- Ring READ copies problem words from a half. (R290) -/
  | hslRead (t : Nat) (r : Fin 64)
  /-- Ring SET_OBJ writes observation targets into the shadow and commits. (R290) -/
  | setObj (t : Nat) (r : Fin 64) (buf : List Word)
  /-- HSL ring FILL supplies a buffer for step reports. (R291) -/
  | reportFill (t : Nat) (r : Fin 64)
  /-- The trigger message goes to the camera at t_exp minus trig_lat and opens its pairing window. (R297) -/
  | triggerMessageSend (t : Nat) (c : Fin 12)
  /-- A Frame Start pairs with an open window or is stray, handing over camera parameters and tokens. (R299) -/
  | frameStart (t : Nat) (c : Fin 12) (x : FrameHead)
  /-- A line packet is processed, padded, truncated or replaced by fill. (R300) -/
  | lineReceived (t : Nat) (c : Fin 12) (px : List Nat) (crc : Bool)
  /-- A pairing window closes unpaired, making its index a gap with a record. (R299) -/
  | pairingWindowClose (t : Nat) (c : Fin 12)
  /-- A Frame End closes the paired frame and its records and outputs are issued. (R300) -/
  | frameEnd (t : Nat) (c : Fin 12) (ecc : List EccHit)
  /-- A frame not ended within 1 / rate_cap of its start closes. (R300) -/
  | frameCloseTimeout (t : Nat) (x : FrameCut)
  /-- An A-PHY link locks and its camera set-up proceeds. (R81) -/
  | aphyLock (t : Nat) (n : Fin 3) (gear : Nat)
  /-- A link not locked within 300 ms turns its supply off and counts a failed start. (R81) -/
  | aphyLockTimeout (t : Nat) (n : Fin 3)
  /-- After the off time or 5 s the link start is retried. (R81) -/
  | aphyRetry (t : Nat) (n : Fin 3)
  /-- Loss of lock while running raises F2 0x0A04 + n and restarts the link. (R296) -/
  | aphyLockLoss (t : Nat) (n : Fin 3)
  /-- Coax supply overcurrent turns the supply off and sets ocp. (R296) -/
  | aphyOvercurrent (t : Nat) (n : Fin 3)
  /-- A write enabling a camera is accepted or rejected by the capacity check. (R302) -/
  | cameraEnable (t : Nat) (c : Fin 12) (v : Word)
  /-- A write enabling an encoder is accepted or rejected by the capacity check. (R302) -/
  | encoderEnable (t : Nat) (e : Fin 4) (v : Word)
  /-- A scaled NV12 display buffer becomes ready. (R305) -/
  | displayBufferReady (t : Nat) (c : Fin 12)
  /-- An encoder finishes an access unit and delivers or drops it. (R314) -/
  | accessUnitDone (t : Nat) (e : Fin 4) (nal : List Byte)
  /-- An input tensor is formed and queued for its model slot. (R315) -/
  | tensorReady (t : Nat) (c : Fin 12)
  /-- An inference run completes and issues its result. (R320) -/
  | inferenceRunDone (t : Nat) (res : InferResult) (ecc : List EccHit)
  /-- A run longer than 2 × max_us is aborted with TIMEOUT and F2 0x0A28 + m. (R319) -/
  | inferenceTimeout (t : Nat)
  /-- Ring SET_EXPOSURE queues sensor writes with a token and exposure time. (R307) -/
  | setExposure (t : Nat) (x : RingWords)
  /-- The exposure items are written in blanking and acknowledged, or refused. (R307) -/
  | exposureAccepted (t : Nat) (c : Fin 12) (nack : Option Nat)
  /-- Ring SENSOR_XFER performs I2C reads and writes to a sensor at once. (R321) -/
  | sensorXfer (t : Nat) (r : Fin 64) (buf : List Word) (reads : List Byte) (nack : Option Nat)
  /-- Ring PARAM_WRITE writes camera parameter shadow words and commits if asked. (R321) -/
  | paramWrite (t : Nat) (r : Fin 64) (buf : List Word)
  /-- Ring PARAM_READ reads camera parameter words. (R321) -/
  | paramRead (t : Nat) (r : Fin 64)
  /-- Ring LOAD_MODEL verifies a model container and loads it into a slot. (R316) -/
  | loadModel (t : Nat) (r : Fin 64) (buf : List Word) (sig : Bool)
  /-- Ring UNLOAD_MODEL empties a model slot. (R321) -/
  | unloadModel (t : Nat) (r : Fin 64)
  /-- Ring FORCE_IDR makes an encoder code an IDR picture next. (R313) -/
  | forceIdr (t : Nat) (r : Fin 64)
  /-- VIS ring FILL supplies a buffer for frame records. (R321) -/
  | frameRecordFill (t : Nat) (r : Fin 64)
  /-- VIS ring FILL supplies a buffer for inference results. (R321) -/
  | inferenceFill (t : Nat) (r : Fin 64)
  /-- VIS ring FILL supplies a buffer for an encoder's access units. (R321) -/
  | accessUnitFill (t : Nat) (r : Fin 64) (e : Fin 4)
  /-- A GNSS fix is computed for its epoch and delivered to tracking, GROUND, fusion and the ring. (R330) -/
  | fixEpoch (t : Nat) (fix : GnssFix)
  /-- An antenna supply below 3 mA raises an open note. (R327) -/
  | antennaOpen (t : Nat) (x : AntReading)
  /-- An antenna supply at its limit for 10 ms turns off with an F2 fault. (R327) -/
  | antennaShort (t : Nat) (a : Fin 2)
  /-- 1 s after a short the antenna supply retries. (R327) -/
  | antennaRetry (t : Nat) (a : Fin 2)
  /-- Once per second the consistency checks run, excluding signals or setting SUSPECT. (R335) -/
  | gnssCheckSecond (t : Nat) (chk : GnssCheck)
  /-- A 60 s exclusion of a signal or constellation ends. (R335) -/
  | exclusionExpiry (t : Nat) (con : Bool) (id : Nat)
  /-- At each MTIME second the PPS edge, slew or step decision, state change and time message are made. (R339) -/
  | timeSecondBoundary (t : Nat) (sol : TimeSol)
  /-- A write clearing GNS_CFG.en stops tracking and moves time to HOLDOVER. (R348) -/
  | gnssDisable (t : Nat) (v : Word)
  /-- Ring RTCM_IN consumes correction bytes, reassembling and checking RTCM frames. (R334) -/
  | rtcmIn (t : Nat) (r : Fin 64) (buf : List Byte)
  /-- Ring SNAPSHOT schedules a capture of front-end samples. (R345) -/
  | snapshot (t : Nat) (r : Fin 64)
  /-- The capture ends and is written to the host buffer. (R346) -/
  | snapshotDone (t : Nat) (agc0 agc1 : BitVec 16) (samples : List Byte)
  /-- GNS ring FILL supplies a buffer for PVT messages. (R347) -/
  | pvtFill (t : Nat) (r : Fin 64)
  /-- GNS ring FILL supplies a buffer for time messages. (R347) -/
  | timeFill (t : Nat) (r : Fin 64)
  /-- A write setting CAN_CFGn.en puts the channel on the bus and saves the set-up copy. (R352) -/
  | canEnable (t : Nat) (n : Fin 8) (v : Word)
  /-- A write clearing CAN_CFGn.en finishes the current frame, leaves the bus and aborts waiting frames. (R370) -/
  | canDisable (t : Nat) (n : Fin 8) (v : Word)
  /-- A frame received without error is stamped and delivered or staged. (R353) -/
  | canFrameReceived (t : Nat) (n : Fin 8) (frame : CanFrame)
  /-- At a start-of-frame opportunity the lowest-arbitration queue head is offered. (R359) -/
  | canTxOpportunity (t : Nat) (n : Fin 8)
  /-- A frame is sent successfully, leaving its queue and completing its SEND. (R360) -/
  | canFrameTransmitted (t : Nat) (n : Fin 8) (sof : Nat)
  /-- A frame loses arbitration and waits for the next opportunity. (R360) -/
  | canArbitrationLost (t : Nat) (n : Fin 8)
  /-- A bus error updates TEC or REC and may enter error-passive or bus-off. (R364) -/
  | canError (t : Nat) (n : Fin 8) (err : CanFault)
  /-- A write of recover in bus-off starts recovery. (R365) -/
  | canRecover (t : Nat) (n : Fin 8) (v : Word)
  /-- After 128 runs of 11 recessive bits the channel becomes error-active with zero counters. (R365) -/
  | canRecoveryDone (t : Nat) (n : Fin 8)
  /-- A flush bit completes every waiting frame of its queue ABORTED. (R362) -/
  | canFlush (t : Nat) (n : Fin 8) (v : Word)
  /-- CAN receive ring FILL supplies a buffer for receive records. (R369) -/
  | canFill (t : Nat) (r : Fin 64)
  /-- CAN transmit ring SEND enqueues a frame in a queue. (R369) -/
  | canSend (t : Nat) (r : Fin 64) (buf : List Byte)
  /-- A frame entering the switch is policed, forwarded and queued at egress. (R375) -/
  | switchFrameIngress (t : Nat) (k : Fin 8) (bs : List Byte)
  /-- A gate control list interval ends and the next entry's gate states apply. (R378) -/
  | gateIntervalEnd (t : Nat) (k : Fin 7)
  /-- At the cycle start after the base time the administrative gate list becomes operating. (R379) -/
  | gclHandover (t : Nat) (k : Fin 7)
  /-- Every 125 ms the grandmaster sends Sync on each enabled port. (R377) -/
  | gptpSyncSend (t : Nat)
  /-- Every 1 s the peer delay is measured. (R377) -/
  | pdelayMeasure (t : Nat)
  /-- A received Announce is discarded and counted. (R377) -/
  | announceReceived (t : Nat) (k : Fin 7)
  /-- A debounced SVC_DET edge sets P3's role and restarts its training. (R374) -/
  | svcDetEdge (t : Nat) (grounded : Bool)
  /-- NET ring SEND injects a frame into the switch at P7. (R381) -/
  | netSend (t : Nat) (r : Fin 64) (buf : List Byte)
  /-- NET ring FILL supplies a buffer for frames leaving at P7. (R381) -/
  | netFill (t : Nat) (r : Fin 64)
  /-- Ring GCL_WRITE writes a port's administrative gate list and commits if asked. (R381) -/
  | gclWrite (t : Nat) (r : Fin 64) (buf : List Word)
  /-- Ring SF_WRITE writes stream filters. (R381) -/
  | sfWrite (t : Nat) (r : Fin 64) (buf : List Word)
  /-- Ring UNBLOCK releases a blocked stream filter. (R380) -/
  | unblock (t : Nat) (r : Fin 64)
  /-- A read of NET_RP_DATA makes one modem read. (R383) -/
  | rpDataRead (t : Nat) (v : Option Word)
  /-- A write of NET_RP_DATA makes one modem write. (R383) -/
  | rpDataWrite (t : Nat) (v : Word)
  /-- A modem memory request reaches shared DRAM or is refused with a note. (R383) -/
  | modemMemoryRequest (t : Nat) (write : Bool) (addr len : Nat) (bs : List Byte)
  /-- A modem MSI write is sent on to the host as a vector. (R383) -/
  | modemMsi (t : Nat)
  /-- The modem link goes down, raising F3 0x0D40 and counting a retry. (R383) -/
  | modemLinkLoss (t : Nat)
  /-- Every 5 s a failed modem link is retried. (R81) -/
  | modemLinkRetry (t : Nat) (gen : Fin 5)
  /-- A kick starts an idle channel at NEXT or is added to pend. (R387) -/
  | dmaKick (t : Nat) (n : Fin 32) (beaten : List (Fin 32))
  /-- A write to DMA_CHn_NEXT_LO sets the next descriptor and nv. (R397) -/
  | dmaNextWrite (t : Nat) (n : Fin 32) (v : Word)
  /-- A channel's descriptor read returns and the transfer begins. (R388) -/
  | dmaDescriptorArrival (t : Nat) (n : Fin 32) (ws : List Word) (beaten : List (Fin 32)) (ecc : List EccHit)
  /-- A descriptor's data is visible, its write-back and any interrupt are sent. (R392) -/
  | dmaDescriptorEnd (t : Nat) (n : Fin 32) (put : Nat) (bs : List Byte) (ecc : List EccHit)
  /-- Setting pause stops new reads and drains staging. (R393) -/
  | dmaPause (t : Nat) (n : Fin 32)
  /-- The channel's staging is empty and it reads PAUSED. (R393) -/
  | dmaPaused (t : Nat) (n : Fin 32) (put : Nat) (bs : List Byte)
  /-- Clearing pause resumes the channel from its current addresses. (R393) -/
  | dmaResume (t : Nat) (n : Fin 32)
  /-- A stop write aborts the descriptor in progress and returns the channel to IDLE. (R394) -/
  | dmaStop (t : Nat) (n : Fin 32) (put : Nat) (bs : List Byte)
  /-- A failed host read aborts the descriptor with F2 0x0E00 + n. (R395) -/
  | dmaReadError (t : Nat) (n : Fin 32) (put : Nat) (bs : List Byte)
  /-- A peripheral request line is asserted, letting a paced burst start. (R396) -/
  | dmaRequestAssert (t : Nat) (q : Fin 4)
  /-- A request line is withdrawn, counted in wd_cnt. (R396) -/
  | dmaRequestWithdraw (t : Nat) (q : Fin 4) (done : List (Nat × Nat × List Byte))
  /-- Ring RECT starts or holds a display rectangle on port A or B. (R420) -/
  | rect (t : Nat) (r : Fin 64)
  /-- A rectangle's pixel fetch completes. (R404) -/
  | rectFetchDone (t : Nat) (p : Fin 2) (buf : List Byte)
  /-- A port A frame starts, showing fetched rectangles and window buffers. (R403) -/
  | portAFrameStart (t : Nat)
  /-- A port B panel frame drives each row with waveform codes. (R410) -/
  | portBFrameStart (t : Nat)
  /-- A waveform's last frame ends and its rectangle enters the frame store. (R413) -/
  | waveformComplete (t : Nat)
  /-- An HPD rising edge starts port A link training. (R81) -/
  | hpdRise (t : Nat)
  /-- Port A training ends in success or edp_fail with F2 0x0F02. (R81) -/
  | edpTrainingResult (t : Nat) (geo : Option (Nat × Nat)) (vrr : Bool)
  /-- Every 100 ms the crack loop is measured and the crack fault set or cleared. (R407) -/
  | crackMeasure (t : Nat) (res : Nat)
  /-- Port A runs its power-off sequence. (R408) -/
  | portAPowerOff (t : Nat)
  /-- A port B rail out of tolerance for 1 ms stops waveforms and raises F2 0x0F10. (R409) -/
  | railFault (t : Nat)
  /-- rail_hold after the last waveform the port B rails go off in order. (R409) -/
  | railHoldEnd (t : Nat)
  /-- Every 10 s the port B panel presence and temperature are read. (R412) -/
  | epdPanelPoll (t : Nat) (present : Bool) (temp : Option Int)
  /-- Every 10 s the port B frame store CRC is checked, forcing a CLEAR on mismatch. (R414) -/
  | storeCrcCheck (t : Nat) (bad : List (Nat × Nat))
  /-- The port B frame store is copied to flash after a rectangle completes. (R415) -/
  | storeFlashCopy (t : Nat)
  /-- Final rectangles still in flight 2.9 s after the stop begins are stopped. (R419) -/
  | finalImageCutoff (t : Nat)
  /-- An F2 fault open for plim writes one PERSISTING record. (R427) -/
  | faultPersisting (t : Nat) (code detail : Nat)
  /-- Every 100,000 timebase cycles CROAK toggles while alive. (R430) -/
  | croakToggle (t : Nat)
  /-- A recorder flush begins, writing buffered entries to flash and the mirror. (R435) -/
  | recorderFlushStart (t : Nat)
  /-- The periodic flush time per expires. (R435) -/
  | flushPeriodEnd (t : Nat)
  /-- A flush ends and a waiting flush may begin. (R435) -/
  | flushEnd (t : Nat)
  /-- FLT ring FILL supplies a buffer for fault records. (R442) -/
  | faultFill (t : Nat) (r : Fin 64)
  /-- Ring READ delivers stored entries from a seq. (R443) -/
  | recRead (t : Nat) (r : Fin 64) (ecc : List (Nat × EccHit))
  /-- Ring FLUSH starts a flush and completes when it ends. (R443) -/
  | flush (t : Nat) (r : Fin 64)
  /-- Ring MARK writes a host MARK entry. (R443) -/
  | mark (t : Nat) (r : Fin 64) (buf : List Word)
  /-- Ring SNAP takes a snapshot of a slot. (R443) -/
  | snap (t : Nat) (r : Fin 64)
  /-- Ring CHALLENGE issues a clear challenge block. (R440) -/
  | challenge (t : Nat) (r : Fin 64)
  /-- A challenge expires 60 s after issue. (R440) -/
  | challengeExpiry (t : Nat)
  /-- Ring CLEAR checks the signature and clears the history or raises F3 0x1103. (R441) -/
  | clear (t : Nat) (r : Fin 64) (ok : Bool)
  /-- Every 50 µs the thermal model updates every node. (R446) -/
  | modelUpdate (t : Nat) (heat : List (Nat × Nat))
  /-- Every 1 ms a derating factor is set for each power channel. (R450) -/
  | deratingUpdate (t : Nat)
  /-- The hardware comparator reaching t_hw raises the power-fail path. (R453) -/
  | hwThermalShutdown (t : Nat) (reading : HwReading) (low : Bool)
  /-- Each second after shutdown the comparator thermistor is read and a start made below t_rst with WAKE on. (R454) -/
  | coolingCheck (t : Nat) (temp : Int)
  /-- Ring BEGIN opens an update session and invalidates the old image. (R461) -/
  | updBegin (t : Nat) (r : Fin 64)
  /-- Ring WRITE appends container bytes to flash. (R461) -/
  | updWrite (t : Nat) (r : Fin 64) (buf : List Byte)
  /-- Ring FINISH checks the container and closes the session. (R461) -/
  | finish (t : Nat) (r : Fin 64) (sig : Bool)
  /-- Ring ABORT closes the session leaving its image invalid. (R461) -/
  | abort (t : Nat) (r : Fin 64)
  /-- Ring COPY copies an active-slot image into the inactive slot. (R461) -/
  | copy (t : Nat) (r : Fin 64)
  /-- Ring ACTIVATE starts or cancels a trial of a slot. (R463) -/
  | activate (t : Nat) (r : Fin 64)
  /-- Ring REPORT returns the migration report. (R466) -/
  | report (t : Nat) (r : Fin 64)
  /-- A keyed UPD_REQ write runs the orderly stop and starts into axolotl. (R467) -/
  | updReq (t : Nat) (v : Word)
  /-- Axolotl HELLO claims the session for its path and replies with identity and slots. (R469) -/
  | axoHello (t : Nat) (via : AxoVia)
  /-- Axolotl BEGIN opens a session on a slot or the settings store. (R468) -/
  | axoBegin (t : Nat) (via : AxoVia) (arg : Word)
  /-- Axolotl DATA writes image bytes as WRITE does. (R468) -/
  | axoData (t : Nat) (via : AxoVia) (off : Nat) (bs : List Byte)
  /-- Axolotl FINISH checks the image as FINISH does. (R468) -/
  | axoFinish (t : Nat) (via : AxoVia) (sig : Bool)
  /-- Axolotl ACTIVATE sets next and arranges a trial. (R468) -/
  | axoActivate (t : Nat) (via : AxoVia) (arg : Word)
  /-- Axolotl BOOT turns rails off for 100 ms and starts with cause 0x5. (R468) -/
  | axoBoot (t : Nat) (via : AxoVia)
  /-- After 20 ms of CAN silence the module replies on the axolotl CAN path. (R469) -/
  | axoCanSilenceReply (t : Nat)
  /-- A legacy host port write frame writes a K12 register after SSEL# rises. (R475) -/
  | k12PortWrite (t : Nat) (clocks : Nat) (op : Fin 16) (addr data : BitVec 16)
  /-- A legacy host port read frame returns a K12 register on SDO. (R475) -/
  | k12PortRead (t : Nat) (clocks : Nat) (op : Fin 16) (addr data : BitVec 16)
  /-- At each latch point the engine takes the K12 output registers and writes changed shadows. (R479) -/
  | k12Latch (t : Nat)
  /-- At cycle start plus 200 µs the K12 input registers are refreshed. (R481) -/
  | k12InputRefresh (t : Nat)
  /-- At cycle start plus 750 µs the K12 cyclic CAN frames become eligible. (R481) -/
  | k12CyclicCan (t : Nat) (frames : List (Fin 2 × Nat × List Byte))
  /-- After an MTIME step a valve pair is re-aligned at a cycle start when both channels are off. (R482) -/
  | k12PairRealign (t : Nat) (p : Fin 8)
  /-- EV_CMD 1 translates and writes a K12 entry's shadow and commits at arm. (R483) -/
  | evWriteCommitArm (t : Nat)
  /-- EV_CMD 2 translates and writes a K12 entry's shadow and commits now. (R483) -/
  | evWriteCommitNow (t : Nat)
  /-- EV_CMD 3 reads a K12 entry's active half back into EV_W0 to EV_W3. (R483) -/
  | evRead (t : Nat)
  /-- EV_CMD 4 disarms a K12 entry. (R483) -/
  | evDisarm (t : Nat)
  /-- A write of 1s to STATUS clears bits and may release ATTN#. (R477) -/
  | k12StatusClear (t : Nat) (v : BitVec 16)
  /-- No valid write frame for HOST_TMO sets hto and turns the engine's outputs off. (R485) -/
  | k12HostTimeout (t : Nat)
  /-- A CTRL write clearing hto restores output writes. (R485) -/
  | k12HtoClear (t : Nat) (v : BitVec 16)
  /-- The engine claims its ISO 11783 address on CAN0 and CAN1. (R484) -/
  | k12AddressClaim (t : Nat) (won : Option (Fin 254))
  /-- 100 ms after bus-off the engine writes recover for its channel. (R484) -/
  | k12BusoffRecover (t : Nat) (n : Fin 2)
  /-- A write to TST_UNLOCK advances or restarts the unlock sequence, unlocking TST on the second key. (R490) -/
  | tstUnlock (t : Nat) (v : Word)
  /-- A write of 0 to TST_UNLOCK locks TST and resets every TST register. (R490) -/
  | tstLock (t : Nat)
  /-- A write to TST_JIT sets jitter and reseeds the generator. (R491) -/
  | tstJitWrite (t : Nat) (v : Word)
  /-- 1 ms after a perturbation's condition ceases it is no longer enabled. (R491) -/
  | perturbEnd (t : Nat)
  /-- Host PERST# is deasserted, the endpoint leaves reset and becomes configuration-ready within 20 ms, starting the 1 s no-link timer. (R81) -/
  | perstDeassert (t : Nat)
  /-- An index pulse arrives on idx_in and is noted for the INDEX or QUAD synchronisation count. (R117) -/
  | shaftIndexPulse (t : Nat) (k : Fin 8)
  /-- An override input ceases to be active, clearing its act bit and starting the re-arm time once both are inactive. (R189) -/
  | overrideInactive (t : Nat) (n : Fin 2)
  /-- During SLEW the phase error falls below 5 ns and module time enters LOCKED. (R339) -/
  | slewEnd (t : Nat)
  /-- pps_w ms after a second boundary the PPS output falls. (R342) -/
  | ppsPulseEnd (t : Nat)
  /-- A learned address table entry not refreshed for 300 s is removed. (R375) -/
  | addressAgeOut (t : Nat)
  /-- The logic feed falls below 6.0 V while the module is off, losing the always-on seconds count and remembered state. (R337) -/
  | logicFeedLossWhileOff (t : Nat)
deriving DecidableEq, Repr

end Sys2Proof
end

