-- ==== Sys2Proof/Config.lean ====
section
/-! DEFINITION. What one module fixes and the spec leaves open: constants without a body. Nothing can be proved of
them, so a statement about them holds whatever they are (log entries 9, 32, 40, 45, 66, 70, 75, 85). -/

namespace Sys2Proof.Config

/-- Feeds FD0 and FD4 come in through their X1 or X2 contacts (R42): a fact of the harness, not of the module. -/
opaque feedViaK12 : Nat → Bool

/-- Word `i` of the 16-byte serial of the module (R440). -/
opaque serial : Nat → Word

/-- The MAC address of the module's frames, which the spec does not state. (DESIGN CHOICE, log entry 135) -/
opaque moduleMac : Nat

/-- East and north of an origin in mm, of a position in units of 10^-9 degree and the origin in units of 10^-7 degree
(R191); the spec states neither the earth model nor the rounding. -/
opaque eastNorth : (lat lon lat0 lon0 : Int) → Int × Int

/-- Is a value whose rounding the spec does not state rounded up? -/
opaque roundUp : Int → Bool

/-- The 16-bit coefficient of the first-order high-pass with its corner at `hp` × 100 Hz (R248, R249); the spec does not
state how it is computed. -/
opaque hpCoef : (hp : Nat) → Nat

/-- The pixels of the eight same-colour neighbours of pixel (x, y) of a w × h frame (R303, stage 3) at an edge and among
the green pixels, where the spec does not place them. -/
opaque sameColour : (cfa w h x y : Nat) → List (Nat × Nat)

/-- The edge-directed demosaic over 5 × 5 (R303, stage 6), from rows of samples to rows of R, G, B. -/
opaque demosaic : (cfa : Nat) → List (List Nat) → List (List (Nat × Nat × Nat))

/-- The tone curve above its last entry (R303, stage 8): the spec gives no entry to interpolate towards. -/
opaque curveEnd : (curve : List Nat) → (v : Nat) → Nat

/-- A colour-difference plane at half its width and height (R303, stage 9): the spec states neither the siting nor the
filter of 4:2:0. -/
opaque halvePlane : List (List Nat) → List (List Nat)

/-- A plane scaled to another size, w × h (R305): the spec states no method for the display stream. -/
opaque scalePlane : List (List Nat) → (w h : Nat) → List (List Nat)

/-- Where sample `i` of `m` lies among `n` when a frame is enlarged (R318): the sample at or before it and the distance to
that sample in units of 1/65,536. -/
opaque enlargeAt : (n m i : Nat) → Nat × Nat

/-- Samples scaled in a frame that is reduced along one side and enlarged along the other (R318). -/
opaque scaleMixed : List (List Nat) → (w h : Nat) → List (List Nat)

/-- What R313 fixes of a coded picture beside Main profile, Main tier, 8-bit 4:2:0: ten times the level, the size, the
frame rate, the size of a coding tree block, slices in a picture, reference pictures, deblocking and SAO, and the rate
control of the encoder (mode, QP, rate and peak in units of 10 kbit/s). -/
structure Hevc where
  level : Nat
  width : Nat
  height : Nat
  rate : Nat
  ctb : Nat
  slices : Nat
  refs : Nat
  deblock : Bool
  sao : Bool
  rc : Nat
  qp : Nat
  target : Nat
  peak : Nat
deriving DecidableEq, Repr

/-- Is the header down, or a section's source active, by a source code of a type that R265 does not take, in a cycle? -/
opaque headerBy : (src cyc : Nat) → Bool
opaque sectionBy : (src cyc : Nat) → Bool

/-- The VPS, SPS and PPS of a stream (R313), as NAL units of ITU-T H.265. -/
opaque hevcSets : Hevc → List Byte × List Byte × List Byte

/-- The pixels a defect count above 1,024 adds (R304). -/
opaque moreDefects : (n : Nat) → List (Nat × Nat)

/-- Bits of pixels a second that a link carries in a gear (R323). -/
opaque gearBits : (gear : Nat) → Nat

/-- The strongest periodic component of 256 bands of stage 2 rows, the sum and the count of each, at a line time in ns and
a number of lines: frequency in 0.1 Hz and amplitude in units of 1/65,536 of the mean (R312). -/
opaque flicker : (bands : List (Nat × Nat)) → (line lines : Nat) → Nat × Nat

/-- Frames of a waveform less one, by mode and band, and its 2-bit drive code in a frame for a from-grey and a to-grey,
as an EPDWF payload holds them (R411). -/
opaque waveFrames : (payload : List Byte) → (mode band : Nat) → Nat
opaque waveCode : (payload : List Byte) → (mode band frame fromGrey toGrey : Nat) → Nat

/-- g and o of a subpixel in a UMAP payload (R406). -/
opaque umap : (payload : List Byte) → (subpixel : Nat) → Int × Int

/-- R, G and B in 8 bits of a Y, a Cb and a Cr (R405), and an 8-bit component in 10 bits (R402); the spec states neither
conversion. -/
opaque windowRgb : (y cb cr : Nat) → Nat × Nat × Nat
opaque widen : Nat → Nat

/-- What a TRIAD payload knows of settings items (R465): identifiers with their versions, the default of an item, and one
step of migration from a version. -/
opaque itemsKnown : (payload : List Byte) → List (Nat × Nat)
opaque itemDefault : (payload : List Byte) → (id : Nat) → List Byte
opaque itemMigrate : (payload : List Byte) → (id ver : Nat) → List Byte → Option (List Byte)

/-- Low byte of the identifier of the item that holds the value the module itself stores under a register's offset, and what
a migration of that item makes of the value (R465). (DESIGN CHOICE, log entry 33) -/
opaque itemLow : (off : Nat) → Nat
opaque valueMigrate : (payload : List Byte) → (id ver off : Nat) → Word → Word

/-- The items of a SETTINGS payload: identifier, version, data. -/
opaque settingsItems : (payload : List Byte) → List (Nat × Nat × List Byte)

/-- The estimate of a node after an update, in 1/2^24 °C: from its own, those of the nodes its resistances join it to, and
the heat in nJ put into it in the 50 µs before (R446). The resistances and capacities are not published. -/
opaque thermalStep : (node : Nat) → (own : Int) → (joined : List Int) → (heat : Nat) → Int

/-- The case node nearest a power-area thermistor (R447). -/
opaque nearCase : (thermistor : Nat) → Nat

/-- What a settings item sets, as (kind, index, key, value): kind 0 a register at offset key; 1 and 2 word key of the
shadow and the active half of loop index; 3 pool entry key; 4 and 5 word key of the shadow and the active problem; 6 and 7
word key of the shadow and the active parameters of camera index; 8 pers_sel. In the order in which they take effect. -/
opaque itemSets : (id ver : Nat) → List Byte → List (Nat × Nat × Nat × Word)


/-- The word the module gives where the spec states no value; the argument counts the uses. -/
opaque freeWord : Nat → Word

/-- The byte the module gives where the spec states no value; the argument counts the uses. -/
opaque freeByte : Nat → Byte

/-- The integer the module gives where the spec states no value; the argument counts the uses. -/
opaque freeInt : Nat → Int

/-- The natural number the module gives where the spec states no value; the argument counts the uses. -/
opaque freeNat : Nat → Nat

/-- What the K12's mailboxes, in its layout, make of a parameter group: mailbox and value (R486).
(DESIGN CHOICE, log entry 142) -/
opaque k12Mail : (pgn : Nat) → (data : List Byte) → List (Nat × Nat)

end Sys2Proof.Config
end

