-- ==== Sys2Proof/Machine/Cells.lean ====
section
/-! DEFINITION. Sparse plain data by number: a list of (key, value) pairs with the keys rising and no pair equal to
what an unlisted key reads as. Registers, module memory and every numbered record of the state are held so. -/

namespace Sys2Proof.Machine

/-- A sparse table: unlisted keys read as a default that the reader names. -/
abbrev Cells (α : Type) := List (Nat × α)

variable {α : Type}

/-- Read key `k`; an unlisted key reads `d k`. -/
def cellGet (d : Nat → α) : Cells α → Nat → α
  | [], k => d k
  | (j, v) :: t, k => if j = k then v else cellGet d t k

/-- Remove key `k`. -/
def cellDel (k : Nat) : Cells α → Cells α
  | [] => []
  | (j, v) :: t => if j = k then cellDel k t else (j, v) :: cellDel k t

/-- Put `(k, v)` before the first larger key. -/
def cellIns (k : Nat) (v : α) : Cells α → Cells α
  | [] => [(k, v)]
  | (j, w) :: t => if k < j then (k, v) :: (j, w) :: t else (j, w) :: cellIns k v t

/-- Write key `k`. Writing what the key reads as unlisted removes the pair, so equal tables are equal data. -/
def cellSet [DecidableEq α] (d : Nat → α) (c : Cells α) (k : Nat) (v : α) : Cells α :=
  if v = d k then cellDel k c else cellIns k v (cellDel k c)

/-- The canonical form: keys strictly rising and no pair equal to the default. -/
def cellWf [DecidableEq α] (d : Nat → α) : Cells α → Bool
  | [] => true
  | [(k, v)] => decide (v ≠ d k)
  | (k, v) :: (j, w) :: t => decide (v ≠ d k) && decide (k < j) && cellWf d ((j, w) :: t)

end Sys2Proof.Machine
end

