-- ==== Sys2Proof/Machine/RegMap.lean ====
section
/-! DEFINITION. The register map: where every register of the register tables of spec/ stands in BAR0 (R24),
what it reads at reset, and which of its bits the host may write, clear or must leave 0 (R7, R9).
Each register's name is the spec's; an index k, n, g ... is the register's own index. -/

namespace Sys2Proof.Machine

/-- A field [hi:lo] of a register: its lowest bit and its width. -/
structure Fld where
  lo : Nat
  wd : Nat
deriving DecidableEq, Repr

/-- One row of the register tables: `count` registers, `stride` bytes apart, the first at BAR0 offset `base`.
`rw` bits are RW or RWS, `w1c` bits W1C, `cl` bits are cleared by any write, `res` bits are reserved, `rws` bits are
RWS (R7, R9). -/
structure RegRow where
  base : Nat
  stride : Nat
  count : Nat
  reset : Nat
  rw : Nat
  w1c : Nat
  cl : Nat
  res : Nat
  rws : Nat
deriving DecidableEq, Repr

/-- The registers of block SYS. -/
def regRowsSYS : List RegRow := [
  -- SYS_GUAR (R19)
  ⟨0x000104, 0, 1, 0x80000088, 0xF0, 0, 0, 0x7F000000, 0xF0⟩,
  -- SYS_BAR2_BASE (R26)
  ⟨0x000110, 0, 1, 0, 0x80007FFF, 0, 0x7F800000, 0x7F8000, 0⟩,
  -- SYS_PERSONALITY (R76)
  ⟨0x000120, 0, 1, 0, 3, 0, 0, 0xFFFFFFC, 0⟩,
  -- SYS_START (R80)
  ⟨0x000124, 0, 1, 0, 0, 0, 0, 0x700000, 0⟩,
  -- SYS_LINK (R82)
  ⟨0x000128, 0, 1, 0, 0x3C00, 0, 0, 0x3FF, 0x3C00⟩,
  -- SYS_IRQ (R496)
  ⟨0x000138, 0, 1, 0, 0xBF000000, 0, 0, 0x40FFFFFE, 0⟩,
  -- SYS_STOP_CFG (R86)
  ⟨0x000130, 0, 1, 0, 0x8000FFFF, 0, 0, 0x7FFF0000, 0⟩,
  -- SYS_RESTART (R86)
  ⟨0x000134, 0, 1, 0, 0, 0, 0, 0xFFFE, 0⟩,
  -- SYS_STATUS (R492)
  ⟨0x000004, 0, 1, 0, 0x40000000, 0, 0, 0x1FFFFFFF, 0x40000000⟩,
  -- SYS_ID (R493)
  ⟨0x000000, 0, 1, 0x32000100, 0, 0, 0, 0, 0⟩]

/-- The registers of block RNG. -/
def regRowsRNG : List RegRow := [
  -- RNG_STATUS (R104)
  ⟨0x010000, 0, 1, 0, 0x80000000, 0, 0xFFFF, 0, 0x80000000⟩,
  -- RNG_DBL_LO (R104)
  ⟨0x010010, 8, 4, 0, 0xFFFFFFC0, 0, 0, 0x3F, 0⟩,
  -- RNG_DESC_LO (R104)
  ⟨0x011008, 0x40, 64, 0, 0xFFFFFFC0, 0, 0, 0x3F, 0⟩,
  -- RNG_CQ_LO (R104)
  ⟨0x011010, 0x40, 64, 0, 0xFFFFFFC0, 0, 0, 0x3F, 0⟩,
  -- RNG_CDB_LO (R104)
  ⟨0x011018, 0x40, 64, 0, 0xFFFFFFC0, 0, 0, 0x3F, 0⟩,
  -- RNG_DBL_HI (R104)
  ⟨0x010014, 8, 4, 0, 0xFFFFFFFF, 0, 0, 0, 0⟩,
  -- RNG_DESC_HI (R104)
  ⟨0x01100C, 0x40, 64, 0, 0xFFFFFFFF, 0, 0, 0, 0⟩,
  -- RNG_CQ_HI (R104)
  ⟨0x011014, 0x40, 64, 0, 0xFFFFFFFF, 0, 0, 0, 0⟩,
  -- RNG_CDB_HI (R104)
  ⟨0x01101C, 0x40, 64, 0, 0xFFFFFFFF, 0, 0, 0, 0⟩,
  -- RNG_CFG (R104)
  ⟨0x011000, 0x40, 64, 0, 0xFFFFFF00, 0, 0, 0xFC, 0⟩,
  -- RNG_POLL (R104)
  ⟨0x011020, 0x40, 64, 0, 0xBFFFC3FF, 0, 0, 0x40003C00, 0⟩,
  -- RNG_TAIL (R104)
  ⟨0x011024, 0x40, 64, 0, 0, 0, 0, 0xFFFE0000, 0⟩,
  -- RNG_HEAD (R104)
  ⟨0x011028, 0x40, 64, 0, 0, 0, 0, 0xFFFE0000, 0⟩,
  -- RNG_CNT (R104)
  ⟨0x01102C, 0x40, 64, 0, 0, 0, 0xFFFFFFFF, 0, 0⟩,
  -- RNG_CTL (R104)
  ⟨0x011030, 0x40, 64, 0, 0, 0, 0, 0xFFFFFFFC, 0⟩,
  -- RNG_ETH_CFG (R110)
  ⟨0x010040, 0, 1, 0x88B5, 0xFF00FFFF, 0, 0, 0xFF0000, 0⟩,
  -- RNG_ETH_MAC_LO (R110)
  ⟨0x010044, 0, 1, 0, 0xFFFFFFFF, 0, 0, 0, 0⟩,
  -- RNG_ETH_MAC_HI (R110)
  ⟨0x010048, 0, 1, 0, 0xFFFF, 0, 0, 0xFFFF0000, 0⟩]

/-- The registers of block NYM. -/
def regRowsNYM : List RegRow := [
  -- NYM_SHAFT_CFG (R123)
  ⟨0x020200, 0x20, 8, 0x3E7C, 0xFFFFFFFF, 0, 0, 0, 0⟩,
  -- NYM_SHAFT_GEO (R123)
  ⟨0x020204, 0x20, 8, 0, 0xFFFFFFFF, 0, 0, 0, 0⟩,
  -- NYM_SHAFT_STAT (R123)
  ⟨0x020208, 0x20, 8, 0, 0xC000000, 0, 0, 0, 0xC000000⟩,
  -- NYM_SHAFT_POS_LO (R123)
  ⟨0x02020C, 0x20, 8, 0, 0, 0, 0, 0, 0⟩,
  -- NYM_SHAFT_POS_HI (R123)
  ⟨0x020210, 0x20, 8, 0, 0, 0, 0, 0, 0⟩,
  -- NYM_SHAFT_CNT (R123)
  ⟨0x020214, 0x20, 8, 0, 0, 0, 0xFFFFFFFF, 0, 0⟩,
  -- NYM_GND_CFG (R126)
  ⟨0x020300, 0, 1, 0x1F1F0000, 0xFFFFFFFF, 0, 0, 0, 0⟩,
  -- NYM_GND_STAT (R126)
  ⟨0x020304, 0, 1, 0, 0, 0, 0, 0, 0⟩,
  -- NYM_GND_POS_LO (R126)
  ⟨0x020308, 0, 1, 0, 0, 0, 0, 0, 0⟩,
  -- NYM_GND_POS_HI (R126)
  ⟨0x02030C, 0, 1, 0, 0, 0, 0, 0, 0⟩,
  -- NYM_MTIME_LO (R127)
  ⟨0x020010, 0, 1, 0, 0, 0, 0, 0, 0⟩,
  -- NYM_MTIME_HI (R127)
  ⟨0x020014, 0, 1, 0, 0, 0, 0, 0, 0⟩,
  -- NYM_HO_SEQ (R140)
  ⟨0x020008, 0, 1, 0, 0, 0, 0, 0, 0⟩,
  -- NYM_TBL_IDX (R142)
  ⟨0x020400, 0, 1, 0, 0x3FFF, 0, 0, 0xFFFFC000, 0⟩,
  -- NYM_TBL_CMD (R142)
  ⟨0x020404, 0, 1, 0, 0, 0, 0, 0xFFFFFFF8, 0⟩,
  -- NYM_TBL_SEQ (R142)
  ⟨0x020408, 0, 1, 0, 0, 0, 0, 0, 0⟩,
  -- NYM_TBL_DATA (R142)
  ⟨0x020420, 4, 8, 0, 0xFFFFFFFF, 0, 0, 0, 0⟩,
  -- NYM_DOM_CFG (R142)
  ⟨0x020110, 0x10, 10, 0x40, 0xFF, 0, 0, 0xFFFFFF00, 0⟩,
  -- NYM_DOM_CNT (R142)
  ⟨0x020114, 0x10, 10, 0, 0, 0, 0xFFFFFFFF, 0, 0⟩,
  -- NYM_DOM_NA (R142)
  ⟨0x020118, 0x10, 10, 0, 0, 0, 0xFFFFFFFF, 0, 0⟩,
  -- NYM_DOM_LAG (R142)
  ⟨0x02011C, 0x10, 10, 0, 0, 0, 0xFFFFFFFF, 0, 0⟩]

/-- The registers of block CLE. -/
def regRowsCLE : List RegRow := [
  -- CLE_HO_SEQ (R170)
  ⟨0x030008, 0, 1, 0, 0, 0, 0, 0, 0⟩,
  -- CLE_CFG (R174)
  ⟨0x030000, 0, 1, 0x40, 0xFF, 0, 0, 0xFFFFFF00, 0⟩,
  -- CLE_LOAD (R174)
  ⟨0x030004, 0, 1, 0, 0, 0, 0xFFFF0000, 0, 0⟩,
  -- CLE_GECKO_SUM_LO (R174)
  ⟨0x03000C, 0, 1, 0, 0, 0, 0, 0, 0⟩,
  -- CLE_GECKO_SUM_HI (R174)
  ⟨0x030010, 0, 1, 0, 0, 0, 0, 0, 0⟩,
  -- CLE_WIN_IDX (R174)
  ⟨0x030020, 0, 1, 0, 0x3F, 0, 0, 0xFFFFFFC0, 0⟩,
  -- CLE_WIN_CMD (R174)
  ⟨0x030024, 0, 1, 0, 0, 0, 0, 0xFFFFFFF8, 0⟩,
  -- CLE_WIN_SEQ (R174)
  ⟨0x030028, 0, 1, 0, 0, 0, 0, 0, 0⟩,
  -- CLE_WIN_DATA (R174)
  ⟨0x030100, 4, 32, 0, 0xFFFFFFFF, 0, 0, 0, 0⟩,
  -- CLE_POOL_IDX (R174)
  ⟨0x030030, 0, 1, 0, 0x80001FFF, 0, 0, 0x7FFFE000, 0⟩,
  -- CLE_POOL_DATA (R174)
  ⟨0x030034, 0, 1, 0, 0xFFFFFFFF, 0, 0, 0, 0⟩,
  -- CLE_LSTAT (R174)
  ⟨0x031000, 0x20, 64, 0, 0, 0, 0, 0x7FFFFFF, 0⟩,
  -- CLE_LCNT (R174)
  ⟨0x031004, 0x20, 64, 0, 0, 0, 0xFFFFFFFF, 0, 0⟩,
  -- CLE_LNA (R174)
  ⟨0x031008, 0x20, 64, 0, 0, 0, 0xFFFFFFFF, 0, 0⟩,
  -- CLE_GECKO (R174)
  ⟨0x03100C, 0x20, 64, 0, 0, 0x1FFF, 0, 0xFFFFE000, 0⟩,
  -- CLE_TGT (R174)
  ⟨0x031010, 0x20, 64, 0, 0, 0, 0, 0, 0⟩,
  -- CLE_YMEAS (R174)
  ⟨0x031014, 0x20, 64, 0, 0, 0, 0, 0, 0⟩,
  -- CLE_ULIM (R174)
  ⟨0x031018, 0x20, 64, 0, 0, 0, 0, 0, 0⟩,
  -- CLE_CANT_ID (R174)
  ⟨0x032000, 0x10, 64, 0, 0xFFFFFFFF, 0, 0, 0, 0⟩,
  -- CLE_CANT_FMT (R174)
  ⟨0x032004, 0x10, 64, 0, 0xEF073110, 0, 0, 0x10F8CEEF, 0⟩,
  -- CLE_CANT_D0 (R174)
  ⟨0x032008, 0x10, 64, 0, 0xFFFFFFFF, 0, 0, 0, 0⟩,
  -- CLE_CANT_D1 (R174)
  ⟨0x03200C, 0x10, 64, 0, 0xFFFFFFFF, 0, 0, 0, 0⟩]

/-- The registers of block TRI. -/
def regRowsTRI : List RegRow := [
  -- TRI_STAT (R195)
  ⟨0x040000, 0, 1, 0, 0, 0, 0, 0x3000000, 0⟩,
  -- TRI_CNT (R195)
  ⟨0x040004, 0, 1, 0, 0, 0, 0xFFFFFFFF, 0, 0⟩,
  -- TRI_SPMAP (R195)
  ⟨0x040008, 0, 1, 0, 0xBFBFBF, 0, 0, 0xFF404040, 0⟩,
  -- TRI_CFG (R195)
  ⟨0x04000C, 0, 1, 0x32, 0x800000FF, 0, 0, 0x7FFFFF00, 0⟩,
  -- TRI_OVR_CFG (R195)
  ⟨0x040010, 4, 2, 0, 0xCF00FFFF, 0, 0, 0x30FF0000, 0⟩,
  -- TRI_OVR_STAT (R195)
  ⟨0x040018, 0, 1, 0, 0, 0, 0xFFFF, 0x1FFF0000, 0⟩,
  -- TRI_GMAP_IDX (R195)
  ⟨0x040020, 0, 1, 0, 0xFF, 0, 0, 0xFFFFFF00, 0⟩,
  -- TRI_GMAP_DATA (R195)
  ⟨0x040024, 0, 1, 1, 0x1F, 0, 0, 0xFFFFFFE0, 0⟩,
  -- TRI_GRP (R195)
  ⟨0x040100, 4, 32, 0x1020000, 0x17FFFFFF, 0, 0, 0x8000000, 0x10000000⟩,
  -- TRI_GCNT (R195)
  ⟨0x040180, 4, 32, 0, 0, 0, 0xFFFFFFFF, 0, 0⟩]

/-- The registers of block VDR. -/
def regRowsVDR : List RegRow := [
  -- VDR_CFG (R218)
  ⟨0x050000, 0, 1, 0xA03, 0xFF0F, 0, 0, 0xFFFF00F0, 0⟩,
  -- VDR_HO_SEQ (R218)
  ⟨0x050008, 0, 1, 0, 0, 0, 0, 0, 0⟩,
  -- VDR_PAIR (R218)
  ⟨0x050010, 0, 1, 0, 0xFF, 0, 0, 0xFFFFFF00, 0⟩,
  -- VDR_DLIM_LO (R218)
  ⟨0x050020, 0, 1, 0xA0C8FAFA, 0xFFFFFFFF, 0, 0, 0, 0⟩,
  -- VDR_DLIM_HI (R218)
  ⟨0x050024, 0, 1, 0x5064788C, 0xFFFFFFFF, 0, 0, 0, 0⟩,
  -- VDR_PAIRSTAT (R218)
  ⟨0x050100, 4, 8, 0, 0, 0, 0xFFFFFFFF, 0, 0⟩,
  -- VDR_CFGn (R218)
  ⟨0x051000, 0x20, 48, 0x2710, 0xE000FFFF, 0, 0, 0x1FFF0000, 0⟩,
  -- VDR_DITH (R218)
  ⟨0x051004, 0x20, 48, 0x640000, 0x1FF00FF, 0, 0, 0xFE00FF00, 0⟩,
  -- VDR_RAMP (R218)
  ⟨0x051008, 0x20, 48, 0, 0xFFFFFFFF, 0, 0, 0, 0⟩,
  -- VDR_SAFE (R218)
  ⟨0x05100C, 0x20, 48, 0x320000, 0x3FF3FFF, 0, 0, 0xFC00C000, 0⟩,
  -- VDR_STAT (R218)
  ⟨0x051010, 0x20, 48, 0, 0x1E800000, 0, 0, 0x3C000, 0x1E800000⟩,
  -- VDR_MEAS (R218)
  ⟨0x051014, 0x20, 48, 0, 0, 0, 0, 0xC0000000, 0⟩,
  -- VDR_SEQ (R218)
  ⟨0x051018, 0x20, 48, 0, 0, 0, 0, 0, 0⟩,
  -- VDR_WSEQ (R218)
  ⟨0x05101C, 0x20, 48, 0, 0, 0, 0, 0, 0⟩]

/-- The registers of block LSW. -/
def regRowsLSW : List RegRow := [
  -- LSW_TCFG (R240)
  ⟨0x060000, 0, 1, 0x3C0F9614, 0xFFFFFFFF, 0, 0, 0, 0⟩,
  -- LSW_HO_SEQ (R240)
  ⟨0x060008, 0, 1, 0, 0, 0, 0, 0, 0⟩,
  -- LSW_VIS_LO (R240)
  ⟨0x060010, 0, 1, 0, 0xFFFFFFFF, 0, 0, 0, 0⟩,
  -- LSW_VIS_HI (R240)
  ⟨0x060014, 0, 1, 0, 0xFFFFFFFF, 0, 0, 0, 0⟩,
  -- LSW_CLST (R240)
  ⟨0x060100, 4, 16, 0, 0, 0, 0xFFFF, 0x7F000000, 0⟩,
  -- LSW_CFG (R240)
  ⟨0x061000, 0x20, 64, 0x1F4, 0xC0FF3FFF, 0, 0, 0x3F00C000, 0⟩,
  -- LSW_PROT (R240)
  ⟨0x061004, 0x20, 64, 0x14530A04, 0xFFFFFFFF, 0, 0, 0, 0⟩,
  -- LSW_SAFE (R240)
  ⟨0x061008, 0x20, 64, 0, 0x3FFFF, 0, 0, 0xFFFC0000, 0⟩,
  -- LSW_STAT (R240)
  ⟨0x06100C, 0x20, 64, 0, 0x1F000000, 0, 0, 0x7FFF, 0x1F000000⟩,
  -- LSW_MEAS (R240)
  ⟨0x061010, 0x20, 64, 0, 0, 0, 0, 0, 0⟩,
  -- LSW_SEQ (R240)
  ⟨0x061018, 0x20, 64, 0, 0, 0, 0, 0, 0⟩,
  -- LSW_WSEQ (R240)
  ⟨0x06101C, 0x20, 64, 0, 0, 0, 0, 0, 0⟩]

/-- The registers of block SNS. -/
def regRowsSNS : List RegRow := [
  -- SNS_CFG (R274)
  ⟨0x070000, 0, 1, 0xA03E8, 0xFFFFFF, 0, 0, 0xFF000000, 0⟩,
  -- SNS_RAW_STAT (R274)
  ⟨0x070004, 0, 1, 0, 0, 0, 0xFFFF0000, 0xFFFF, 0⟩,
  -- SNS_SUP (R274)
  ⟨0x070008, 0, 1, 0xFF, 0xFF00FF, 0, 0, 0xFF000000, 0xFF0000⟩,
  -- SNS_DIN_PULL (R274)
  ⟨0x070010, 0, 1, 0, 0xFFFFFFFF, 0, 0, 0, 0⟩,
  -- SNS_DIN_STATE (R274)
  ⟨0x070014, 0, 1, 0, 0, 0, 0, 0, 0⟩,
  -- SNS_AIN_CFG (R274)
  ⟨0x071000, 8, 64, 0, 0xF00FFFFF, 0, 0, 0xFF00000, 0⟩,
  -- SNS_AIN_DATA (R274)
  ⟨0x071004, 8, 64, 0, 0xC0000000, 0, 0, 0x3FFF0000, 0xC0000000⟩,
  -- SNS_FIN_CFG (R274)
  ⟨0x071400, 8, 24, 0, 0xF0FFFFFF, 0, 0, 0xF000000, 0⟩,
  -- SNS_FIN_DATA (R274)
  ⟨0x071404, 8, 24, 0, 0, 0, 0, 0, 0⟩,
  -- SNS_LOSS_CFG (R274)
  ⟨0x071800, 0x10, 16, 0xA, 0xFFFF80FF, 0, 0, 0x7F00, 0x8000⟩,
  -- SNS_LOSS_THR (R274)
  ⟨0x071804, 0x10, 16, 0, 0xFFFFFFFF, 0, 0, 0, 0⟩,
  -- SNS_LOSS_TIM (R274)
  ⟨0x071808, 0x10, 16, 0, 0x1FFFFFF, 0, 0, 0xFE000000, 0⟩,
  -- SNS_LOSS_CNT (R274)
  ⟨0x07180C, 0x10, 16, 0, 0, 0, 0xFFFFFFFF, 0, 0⟩,
  -- SNS_TRG_LO (R274)
  ⟨0x072000, 0x10, 256, 0, 0xFFFFFFFF, 0, 0, 0, 0⟩,
  -- SNS_TRG_HI (R274)
  ⟨0x072004, 0x10, 256, 0, 0xFFFFFFFF, 0, 0, 0, 0⟩,
  -- SNS_TRG_X (R274)
  ⟨0x072008, 0x10, 256, 0, 0x80FFFFFF, 0, 0, 0x7F000000, 0⟩]

/-- The registers of block FUS. -/
def regRowsFUS : List RegRow := [
  -- FUS_STAT (R274)
  ⟨0x080000, 0, 1, 0, 0xFFFF, 0, 0, 0, 0⟩,
  -- FUS_SCHED (R274)
  ⟨0x080100, 8, 16, 0x3E8, 0xC00FFFFF, 0, 0, 0x3FF00000, 0⟩,
  -- FUS_SCHSTAT (R274)
  ⟨0x080104, 8, 16, 0, 0, 0, 0xFFFF0000, 0, 0⟩,
  -- FUS_OBS (R274)
  ⟨0x080200, 4, 24, 0, 0x800000FF, 0, 0, 0x7FFFFF00, 0⟩,
  -- FUS_SECT (R274)
  ⟨0x080400, 4, 64, 0, 0x1FF03FF, 0, 0, 0xFE00FC00, 0⟩,
  -- FUS_FU_CFG (R274)
  ⟨0x081000, 0x20, 16, 0x7F80, 0xFFFFFF80, 0, 0, 0x7F, 0⟩,
  -- FUS_FU_P0 (R274)
  ⟨0x081004, 0x20, 16, 0, 0xFFFFFFFF, 0, 0, 0, 0⟩,
  -- FUS_FU_P1 (R274)
  ⟨0x081008, 0x20, 16, 0, 0xFFFFFFFF, 0, 0, 0, 0⟩,
  -- FUS_FU_P2 (R274)
  ⟨0x08100C, 0x20, 16, 0, 0xFFFFFFFF, 0, 0, 0, 0⟩,
  -- FUS_FU_P3 (R274)
  ⟨0x081010, 0x20, 16, 0, 0xFFFFFFFF, 0, 0, 0, 0⟩,
  -- FUS_FU_SET (R274)
  ⟨0x081014, 0x20, 16, 0, 0xFFFF, 0, 0, 0xFFFF0000, 0⟩,
  -- FUS_FU_STAT (R274)
  ⟨0x081018, 0x20, 16, 0, 0, 0, 0xFFFFFFFF, 0, 0⟩,
  -- FUS_YLD_CFG (R274)
  ⟨0x080800, 0, 1, 0, 0xFFE00000, 0, 0, 0x1FFFFF, 0⟩,
  -- FUS_YLD_HDR (R274)
  ⟨0x080804, 0, 1, 0, 0xFFFFFFFF, 0, 0, 0, 0⟩,
  -- FUS_YLD_DLY (R274)
  ⟨0x080808, 0, 1, 0x2AF828C8, 0xFFFFFFFF, 0, 0, 0, 0⟩,
  -- FUS_YLD_STAT (R274)
  ⟨0x08080C, 0, 1, 0, 0, 0, 0xFFFFFFFF, 0, 0⟩,
  -- FUS_YLD_HSEC (R274)
  ⟨0x080810, 0, 1, 0, 0xFFFF, 0, 0, 0xFFFF0000, 0⟩,
  -- FUS_YLD_SEC (R274)
  ⟨0x080840, 4, 16, 0, 0x80FFFFFF, 0, 0, 0x7F000000, 0⟩,
  -- FUS_LATE (R274)
  ⟨0x083000, 4, 256, 0, 0, 0, 0xFFFFFFFF, 0, 0⟩]

/-- The registers of block HSL. -/
def regRowsHSL : List RegRow := [
  -- HSL_CFG (R293)
  ⟨0x090000, 0, 1, 0x40, 0xC00000FF, 0, 0, 0x3FFFFF00, 0⟩,
  -- HSL_TRG (R293)
  ⟨0x090004, 0, 1, 0x12000001, 0xFFF0FFFF, 0, 0, 0xF0000, 0⟩,
  -- HSL_PHASE (R293)
  ⟨0x090008, 0, 1, 0, 0xFFFFFFFF, 0, 0, 0, 0⟩,
  -- HSL_STAT (R293)
  ⟨0x09000C, 0, 1, 0, 0, 0xF, 0, 0x7FFFFF0, 0⟩,
  -- HSL_CNT (R293)
  ⟨0x090010, 0, 1, 0, 0, 0, 0xFFFFFFFF, 0, 0⟩,
  -- HSL_LAG (R293)
  ⟨0x090014, 0, 1, 0, 0, 0, 0xFFFFFFFF, 0, 0⟩,
  -- HSL_BYP (R293)
  ⟨0x090018, 0, 1, 0, 0x3FFFFFFF, 0, 0, 0xC0000000, 0⟩,
  -- HSL_SEQ (R293)
  ⟨0x09001C, 0, 1, 0, 0, 0, 0, 0, 0⟩,
  -- HSL_HO_SEQ (R293)
  ⟨0x090020, 0, 1, 0, 0, 0, 0, 0, 0⟩,
  -- HSL_WSEQ (R293)
  ⟨0x090024, 0, 1, 0, 0, 0, 0, 0, 0⟩,
  -- HSL_PHO (R293)
  ⟨0x090028, 0, 1, 0, 0, 0, 0, 0, 0⟩,
  -- HSL_NCNT (R293)
  ⟨0x09002C, 0, 1, 0, 0, 0, 0xFFFFFFFF, 0, 0⟩]

/-- The registers of block VIS. -/
def regRowsVIS : List RegRow := [
  -- VIS_STAT (R322)
  ⟨0x0A0000, 0, 1, 0, 0x80000000, 0, 0x7FFF800, 0x78000000, 0x80000000⟩,
  -- VIS_HO_SEQ (R322)
  ⟨0x0A0004, 0, 1, 0, 0, 0, 0, 0, 0⟩,
  -- VIS_LINK (R322)
  ⟨0x0A0010, 4, 3, 0x80050000, 0xC0070000, 0, 0xFFFF, 0x18F80000, 0x40000000⟩,
  -- VIS_CAM_CFG (R322)
  ⟨0x0A1000, 0x40, 12, 0, 0xFFFC3F00, 0, 0, 0x3C0FF, 0⟩,
  -- VIS_CAM_GEO (R322)
  ⟨0x0A1004, 0x40, 12, 0, 0xFFFFFFFF, 0, 0, 0, 0⟩,
  -- VIS_CAM_WIN (R322)
  ⟨0x0A1008, 0x40, 12, 0, 0xFF00FFFF, 0, 0, 0xFF0000, 0⟩,
  -- VIS_CAM_LOCK (R322)
  ⟨0x0A100C, 0x40, 12, 0, 0xC03F0000, 0, 0, 0x3FC0FFFF, 0⟩,
  -- VIS_CAM_FILL (R322)
  ⟨0x0A1010, 0x40, 12, 0, 0xFFFF, 0, 0, 0xFFFF0000, 0⟩,
  -- VIS_CAM_DISP (R322)
  ⟨0x0A1014, 0x40, 12, 0, 0x7FFFFFFF, 0, 0, 0x80000000, 0⟩,
  -- VIS_CAM_CNT0 (R322)
  ⟨0x0A1018, 0x40, 12, 0, 0, 0, 0xFFFFFFFF, 0, 0⟩,
  -- VIS_CAM_CNT1 (R322)
  ⟨0x0A101C, 0x40, 12, 0, 0, 0, 0xFFFFFFFF, 0, 0⟩,
  -- VIS_CAM_TOK (R322)
  ⟨0x0A1020, 0x40, 12, 0, 0, 0, 0, 0, 0⟩,
  -- VIS_CAM_SEQ (R322)
  ⟨0x0A1024, 0x40, 12, 0, 0, 0, 0, 0, 0⟩,
  -- VIS_CAM_WSEQ (R322)
  ⟨0x0A1028, 0x40, 12, 0, 0, 0, 0, 0, 0⟩,
  -- VIS_ENC_CFG (R322)
  ⟨0x0A2000, 0x20, 4, 0, 0xFFFFF800, 0, 0, 0x7FF, 0⟩,
  -- VIS_ENC_RATE (R322)
  ⟨0x0A2004, 0x20, 4, 0, 0xFFFFFFFF, 0, 0, 0, 0⟩,
  -- VIS_ENC_STAT (R322)
  ⟨0x0A2008, 0x20, 4, 0, 0, 0, 0xFFFFFFFF, 0, 0⟩,
  -- VIS_MOD_CFG (R322)
  ⟨0x0A3000, 0x10, 8, 0, 0x80000000, 0, 0, 0x7FFFFFFF, 0⟩,
  -- VIS_MOD_STAT (R322)
  ⟨0x0A3004, 0x10, 8, 0, 0, 0, 0, 0x3F000000, 0⟩,
  -- VIS_MOD_CNT (R322)
  ⟨0x0A3008, 0x10, 8, 0, 0, 0, 0xFFFFFFFF, 0, 0⟩]

/-- The registers of block GNS. -/
def regRowsGNS : List RegRow := [
  -- GNS_CFG (R348)
  ⟨0x0B0000, 0, 1, 0x8F800A0A, 0xFF80FFFF, 0, 0, 0x7F0000, 0⟩,
  -- GNS_STAT (R348)
  ⟨0x0B0004, 0, 1, 0, 0, 0, 0, 0x7F, 0⟩,
  -- GNS_ANT (R348)
  ⟨0x0B0008, 0, 1, 0xC0000000, 0xC0F00000, 0, 0, 0x300F0000, 0xF00000⟩,
  -- GNS_HEAD (R348)
  ⟨0x0B000C, 0, 1, 0x7D00000, 0xFFFFFFFF, 0, 0, 0, 0⟩,
  -- GNS_LEV0 (R348)
  ⟨0x0B0010, 0, 1, 0, 0xFFFFFFFF, 0, 0, 0, 0⟩,
  -- GNS_LEV1 (R348)
  ⟨0x0B0014, 0, 1, 0, 0xFFFF0000, 0, 0, 0xFFFF, 0⟩,
  -- GNS_TCFG (R348)
  ⟨0x0B0018, 0, 1, 0x80640A0A, 0x83FFFFFF, 0, 0, 0x7C000000, 0⟩,
  -- GNS_CHK0 (R348)
  ⟨0x0B0020, 0, 1, 0xF805371E, 0xF8FFFFFF, 0, 0, 0x7000000, 0⟩,
  -- GNS_CHK1 (R348)
  ⟨0x0B0024, 0, 1, 0xC80032, 0xFFFFFFFF, 0, 0, 0, 0⟩,
  -- GNS_CHKSTAT (R348)
  ⟨0x0B0028, 0, 1, 0, 0xF8000000, 0, 0, 0x7FF00E0, 0xF8000000⟩,
  -- GNS_RTCM (R348)
  ⟨0x0B002C, 0, 1, 0, 0, 0, 0xFFFFFFFF, 0, 0⟩,
  -- GNS_UNC (R348)
  ⟨0x0B0030, 0, 1, 0xFFFFFFFF, 0, 0, 0, 0, 0⟩,
  -- GNS_CNT (R348)
  ⟨0x0B0034, 0, 1, 0, 0, 0, 0xFFFFFFFF, 0, 0⟩]

/-- The registers of block CAN. -/
def regRowsCAN : List RegRow := [
  -- CAN_CFG (R370)
  ⟨0x0C1000, 0x40, 8, 0, 0xF8000000, 0, 0, 0x7FFFFFF, 0⟩,
  -- CAN_NBT (R370)
  ⟨0x0C1004, 0x40, 8, 0x43F1010, 0x3FFF7F7F, 0, 0, 0xC0008080, 0⟩,
  -- CAN_DBT (R370)
  ⟨0x0C1008, 0x40, 8, 0x81FC4020, 0x8FFFF87F, 0, 0, 0x70000780, 0⟩,
  -- CAN_STAT (R370)
  ⟨0x0C100C, 0x40, 8, 0, 0x30000000, 0, 0, 0xE00FF00, 0x30000000⟩,
  -- CAN_CTL (R370)
  ⟨0x0C1010, 0x40, 8, 0, 0, 0, 0, 0xFFFFFF0E, 0⟩,
  -- CAN_CNT0 (R370)
  ⟨0x0C1014, 0x40, 8, 0, 0, 0, 0xFFFFFFFF, 0, 0⟩,
  -- CAN_CNT1 (R370)
  ⟨0x0C1018, 0x40, 8, 0, 0, 0, 0xFFFFFFFF, 0, 0⟩,
  -- CAN_QCFG (R370)
  ⟨0x0C101C, 0x40, 8, 0x29, 0x3F, 0, 0, 0xFFFFFFC0, 0⟩,
  -- CAN_QSTAT (R370)
  ⟨0x0C1020, 0x40, 8, 0, 0xF0000000, 0, 0, 3, 0xF0000000⟩]

/-- The registers of block NET. -/
def regRowsNET : List RegRow := [
  -- NET_HO_SEQ (R384)
  ⟨0x0D0008, 0, 1, 0, 0, 0, 0, 0, 0⟩,
  -- NET_PORT (R384)
  ⟨0x0D1000, 0x20, 7, 0xC0000001, 0xE0000FFF, 0, 0, 0x1FFFF000, 0⟩,
  -- NET_PSTAT (R384)
  ⟨0x0D1004, 0x20, 8, 0, 0x20000000, 0, 0xFFFF, 0xFFF0000, 0x20000000⟩,
  -- NET_GSEQ (R384)
  ⟨0x0D1008, 0x20, 7, 0, 0, 0, 0, 0, 0⟩,
  -- NET_RP_CFG (R384)
  ⟨0x0D0100, 0, 1, 0, 0xFF000000, 0, 0, 0xFFFFFF, 0⟩,
  -- NET_RP_STAT (R384)
  ⟨0x0D0104, 0, 1, 0, 0, 0, 0xFFFF, 0xFFF0000, 0⟩,
  -- NET_RP_ADDR (R384)
  ⟨0x0D0108, 0, 1, 0, 0xFFFFFFFF, 0, 0, 0, 0⟩,
  -- NET_RP_DATA (R384)
  ⟨0x0D010C, 0, 1, 0, 0xFFFFFFFF, 0, 0, 0, 0⟩]

/-- The registers of block DMA. -/
def regRowsDMA : List RegRow := [
  -- DMA_BUSY (R397)
  ⟨0x0E0000, 0, 1, 0, 0, 0, 0, 0, 0⟩,
  -- DMA_CH_CFG (R397)
  ⟨0x0E1000, 0x40, 32, 0x40000000, 0xFFFFC00F, 0, 0, 0x3FF0, 0⟩,
  -- DMA_CH_NEXT_LO (R397)
  ⟨0x0E1004, 0x40, 32, 0, 0xFFFFFFC1, 0, 0, 0x3E, 0⟩,
  -- DMA_CH_NEXT_HI (R397)
  ⟨0x0E1008, 0x40, 32, 0, 0xFFFFFFFF, 0, 0, 0, 0⟩,
  -- DMA_CH_CTL (R397)
  ⟨0x0E100C, 0x40, 32, 0, 0x80000000, 0, 0, 0x7FFFFFFC, 0⟩,
  -- DMA_CH_STAT (R397)
  ⟨0x0E1010, 0x40, 32, 0, 0x6000000, 0, 0, 0x1FFFF00, 0x6000000⟩,
  -- DMA_CH_CUR_SRC_LO (R397)
  ⟨0x0E1014, 0x40, 32, 0, 0, 0, 0, 0, 0⟩,
  -- DMA_CH_CUR_SRC_HI (R397)
  ⟨0x0E1018, 0x40, 32, 0, 0, 0, 0, 0, 0⟩,
  -- DMA_CH_CUR_DST_LO (R397)
  ⟨0x0E101C, 0x40, 32, 0, 0, 0, 0, 0, 0⟩,
  -- DMA_CH_CUR_DST_HI (R397)
  ⟨0x0E1020, 0x40, 32, 0, 0, 0, 0, 0, 0⟩,
  -- DMA_CH_CUR_DESC_LO (R397)
  ⟨0x0E1024, 0x40, 32, 0, 0, 0, 0, 0, 0⟩,
  -- DMA_CH_CUR_DESC_HI (R397)
  ⟨0x0E1028, 0x40, 32, 0, 0, 0, 0, 0, 0⟩,
  -- DMA_CH_REM (R397)
  ⟨0x0E102C, 0x40, 32, 0, 0, 0, 0, 0xFF000000, 0⟩,
  -- DMA_CH_CNT (R397)
  ⟨0x0E1030, 0x40, 32, 0, 0, 0, 0xFFFFFFFF, 0, 0⟩]

/-- The registers of block DPY. -/
def regRowsDPY : List RegRow := [
  -- DPY_STAT (R421)
  ⟨0x0F0000, 0, 1, 0, 0x2C000000, 0, 0, 0x1FFC0C0, 0x2C000000⟩,
  -- DPY_A_CFG (R421)
  ⟨0x0F0010, 0, 1, 0x3C3C02, 0xF0FFFFFF, 0, 0, 0xF000000, 0⟩,
  -- DPY_A_SEQ (R421)
  ⟨0x0F0014, 0, 1, 0, 0, 0, 0, 0, 0⟩,
  -- DPY_A_CRACK (R421)
  ⟨0x0F0018, 0, 1, 0x3E80000, 0xFFFF0000, 0, 0, 0, 0⟩,
  -- DPY_WIN (R421)
  ⟨0x0F0020, 4, 4, 0, 0x8FFFFF00, 0, 0, 0x700000FF, 0⟩,
  -- DPY_B_CFG (R421)
  ⟨0x0F0040, 0, 1, 0x96C83E8, 0xCFFFFFFF, 0, 0, 0x30000000, 0⟩,
  -- DPY_B_STAT (R421)
  ⟨0x0F0044, 0, 1, 0, 0, 0, 0, 0x1800FF80, 0⟩,
  -- DPY_GEO0 (R421)
  ⟨0x0F0048, 0, 1, 0, 0, 0, 0, 0, 0⟩,
  -- DPY_GEO1 (R421)
  ⟨0x0F004C, 0, 1, 0, 0xFFFFFFFF, 0, 0, 0, 0⟩,
  -- DPY_INTAKE (R421)
  ⟨0x0F0050, 4, 2, 0, 0xFFFFFFFF, 0, 0, 0, 0⟩]

/-- The registers of block FLT. -/
def regRowsFLT : List RegRow := [
  -- FLT_STAT (R444)
  ⟨0x100000, 0, 1, 0, 0, 0, 0, 0x3FF0000, 0⟩,
  -- FLT_CFG (R444)
  ⟨0x100004, 0, 1, 0x40003C, 0xBFC0FFFF, 0, 0, 0x403F0000, 0⟩,
  -- FLT_CNT0 (R444)
  ⟨0x100008, 0, 1, 0, 0, 0, 0xFFFFFFFF, 0, 0⟩,
  -- FLT_CNT1 (R444)
  ⟨0x10000C, 0, 1, 0, 0, 0, 0xFFFFFFFF, 0, 0⟩,
  -- FLT_LAST (R444)
  ⟨0x100010, 0, 1, 0, 0, 0, 0, 0, 0⟩,
  -- FLT_FENCE (R444)
  ⟨0x100014, 0, 1, 0, 0, 0, 0, 0xFFFFF000, 0⟩,
  -- FLT_ECC (R444)
  ⟨0x100100, 4, 8, 0, 0, 0, 0xFFFFFFFF, 0, 0⟩,
  -- FLT_ECC_ADDR_LO (R444)
  ⟨0x100120, 0, 1, 0, 0, 0, 0, 0, 0⟩,
  -- FLT_ECC_ADDR_HI (R444)
  ⟨0x100124, 0, 1, 0, 0, 0, 0, 0xFFFFFFF0, 0⟩]

/-- The registers of block REC. -/
def regRowsREC : List RegRow := [
  -- REC_CFG (R444)
  ⟨0x110000, 0, 1, 0x8000003C, 0xE000FFFF, 0, 0, 0x1FFF0000, 0⟩,
  -- REC_STAT (R444)
  ⟨0x110004, 0, 1, 0, 0x40000000, 0, 0, 0x800E000, 0x40000000⟩,
  -- REC_SEQ (R444)
  ⟨0x110008, 0, 1, 0, 0, 0, 0, 0, 0⟩,
  -- REC_FLUSHED (R444)
  ⟨0x11000C, 0, 1, 0xFFFFFFFF, 0, 0, 0, 0, 0⟩,
  -- REC_CNT (R444)
  ⟨0x110010, 0, 1, 0, 0, 0, 0xFFFF, 0, 0⟩,
  -- REC_MIRROR (R444)
  ⟨0x110014, 0, 1, 0, 0xFFFFFFFF, 0, 0, 0, 0⟩,
  -- REC_TRG_A (R444)
  ⟨0x111000, 8, 64, 0, 0xF800003F, 0, 0, 0x7FFFFC0, 0⟩,
  -- REC_TRG_B (R444)
  ⟨0x111004, 8, 64, 0, 0xFFFFFFFF, 0, 0, 0, 0⟩,
  -- REC_LIST (R444)
  ⟨0x112000, 4, 2048, 0, 0x3FFFFC, 0, 0, 0xFFC00003, 0⟩]

/-- The registers of block THM. -/
def regRowsTHM : List RegRow := [
  -- THM_SUPPLY (R62)
  ⟨0x120400, 0, 1, 0, 0, 0, 0, 0, 0⟩,
  -- THM_FEED (R63)
  ⟨0x120410, 4, 6, 0, 0xC0000000, 0, 0, 0, 0xC0000000⟩,
  -- THM_STAT (R455)
  ⟨0x120000, 0, 1, 0x60000000, 0, 0, 0, 0x7000000, 0⟩,
  -- THM_CFG (R455)
  ⟨0x120004, 0, 1, 0x8CA50000, 0xFFFF0000, 0, 0, 0xFFFF, 0⟩,
  -- THM_SHUT (R455)
  ⟨0x120008, 0, 1, 0xC0645A46, 0xC0FFFFFF, 0, 0, 0x3F000000, 0⟩,
  -- THM_CNT (R455)
  ⟨0x12000C, 0, 1, 0, 0, 0, 0xFFFF, 0, 0⟩,
  -- THM_NODE_IDX (R497)
  ⟨0x120010, 0, 1, 0, 0xFF, 0, 0, 0xFFFFFF00, 0⟩,
  -- THM_NODE_DATA (R497)
  ⟨0x120014, 0, 1, 0, 0, 0, 0, 0, 0⟩]

/-- The registers of block UPD. -/
def regRowsUPD : List RegRow := [
  -- UPD_SLOT (R470)
  ⟨0x130000, 0, 1, 0, 0x10000000, 0, 0, 0x30000FF, 0x10000000⟩,
  -- UPD_SESS (R470)
  ⟨0x130004, 0, 1, 0, 0, 0, 0, 0x7F001FFF, 0⟩,
  -- UPD_SESS_CNT (R470)
  ⟨0x130008, 0, 1, 0, 0, 0, 0, 0, 0⟩,
  -- UPD_REQ (R470)
  ⟨0x13000C, 0, 1, 0, 0, 0, 0, 0xFFFF, 0⟩,
  -- UPD_INTAKE (R470)
  ⟨0x130010, 0, 1, 0, 0xFFFFFFFF, 0, 0, 0, 0⟩,
  -- UPD_MIG (R470)
  ⟨0x130014, 0, 1, 0, 0, 0, 0, 0, 0⟩,
  -- UPD_AXO_CMD (R470)
  ⟨0x130100, 0, 1, 0, 0, 0, 0, 0xFFFFFFF0, 0⟩,
  -- UPD_AXO_ARG (R470)
  ⟨0x130104, 4, 3, 0, 0xFFFFFFFF, 0, 0, 0, 0⟩,
  -- UPD_AXO_STAT (R470)
  ⟨0x130110, 0, 1, 0, 0, 0, 0, 0x7F00000F, 0⟩]

/-- The registers of block K12. -/
def regRowsK12 : List RegRow := [
  -- K12_STAT (R488)
  ⟨0x140000, 0, 1, 0, 0, 0, 0, 0xFFF0000, 0⟩,
  -- K12_PORT (R488)
  ⟨0x140004, 0, 1, 0, 0, 0, 0xFFFFFFFF, 0, 0⟩,
  -- K12_PHASE (R488)
  ⟨0x140008, 0, 1, 0, 0, 0, 0xFFFFFFFF, 0, 0⟩,
  -- K12_MAP (R488)
  ⟨0x141000, 4, 512, 0, 0, 0, 0, 0xFFFF0000, 0⟩]

/-- The registers of block TST. -/
def regRowsTST : List RegRow := [
  -- TST_UNLOCK (R492)
  ⟨0x150000, 0, 1, 0, 0, 0, 0, 0, 0⟩,
  -- TST_FAB (R492)
  ⟨0x150004, 0, 1, 0, 0xE0003FFF, 0, 0, 0x1FFFC000, 0⟩,
  -- TST_BP (R492)
  ⟨0x150008, 0, 1, 0, 0xF80FFFFF, 0, 0, 0x7F00000, 0⟩,
  -- TST_JIT (R492)
  ⟨0x15000C, 0, 1, 0, 0xFFFF, 0, 0, 0xFFFF0000, 0⟩,
  -- TST_SEED (R492)
  ⟨0x150010, 0, 1, 1, 0xFFFFFFFF, 0, 0, 0, 0⟩,
  -- TST_CANERR (R492)
  ⟨0x150014, 0, 1, 0, 0xFFFFFF00, 0, 0, 0xFF, 0⟩]

/-- The register tables of block number b (R24); the blocks above TST hold no register (R25). -/
def regRows : Nat → List RegRow
  | 0 => regRowsSYS
  | 1 => regRowsRNG
  | 2 => regRowsNYM
  | 3 => regRowsCLE
  | 4 => regRowsTRI
  | 5 => regRowsVDR
  | 6 => regRowsLSW
  | 7 => regRowsSNS
  | 8 => regRowsFUS
  | 9 => regRowsHSL
  | 10 => regRowsVIS
  | 11 => regRowsGNS
  | 12 => regRowsCAN
  | 13 => regRowsNET
  | 14 => regRowsDMA
  | 15 => regRowsDPY
  | 16 => regRowsFLT
  | 17 => regRowsREC
  | 18 => regRowsTHM
  | 19 => regRowsUPD
  | 20 => regRowsK12
  | 21 => regRowsTST
  | _ => []

/-- Does the row hold the register at BAR0 offset `off`? -/
def RegRow.has (r : RegRow) (off : Nat) : Bool :=
  if r.stride = 0 then off == r.base
  else decide (r.base ≤ off) && decide ((off - r.base) % r.stride = 0) && decide ((off - r.base) / r.stride < r.count)

/-- The row of the register at BAR0 offset `off`, if any table defines one (R25). -/
def regRow (off : Nat) : Option RegRow := (regRows (off / 0x10000)).find? (·.has off)

/-- What the register at BAR0 offset `off` reads at reset; offsets no table defines read 0 (R25). -/
def regReset (off : Nat) : Word :=
  match regRow off with
  | some r => BitVec.ofNat 32 r.reset
  | none => 0#32

abbrev SYS_GUAR : Nat := 0x000104
abbrev SYS_GUAR_suspended : Fld := ⟨31, 1⟩
abbrev SYS_GUAR_susp_cnt : Fld := ⟨8, 16⟩
abbrev SYS_GUAR_reload_seen : Fld := ⟨7, 1⟩
abbrev SYS_GUAR_perturb_seen : Fld := ⟨6, 1⟩
abbrev SYS_GUAR_poll_seen : Fld := ⟨5, 1⟩
abbrev SYS_GUAR_load_seen : Fld := ⟨4, 1⟩
abbrev SYS_GUAR_reload : Fld := ⟨3, 1⟩
abbrev SYS_GUAR_perturb : Fld := ⟨2, 1⟩
abbrev SYS_GUAR_poll_over : Fld := ⟨1, 1⟩
abbrev SYS_GUAR_load_over : Fld := ⟨0, 1⟩
abbrev SYS_BAR2_BASE : Nat := 0x000110
abbrev SYS_BAR2_BASE_win_en : Fld := ⟨31, 1⟩
abbrev SYS_BAR2_BASE_oob_cnt : Fld := ⟨23, 8⟩
abbrev SYS_BAR2_BASE_base : Fld := ⟨0, 15⟩
abbrev THM_SUPPLY : Nat := 0x120400
abbrev THM_SUPPLY_pfw : Fld := ⟨31, 1⟩
abbrev THM_SUPPLY_wake : Fld := ⟨30, 1⟩
abbrev THM_SUPPLY_strap_low : Fld := ⟨29, 1⟩
abbrev THM_SUPPLY_bank_ok : Fld := ⟨28, 1⟩
abbrev THM_SUPPLY_lf_x1 : Fld := ⟨27, 1⟩
abbrev THM_SUPPLY_lf_x3 : Fld := ⟨26, 1⟩
abbrev THM_SUPPLY_bank_e : Fld := ⟨16, 10⟩
abbrev THM_SUPPLY_lf_mv : Fld := ⟨0, 16⟩
abbrev THM_FEED (i : Nat) : Nat := 0x120410 + 0x4 * i
abbrev THM_FEED_ovl : Fld := ⟨31, 1⟩
abbrev THM_FEED_ovl_hi : Fld := ⟨30, 1⟩
abbrev THM_FEED_uv : Fld := ⟨29, 1⟩
abbrev THM_FEED_ov : Fld := ⟨28, 1⟩
abbrev THM_FEED_cur : Fld := ⟨16, 12⟩
abbrev THM_FEED_mv : Fld := ⟨0, 16⟩
abbrev SYS_PERSONALITY : Nat := 0x000120
abbrev SYS_PERSONALITY_k12 : Fld := ⟨31, 1⟩
abbrev SYS_PERSONALITY_strap_low : Fld := ⟨30, 1⟩
abbrev SYS_PERSONALITY_src : Fld := ⟨28, 2⟩
abbrev SYS_PERSONALITY_pers_sel : Fld := ⟨0, 2⟩
abbrev SYS_START : Nat := 0x000124
abbrev SYS_START_safe_hold : Fld := ⟨31, 1⟩
abbrev SYS_START_croak_alive : Fld := ⟨30, 1⟩
abbrev SYS_START_pcie_ready : Fld := ⟨29, 1⟩
abbrev SYS_START_settings_ok : Fld := ⟨28, 1⟩
abbrev SYS_START_authority_ok : Fld := ⟨27, 1⟩
abbrev SYS_START_native_ready : Fld := ⟨26, 1⟩
abbrev SYS_START_fallback : Fld := ⟨25, 1⟩
abbrev SYS_START_migrated : Fld := ⟨24, 1⟩
abbrev SYS_START_defaults : Fld := ⟨23, 1⟩
abbrev SYS_START_cause : Fld := ⟨16, 4⟩
abbrev SYS_START_ready_ms : Fld := ⟨0, 16⟩
abbrev SYS_LINK : Nat := 0x000128
abbrev SYS_LINK_pcie_gen : Fld := ⟨29, 3⟩
abbrev SYS_LINK_pcie_width : Fld := ⟨26, 3⟩
abbrev SYS_LINK_edp_up : Fld := ⟨25, 1⟩
abbrev SYS_LINK_epd_present : Fld := ⟨24, 1⟩
abbrev SYS_LINK_aphy_up : Fld := ⟨21, 3⟩
abbrev SYS_LINK_eth_up : Fld := ⟨14, 7⟩
abbrev SYS_LINK_edp_fail : Fld := ⟨13, 1⟩
abbrev SYS_LINK_aphy_fail : Fld := ⟨10, 3⟩
abbrev SYS_IRQ : Nat := 0x000138
abbrev SYS_IRQ_en : Fld := ⟨31, 1⟩
abbrev SYS_IRQ_vector : Fld := ⟨24, 6⟩
abbrev SYS_IRQ_stop : Fld := ⟨0, 1⟩
abbrev SYS_STOP_CFG : Nat := 0x000130
abbrev SYS_STOP_CFG_hold : Fld := ⟨31, 1⟩
abbrev SYS_STOP_CFG_delay : Fld := ⟨0, 16⟩
abbrev SYS_RESTART : Nat := 0x000134
abbrev SYS_RESTART_key : Fld := ⟨16, 16⟩
abbrev SYS_RESTART_off : Fld := ⟨0, 1⟩
abbrev RNG_STATUS : Nat := 0x010000
abbrev RNG_STATUS_link_lost : Fld := ⟨31, 1⟩
abbrev RNG_STATUS_run_cnt : Fld := ⟨24, 7⟩
abbrev RNG_STATUS_halt_cnt : Fld := ⟨16, 8⟩
abbrev RNG_STATUS_ign_cnt : Fld := ⟨0, 16⟩
abbrev RNG_DBL_LO (i : Nat) : Nat := 0x010010 + 0x8 * i
abbrev RNG_DBL_LO_addr : Fld := ⟨6, 26⟩
abbrev RNG_DESC_LO (i : Nat) : Nat := 0x011008 + 0x40 * i
abbrev RNG_DESC_LO_addr : Fld := ⟨6, 26⟩
abbrev RNG_CQ_LO (i : Nat) : Nat := 0x011010 + 0x40 * i
abbrev RNG_CQ_LO_addr : Fld := ⟨6, 26⟩
abbrev RNG_CDB_LO (i : Nat) : Nat := 0x011018 + 0x40 * i
abbrev RNG_CDB_LO_addr : Fld := ⟨6, 26⟩
abbrev RNG_DBL_HI (i : Nat) : Nat := 0x010014 + 0x8 * i
abbrev RNG_DBL_HI_addr : Fld := ⟨0, 32⟩
abbrev RNG_DESC_HI (i : Nat) : Nat := 0x01100C + 0x40 * i
abbrev RNG_DESC_HI_addr : Fld := ⟨0, 32⟩
abbrev RNG_CQ_HI (i : Nat) : Nat := 0x011014 + 0x40 * i
abbrev RNG_CQ_HI_addr : Fld := ⟨0, 32⟩
abbrev RNG_CDB_HI (i : Nat) : Nat := 0x01101C + 0x40 * i
abbrev RNG_CDB_HI_addr : Fld := ⟨0, 32⟩
abbrev RNG_CFG (i : Nat) : Nat := 0x011000 + 0x40 * i
abbrev RNG_CFG_carriage : Fld := ⟨31, 1⟩
abbrev RNG_CFG_dir : Fld := ⟨30, 1⟩
abbrev RNG_CFG_class : Fld := ⟨28, 2⟩
abbrev RNG_CFG_size_log2 : Fld := ⟨23, 5⟩
abbrev RNG_CFG_line : Fld := ⟨21, 2⟩
abbrev RNG_CFG_slot : Fld := ⟨17, 4⟩
abbrev RNG_CFG_target : Fld := ⟨12, 5⟩
abbrev RNG_CFG_func : Fld := ⟨8, 4⟩
abbrev RNG_CFG_state : Fld := ⟨0, 2⟩
abbrev RNG_POLL (i : Nat) : Nat := 0x011020 + 0x40 * i
abbrev RNG_POLL_irq_en : Fld := ⟨31, 1⟩
abbrev RNG_POLL_vector : Fld := ⟨24, 6⟩
abbrev RNG_POLL_irq_holdoff : Fld := ⟨14, 10⟩
abbrev RNG_POLL_interval : Fld := ⟨0, 10⟩
abbrev RNG_TAIL (i : Nat) : Nat := 0x011024 + 0x40 * i
abbrev RNG_TAIL_wrap : Fld := ⟨16, 1⟩
abbrev RNG_TAIL_index : Fld := ⟨0, 16⟩
abbrev RNG_HEAD (i : Nat) : Nat := 0x011028 + 0x40 * i
abbrev RNG_HEAD_wrap : Fld := ⟨16, 1⟩
abbrev RNG_HEAD_index : Fld := ⟨0, 16⟩
abbrev RNG_CNT (i : Nat) : Nat := 0x01102C + 0x40 * i
abbrev RNG_CNT_ign_cnt : Fld := ⟨16, 16⟩
abbrev RNG_CNT_bad_cnt : Fld := ⟨0, 16⟩
abbrev RNG_CTL (i : Nat) : Nat := 0x011030 + 0x40 * i
abbrev RNG_CTL_cmd : Fld := ⟨0, 2⟩
abbrev RNG_ETH_CFG : Nat := 0x010040
abbrev RNG_ETH_CFG_en : Fld := ⟨31, 1⟩
abbrev RNG_ETH_CFG_ports : Fld := ⟨24, 7⟩
abbrev RNG_ETH_CFG_ethertype : Fld := ⟨0, 16⟩
abbrev RNG_ETH_MAC_LO : Nat := 0x010044
abbrev RNG_ETH_MAC_LO_mac : Fld := ⟨0, 32⟩
abbrev RNG_ETH_MAC_HI : Nat := 0x010048
abbrev RNG_ETH_MAC_HI_mac : Fld := ⟨0, 16⟩
abbrev NYM_SHAFT_CFG (i : Nat) : Nat := 0x020200 + 0x20 * i
abbrev NYM_SHAFT_CFG_en : Fld := ⟨31, 1⟩
abbrev NYM_SHAFT_CFG_mode : Fld := ⟨28, 3⟩
abbrev NYM_SHAFT_CFG_teeth : Fld := ⟨17, 11⟩
abbrev NYM_SHAFT_CFG_missing : Fld := ⟨15, 2⟩
abbrev NYM_SHAFT_CFG_sec_in : Fld := ⟨9, 6⟩
abbrev NYM_SHAFT_CFG_idx_in : Fld := ⟨3, 6⟩
abbrev NYM_SHAFT_CFG_dir_mode : Fld := ⟨1, 2⟩
abbrev NYM_SHAFT_CFG_edge : Fld := ⟨0, 1⟩
abbrev NYM_SHAFT_GEO (i : Nat) : Nat := 0x020204 + 0x20 * i
abbrev NYM_SHAFT_GEO_offset : Fld := ⟨8, 24⟩
abbrev NYM_SHAFT_GEO_stall : Fld := ⟨0, 8⟩
abbrev NYM_SHAFT_STAT (i : Nat) : Nat := 0x020208 + 0x20 * i
abbrev NYM_SHAFT_STAT_sync : Fld := ⟨30, 2⟩
abbrev NYM_SHAFT_STAT_rev : Fld := ⟨29, 1⟩
abbrev NYM_SHAFT_STAT_stalled : Fld := ⟨28, 1⟩
abbrev NYM_SHAFT_STAT_ovs : Fld := ⟨27, 1⟩
abbrev NYM_SHAFT_STAT_lost_seen : Fld := ⟨26, 1⟩
abbrev NYM_SHAFT_STAT_edge_pos : Fld := ⟨16, 10⟩
abbrev NYM_SHAFT_STAT_speed : Fld := ⟨0, 16⟩
abbrev NYM_SHAFT_POS_LO (i : Nat) : Nat := 0x02020C + 0x20 * i
abbrev NYM_SHAFT_POS_LO_pos : Fld := ⟨0, 32⟩
abbrev NYM_SHAFT_POS_HI (i : Nat) : Nat := 0x020210 + 0x20 * i
abbrev NYM_SHAFT_POS_HI_pos : Fld := ⟨0, 32⟩
abbrev NYM_SHAFT_CNT (i : Nat) : Nat := 0x020214 + 0x20 * i
abbrev NYM_SHAFT_CNT_resync_cnt : Fld := ⟨16, 16⟩
abbrev NYM_SHAFT_CNT_err_cnt : Fld := ⟨0, 16⟩
abbrev NYM_GND_CFG : Nat := 0x020300
abbrev NYM_GND_CFG_en : Fld := ⟨31, 1⟩
abbrev NYM_GND_CFG_gnss_en : Fld := ⟨30, 1⟩
abbrev NYM_GND_CFG_wheel_in : Fld := ⟨24, 6⟩
abbrev NYM_GND_CFG_dir_src : Fld := ⟨22, 2⟩
abbrev NYM_GND_CFG_dir_in : Fld := ⟨16, 6⟩
abbrev NYM_GND_CFG_ppm : Fld := ⟨0, 16⟩
abbrev NYM_GND_STAT : Nat := 0x020304
abbrev NYM_GND_STAT_src : Fld := ⟨30, 2⟩
abbrev NYM_GND_STAT_rev : Fld := ⟨29, 1⟩
abbrev NYM_GND_STAT_coast : Fld := ⟨28, 1⟩
abbrev NYM_GND_STAT_scale_dev : Fld := ⟨16, 12⟩
abbrev NYM_GND_STAT_speed : Fld := ⟨0, 16⟩
abbrev NYM_GND_POS_LO : Nat := 0x020308
abbrev NYM_GND_POS_LO_pos : Fld := ⟨0, 32⟩
abbrev NYM_GND_POS_HI : Nat := 0x02030C
abbrev NYM_GND_POS_HI_sign : Fld := ⟨16, 16⟩
abbrev NYM_GND_POS_HI_pos : Fld := ⟨0, 16⟩
abbrev NYM_MTIME_LO : Nat := 0x020010
abbrev NYM_MTIME_LO_mtime : Fld := ⟨0, 32⟩
abbrev NYM_MTIME_HI : Nat := 0x020014
abbrev NYM_MTIME_HI_mtime : Fld := ⟨0, 32⟩
abbrev NYM_HO_SEQ : Nat := 0x020008
abbrev NYM_HO_SEQ_seq : Fld := ⟨0, 32⟩
abbrev NYM_TBL_IDX : Nat := 0x020400
abbrev NYM_TBL_IDX_index : Fld := ⟨0, 14⟩
abbrev NYM_TBL_CMD : Nat := 0x020404
abbrev NYM_TBL_CMD_cmd : Fld := ⟨0, 3⟩
abbrev NYM_TBL_SEQ : Nat := 0x020408
abbrev NYM_TBL_SEQ_seq : Fld := ⟨0, 32⟩
abbrev NYM_TBL_DATA (i : Nat) : Nat := 0x020420 + 0x4 * i
abbrev NYM_TBL_DATA_data : Fld := ⟨0, 32⟩
abbrev NYM_DOM_CFG (d : Nat) : Nat := 0x020100 + 0x10 * d
abbrev NYM_DOM_CFG_catchup : Fld := ⟨0, 8⟩
abbrev NYM_DOM_CNT (d : Nat) : Nat := 0x020104 + 0x10 * d
abbrev NYM_DOM_CNT_late_cnt : Fld := ⟨16, 16⟩
abbrev NYM_DOM_CNT_short_cnt : Fld := ⟨0, 16⟩
abbrev NYM_DOM_NA (d : Nat) : Nat := 0x020108 + 0x10 * d
abbrev NYM_DOM_NA_noauth_cnt : Fld := ⟨16, 16⟩
abbrev NYM_DOM_NA_jump_cnt : Fld := ⟨0, 16⟩
abbrev NYM_DOM_LAG (d : Nat) : Nat := 0x02010C + 0x10 * d
abbrev NYM_DOM_LAG_max_lag : Fld := ⟨0, 32⟩
abbrev CLE_HO_SEQ : Nat := 0x030008
abbrev CLE_HO_SEQ_seq : Fld := ⟨0, 32⟩
abbrev CLE_CFG : Nat := 0x030000
abbrev CLE_CFG_catchup : Fld := ⟨0, 8⟩
abbrev CLE_LOAD : Nat := 0x030004
abbrev CLE_LOAD_peak : Fld := ⟨16, 16⟩
abbrev CLE_LOAD_last : Fld := ⟨0, 16⟩
abbrev CLE_GECKO_SUM_LO : Nat := 0x03000C
abbrev CLE_GECKO_SUM_LO_loops : Fld := ⟨0, 32⟩
abbrev CLE_GECKO_SUM_HI : Nat := 0x030010
abbrev CLE_GECKO_SUM_HI_loops : Fld := ⟨0, 32⟩
abbrev CLE_WIN_IDX : Nat := 0x030020
abbrev CLE_WIN_IDX_loop : Fld := ⟨0, 6⟩
abbrev CLE_WIN_CMD : Nat := 0x030024
abbrev CLE_WIN_CMD_cmd : Fld := ⟨0, 3⟩
abbrev CLE_WIN_SEQ : Nat := 0x030028
abbrev CLE_WIN_SEQ_seq : Fld := ⟨0, 32⟩
abbrev CLE_WIN_DATA (i : Nat) : Nat := 0x030100 + 0x4 * i
abbrev CLE_WIN_DATA_data : Fld := ⟨0, 32⟩
abbrev CLE_POOL_IDX : Nat := 0x030030
abbrev CLE_POOL_IDX_autoinc : Fld := ⟨31, 1⟩
abbrev CLE_POOL_IDX_index : Fld := ⟨0, 13⟩
abbrev CLE_POOL_DATA : Nat := 0x030034
abbrev CLE_POOL_DATA_entry : Fld := ⟨0, 32⟩
abbrev CLE_LSTAT (i : Nat) : Nat := 0x031000 + 0x20 * i
abbrev CLE_LSTAT_en : Fld := ⟨31, 1⟩
abbrev CLE_LSTAT_auth : Fld := ⟨30, 1⟩
abbrev CLE_LSTAT_moving : Fld := ⟨29, 1⟩
abbrev CLE_LSTAT_pending : Fld := ⟨28, 1⟩
abbrev CLE_LSTAT_cu : Fld := ⟨27, 1⟩
abbrev CLE_LCNT (i : Nat) : Nat := 0x031004 + 0x20 * i
abbrev CLE_LCNT_late_cnt : Fld := ⟨16, 16⟩
abbrev CLE_LCNT_short_cnt : Fld := ⟨0, 16⟩
abbrev CLE_LNA (i : Nat) : Nat := 0x031008 + 0x20 * i
abbrev CLE_LNA_noauth_cnt : Fld := ⟨16, 16⟩
abbrev CLE_LNA_ign_cnt : Fld := ⟨8, 8⟩
abbrev CLE_LNA_sup_cnt : Fld := ⟨0, 8⟩
abbrev CLE_GECKO (i : Nat) : Nat := 0x03100C + 0x20 * i
abbrev CLE_GECKO_flags : Fld := ⟨0, 13⟩
abbrev CLE_TGT (i : Nat) : Nat := 0x031010 + 0x20 * i
abbrev CLE_TGT_value : Fld := ⟨0, 32⟩
abbrev CLE_YMEAS (i : Nat) : Nat := 0x031014 + 0x20 * i
abbrev CLE_YMEAS_value : Fld := ⟨0, 32⟩
abbrev CLE_ULIM (i : Nat) : Nat := 0x031018 + 0x20 * i
abbrev CLE_ULIM_value : Fld := ⟨0, 32⟩
abbrev CLE_CANT_ID (i : Nat) : Nat := 0x032000 + 0x10 * i
abbrev CLE_CANT_ID_fdf : Fld := ⟨31, 1⟩
abbrev CLE_CANT_ID_brs : Fld := ⟨30, 1⟩
abbrev CLE_CANT_ID_ide : Fld := ⟨29, 1⟩
abbrev CLE_CANT_ID_id : Fld := ⟨0, 29⟩
abbrev CLE_CANT_FMT (i : Nat) : Nat := 0x032004 + 0x10 * i
abbrev CLE_CANT_FMT_chan : Fld := ⟨29, 3⟩
abbrev CLE_CANT_FMT_dlc : Fld := ⟨24, 4⟩
abbrev CLE_CANT_FMT_offset : Fld := ⟨16, 3⟩
abbrev CLE_CANT_FMT_width : Fld := ⟨12, 2⟩
abbrev CLE_CANT_FMT_signed : Fld := ⟨8, 1⟩
abbrev CLE_CANT_FMT_big : Fld := ⟨4, 1⟩
abbrev CLE_CANT_D0 (i : Nat) : Nat := 0x032008 + 0x10 * i
abbrev CLE_CANT_D0_data : Fld := ⟨0, 32⟩
abbrev CLE_CANT_D1 (i : Nat) : Nat := 0x03200C + 0x10 * i
abbrev CLE_CANT_D1_data : Fld := ⟨0, 32⟩
abbrev TRI_STAT : Nat := 0x040000
abbrev TRI_STAT_mode : Fld := ⟨30, 2⟩
abbrev TRI_STAT_live : Fld := ⟨27, 3⟩
abbrev TRI_STAT_path_end : Fld := ⟨26, 1⟩
abbrev TRI_STAT_mstate : Fld := ⟨16, 8⟩
abbrev TRI_STAT_seq : Fld := ⟨0, 16⟩
abbrev TRI_CNT : Nat := 0x040004
abbrev TRI_CNT_late_cnt : Fld := ⟨16, 16⟩
abbrev TRI_CNT_max_lag : Fld := ⟨0, 16⟩
abbrev TRI_SPMAP : Nat := 0x040008
abbrev TRI_SPMAP_en2 : Fld := ⟨23, 1⟩
abbrev TRI_SPMAP_en1 : Fld := ⟨15, 1⟩
abbrev TRI_SPMAP_en0 : Fld := ⟨7, 1⟩
abbrev TRI_SPMAP_loop2 : Fld := ⟨16, 6⟩
abbrev TRI_SPMAP_loop1 : Fld := ⟨8, 6⟩
abbrev TRI_SPMAP_loop0 : Fld := ⟨0, 6⟩
abbrev TRI_CFG : Nat := 0x04000C
abbrev TRI_CFG_track : Fld := ⟨31, 1⟩
abbrev TRI_CFG_rearm : Fld := ⟨0, 8⟩
abbrev TRI_OVR_CFG (i : Nat) : Nat := 0x040010 + 0x4 * i
abbrev TRI_OVR_CFG_en : Fld := ⟨31, 1⟩
abbrev TRI_OVR_CFG_sw : Fld := ⟨30, 1⟩
abbrev TRI_OVR_CFG_filt : Fld := ⟨24, 4⟩
abbrev TRI_OVR_CFG_thr : Fld := ⟨0, 16⟩
abbrev TRI_OVR_STAT : Nat := 0x040018
abbrev TRI_OVR_STAT_act0 : Fld := ⟨31, 1⟩
abbrev TRI_OVR_STAT_act1 : Fld := ⟨30, 1⟩
abbrev TRI_OVR_STAT_armed : Fld := ⟨29, 1⟩
abbrev TRI_OVR_STAT_rev_cnt : Fld := ⟨0, 16⟩
abbrev TRI_GMAP_IDX : Nat := 0x040020
abbrev TRI_GMAP_IDX_item : Fld := ⟨0, 8⟩
abbrev TRI_GMAP_DATA : Nat := 0x040024
abbrev TRI_GMAP_DATA_group : Fld := ⟨0, 5⟩
abbrev TRI_GRP (i : Nat) : Nat := 0x040100 + 0x4 * i
abbrev TRI_GRP_holder : Fld := ⟨30, 2⟩
abbrev TRI_GRP_limp : Fld := ⟨29, 1⟩
abbrev TRI_GRP_exp_seen : Fld := ⟨28, 1⟩
abbrev TRI_GRP_allow : Fld := ⟨24, 3⟩
abbrev TRI_GRP_safe : Fld := ⟨22, 2⟩
abbrev TRI_GRP_life : Fld := ⟨15, 7⟩
abbrev TRI_GRP_hold_lim : Fld := ⟨0, 15⟩
abbrev TRI_GCNT (i : Nat) : Nat := 0x040180 + 0x4 * i
abbrev TRI_GCNT_refuse_cnt : Fld := ⟨16, 16⟩
abbrev TRI_GCNT_expire_cnt : Fld := ⟨0, 16⟩
abbrev VDR_CFG : Nat := 0x050000
abbrev VDR_CFG_retry : Fld := ⟨8, 8⟩
abbrev VDR_CFG_rmax : Fld := ⟨0, 4⟩
abbrev VDR_HO_SEQ : Nat := 0x050008
abbrev VDR_HO_SEQ_seq : Fld := ⟨0, 32⟩
abbrev VDR_PAIR : Nat := 0x050010
abbrev VDR_PAIR_pair_en : Fld := ⟨0, 8⟩
abbrev VDR_DLIM_LO : Nat := 0x050020
abbrev VDR_DLIM_LO_tb3 : Fld := ⟨24, 8⟩
abbrev VDR_DLIM_LO_tb2 : Fld := ⟨16, 8⟩
abbrev VDR_DLIM_LO_tb1 : Fld := ⟨8, 8⟩
abbrev VDR_DLIM_LO_tb0 : Fld := ⟨0, 8⟩
abbrev VDR_DLIM_HI : Nat := 0x050024
abbrev VDR_DLIM_HI_tb7 : Fld := ⟨24, 8⟩
abbrev VDR_DLIM_HI_tb6 : Fld := ⟨16, 8⟩
abbrev VDR_DLIM_HI_tb5 : Fld := ⟨8, 8⟩
abbrev VDR_DLIM_HI_tb4 : Fld := ⟨0, 8⟩
abbrev VDR_PAIRSTAT (i : Nat) : Nat := 0x050100 + 0x4 * i
abbrev VDR_PAIRSTAT_defer_cnt : Fld := ⟨16, 16⟩
abbrev VDR_PAIRSTAT_max_defer : Fld := ⟨0, 16⟩
abbrev VDR_CFGn (i : Nat) : Nat := 0x051000 + 0x20 * i
abbrev VDR_CFGn_en : Fld := ⟨31, 1⟩
abbrev VDR_CFGn_mode : Fld := ⟨30, 1⟩
abbrev VDR_CFGn_dwave : Fld := ⟨29, 1⟩
abbrev VDR_CFGn_period : Fld := ⟨0, 16⟩
abbrev VDR_DITH (i : Nat) : Nat := 0x051004 + 0x20 * i
abbrev VDR_DITH_dfreq : Fld := ⟨16, 9⟩
abbrev VDR_DITH_damp : Fld := ⟨0, 8⟩
abbrev VDR_RAMP (i : Nat) : Nat := 0x051008 + 0x20 * i
abbrev VDR_RAMP_up : Fld := ⟨16, 16⟩
abbrev VDR_RAMP_dn : Fld := ⟨0, 16⟩
abbrev VDR_SAFE (i : Nat) : Nat := 0x05100C + 0x20 * i
abbrev VDR_SAFE_toff : Fld := ⟨16, 10⟩
abbrev VDR_SAFE_safe_code : Fld := ⟨0, 14⟩
abbrev VDR_STAT (i : Nat) : Nat := 0x051010 + 0x20 * i
abbrev VDR_STAT_state : Fld := ⟨29, 3⟩
abbrev VDR_STAT_dlim : Fld := ⟨28, 1⟩
abbrev VDR_STAT_head : Fld := ⟨27, 1⟩
abbrev VDR_STAT_open : Fld := ⟨26, 1⟩
abbrev VDR_STAT_short : Fld := ⟨25, 1⟩
abbrev VDR_STAT_derate : Fld := ⟨24, 1⟩
abbrev VDR_STAT_defer_seen : Fld := ⟨23, 1⟩
abbrev VDR_STAT_clr_latch : Fld := ⟨22, 1⟩
abbrev VDR_STAT_retry_cnt : Fld := ⟨18, 4⟩
abbrev VDR_STAT_active : Fld := ⟨0, 14⟩
abbrev VDR_MEAS (i : Nat) : Nat := 0x051014 + 0x20 * i
abbrev VDR_MEAS_cur : Fld := ⟨16, 14⟩
abbrev VDR_MEAS_duty : Fld := ⟨0, 16⟩
abbrev VDR_SEQ (i : Nat) : Nat := 0x051018 + 0x20 * i
abbrev VDR_SEQ_seq : Fld := ⟨0, 32⟩
abbrev VDR_WSEQ (i : Nat) : Nat := 0x05101C + 0x20 * i
abbrev VDR_WSEQ_seq : Fld := ⟨0, 32⟩
abbrev LSW_TCFG : Nat := 0x060000
abbrev LSW_TCFG_dtlim : Fld := ⟨24, 8⟩
abbrev LSW_TCFG_hyst : Fld := ⟨16, 8⟩
abbrev LSW_TCFG_tshut : Fld := ⟨8, 8⟩
abbrev LSW_TCFG_pdur : Fld := ⟨0, 8⟩
abbrev LSW_HO_SEQ : Nat := 0x060008
abbrev LSW_HO_SEQ_seq : Fld := ⟨0, 32⟩
abbrev LSW_VIS_LO : Nat := 0x060010
abbrev LSW_VIS_LO_mask : Fld := ⟨0, 32⟩
abbrev LSW_VIS_HI : Nat := 0x060014
abbrev LSW_VIS_HI_mask : Fld := ⟨0, 32⟩
abbrev LSW_CLST (i : Nat) : Nat := 0x060100 + 0x4 * i
abbrev LSW_CLST_at_lim : Fld := ⟨31, 1⟩
abbrev LSW_CLST_dt : Fld := ⟨16, 8⟩
abbrev LSW_CLST_thr_cnt : Fld := ⟨0, 16⟩
abbrev LSW_CFG (i : Nat) : Nat := 0x061000 + 0x20 * i
abbrev LSW_CFG_en : Fld := ⟨31, 1⟩
abbrev LSW_CFG_tmode : Fld := ⟨30, 1⟩
abbrev LSW_CFG_phase : Fld := ⟨16, 8⟩
abbrev LSW_CFG_period : Fld := ⟨0, 14⟩
abbrev LSW_PROT (i : Nat) : Nat := 0x061004 + 0x20 * i
abbrev LSW_PROT_inr : Fld := ⟨24, 8⟩
abbrev LSW_PROT_tsb : Fld := ⟨20, 4⟩
abbrev LSW_PROT_rmax : Fld := ⟨16, 4⟩
abbrev LSW_PROT_retry : Fld := ⟨8, 8⟩
abbrev LSW_PROT_ol : Fld := ⟨0, 8⟩
abbrev LSW_SAFE (i : Nat) : Nat := 0x061008 + 0x20 * i
abbrev LSW_SAFE_smode : Fld := ⟨16, 2⟩
abbrev LSW_SAFE_sduty : Fld := ⟨0, 16⟩
abbrev LSW_STAT (i : Nat) : Nat := 0x06100C + 0x20 * i
abbrev LSW_STAT_state : Fld := ⟨29, 3⟩
abbrev LSW_STAT_short : Fld := ⟨28, 1⟩
abbrev LSW_STAT_ovl : Fld := ⟨27, 1⟩
abbrev LSW_STAT_open : Fld := ⟨26, 1⟩
abbrev LSW_STAT_therm_seen : Fld := ⟨25, 1⟩
abbrev LSW_STAT_thr_seen : Fld := ⟨24, 1⟩
abbrev LSW_STAT_thr : Fld := ⟨23, 1⟩
abbrev LSW_STAT_derate : Fld := ⟨22, 1⟩
abbrev LSW_STAT_prot : Fld := ⟨21, 1⟩
abbrev LSW_STAT_clr_latch : Fld := ⟨20, 1⟩
abbrev LSW_STAT_clr_therm : Fld := ⟨19, 1⟩
abbrev LSW_STAT_retry_cnt : Fld := ⟨15, 4⟩
abbrev LSW_MEAS (i : Nat) : Nat := 0x061010 + 0x20 * i
abbrev LSW_MEAS_cur : Fld := ⟨16, 16⟩
abbrev LSW_MEAS_active : Fld := ⟨0, 16⟩
abbrev LSW_SEQ (i : Nat) : Nat := 0x061018 + 0x20 * i
abbrev LSW_SEQ_seq : Fld := ⟨0, 32⟩
abbrev LSW_WSEQ (i : Nat) : Nat := 0x06101C + 0x20 * i
abbrev LSW_WSEQ_seq : Fld := ⟨0, 32⟩
abbrev SNS_CFG : Nat := 0x070000
abbrev SNS_CFG_din_filt : Fld := ⟨16, 8⟩
abbrev SNS_CFG_flush : Fld := ⟨0, 16⟩
abbrev SNS_RAW_STAT : Nat := 0x070004
abbrev SNS_RAW_STAT_drop_cnt : Fld := ⟨16, 16⟩
abbrev SNS_SUP : Nat := 0x070008
abbrev SNS_SUP_ovl_seen : Fld := ⟨16, 8⟩
abbrev SNS_SUP_off : Fld := ⟨8, 8⟩
abbrev SNS_SUP_en : Fld := ⟨0, 8⟩
abbrev SNS_DIN_PULL : Nat := 0x070010
abbrev SNS_DIN_PULL_pull : Fld := ⟨0, 32⟩
abbrev SNS_DIN_STATE : Nat := 0x070014
abbrev SNS_DIN_STATE_level : Fld := ⟨0, 32⟩
abbrev SNS_AIN_CFG (i : Nat) : Nat := 0x071000 + 0x8 * i
abbrev SNS_AIN_CFG_en : Fld := ⟨31, 1⟩
abbrev SNS_AIN_CFG_ratio : Fld := ⟨30, 1⟩
abbrev SNS_AIN_CFG_raw : Fld := ⟨29, 1⟩
abbrev SNS_AIN_CFG_periodic : Fld := ⟨28, 1⟩
abbrev SNS_AIN_CFG_interval : Fld := ⟨0, 20⟩
abbrev SNS_AIN_DATA (i : Nat) : Nat := 0x071004 + 0x8 * i
abbrev SNS_AIN_DATA_sat : Fld := ⟨31, 1⟩
abbrev SNS_AIN_DATA_defer_seen : Fld := ⟨30, 1⟩
abbrev SNS_AIN_DATA_value : Fld := ⟨0, 16⟩
abbrev SNS_FIN_CFG (i : Nat) : Nat := 0x071400 + 0x8 * i
abbrev SNS_FIN_CFG_en : Fld := ⟨31, 1⟩
abbrev SNS_FIN_CFG_pu : Fld := ⟨30, 1⟩
abbrev SNS_FIN_CFG_vr : Fld := ⟨29, 1⟩
abbrev SNS_FIN_CFG_raw : Fld := ⟨28, 1⟩
abbrev SNS_FIN_CFG_glitch : Fld := ⟨16, 8⟩
abbrev SNS_FIN_CFG_thr : Fld := ⟨0, 16⟩
abbrev SNS_FIN_DATA (i : Nat) : Nat := 0x071404 + 0x8 * i
abbrev SNS_FIN_DATA_freq : Fld := ⟨0, 32⟩
abbrev SNS_LOSS_CFG (i : Nat) : Nat := 0x071800 + 0x10 * i
abbrev SNS_LOSS_CFG_en : Fld := ⟨31, 1⟩
abbrev SNS_LOSS_CFG_exc : Fld := ⟨30, 1⟩
abbrev SNS_LOSS_CFG_raw : Fld := ⟨28, 2⟩
abbrev SNS_LOSS_CFG_sched : Fld := ⟨24, 4⟩
abbrev SNS_LOSS_CFG_smask : Fld := ⟨16, 8⟩
abbrev SNS_LOSS_CFG_excf : Fld := ⟨15, 1⟩
abbrev SNS_LOSS_CFG_hp : Fld := ⟨0, 8⟩
abbrev SNS_LOSS_THR (i : Nat) : Nat := 0x071804 + 0x10 * i
abbrev SNS_LOSS_THR_thr_on : Fld := ⟨16, 16⟩
abbrev SNS_LOSS_THR_thr_off : Fld := ⟨0, 16⟩
abbrev SNS_LOSS_TIM (i : Nat) : Nat := 0x071808 + 0x10 * i
abbrev SNS_LOSS_TIM_dead : Fld := ⟨16, 9⟩
abbrev SNS_LOSS_TIM_lead : Fld := ⟨0, 16⟩
abbrev SNS_LOSS_CNT (i : Nat) : Nat := 0x07180C + 0x10 * i
abbrev SNS_LOSS_CNT_imp_cnt : Fld := ⟨16, 16⟩
abbrev SNS_LOSS_CNT_nosync_cnt : Fld := ⟨0, 16⟩
abbrev SNS_TRG_LO (i : Nat) : Nat := 0x072000 + 0x10 * i
abbrev SNS_TRG_LO_ain : Fld := ⟨0, 32⟩
abbrev SNS_TRG_HI (i : Nat) : Nat := 0x072004 + 0x10 * i
abbrev SNS_TRG_HI_ain : Fld := ⟨0, 32⟩
abbrev SNS_TRG_X (i : Nat) : Nat := 0x072008 + 0x10 * i
abbrev SNS_TRG_X_din : Fld := ⟨31, 1⟩
abbrev SNS_TRG_X_fin : Fld := ⟨0, 24⟩
abbrev FUS_STAT : Nat := 0x080000
abbrev FUS_STAT_drop_cnt : Fld := ⟨16, 16⟩
abbrev FUS_STAT_ring_mask : Fld := ⟨0, 16⟩
abbrev FUS_SCHED (i : Nat) : Nat := 0x080100 + 0x8 * i
abbrev FUS_SCHED_en : Fld := ⟨31, 1⟩
abbrev FUS_SCHED_state : Fld := ⟨30, 1⟩
abbrev FUS_SCHED_window : Fld := ⟨0, 20⟩
abbrev FUS_SCHSTAT (i : Nat) : Nat := 0x080104 + 0x8 * i
abbrev FUS_SCHSTAT_miss_cnt : Fld := ⟨16, 16⟩
abbrev FUS_SCHSTAT_seq : Fld := ⟨0, 16⟩
abbrev FUS_OBS (i : Nat) : Nat := 0x080200 + 0x4 * i
abbrev FUS_OBS_en : Fld := ⟨31, 1⟩
abbrev FUS_OBS_unit : Fld := ⟨4, 4⟩
abbrev FUS_OBS_val : Fld := ⟨0, 4⟩
abbrev FUS_SECT (i : Nat) : Nat := 0x080400 + 0x4 * i
abbrev FUS_SECT_start : Fld := ⟨16, 9⟩
abbrev FUS_SECT_len : Fld := ⟨0, 10⟩
abbrev FUS_FU_CFG (i : Nat) : Nat := 0x081000 + 0x20 * i
abbrev FUS_FU_CFG_en : Fld := ⟨31, 1⟩
abbrev FUS_FU_CFG_kind : Fld := ⟨27, 4⟩
abbrev FUS_FU_CFG_sched : Fld := ⟨23, 4⟩
abbrev FUS_FU_CFG_src : Fld := ⟨15, 8⟩
abbrev FUS_FU_CFG_src2 : Fld := ⟨7, 8⟩
abbrev FUS_FU_P0 (i : Nat) : Nat := 0x081004 + 0x20 * i
abbrev FUS_FU_P0_p : Fld := ⟨0, 32⟩
abbrev FUS_FU_P1 (i : Nat) : Nat := 0x081008 + 0x20 * i
abbrev FUS_FU_P1_p : Fld := ⟨0, 32⟩
abbrev FUS_FU_P2 (i : Nat) : Nat := 0x08100C + 0x20 * i
abbrev FUS_FU_P2_p : Fld := ⟨0, 32⟩
abbrev FUS_FU_P3 (i : Nat) : Nat := 0x081010 + 0x20 * i
abbrev FUS_FU_P3_p : Fld := ⟨0, 32⟩
abbrev FUS_FU_SET (i : Nat) : Nat := 0x081014 + 0x20 * i
abbrev FUS_FU_SET_settle : Fld := ⟨0, 16⟩
abbrev FUS_FU_STAT (i : Nat) : Nat := 0x081018 + 0x20 * i
abbrev FUS_FU_STAT_late_cnt : Fld := ⟨16, 16⟩
abbrev FUS_FU_STAT_miss_cnt : Fld := ⟨0, 16⟩
abbrev FUS_YLD_CFG : Nat := 0x080800
abbrev FUS_YLD_CFG_en : Fld := ⟨31, 1⟩
abbrev FUS_YLD_CFG_unit : Fld := ⟨27, 4⟩
abbrev FUS_YLD_CFG_munit : Fld := ⟨23, 4⟩
abbrev FUS_YLD_CFG_m_en : Fld := ⟨22, 1⟩
abbrev FUS_YLD_CFG_hdr_pol : Fld := ⟨21, 1⟩
abbrev FUS_YLD_HDR : Nat := 0x080804
abbrev FUS_YLD_HDR_fmin : Fld := ⟨24, 8⟩
abbrev FUS_YLD_HDR_src : Fld := ⟨16, 8⟩
abbrev FUS_YLD_HDR_thr : Fld := ⟨0, 16⟩
abbrev FUS_YLD_DLY : Nat := 0x080808
abbrev FUS_YLD_DLY_adapt : Fld := ⟨31, 1⟩
abbrev FUS_YLD_DLY_delay : Fld := ⟨16, 15⟩
abbrev FUS_YLD_DLY_dmin : Fld := ⟨8, 8⟩
abbrev FUS_YLD_DLY_dmax : Fld := ⟨0, 8⟩
abbrev FUS_YLD_STAT : Nat := 0x08080C
abbrev FUS_YLD_STAT_adapt_cnt : Fld := ⟨24, 8⟩
abbrev FUS_YLD_STAT_reject_cnt : Fld := ⟨16, 8⟩
abbrev FUS_YLD_STAT_back_cnt : Fld := ⟨0, 16⟩
abbrev FUS_YLD_HSEC : Nat := 0x080810
abbrev FUS_YLD_HSEC_mask : Fld := ⟨0, 16⟩
abbrev FUS_YLD_SEC (i : Nat) : Nat := 0x080840 + 0x4 * i
abbrev FUS_YLD_SEC_en : Fld := ⟨31, 1⟩
abbrev FUS_YLD_SEC_src : Fld := ⟨16, 8⟩
abbrev FUS_YLD_SEC_width : Fld := ⟨0, 16⟩
abbrev FUS_LATE (i : Nat) : Nat := 0x083000 + 0x4 * i
abbrev FUS_LATE_late : Fld := ⟨0, 32⟩
abbrev HSL_CFG : Nat := 0x090000
abbrev HSL_CFG_mode : Fld := ⟨30, 2⟩
abbrev HSL_CFG_catchup : Fld := ⟨0, 8⟩
abbrev HSL_TRG : Nat := 0x090004
abbrev HSL_TRG_dom : Fld := ⟨28, 4⟩
abbrev HSL_TRG_dl : Fld := ⟨20, 8⟩
abbrev HSL_TRG_per : Fld := ⟨0, 16⟩
abbrev HSL_PHASE : Nat := 0x090008
abbrev HSL_PHASE_phase : Fld := ⟨0, 32⟩
abbrev HSL_STAT : Nat := 0x09000C
abbrev HSL_STAT_mode_act : Fld := ⟨30, 2⟩
abbrev HSL_STAT_busy : Fld := ⟨29, 1⟩
abbrev HSL_STAT_held : Fld := ⟨28, 1⟩
abbrev HSL_STAT_pending : Fld := ⟨27, 1⟩
abbrev HSL_STAT_sat : Fld := ⟨0, 4⟩
abbrev HSL_CNT : Nat := 0x090010
abbrev HSL_CNT_late_cnt : Fld := ⟨16, 16⟩
abbrev HSL_CNT_short_cnt : Fld := ⟨0, 16⟩
abbrev HSL_LAG : Nat := 0x090014
abbrev HSL_LAG_max_lag : Fld := ⟨0, 32⟩
abbrev HSL_BYP : Nat := 0x090018
abbrev HSL_BYP_byp : Fld := ⟨0, 30⟩
abbrev HSL_SEQ : Nat := 0x09001C
abbrev HSL_SEQ_seq : Fld := ⟨0, 32⟩
abbrev HSL_HO_SEQ : Nat := 0x090020
abbrev HSL_HO_SEQ_seq : Fld := ⟨0, 32⟩
abbrev HSL_WSEQ : Nat := 0x090024
abbrev HSL_WSEQ_seq : Fld := ⟨0, 32⟩
abbrev HSL_PHO : Nat := 0x090028
abbrev HSL_PHO_seq : Fld := ⟨0, 32⟩
abbrev HSL_NCNT : Nat := 0x09002C
abbrev HSL_NCNT_stale_cnt : Fld := ⟨16, 16⟩
abbrev HSL_NCNT_noloop_cnt : Fld := ⟨8, 8⟩
abbrev HSL_NCNT_drop_cnt : Fld := ⟨0, 8⟩
abbrev VIS_STAT : Nat := 0x0A0000
abbrev VIS_STAT_cap_rej : Fld := ⟨31, 1⟩
abbrev VIS_STAT_drop_cnt : Fld := ⟨11, 16⟩
abbrev VIS_STAT_mpix : Fld := ⟨0, 11⟩
abbrev VIS_HO_SEQ : Nat := 0x0A0004
abbrev VIS_HO_SEQ_seq : Fld := ⟨0, 32⟩
abbrev VIS_LINK (i : Nat) : Nat := 0x0A0010 + 0x4 * i
abbrev VIS_LINK_sup_en : Fld := ⟨31, 1⟩
abbrev VIS_LINK_ocp : Fld := ⟨30, 1⟩
abbrev VIS_LINK_lock : Fld := ⟨29, 1⟩
abbrev VIS_LINK_gear : Fld := ⟨24, 3⟩
abbrev VIS_LINK_gear_max : Fld := ⟨16, 3⟩
abbrev VIS_LINK_crc_cnt : Fld := ⟨0, 16⟩
abbrev VIS_CAM_CFG (i : Nat) : Nat := 0x0A1000 + 0x40 * i
abbrev VIS_CAM_CFG_en : Fld := ⟨31, 1⟩
abbrev VIS_CAM_CFG_disp : Fld := ⟨30, 1⟩
abbrev VIS_CAM_CFG_code : Fld := ⟨29, 1⟩
abbrev VIS_CAM_CFG_tens : Fld := ⟨28, 1⟩
abbrev VIS_CAM_CFG_tens_bad : Fld := ⟨27, 1⟩
abbrev VIS_CAM_CFG_cfa : Fld := ⟨24, 3⟩
abbrev VIS_CAM_CFG_bpp : Fld := ⟨23, 1⟩
abbrev VIS_CAM_CFG_model : Fld := ⟨20, 3⟩
abbrev VIS_CAM_CFG_rec : Fld := ⟨19, 1⟩
abbrev VIS_CAM_CFG_stats : Fld := ⟨18, 1⟩
abbrev VIS_CAM_CFG_rate_cap : Fld := ⟨8, 6⟩
abbrev VIS_CAM_GEO (i : Nat) : Nat := 0x0A1004 + 0x40 * i
abbrev VIS_CAM_GEO_width : Fld := ⟨16, 16⟩
abbrev VIS_CAM_GEO_height : Fld := ⟨0, 16⟩
abbrev VIS_CAM_WIN (i : Nat) : Nat := 0x0A1008 + 0x40 * i
abbrev VIS_CAM_WIN_trig_lat : Fld := ⟨24, 8⟩
abbrev VIS_CAM_WIN_win_lo : Fld := ⟨8, 8⟩
abbrev VIS_CAM_WIN_win_hi : Fld := ⟨0, 8⟩
abbrev VIS_CAM_LOCK (i : Nat) : Nat := 0x0A100C + 0x40 * i
abbrev VIS_CAM_LOCK_mode : Fld := ⟨30, 2⟩
abbrev VIS_CAM_LOCK_chan : Fld := ⟨16, 6⟩
abbrev VIS_CAM_FILL (i : Nat) : Nat := 0x0A1010 + 0x40 * i
abbrev VIS_CAM_FILL_fill : Fld := ⟨0, 16⟩
abbrev VIS_CAM_DISP (i : Nat) : Nat := 0x0A1014 + 0x40 * i
abbrev VIS_CAM_DISP_base : Fld := ⟨16, 15⟩
abbrev VIS_CAM_DISP_w16 : Fld := ⟨8, 8⟩
abbrev VIS_CAM_DISP_h16 : Fld := ⟨0, 8⟩
abbrev VIS_CAM_CNT0 (i : Nat) : Nat := 0x0A1018 + 0x40 * i
abbrev VIS_CAM_CNT0_gap_cnt : Fld := ⟨16, 16⟩
abbrev VIS_CAM_CNT0_stray_cnt : Fld := ⟨0, 16⟩
abbrev VIS_CAM_CNT1 (i : Nat) : Nat := 0x0A101C + 0x40 * i
abbrev VIS_CAM_CNT1_short_cnt : Fld := ⟨24, 8⟩
abbrev VIS_CAM_CNT1_long_cnt : Fld := ⟨16, 8⟩
abbrev VIS_CAM_CNT1_dmg_cnt : Fld := ⟨8, 8⟩
abbrev VIS_CAM_CNT1_tok_sup : Fld := ⟨0, 8⟩
abbrev VIS_CAM_TOK (i : Nat) : Nat := 0x0A1020 + 0x40 * i
abbrev VIS_CAM_TOK_tok_frame : Fld := ⟨16, 16⟩
abbrev VIS_CAM_TOK_tok_acc : Fld := ⟨0, 16⟩
abbrev VIS_CAM_SEQ (i : Nat) : Nat := 0x0A1024 + 0x40 * i
abbrev VIS_CAM_SEQ_seq : Fld := ⟨0, 32⟩
abbrev VIS_CAM_WSEQ (i : Nat) : Nat := 0x0A1028 + 0x40 * i
abbrev VIS_CAM_WSEQ_seq : Fld := ⟨0, 32⟩
abbrev VIS_ENC_CFG (i : Nat) : Nat := 0x0A2000 + 0x20 * i
abbrev VIS_ENC_CFG_en : Fld := ⟨31, 1⟩
abbrev VIS_ENC_CFG_rc : Fld := ⟨29, 2⟩
abbrev VIS_ENC_CFG_cam : Fld := ⟨25, 4⟩
abbrev VIS_ENC_CFG_idr_int : Fld := ⟨17, 8⟩
abbrev VIS_ENC_CFG_qp : Fld := ⟨11, 6⟩
abbrev VIS_ENC_RATE (i : Nat) : Nat := 0x0A2004 + 0x20 * i
abbrev VIS_ENC_RATE_rate : Fld := ⟨16, 16⟩
abbrev VIS_ENC_RATE_peak : Fld := ⟨0, 16⟩
abbrev VIS_ENC_STAT (i : Nat) : Nat := 0x0A2008 + 0x20 * i
abbrev VIS_ENC_STAT_drop_cnt : Fld := ⟨16, 16⟩
abbrev VIS_ENC_STAT_skip_cnt : Fld := ⟨0, 16⟩
abbrev VIS_MOD_CFG (i : Nat) : Nat := 0x0A3000 + 0x10 * i
abbrev VIS_MOD_CFG_blob : Fld := ⟨31, 1⟩
abbrev VIS_MOD_STAT (i : Nat) : Nat := 0x0A3004 + 0x10 * i
abbrev VIS_MOD_STAT_loaded : Fld := ⟨31, 1⟩
abbrev VIS_MOD_STAT_bound : Fld := ⟨30, 1⟩
abbrev VIS_MOD_STAT_last_us : Fld := ⟨0, 24⟩
abbrev VIS_MOD_CNT (i : Nat) : Nat := 0x0A3008 + 0x10 * i
abbrev VIS_MOD_CNT_drop_cnt : Fld := ⟨16, 16⟩
abbrev VIS_MOD_CNT_tmo_cnt : Fld := ⟨0, 16⟩
abbrev GNS_CFG : Nat := 0x0B0000
abbrev GNS_CFG_en : Fld := ⟨31, 1⟩
abbrev GNS_CFG_head : Fld := ⟨30, 1⟩
abbrev GNS_CFG_rtk : Fld := ⟨29, 1⟩
abbrev GNS_CFG_pvt100 : Fld := ⟨28, 1⟩
abbrev GNS_CFG_con : Fld := ⟨23, 5⟩
abbrev GNS_CFG_elev : Fld := ⟨8, 8⟩
abbrev GNS_CFG_cmax : Fld := ⟨0, 8⟩
abbrev GNS_STAT : Nat := 0x0B0004
abbrev GNS_STAT_tstate : Fld := ⟨30, 2⟩
abbrev GNS_STAT_fix : Fld := ⟨26, 4⟩
abbrev GNS_STAT_suspect : Fld := ⟨25, 1⟩
abbrev GNS_STAT_hd_valid : Fld := ⟨24, 1⟩
abbrev GNS_STAT_nsv : Fld := ⟨16, 8⟩
abbrev GNS_STAT_ntrk : Fld := ⟨7, 9⟩
abbrev GNS_ANT : Nat := 0x0B0008
abbrev GNS_ANT_sup0 : Fld := ⟨31, 1⟩
abbrev GNS_ANT_sup1 : Fld := ⟨30, 1⟩
abbrev GNS_ANT_open0 : Fld := ⟨27, 1⟩
abbrev GNS_ANT_short0 : Fld := ⟨26, 1⟩
abbrev GNS_ANT_open1 : Fld := ⟨25, 1⟩
abbrev GNS_ANT_short1 : Fld := ⟨24, 1⟩
abbrev GNS_ANT_seen : Fld := ⟨20, 4⟩
abbrev GNS_ANT_cur0 : Fld := ⟨8, 8⟩
abbrev GNS_ANT_cur1 : Fld := ⟨0, 8⟩
abbrev GNS_HEAD : Nat := 0x0B000C
abbrev GNS_HEAD_base_len : Fld := ⟨16, 16⟩
abbrev GNS_HEAD_yaw_off : Fld := ⟨0, 16⟩
abbrev GNS_LEV0 : Nat := 0x0B0010
abbrev GNS_LEV0_fwd : Fld := ⟨16, 16⟩
abbrev GNS_LEV0_right : Fld := ⟨0, 16⟩
abbrev GNS_LEV1 : Nat := 0x0B0014
abbrev GNS_LEV1_up : Fld := ⟨16, 16⟩
abbrev GNS_TCFG : Nat := 0x0B0018
abbrev GNS_TCFG_pps_en : Fld := ⟨31, 1⟩
abbrev GNS_TCFG_pps_w : Fld := ⟨16, 10⟩
abbrev GNS_TCFG_hold_rate : Fld := ⟨8, 8⟩
abbrev GNS_TCFG_hold_spec : Fld := ⟨0, 8⟩
abbrev GNS_CHK0 : Nat := 0x0B0020
abbrev GNS_CHK0_en : Fld := ⟨27, 5⟩
abbrev GNS_CHK0_cc_thr : Fld := ⟨16, 8⟩
abbrev GNS_CHK0_cn0_max : Fld := ⟨8, 8⟩
abbrev GNS_CHK0_ic_pos : Fld := ⟨0, 8⟩
abbrev GNS_CHK1 : Nat := 0x0B0024
abbrev GNS_CHK1_clk_thr : Fld := ⟨16, 16⟩
abbrev GNS_CHK1_f_thr : Fld := ⟨0, 16⟩
abbrev GNS_CHKSTAT : Nat := 0x0B0028
abbrev GNS_CHKSTAT_fail_seen : Fld := ⟨27, 5⟩
abbrev GNS_CHKSTAT_excl_sig : Fld := ⟨8, 8⟩
abbrev GNS_CHKSTAT_excl_con : Fld := ⟨0, 5⟩
abbrev GNS_RTCM : Nat := 0x0B002C
abbrev GNS_RTCM_rx_cnt : Fld := ⟨16, 16⟩
abbrev GNS_RTCM_crc_cnt : Fld := ⟨8, 8⟩
abbrev GNS_RTCM_ign_cnt : Fld := ⟨0, 8⟩
abbrev GNS_UNC : Nat := 0x0B0030
abbrev GNS_UNC_unc : Fld := ⟨0, 32⟩
abbrev GNS_CNT : Nat := 0x0B0034
abbrev GNS_CNT_drop_cnt : Fld := ⟨16, 16⟩
abbrev GNS_CNT_step_cnt : Fld := ⟨8, 8⟩
abbrev GNS_CNT_hold_cnt : Fld := ⟨0, 8⟩
abbrev CAN_CFG (i : Nat) : Nat := 0x0C1000 + 0x40 * i
abbrev CAN_CFG_en : Fld := ⟨31, 1⟩
abbrev CAN_CFG_listen : Fld := ⟨30, 1⟩
abbrev CAN_CFG_fd : Fld := ⟨29, 1⟩
abbrev CAN_CFG_term : Fld := ⟨28, 1⟩
abbrev CAN_CFG_echo : Fld := ⟨27, 1⟩
abbrev CAN_NBT (i : Nat) : Nat := 0x0C1004 + 0x40 * i
abbrev CAN_NBT_brp : Fld := ⟨24, 6⟩
abbrev CAN_NBT_tseg1 : Fld := ⟨16, 8⟩
abbrev CAN_NBT_tseg2 : Fld := ⟨8, 7⟩
abbrev CAN_NBT_sjw : Fld := ⟨0, 7⟩
abbrev CAN_DBT (i : Nat) : Nat := 0x0C1008 + 0x40 * i
abbrev CAN_DBT_tdc : Fld := ⟨31, 1⟩
abbrev CAN_DBT_dbrp : Fld := ⟨24, 4⟩
abbrev CAN_DBT_dtseg1 : Fld := ⟨19, 5⟩
abbrev CAN_DBT_dtseg2 : Fld := ⟨15, 4⟩
abbrev CAN_DBT_dsjw : Fld := ⟨11, 4⟩
abbrev CAN_DBT_tdco : Fld := ⟨0, 7⟩
abbrev CAN_STAT (i : Nat) : Nat := 0x0C100C + 0x40 * i
abbrev CAN_STAT_state : Fld := ⟨30, 2⟩
abbrev CAN_STAT_bo_seen : Fld := ⟨29, 1⟩
abbrev CAN_STAT_ep_seen : Fld := ⟨28, 1⟩
abbrev CAN_STAT_tec : Fld := ⟨16, 9⟩
abbrev CAN_STAT_rec : Fld := ⟨0, 8⟩
abbrev CAN_CTL (i : Nat) : Nat := 0x0C1010 + 0x40 * i
abbrev CAN_CTL_flush : Fld := ⟨4, 4⟩
abbrev CAN_CTL_recover : Fld := ⟨0, 1⟩
abbrev CAN_CNT0 (i : Nat) : Nat := 0x0C1014 + 0x40 * i
abbrev CAN_CNT0_tx_cnt : Fld := ⟨16, 16⟩
abbrev CAN_CNT0_rx_cnt : Fld := ⟨0, 16⟩
abbrev CAN_CNT1 (i : Nat) : Nat := 0x0C1018 + 0x40 * i
abbrev CAN_CNT1_err_cnt : Fld := ⟨16, 16⟩
abbrev CAN_CNT1_retry_cnt : Fld := ⟨8, 8⟩
abbrev CAN_CNT1_rx_drop : Fld := ⟨0, 8⟩
abbrev CAN_QCFG (i : Nat) : Nat := 0x0C101C + 0x40 * i
abbrev CAN_QCFG_q3 : Fld := ⟨4, 2⟩
abbrev CAN_QCFG_q2 : Fld := ⟨2, 2⟩
abbrev CAN_QCFG_q1 : Fld := ⟨0, 2⟩
abbrev CAN_QSTAT (i : Nat) : Nat := 0x0C1020 + 0x40 * i
abbrev CAN_QSTAT_bo_held : Fld := ⟨28, 4⟩
abbrev CAN_QSTAT_fill0 : Fld := ⟨23, 5⟩
abbrev CAN_QSTAT_fill1 : Fld := ⟨16, 7⟩
abbrev CAN_QSTAT_fill2 : Fld := ⟨9, 7⟩
abbrev CAN_QSTAT_fill3 : Fld := ⟨2, 7⟩
abbrev NET_HO_SEQ : Nat := 0x0D0008
abbrev NET_HO_SEQ_seq : Fld := ⟨0, 32⟩
abbrev NET_PORT (i : Nat) : Nat := 0x0D1000 + 0x20 * i
abbrev NET_PORT_en : Fld := ⟨31, 1⟩
abbrev NET_PORT_role : Fld := ⟨30, 1⟩
abbrev NET_PORT_spd : Fld := ⟨29, 1⟩
abbrev NET_PORT_pvid : Fld := ⟨0, 12⟩
abbrev NET_PSTAT (i : Nat) : Nat := 0x0D1004 + 0x20 * i
abbrev NET_PSTAT_link : Fld := ⟨31, 1⟩
abbrev NET_PSTAT_svc : Fld := ⟨30, 1⟩
abbrev NET_PSTAT_blk_seen : Fld := ⟨29, 1⟩
abbrev NET_PSTAT_pend : Fld := ⟨28, 1⟩
abbrev NET_PSTAT_ann_cnt : Fld := ⟨8, 8⟩
abbrev NET_PSTAT_drop_cnt : Fld := ⟨0, 8⟩
abbrev NET_GSEQ (i : Nat) : Nat := 0x0D1008 + 0x20 * i
abbrev NET_GSEQ_seq : Fld := ⟨0, 32⟩
abbrev NET_RP_CFG : Nat := 0x0D0100
abbrev NET_RP_CFG_en : Fld := ⟨31, 1⟩
abbrev NET_RP_CFG_space : Fld := ⟨30, 1⟩
abbrev NET_RP_CFG_vector : Fld := ⟨24, 6⟩
abbrev NET_RP_STAT : Nat := 0x0D0104
abbrev NET_RP_STAT_link : Fld := ⟨31, 1⟩
abbrev NET_RP_STAT_gen : Fld := ⟨28, 3⟩
abbrev NET_RP_STAT_retry_cnt : Fld := ⟨0, 16⟩
abbrev NET_RP_ADDR : Nat := 0x0D0108
abbrev NET_RP_ADDR_addr : Fld := ⟨0, 32⟩
abbrev NET_RP_DATA : Nat := 0x0D010C
abbrev NET_RP_DATA_data : Fld := ⟨0, 32⟩
abbrev DMA_BUSY : Nat := 0x0E0000
abbrev DMA_BUSY_busy : Fld := ⟨0, 32⟩
abbrev DMA_CH_CFG (i : Nat) : Nat := 0x0E1000 + 0x40 * i
abbrev DMA_CH_CFG_en : Fld := ⟨31, 1⟩
abbrev DMA_CH_CFG_class : Fld := ⟨29, 2⟩
abbrev DMA_CH_CFG_prio : Fld := ⟨26, 3⟩
abbrev DMA_CH_CFG_irq_en : Fld := ⟨25, 1⟩
abbrev DMA_CH_CFG_vector : Fld := ⟨19, 6⟩
abbrev DMA_CH_CFG_req : Fld := ⟨14, 5⟩
abbrev DMA_CH_CFG_burst : Fld := ⟨0, 4⟩
abbrev DMA_CH_NEXT_LO (i : Nat) : Nat := 0x0E1004 + 0x40 * i
abbrev DMA_CH_NEXT_LO_addr : Fld := ⟨6, 26⟩
abbrev DMA_CH_NEXT_LO_host : Fld := ⟨0, 1⟩
abbrev DMA_CH_NEXT_HI (i : Nat) : Nat := 0x0E1008 + 0x40 * i
abbrev DMA_CH_NEXT_HI_addr : Fld := ⟨0, 32⟩
abbrev DMA_CH_CTL (i : Nat) : Nat := 0x0E100C + 0x40 * i
abbrev DMA_CH_CTL_pause : Fld := ⟨31, 1⟩
abbrev DMA_CH_CTL_stop : Fld := ⟨1, 1⟩
abbrev DMA_CH_CTL_kick : Fld := ⟨0, 1⟩
abbrev DMA_CH_STAT (i : Nat) : Nat := 0x0E1010 + 0x40 * i
abbrev DMA_CH_STAT_state : Fld := ⟨29, 3⟩
abbrev DMA_CH_STAT_nv : Fld := ⟨28, 1⟩
abbrev DMA_CH_STAT_lf : Fld := ⟨27, 1⟩
abbrev DMA_CH_STAT_err_seen : Fld := ⟨26, 1⟩
abbrev DMA_CH_STAT_wd_seen : Fld := ⟨25, 1⟩
abbrev DMA_CH_STAT_pend : Fld := ⟨0, 8⟩
abbrev DMA_CH_CUR_SRC_LO (i : Nat) : Nat := 0x0E1014 + 0x40 * i
abbrev DMA_CH_CUR_SRC_LO_addr : Fld := ⟨0, 32⟩
abbrev DMA_CH_CUR_SRC_HI (i : Nat) : Nat := 0x0E1018 + 0x40 * i
abbrev DMA_CH_CUR_SRC_HI_addr : Fld := ⟨0, 32⟩
abbrev DMA_CH_CUR_DST_LO (i : Nat) : Nat := 0x0E101C + 0x40 * i
abbrev DMA_CH_CUR_DST_LO_addr : Fld := ⟨0, 32⟩
abbrev DMA_CH_CUR_DST_HI (i : Nat) : Nat := 0x0E1020 + 0x40 * i
abbrev DMA_CH_CUR_DST_HI_addr : Fld := ⟨0, 32⟩
abbrev DMA_CH_CUR_DESC_LO (i : Nat) : Nat := 0x0E1024 + 0x40 * i
abbrev DMA_CH_CUR_DESC_LO_addr : Fld := ⟨0, 32⟩
abbrev DMA_CH_CUR_DESC_HI (i : Nat) : Nat := 0x0E1028 + 0x40 * i
abbrev DMA_CH_CUR_DESC_HI_addr : Fld := ⟨0, 32⟩
abbrev DMA_CH_REM (i : Nat) : Nat := 0x0E102C + 0x40 * i
abbrev DMA_CH_REM_rem : Fld := ⟨0, 24⟩
abbrev DMA_CH_CNT (i : Nat) : Nat := 0x0E1030 + 0x40 * i
abbrev DMA_CH_CNT_lf_cnt : Fld := ⟨16, 16⟩
abbrev DMA_CH_CNT_wd_cnt : Fld := ⟨8, 8⟩
abbrev DMA_CH_CNT_kov_cnt : Fld := ⟨0, 8⟩
abbrev DPY_STAT : Nat := 0x0F0000
abbrev DPY_STAT_a_on : Fld := ⟨31, 1⟩
abbrev DPY_STAT_crack : Fld := ⟨30, 1⟩
abbrev DPY_STAT_crack_seen : Fld := ⟨29, 1⟩
abbrev DPY_STAT_umap_ok : Fld := ⟨28, 1⟩
abbrev DPY_STAT_cks_err : Fld := ⟨27, 1⟩
abbrev DPY_STAT_rail_seen : Fld := ⟨26, 1⟩
abbrev DPY_STAT_clearing : Fld := ⟨25, 1⟩
abbrev DPY_STAT_a_infl : Fld := ⟨8, 6⟩
abbrev DPY_STAT_b_infl : Fld := ⟨0, 6⟩
abbrev DPY_A_CFG : Nat := 0x0F0010
abbrev DPY_A_CFG_en : Fld := ⟨31, 1⟩
abbrev DPY_A_CFG_bpc10 : Fld := ⟨30, 1⟩
abbrev DPY_A_CFG_umap_en : Fld := ⟨29, 1⟩
abbrev DPY_A_CFG_crack_off : Fld := ⟨28, 1⟩
abbrev DPY_A_CFG_rmax : Fld := ⟨16, 8⟩
abbrev DPY_A_CFG_rmin : Fld := ⟨8, 8⟩
abbrev DPY_A_CFG_idle : Fld := ⟨0, 8⟩
abbrev DPY_A_SEQ : Nat := 0x0F0014
abbrev DPY_A_SEQ_seq : Fld := ⟨0, 32⟩
abbrev DPY_A_CRACK : Nat := 0x0F0018
abbrev DPY_A_CRACK_thr : Fld := ⟨16, 16⟩
abbrev DPY_A_CRACK_res : Fld := ⟨0, 16⟩
abbrev DPY_WIN (i : Nat) : Nat := 0x0F0020 + 0x4 * i
abbrev DPY_WIN_en : Fld := ⟨31, 1⟩
abbrev DPY_WIN_cam : Fld := ⟨24, 4⟩
abbrev DPY_WIN_x16 : Fld := ⟨16, 8⟩
abbrev DPY_WIN_y16 : Fld := ⟨8, 8⟩
abbrev DPY_B_CFG : Nat := 0x0F0040
abbrev DPY_B_CFG_en : Fld := ⟨31, 1⟩
abbrev DPY_B_CFG_final : Fld := ⟨30, 1⟩
abbrev DPY_B_CFG_vcom : Fld := ⟨20, 8⟩
abbrev DPY_B_CFG_fper : Fld := ⟨12, 8⟩
abbrev DPY_B_CFG_rail_hold : Fld := ⟨0, 12⟩
abbrev DPY_B_STAT : Nat := 0x0F0044
abbrev DPY_B_STAT_rails : Fld := ⟨30, 2⟩
abbrev DPY_B_STAT_temp_ok : Fld := ⟨29, 1⟩
abbrev DPY_B_STAT_band : Fld := ⟨24, 3⟩
abbrev DPY_B_STAT_temp : Fld := ⟨16, 8⟩
abbrev DPY_B_STAT_dirty : Fld := ⟨0, 7⟩
abbrev DPY_GEO0 : Nat := 0x0F0048
abbrev DPY_GEO0_width : Fld := ⟨16, 16⟩
abbrev DPY_GEO0_height : Fld := ⟨0, 16⟩
abbrev DPY_GEO1 : Nat := 0x0F004C
abbrev DPY_GEO1_width : Fld := ⟨16, 16⟩
abbrev DPY_GEO1_height : Fld := ⟨0, 16⟩
abbrev DPY_INTAKE (i : Nat) : Nat := 0x0F0050 + 0x4 * i
abbrev DPY_INTAKE_en : Fld := ⟨31, 1⟩
abbrev DPY_INTAKE_addr : Fld := ⟨0, 31⟩
abbrev FLT_STAT : Nat := 0x100000
abbrev FLT_STAT_alive : Fld := ⟨31, 1⟩
abbrev FLT_STAT_level : Fld := ⟨30, 1⟩
abbrev FLT_STAT_limp : Fld := ⟨29, 1⟩
abbrev FLT_STAT_any_open : Fld := ⟨28, 1⟩
abbrev FLT_STAT_wcls : Fld := ⟨26, 2⟩
abbrev FLT_STAT_nopen : Fld := ⟨0, 16⟩
abbrev FLT_CFG : Nat := 0x100004
abbrev FLT_CFG_irq_en : Fld := ⟨31, 1⟩
abbrev FLT_CFG_vector : Fld := ⟨24, 6⟩
abbrev FLT_CFG_irq_cls : Fld := ⟨22, 2⟩
abbrev FLT_CFG_plim : Fld := ⟨0, 16⟩
abbrev FLT_CNT0 : Nat := 0x100008
abbrev FLT_CNT0_f3_cnt : Fld := ⟨16, 16⟩
abbrev FLT_CNT0_f2_cnt : Fld := ⟨0, 16⟩
abbrev FLT_CNT1 : Nat := 0x10000C
abbrev FLT_CNT1_f1_cnt : Fld := ⟨24, 8⟩
abbrev FLT_CNT1_f0_cnt : Fld := ⟨16, 8⟩
abbrev FLT_CNT1_drop_cnt : Fld := ⟨0, 16⟩
abbrev FLT_LAST : Nat := 0x100010
abbrev FLT_LAST_grave : Fld := ⟨16, 16⟩
abbrev FLT_LAST_last : Fld := ⟨0, 16⟩
abbrev FLT_FENCE : Nat := 0x100014
abbrev FLT_FENCE_fenced : Fld := ⟨0, 12⟩
abbrev FLT_ECC (i : Nat) : Nat := 0x100100 + 0x4 * i
abbrev FLT_ECC_corr : Fld := ⟨16, 16⟩
abbrev FLT_ECC_unc : Fld := ⟨0, 16⟩
abbrev FLT_ECC_ADDR_LO : Nat := 0x100120
abbrev FLT_ECC_ADDR_LO_addr : Fld := ⟨0, 32⟩
abbrev FLT_ECC_ADDR_HI : Nat := 0x100124
abbrev FLT_ECC_ADDR_HI_addr : Fld := ⟨0, 4⟩
abbrev REC_CFG : Nat := 0x110000
abbrev REC_CFG_flush_cls : Fld := ⟨30, 2⟩
abbrev REC_CFG_mirror : Fld := ⟨29, 1⟩
abbrev REC_CFG_per : Fld := ⟨0, 16⟩
abbrev REC_STAT : Nat := 0x110004
abbrev REC_STAT_full : Fld := ⟨31, 1⟩
abbrev REC_STAT_unclean_seen : Fld := ⟨30, 1⟩
abbrev REC_STAT_flushing : Fld := ⟨29, 1⟩
abbrev REC_STAT_chal : Fld := ⟨28, 1⟩
abbrev REC_STAT_store_mib : Fld := ⟨16, 11⟩
abbrev REC_STAT_buf_kib : Fld := ⟨0, 13⟩
abbrev REC_SEQ : Nat := 0x110008
abbrev REC_SEQ_seq : Fld := ⟨0, 32⟩
abbrev REC_FLUSHED : Nat := 0x11000C
abbrev REC_FLUSHED_seq : Fld := ⟨0, 32⟩
abbrev REC_CNT : Nat := 0x110010
abbrev REC_CNT_lost_cnt : Fld := ⟨16, 16⟩
abbrev REC_CNT_drop_cnt : Fld := ⟨8, 8⟩
abbrev REC_CNT_snap_drop : Fld := ⟨0, 8⟩
abbrev REC_MIRROR : Nat := 0x110014
abbrev REC_MIRROR_en : Fld := ⟨31, 1⟩
abbrev REC_MIRROR_addr : Fld := ⟨0, 31⟩
abbrev REC_TRG_A (i : Nat) : Nat := 0x111000 + 0x8 * i
abbrev REC_TRG_A_en : Fld := ⟨31, 1⟩
abbrev REC_TRG_A_kind : Fld := ⟨29, 2⟩
abbrev REC_TRG_A_cls : Fld := ⟨27, 2⟩
abbrev REC_TRG_A_n : Fld := ⟨0, 6⟩
abbrev REC_TRG_B (i : Nat) : Nat := 0x111004 + 0x8 * i
abbrev REC_TRG_B_code : Fld := ⟨16, 16⟩
abbrev REC_TRG_B_mask : Fld := ⟨0, 16⟩
abbrev REC_LIST (i : Nat) : Nat := 0x112000 + 0x4 * i
abbrev REC_LIST_off : Fld := ⟨2, 20⟩
abbrev THM_STAT : Nat := 0x120000
abbrev THM_STAT_band : Fld := ⟨29, 3⟩
abbrev THM_STAT_model_err : Fld := ⟨28, 1⟩
abbrev THM_STAT_ord_run : Fld := ⟨27, 1⟩
abbrev THM_STAT_tbase : Fld := ⟨16, 8⟩
abbrev THM_STAT_pwr : Fld := ⟨0, 16⟩
abbrev THM_CFG : Nat := 0x120004
abbrev THM_CFG_tder : Fld := ⟨24, 8⟩
abbrev THM_CFG_vshut : Fld := ⟨16, 8⟩
abbrev THM_SHUT : Nat := 0x120008
abbrev THM_SHUT_mode : Fld := ⟨30, 2⟩
abbrev THM_SHUT_t_hw : Fld := ⟨16, 8⟩
abbrev THM_SHUT_t_ord : Fld := ⟨8, 8⟩
abbrev THM_SHUT_t_rst : Fld := ⟨0, 8⟩
abbrev THM_CNT : Nat := 0x12000C
abbrev THM_CNT_ord_cnt : Fld := ⟨24, 8⟩
abbrev THM_CNT_hw_cnt : Fld := ⟨16, 8⟩
abbrev THM_CNT_der_cnt : Fld := ⟨0, 16⟩
abbrev THM_NODE_IDX : Nat := 0x120010
abbrev THM_NODE_IDX_node : Fld := ⟨0, 8⟩
abbrev THM_NODE_DATA : Nat := 0x120014
abbrev THM_NODE_DATA_offset : Fld := ⟨16, 16⟩
abbrev THM_NODE_DATA_temp : Fld := ⟨0, 16⟩
abbrev UPD_SLOT : Nat := 0x130000
abbrev UPD_SLOT_act : Fld := ⟨31, 1⟩
abbrev UPD_SLOT_next : Fld := ⟨30, 1⟩
abbrev UPD_SLOT_trial : Fld := ⟨29, 1⟩
abbrev UPD_SLOT_tfail : Fld := ⟨28, 1⟩
abbrev UPD_SLOT_bfail : Fld := ⟨26, 2⟩
abbrev UPD_SLOT_valid_a : Fld := ⟨16, 8⟩
abbrev UPD_SLOT_valid_b : Fld := ⟨8, 8⟩
abbrev UPD_SESS : Nat := 0x130004
abbrev UPD_SESS_open : Fld := ⟨31, 1⟩
abbrev UPD_SESS_type : Fld := ⟨16, 8⟩
abbrev UPD_SESS_index : Fld := ⟨13, 3⟩
abbrev UPD_SESS_CNT : Nat := 0x130008
abbrev UPD_SESS_CNT_bytes : Fld := ⟨0, 32⟩
abbrev UPD_REQ : Nat := 0x13000C
abbrev UPD_REQ_key : Fld := ⟨16, 16⟩
abbrev UPD_INTAKE : Nat := 0x130010
abbrev UPD_INTAKE_en : Fld := ⟨31, 1⟩
abbrev UPD_INTAKE_addr : Fld := ⟨0, 31⟩
abbrev UPD_MIG : Nat := 0x130014
abbrev UPD_MIG_migrated : Fld := ⟨24, 8⟩
abbrev UPD_MIG_defaulted : Fld := ⟨16, 8⟩
abbrev UPD_MIG_dropped : Fld := ⟨8, 8⟩
abbrev UPD_MIG_new : Fld := ⟨0, 8⟩
abbrev UPD_AXO_CMD : Nat := 0x130100
abbrev UPD_AXO_CMD_cmd : Fld := ⟨0, 4⟩
abbrev UPD_AXO_ARG (i : Nat) : Nat := 0x130104 + 0x4 * i
abbrev UPD_AXO_ARG_arg : Fld := ⟨0, 32⟩
abbrev UPD_AXO_STAT : Nat := 0x130110
abbrev UPD_AXO_STAT_busy : Fld := ⟨31, 1⟩
abbrev UPD_AXO_STAT_status : Fld := ⟨16, 8⟩
abbrev UPD_AXO_STAT_result : Fld := ⟨8, 8⟩
abbrev UPD_AXO_STAT_reason : Fld := ⟨4, 4⟩
abbrev K12_STAT : Nat := 0x140000
abbrev K12_STAT_k12 : Fld := ⟨31, 1⟩
abbrev K12_STAT_ready : Fld := ⟨30, 1⟩
abbrev K12_STAT_leases : Fld := ⟨29, 1⟩
abbrev K12_STAT_hto : Fld := ⟨28, 1⟩
abbrev K12_STAT_cycle : Fld := ⟨0, 16⟩
abbrev K12_PORT : Nat := 0x140004
abbrev K12_PORT_frm_cnt : Fld := ⟨16, 16⟩
abbrev K12_PORT_bad_cnt : Fld := ⟨8, 8⟩
abbrev K12_PORT_addr_cnt : Fld := ⟨0, 8⟩
abbrev K12_PHASE : Nat := 0x140008
abbrev K12_PHASE_max_err : Fld := ⟨16, 16⟩
abbrev K12_PHASE_over_cnt : Fld := ⟨0, 16⟩
abbrev K12_MAP (i : Nat) : Nat := 0x141000 + 0x4 * i
abbrev K12_MAP_value : Fld := ⟨0, 16⟩
abbrev TST_UNLOCK : Nat := 0x150000
abbrev TST_UNLOCK_open : Fld := ⟨0, 1⟩
abbrev TST_FAB : Nat := 0x150004
abbrev TST_FAB_mask : Fld := ⟨29, 3⟩
abbrev TST_FAB_dly : Fld := ⟨0, 14⟩
abbrev TST_BP : Nat := 0x150008
abbrev TST_BP_classes : Fld := ⟨27, 5⟩
abbrev TST_BP_per : Fld := ⟨10, 10⟩
abbrev TST_BP_on : Fld := ⟨0, 10⟩
abbrev TST_JIT : Nat := 0x15000C
abbrev TST_JIT_nym_j : Fld := ⟨8, 8⟩
abbrev TST_JIT_db_j : Fld := ⟨0, 8⟩
abbrev TST_SEED : Nat := 0x150010
abbrev TST_SEED_seed : Fld := ⟨0, 32⟩
abbrev TST_CANERR : Nat := 0x150014
abbrev TST_CANERR_chans : Fld := ⟨24, 8⟩
abbrev TST_CANERR_count : Fld := ⟨16, 8⟩
abbrev TST_CANERR_pos : Fld := ⟨8, 8⟩
abbrev SYS_STATUS : Nat := 0x000004
abbrev SYS_STATUS_perturb : Fld := ⟨31, 1⟩
abbrev SYS_STATUS_perturb_seen : Fld := ⟨30, 1⟩
abbrev SYS_STATUS_tst_open : Fld := ⟨29, 1⟩
abbrev SYS_ID : Nat := 0x000000
abbrev SYS_ID_part : Fld := ⟨16, 16⟩
abbrev SYS_ID_major : Fld := ⟨8, 8⟩
abbrev SYS_ID_minor : Fld := ⟨0, 8⟩

end Sys2Proof.Machine
end

