-- ==== Sys2Proof/Machine/State.lean ====
section
/-! DEFINITION. The state of the module: its registers, its memory, every hidden record the chapters of spec/ name,
the queue of waiting commands and what the module has sent out; the reasons a step stops; the state at reset. -/

namespace Sys2Proof.Machine

/-- Why a step stops with a fault: the misuse lists of the chapters, whose behaviour the spec calls undefined.
Each is safe: the model stops where the spec promises nothing. (DESIGN CHOICE, log entry 8) -/
inductive Fault where
  /-- R9: a register write with a 1 in a reserved field. -/
  | reservedField
  /-- R6: an access to BAR0 that is no aligned 32-bit word. -/
  | registerAccess
  /-- R12: a length larger than the buffer it describes. -/
  | oversizeLength
  /-- R34: BAR2 misuse. -/
  | bar2Misuse
  /-- R87: misuse at start and stop. -/
  | startStopMisuse
  /-- R111: misuse of rings. -/
  | ringMisuse
  /-- R144: misuse of Nymgor. -/
  | nymgorMisuse
  /-- R176: misuse of the control engine. -/
  | controlEngineMisuse
  /-- R196: misuse of the triad. -/
  | triadMisuse
  /-- R219: misuse of the valve drive. -/
  | valveMisuse
  /-- R241: misuse of the load switches. -/
  | loadSwitchMisuse
  /-- R275: misuse of sensing and fusion. -/
  | sensingMisuse
  /-- R294: misuse of the setting loop. -/
  | settingLoopMisuse
  /-- R323: misuse of the vision pipeline. -/
  | visionMisuse
  /-- R349: misuse of GNSS and module time. -/
  | gnssMisuse
  /-- R371: misuse of the CAN channels. -/
  | canMisuse
  /-- R385: misuse of the switch and the PCIe ports. -/
  | netMisuse
  /-- R398: misuse of the DMA engine. -/
  | dmaMisuse
  /-- R422: misuse of the displays. -/
  | displayMisuse
  /-- R445: misuse of fault collection and the recorder. -/
  | recorderMisuse
  /-- R456: misuse of thermal management. -/
  | thermalMisuse
  /-- R471: misuse of the update path. -/
  | updateMisuse
  /-- R489: misuse of the K12 personality. -/
  | k12Misuse
  /-- R495: misuse of test perturbation. -/
  | testMisuse
deriving DecidableEq, Repr

/-- Why a step refuses. Safe: nothing follows from a command the model rejects. -/
inductive Refusal where
  /-- Raised by an arm of `exec` whose command has no meaning yet. -/
  | notModelled (mnemonic : String)
deriving DecidableEq, Repr

/-- What the module sends out, as it leaves it. (DESIGN CHOICE, log entry 95, DEDUCED, log entry 105) -/
inductive Emission where
  /-- A read request to host memory. -/
  | hostRead (addr len : Nat)
  /-- Words written to host memory from `addr` up. -/
  | hostWrite (addr : Nat) (ws : List Word)
  /-- Bytes written to host memory from `addr` up. -/
  | hostBytes (addr : Nat) (bs : List Byte)
  /-- A camera's trigger message on the upstream GPIO channel of its link (R297). -/
  | cameraTrigger (cam : Nat)
  /-- I2C items sent to a camera's sensor, the last of them refused when `nack` (R307, R321). -/
  | sensorItems (cam : Nat) (items : List Word) (nack : Bool)
  /-- The data of a BAR2 read; `poison` is the EP bit (R32). -/
  | bar2Data (bs : List Byte) (poison : Bool)
  /-- An MSI-X vector, whatever BAR4's table holds for it. (DESIGN CHOICE, log entry 140) -/
  | msix (vector : Nat)
  /-- The rising edge of the PPS output (R342). -/
  | pps
  /-- A ring frame handed to the switch for the host: destination MAC, EtherType and words (R108). -/
  | ringFrame (mac ethertype : Nat) (ws : List Word)
  /-- A frame leaving an external port of the switch (R375). -/
  | frame (port : Nat) (bs : List Byte)
  /-- A gPTP Sync with the count it carries, and a peer delay request with its stamp (R377). -/
  | sync (port count : Nat)
  | pdelay (port stamp : Nat)
  /-- What the grandmaster advertises: clockClass, clockAccuracy and timeSource (R344). -/
  | announce (port clockClass accuracy source : Nat)
  /-- Link training of an Ethernet port begins, as leader or follower (R373, R374). -/
  | train (port : Nat) (leader : Bool)
  /-- A read or a write to the modem, and the value its read brought (R383). -/
  | modem (write : Bool) (space addr : Nat) (v : Word)
  /-- What a memory read of the modem returns; none is Unsupported Request (R383). -/
  | modemData (bs : Option (List Byte))
  /-- A reply of axolotl on a path: seq, status and words (R468, R469). -/
  | axoReply (path : Nat) (src : BitVec 48) (seq status : Nat) (ws : List Word)
  /-- A triad event line with the tag of the release that raised it (R130). -/
  | triadLine (line tag : Nat)
  /-- What the legacy host port shifts out on SDO in a read (R475). -/
  | k12Data (v : Nat)
  /-- A frame of port A: none for a black one, or its pixels in row order, after composition and correction (R405, R406). -/
  | cabFrame (pix : Option (List (Nat × Nat × Nat)))
  /-- A frame of port B: the drive codes of the pixels that get drive (R410). -/
  | panelFrame (codes : List (Nat × Nat))
deriving DecidableEq, Repr

/-- How an orderly stop began (R83 to R86, R453, R467). -/
inductive StopKind where
  | wake | restart | off | thermal | upd
deriving DecidableEq, Repr

/-- An orderly stop that runs: its ts and what follows it. -/
structure StopRun where
  ts : Nat
  /-- How it began; a keyed SYS_RESTART write replaces it (R86). -/
  kind : StopKind
  /-- What began it (R432, the STOP entry's cause). -/
  began : StopKind
  /-- WAKE came on again after ts (R85). -/
  wakeAgain : Bool
  /-- WAKE has been off at some instant after the write with off 1 (R86). -/
  wakeSeenOff : Bool
  /-- Its STOP entry is written (R437). -/
  told : Bool
  flushed : Bool
deriving DecidableEq, Repr

/-- What the module waits for while its rails are off. -/
inductive StartWait where
  /-- WAKE on starts it, with cause 0 (R68). -/
  | powerOn
  /-- The internal power cycle after a hold-up; whether the logic feed is at 9.0 V or more 100 ms later (R62). -/
  | holdUp (lf : Bool)
  /-- 100 ms off, then a start with the given cause, if WAKE is on (R62, R85, R86, R467, R468). -/
  | after (cause : Nat)
  /-- SYS_RESTART with off 1: WAKE must be seen off and then on (R86). -/
  | wakeCycle (seenOff : Bool)
  /-- After a thermal shutdown: COOLING_CHECK decides (R454). -/
  | cooling
  /-- A cooling check has allowed the start of cause 4. -/
  | cooled
deriving DecidableEq, Repr

/-- A power feed beside its registers (R45, R47). -/
structure Feed where
  /-- Out of range, and whether for being too low. -/
  out : Bool
  under : Bool
  /-- The cycle of its return to range, until its channels have restarted. -/
  backAt : Option Nat
  /-- The excursion of the 1 s average above its limit is noted. -/
  ovlNoted : Bool
  /-- The fault of the 100 ms average is open. -/
  hiOpen : Bool
deriving DecidableEq, Repr

def Feed.init : Feed := ⟨false, false, none, false, false⟩

/-- Supply, start and stop (spec/02, spec/03). -/
structure Power where
  /-- The internal rails are up. -/
  on : Bool
  /-- Axolotl recovery mode (R467). -/
  axo : Bool
  /-- The cycle of power-good, t0. -/
  t0 : Nat
  /-- The start-up stages of R69 that have ended. -/
  passed : List Nat
  /-- The debounced WAKE level (R55), kept by the always-on domain. -/
  wake : Bool
  /-- The cycle of its last edge. -/
  wakeSince : Nat
  /-- The debounced SVC_DET is grounded (R374). -/
  svc : Bool
  /-- The cycle at which WAKE went off, while the stop delay runs (R83). -/
  wakeOffAt : Option Nat
  stop : Option StopRun
  /-- The cycle of the power-fail warning, while the hold-up runs (R59). -/
  holdUp : Option Nat
  railsOffAt : Nat
  wait : StartWait
  /-- The cycle at which the 1 s without a host link ends (R81). -/
  noLinkAt : Option Nat
  linkUp : Bool
  /-- Host PERST# is asserted. -/
  perst : Bool
  feeds : Cells Feed
  sumNoted : Bool
  /-- The logic feed is above 36 V (R46). -/
  lfOver : Bool
  /-- The retry cycle of each sensor supply that is off (R51), in SNS_SUP order. -/
  supRetry : Cells Nat
  /-- The write of pers_sel that is not yet in the store (R76). -/
  persWrite : Option Nat
  /-- The write of default settings is still to come (R79), and the host has had pers_sel stored before it. -/
  defaultsDue : Bool
  persHost : Bool
  /-- The bfail timer of this start has acted (R464). -/
  bfailCounted : Bool
  /-- The note of R81 is made. -/
  noLinkNoted : Bool
  /-- An image of items 1 to 3 of R77 failed, so that stage 11 is never reached; a model named in the settings failed. -/
  imgFail : Bool
  modelFail : Bool
  /-- Stages whose image failed its verification (R77). -/
  failed : List Nat
  /-- The hold-up was raised by the hardware thermal shutdown (R453). -/
  hwShut : Bool
  /-- The bank held less than 9 J at the warning (R61). -/
  bankLow : Bool
  /-- Why the module is in axolotl: 0 no valid image, 1 request, 2 R464. -/
  axoWhy : Nat
deriving DecidableEq, Repr

/-- DESIGN CHOICE, log entry 4. -/
def Power.init : Power :=
  { on := false, axo := false, t0 := 0, passed := [], wake := false, wakeSince := 0, svc := false, wakeOffAt := none, stop := none,
    holdUp := none, railsOffAt := 0, wait := .powerOn, noLinkAt := none, linkUp := false, perst := true,
    feeds := [], sumNoted := false, lfOver := false, supRetry := [], persWrite := none, defaultsDue := false,
    persHost := false, bfailCounted := false, noLinkNoted := false, imgFail := false, modelFail := false, failed := [], hwShut := false, bankLow := false, axoWhy := 0 }

/-- How far a descriptor has come (R94, R98, R99). -/
inductive DescSt where
  | read
  /-- Started; a FILL buffer carries the bytes and the records placed and the cycle of its first record. -/
  | started (len recs since : Nat)
  | ended (status len result : Nat)
deriving DecidableEq, Repr

/-- A descriptor the module has taken: its slot, which carries the number of the ring's start above its 16 bits, its
16 words (R95) and how far it has come. -/
structure RDesc where
  slot : Nat
  ws : List Word
  st : DescSt
  /-- Its due position has been reached since it was taken (R97, R113). -/
  late : Bool
deriving DecidableEq, Repr

/-- A ring beside its registers (R88 to R103). -/
structure Ring where
  /-- The descriptors taken whose entries are not yet written, in ring order. -/
  descs : List RDesc
  /-- An interrupt has fallen due and is not yet sent (R100). -/
  irqDue : Bool
  /-- The cycle until which the ring does not send its vector again. -/
  irqFree : Nat
  /-- Ethernet carriage: entries written and not yet sent in a COMPLETION frame, oldest first, each with the cycle of its
  writing (R109). -/
  cqPend : List (Nat × List Word)
  /-- How often the ring has started: operations of an earlier start find their descriptor gone. -/
  epoch : Nat
  /-- The cycle until which a descriptor read from before the last stop may still fail (R106). -/
  readTill : Nat
deriving DecidableEq, Repr

def Ring.init : Ring := ⟨[], false, 0, [], 0, 0⟩

/-- What reports a hand-over number: the result word of a descriptor, by ring and slot, or a register (R141, R142). -/
inductive HoRef where
  | op (ring slot : Nat)
  | reg (off : Nat)
deriving DecidableEq, Repr

/-- The ring engine (spec/04). -/
structure Rings where
  rings : Cells Ring
  /-- Reads of each doorbell line that are under way (R92). -/
  lines : Cells Nat
  /-- The module's own COMPLETION frame count (R108). -/
  frameSeq : Nat
  /-- Records waiting for a buffer of receive function 16 × block + func, oldest first. -/
  stage : Cells (List (List Word))
  /-- The hand-over numbers reported in a cycle, by block: a hand-over of that cycle counts in them (R141, R173, R290). -/
  refs : Nat × List (Nat × HoRef)
deriving DecidableEq, Repr

def Rings.init : Rings := ⟨[], [], 0, [], (0, [])⟩

/-- A fault record still to be made: raised before stage 10 (R423), or about to be recorded. -/
structure FltEv where
  time : Nat
  cyc : Nat
  code : Nat
  cls : Nat
  detail : Nat
  /-- 0 RAISED, 1 CLEARED, 2 PERSISTING, 3 ESCALATION. -/
  kind : Nat
  fenced : Bool
deriving DecidableEq, Repr

/-- A fault whose recovery window is open (R426). -/
structure FltWin where
  code : Nat
  detail : Nat
  cls : Nat
  seq : Nat
  since : Nat
  /-- Its PERSISTING record is written (R427). -/
  told : Bool
deriving DecidableEq, Repr

/-- Fault collection (spec/18). -/
structure Flt where
  held : List FltEv
  /-- In order of raising. -/
  wins : List FltWin
  /-- CROAK has been alive and has stopped for good in this run (R430). -/
  croakStopped : Bool
  /-- The cycle of the next toggle of CROAK. -/
  croakAt : Nat
  /-- Codes limited to one note a second, and the cycle of the last. -/
  noteAt : Cells (Option Nat)
  /-- The cycle of the last write of an FLT or REC register, and what those written in it held before (R444). -/
  was : Nat × Cells (Option Word)
deriving DecidableEq, Repr

def Flt.init : Flt := ⟨[], [], false, 0, [], (0, [])⟩

/-- An entry of the recorder (R432): its number and its words. -/
structure RecEntry where
  seq : Nat
  ws : List Word
deriving DecidableEq, Repr

/-- The event recorder (R432 to R441). `store`, `nextSeq`, `full`, `lost`, `marker` and `clean` are in flash. -/
structure Recorder where
  /-- The volatile buffer, oldest first. -/
  buf : List RecEntry
  store : List RecEntry
  nextSeq : Nat
  full : Bool
  lost : Nat
  /-- The hold-up marker: the newest seq at the warning and the MTIME of the warning (R437). -/
  marker : Option (Nat × Nat)
  /-- The last run ended with a STOP entry. -/
  clean : Bool
  /-- Entries of the flush that runs. -/
  flush : Option Nat
  /-- A flush has fallen due (R435). -/
  flushDue : Bool
  /-- Entries dropped since the last entry, and the first seq dropped (R434). -/
  gap : Nat
  gapFirst : Nat
  /-- The cycle from which the periodic flush time counts. -/
  perFrom : Nat
  /-- The live challenge: its issue MTIME and the cycle of its expiry (R440). -/
  chal : Option (Nat × Nat)
  /-- Entries offered through the mirror and not yet drained (R439). -/
  mirror : List RecEntry
  /-- Bytes of the first of them drained. -/
  mirrorOff : Nat
  mirrorGap : Nat
  mirrorFirst : Nat
  /-- FLUSH descriptors that wait for the flush that has fallen due, and for the one that runs: ring and slot. -/
  flushOps : List (Nat × Nat)
  flushRun : List (Nat × Nat)
  /-- CLEARs that wait for the end of a flush, each with the issue MTIME of its challenge. -/
  clearOps : List ((Nat × Nat) × Nat)
  /-- The cycle of the last snapshots and how many of them there were (R438). -/
  snapCyc : Nat
  snapN : Nat
deriving DecidableEq, Repr

/-- DESIGN CHOICE, log entry 12. -/
def Recorder.init : Recorder :=
  { buf := [], store := [], nextSeq := 0, full := false, lost := 0, marker := none, clean := true,
    flush := none, flushDue := false, gap := 0, gapFirst := 0, perFrom := 0, chal := none, mirror := [], mirrorOff := 0,
    mirrorGap := 0, mirrorFirst := 0, flushOps := [], flushRun := [], clearOps := [], snapCyc := 0, snapN := 0 }

/-- A SHAFT schedule domain beside its registers (R112 to R123). Positions carry 24 fraction bits where said. -/
structure Shaft where
  /-- Position with 24 fraction bits, as it stood at cycle `anchor`. -/
  posF : Int
  anchor : Nat
  /-- Turn units per cycle, Q8.24. -/
  rate : Nat
  /-- One turn unit short of the next edge. -/
  limit : Int
  /-- +1 forward, -1 reverse. -/
  fwd : Bool
  rPrev : Nat
  rNew : Nat
  /-- Whole revolutions of the edge position, in turn units. -/
  revBase : Int
  /-- Edge position of the last edge, 0 to E - 1. -/
  edge : Nat
  /-- The cycle of the last edge since the enable, the last stall or the last change of direction. -/
  tEdge : Option Nat
  /-- The cycle from which the stall time counts. -/
  stallFrom : Nat
  /-- Edge periods that qualify, the latest first, at most three. -/
  per : List Nat
  /-- Edges since the last gap or index pulse, signed. -/
  cnt : Int
  /-- A gap or an index pulse has been seen since the enable. -/
  seen : Bool
  /-- An index pulse has come since the last edge; the count of edges it closed. -/
  idx : Option Int
  fast : Bool
  /-- The cycle at which the domain last came to SYNC, and how often it has jumped (R135). -/
  syncAt : Nat
  jumps : Nat
deriving DecidableEq, Repr

def Shaft.init : Shaft :=
  { posF := 0, anchor := 0, rate := 0, limit := 0, fwd := true, rPrev := 0, rNew := 0, revBase := 0, edge := 0,
    tEdge := none, stallFrom := 0, per := [], cnt := 0, seen := false, idx := none, fast := false,
    syncAt := 0, jumps := 0 }

/-- The GROUND schedule domain beside its registers (R124 to R126). -/
structure Ground where
  /-- Position in 0.1 mm with 24 fraction bits at cycle `anchor`. -/
  posF : Int
  anchor : Nat
  /-- 0.1 mm per cycle, Q8.24, signed by the direction of travel. -/
  rate : Int
  /-- Scale in units of 2^-24. -/
  scale : Nat
  lastPulse : Option Nat
  /-- The wheel's pulse period in cycles, 0 when it stands, and the square of the GNSS ground speed in (mm/s)², while they
  are known. -/
  wheel : Option Nat
  gnss : Option Nat
  gnssRev : Bool
  /-- The cycle at which a source last gave a speed, and the cycle of the enable. -/
  srcAt : Nat
  since : Nat
  /-- The cycle this second began, its wheel pulses, its GNSS distance in µm, and whether both speeds stayed above
  0.5 m/s. -/
  secFrom : Nat
  dWheel : Nat
  dGnss : Nat
  bothFast : Bool
deriving DecidableEq, Repr

def Ground.init : Ground :=
  { posF := 0, anchor := 0, rate := 0, scale := 2 ^ 24, lastPulse := none, wheel := none, gnss := none,
    gnssRev := false, srcAt := 0, since := 0, secFrom := 0, dWheel := 0, dGnss := 0, bothFast := false }

/-- An event-table entry: its halves and its run state (R128, R129). -/
structure EvEntry where
  act : List Word
  sh : List Word
  arm : Int
  nom : Int
  lag : Nat
  armed : Bool
  /-- 0 none, 1 commit at arm, 2 commit now. -/
  pending : Nat
  /-- The cycle of the commit. -/
  pendAt : Nat
  left : Nat
  hoSeq : Nat
  wrSeq : Nat
  /-- The cycle in which the position was reached, once that is kept: the domain may turn back before the release
  (R113, R134). -/
  hit : Option Nat
  /-- The occurrence was passed by a jump, or armed behind the position: its release is late (R133, R135, R140). -/
  missed : Bool
  /-- Such an occurrence of a jump: it waits by its arm (R135). -/
  leapt : Bool
  /-- The direction in effect. -/
  fwd : Bool
  /-- To be armed at the first synchronisation of its domain (R133). -/
  await : Bool
  /-- The cycle of a disarm that acts in the next one (R141). -/
  disarmAt : Option Nat
  /-- The cycle of the last shadow write, and the shadow half before that cycle's writes (R139). -/
  wroteAt : Nat
  prevSh : List Word
  /-- What was pending before the commits of cycle `pendAt` (R139). -/
  prevPend : Nat
deriving DecidableEq, Repr

def EvEntry.init : EvEntry :=
  { act := List.replicate 8 0#32, sh := List.replicate 8 0#32, arm := 0, nom := 0, lag := 0, armed := false,
    pending := 0, pendAt := 0, left := 0, hoSeq := 0, wrSeq := 0, hit := none, missed := false,
    leapt := false, fwd := true, await := false, disarmAt := none, wroteAt := 0, prevSh := List.replicate 8 0#32, prevPend := 0 }

/-- Nymgor (spec/05). -/
structure Nym where
  shafts : Cells Shaft
  gnd : Ground
  ev : Cells EvEntry
  /-- The module-wide trigger index of CAMERA releases (R130). -/
  trigIdx : Nat
  /-- The cycle of the last releases, their number and the target units they acted on (R134). -/
  relCyc : Nat
  relN : Nat
  relUnits : List (Nat × Nat)
  /-- Where a domain stood in the cycle before the one in which its course last changed: that cycle and the position. -/
  prev : Cells (Option (Nat × Int))
deriving DecidableEq, Repr

def Nym.init : Nym := ⟨[], Ground.init, [], 0, 0, 0, [], []⟩

/-- A valve channel beside its registers (R197 to R216). Its active code is VDR_STATn.active. -/
structure Valve where
  shadow : Nat
  /-- The shadow was written since the last hand-over, the cycle of that write, and whether a loop wrote last. -/
  wrote : Bool
  wroteAt : Nat
  byLoop : Bool
  /-- The waiting shadow as it stood before the writes of cycle `wroteAt` (R206). -/
  prev : Option Nat
  /-- Off at once under R207, its active code kept. -/
  down : Bool
  /-- A code waits for the minimum off-time (R208). -/
  waitOff : Bool
  /-- The duty of the period that runs, in units of 1/65,536. -/
  duty : Nat
  /-- The ramped target, 16 fraction bits below one code (R201). -/
  ramp : Nat
  /-- Estimated coil resistance in mΩ (R199). -/
  rEst : Nat
  /-- The cycle of the enable, E of R205. -/
  since : Nat
  /-- Whole PWM periods into the dither period (R202). -/
  dither : Nat
  /-- The dither amplitude and length in force, taken at the dither period's start. -/
  dAmp : Nat
  dLen : Nat
  /-- The cycle at which the channel's minimum off-time ends (R208). -/
  offEnd : Nat
  /-- The cycle at which the retry wait ends, while the channel is in TRIP (R210). -/
  retryAt : Option Nat
  /-- The cycle of the last restart after a trip, while its 100 ms run. -/
  restartAt : Option Nat
  /-- A trip fault is open: 0 none, 1 OUT, 2 RTN. -/
  tripped : Nat
  latched : Bool
  /-- What was left of a retry wait that the thermal latch suspends (R210). -/
  retryLeft : Option Nat
  /-- The thermal latch (R452). -/
  therm : Bool
  /-- The cycle since which a deferral runs (R216). -/
  deferAt : Option Nat
  /-- Off for a feed out of range or the logic feed's overvoltage (R45, R46). -/
  feedOff : Bool
  /-- The cycles since which the open-load and the headroom conditions hold (R211, R212), and whether they are noted. -/
  lowAt : Option Nat
  headAt : Option Nat
  lowTold : Bool
  headTold : Bool
  /-- The regulated value of the period that runs, with 16 fraction bits, and the integral correction of the duty, in
  units of 2^-32 of the period (R199). -/
  aim : Nat
  integ : Int
  /-- The target code of the fast decay under way (R200). -/
  decay : Option Nat
  /-- The clamp energy since the last model update, in nJ (R200). -/
  clamp : Nat
  /-- clr_latch was written while the thermal latch held (R210). -/
  clrPending : Bool
  /-- The partner's period end has taken the code of this one to 0: that cycle, and the duty of the period it ended. -/
  ran : Option (Nat × Nat)
deriving DecidableEq, Repr

def Valve.init : Valve :=
  { shadow := 0, wrote := false, wroteAt := 0, byLoop := false, prev := none, down := false, waitOff := false,
    duty := 0, ramp := 0, rEst := 10000, since := 0, dither := 0,
    dAmp := 0, dLen := 0, offEnd := 0, retryAt := none, restartAt := none, tripped := 0, latched := false,
    retryLeft := none, therm := false, deferAt := none, feedOff := false, lowAt := none, headAt := none,
    lowTold := false, headTold := false, aim := 0, integ := 0, decay := none, clamp := 0, clrPending := false, ran := none }

/-- A load switch beside its registers (R220 to R238). Modes: 0 off, 1 on, 2 duty. -/
structure Switch where
  shMode : Nat
  shDuty : Nat
  wrote : Bool
  wroteAt : Nat
  byLoop : Bool
  /-- The waiting shadow as it stood before the writes of cycle `wroteAt` (R225). -/
  prev : Option (Nat × Nat)
  actMode : Nat
  actDuty : Nat
  /-- The channel has been turned on and conducts when its period says so. -/
  on : Bool
  everOn : Bool
  inrushEnd : Option Nat
  retryAt : Option Nat
  /-- What was left of a retry wait that the thermal latch suspends (R233). -/
  retryLeft : Option Nat
  restartAt : Option Nat
  tripped : Bool
  latched : Bool
  therm : Bool
  /-- clr_latch was written while the thermal latch held (R233). -/
  clrPending : Bool
  /-- Ends of the start-up and recovery protected phases (R234). -/
  protEnd : Option Nat
  /-- Throttled under R235, and only because of the inrush window. -/
  throttled : Bool
  thrInrush : Bool
  feedOff : Bool
  /-- The cycle in which the thermal latch was entered (R233). -/
  thermAt : Nat
  /-- A short or an overload could trip the channel as its thermal latch was entered (R233). -/
  shortOk : Bool
  ovlOk : Bool
  /-- The cycle of the last trip, and retry_cnt and LATCH before it (R233). -/
  tripAt : Nat
  cntWas : Nat
  latchWas : Bool
  /-- The current limit in force, in mA (R220, R235, R451). -/
  limit : Nat
  /-- The cycle of the last on-edge (R229, R237). -/
  edgeAt : Nat
  /-- The cycle in which the period in progress began; none until a period has ended since the enable (R223). -/
  periodAt : Option Nat
  /-- The cycle since which the channel is on outside an inrush window (R230, R237). -/
  calmAt : Option Nat
  /-- Cycles counted by the overload test so far, and the cycle since which it counts (R230). -/
  ovlAcc : Nat
  ovlRun : Option Nat
  /-- On-time in ns below the open-load threshold, and whether open load has been found in it (R237). -/
  olAcc : Nat
  olTold : Bool
deriving DecidableEq, Repr

def Switch.init : Switch :=
  { shMode := 0, shDuty := 0, wrote := false, wroteAt := 0, byLoop := false, prev := none, actMode := 0, actDuty := 0, on := false,
    everOn := false, inrushEnd := none, retryAt := none, retryLeft := none, restartAt := none, tripped := false,
    latched := false, therm := false, clrPending := false, protEnd := none, throttled := false, thrInrush := false,
    feedOff := false, thermAt := 0, shortOk := false, ovlOk := false, tripAt := 0, cntWas := 0, latchWas := false,
    limit := 0, edgeAt := 0, periodAt := none, calmAt := none, ovlAcc := 0, ovlRun := none, olAcc := 0, olTold := false }

/-- A CAN frame in a transmit queue (R358). -/
structure TxFrame where
  fdf : Bool
  brs : Bool
  ide : Bool
  id : Nat
  dlc : Nat
  data : List Byte
  /-- The template and the loop of a control-engine frame (R165). -/
  tmpl : Option (Nat × Nat)
  /-- The SEND descriptor it came from. -/
  op : Option (Nat × Nat)
  /-- Its last attempt met an error: the next one is a retry (R360). -/
  again : Bool
deriving DecidableEq, Repr

/-- A CAN channel beside its registers (spec/14). -/
structure CanCh where
  q : Cells (List TxFrame)
  /-- The queue whose head is being sent, while it is. -/
  cur : Option Nat
  /-- The frame that waits behind the one in transmission in its place (R361). -/
  behind : Option TxFrame
  /-- The frame in transmission leaves its queue when its attempt ends (R362, R363, R370). -/
  curGone : Bool
  /-- Records were dropped since the last one delivered (R357). -/
  lost : Bool
  /-- The cycle of a disable, while the frame then on the bus may still end (R370). -/
  left : Option Nat
deriving DecidableEq, Repr

def CanCh.init : CanCh := ⟨[], none, none, false, false, none⟩

/-- What a load switch reports to the camera pipeline at a hand-over (R226): period in µs, offset in ns, active duty and
the MTIME of the hand-over. Period 0: the channel was not reported at its last hand-over (R240). -/
structure Lamp where
  period : Nat
  offset : Nat
  duty : Nat
  stamp : Nat
deriving DecidableEq, Repr

def Lamp.init : Lamp := ⟨0, 0, 0, 0⟩

/-- An evaluation under way as MTIME stepped: the cycle of its slot start, its trigger instant, whether it waits on the
catch-up lane, and its sample (R149). -/
structure Flight where
  start : Nat
  trig : Nat
  lane : Bool
  sample : Option Int
deriving DecidableEq, Repr

/-- A loop of the control engine: both halves and the run state (R167, R168). -/
structure Loop where
  act : List Word
  sh : List Word
  /-- Q16.48. -/
  r64 : Int
  v64 : Int
  a64 : Int
  /-- Q16.24. -/
  integ : Int
  df : Int
  xPrev : Int
  nom : Nat
  trig : Nat
  lag : Nat
  auth : Bool
  pending : Bool
  pendAt : Nat
  moving : Bool
  clampHi : Bool
  clampLo : Bool
  hoSeq : Nat
  wrSeq : Nat
  resetD : Bool
  /-- The first evaluation after the enable sets r64 and T to y (R170). -/
  fresh : Bool
  /-- CLEAR_STATE waits for the next evaluation (R173). -/
  clear : Bool
  /-- A target written and not yet taken, the cycle of its write and the ring operation it came from (R152). -/
  newTgt : Option (Int × Nat × Option (Nat × Nat))
  /-- The target that waited before the writes of that cycle. -/
  prevTgt : Option Int
  /-- The ring operations that wait for the take, with the cycle of their write. -/
  tgtOps : List ((Nat × Nat) × Nat)
  /-- The cycle of the last shadow write, and the shadow half before that cycle's writes (R169). -/
  wroteAt : Nat
  prevSh : List Word
  /-- A commit waited before the commits of cycle `pendAt`. -/
  prevPend : Bool
  /-- The loop runs on the catch-up lane. -/
  cu : Bool
  /-- The trigger has been issued, and the sample is held when it has a raw value. -/
  trigged : Bool
  sample : Option Int
  /-- Evaluations with authority since the enabling hand-over (R165). -/
  canCnt : Nat
  /-- An evaluation under way as MTIME stepped: it runs on, beside the new grid (R149). -/
  flight : Option Flight
deriving DecidableEq, Repr

def Loop.init : Loop :=
  { act := List.replicate 32 0#32, sh := List.replicate 32 0#32, r64 := 0, v64 := 0, a64 := 0, integ := 0, df := 0,
    xPrev := 0, nom := 0, trig := 0, lag := 0, auth := false, pending := false, pendAt := 0, moving := false,
    clampHi := false, clampLo := false, hoSeq := 0, wrSeq := 0, resetD := false, fresh := false, clear := false,
    newTgt := none, prevTgt := none, tgtOps := [], wroteAt := 0, prevSh := List.replicate 32 0#32, prevPend := false,
     cu := false, trigged := false, sample := none, canCnt := 0, flight := none }

/-- A SET_TARGETS under way: its descriptor and the loops whose pairs are still to be taken (R172). -/
structure TgtsOp where
  op : Nat × Nat
  left : List Nat
  count : Nat
  sat : Bool
deriving DecidableEq, Repr

/-- The control engine (spec/06). -/
structure Cle where
  loops : Cells Loop
  /-- The friction and cogging pool. -/
  pool : Cells Word
  /-- Evaluations in the present 1 ms window, and the cycle it began. -/
  evals : Nat
  winFrom : Nat
  tgts : List TgtsOp
  /-- The cycle at which the catch-up lane is free (R148). -/
  laneFree : Nat
deriving DecidableEq, Repr

def Cle.init : Cle := ⟨[], [], 0, 0, [], 0⟩

/-- An actuator group beside its registers (R183 to R188). -/
structure Group where
  /-- A lease on it has been granted in this run (R72). -/
  granted : Bool
  /-- The cycle at which the lease lapses. -/
  expiry : Nat
  /-- The cycle at which a HOLD safe state ends (R188). -/
  holdEnd : Option Nat
  /-- The cycle of the last DRIVE or RENEW that completed (R185). -/
  driveAt : Option Nat
deriving DecidableEq, Repr

def Group.init : Group := ⟨false, 0, none, none⟩

/-- What a TRI operation that waits for a commit asks for (R193). -/
inductive TriReq where
  | setSp (slot : Nat) (v : Word)
  | pathClear (lat lon : Word) (w : Nat)
  | grant (g h : Nat)
  | release (g : Nat)
  | setState (m : Nat)
deriving DecidableEq, Repr

structure TriOp where
  op : Nat × Nat
  req : TriReq
deriving DecidableEq, Repr

/-- A point of the path (R191): mm east and north of the origin. -/
structure PathPt where
  x : Int
  y : Int
  last : Bool
deriving DecidableEq, Repr

/-- What the leases were as a cycle began, for the groups touched in it: the cycle, the groups whose lease expired, each
touched group with its TRI_GRPg, TRI_GCNTg and record, and its channels with their WSEQ before the safe state (R184,
R187). -/
structure Ended where
  cyc : Nat
  groups : List Nat
  was : List (Nat × Word × Word × Group)
  valves : List (Nat × Valve × Word)
  switches : List (Nat × Switch × Word)
deriving DecidableEq, Repr

/-- The triad and the lease logic (spec/07). -/
structure Tri where
  groups : Cells Group
  /-- The group of each item, coded as in TRI_GMAP_IDX; unlisted items are in group 1 (R195). -/
  gmap : Cells Nat
  /-- Operations that wait for a commit, in ring order of taking. -/
  ops : List TriOp
  /-- The set-point slots of the last voted record. -/
  sps : List Word
  path : List PathPt
  origin : Word × Word
  wheelbase : Nat
  /-- The number of the next commit, the cycle of its due instant (R177, R181), and whether MTIME has stepped while it
  was due. -/
  nextK : Nat
  due : Nat
  stepped : Bool
  /-- The escalation instant of limp-home, and whether the safe states have been applied (R182). -/
  limpAt : Option Nat
  limpDone : Bool
  /-- The cycle from which both override inputs have been inactive (R189). -/
  ovrFrom : Nat
  /-- The cycle since which NYM_GND_STAT.speed has read 0 (R192). -/
  stillFrom : Nat
  ended : Ended
  /-- The cycle in which the override last changed, and whether it shut group 0 as that cycle began (R184). -/
  ovrWas : Option (Nat × Bool)
  /-- The group map's writes of a cycle: the cycle, and each item with the group it had (R187). -/
  mapped : Nat × List (Nat × Nat)
  /-- TRI_CFG as it applies since the last commit (R194). -/
  cfg : Word
deriving DecidableEq, Repr

def Tri.init : Tri :=
  { groups := [], gmap := [], ops := [], sps := [0#32, 0#32, 0#32], path := [], origin := (0#32, 0#32),
    wheelbase := 0, nextK := 0, due := 0, stepped := false, limpAt := none, limpDone := false, ovrFrom := 0, stillFrom := 0,
    ended := ⟨0, [], [], [], []⟩, ovrWas := none, mapped := (0, []), cfg := 0x32#32 }

/-- The thermal model (spec/19). Nodes are numbered as R497 numbers them; temperatures are in 1/16 °C. -/
structure Thm where
  /-- The network's estimate of each node in 1/2^24 °C, without the additions of R447. -/
  temps : Cells Int
  /-- The estimate of each node from the last model update in 1/16 °C, with the additions of then (R497). -/
  est : Cells Int
  /-- The thermistor correction of the nodes that hold one, in 1/1024 K (R447). -/
  offs : Cells Int
  /-- The divergence added to every junction and case node while fault 0x1201 holds. -/
  diverg : Int
  /-- The cycle since which each difference has been above 10 K, and since which all have been below 5 K. -/
  divFrom : Cells (Option Nat)
  calmFrom : Option Nat
  /-- Base thermistors excluded. -/
  excl : List Nat
  /-- Tb of each round of the last second, the latest first. -/
  tbs : List Int
  /-- THM_CFG and THM_SHUT as they apply since the last round (R455). -/
  cfg : Word
  shut : Word
  /-- LSW_TCFG as it applies since the last model update (R240). -/
  tcfg : Word
  /-- The derating factor of each channel in 1/1280, by junction node (R450). -/
  k : Cells Nat
  /-- Feeds under the feed cap of R450. -/
  feedCap : List Nat
  modelAt : Nat
  derAt : Nat
  /-- The cycle of the last housekeeping round and whether one has ended in this run (R63). -/
  roundAt : Nat
  rounds : Bool
  /-- The cycle of the last comparator reading after a shutdown (R454). -/
  coolAt : Nat
deriving DecidableEq, Repr

def Thm.init : Thm :=
  { temps := [], est := [], offs := [], diverg := 0, divFrom := [], calmFrom := none, excl := [], tbs := [], cfg := 0x8CA50000#32,
    shut := 0xC0645A46#32, tcfg := 0x3C0F9614#32, k := [], feedCap := [], modelAt := 0, derAt := 0, roundAt := 0, rounds := false, coolAt := 0 }

/-- A rectangle of a panel: left, top, width, height. -/
structure Area where
  x : Nat
  y : Nat
  w : Nat
  h : Nat
deriving DecidableEq, Repr

/-- An image in flash (R457, R458): whether it is valid, its header words, its payload. -/
structure Image where
  valid : Bool
  hdr : List Word
  pay : List Byte
deriving DecidableEq, Repr

def Image.init : Image := ⟨false, [], []⟩

/-- The boot record (R463): the confirmed slot, the slot of the next start, a trial, and that the trial start has
begun. -/
structure Boot where
  act : Nat
  next : Nat
  trial : Bool
  trying : Bool
deriving DecidableEq, Repr

/-- An item of the settings store: identifier, version, data. -/
structure SetItem where
  id : Nat
  ver : Nat
  data : List Byte
deriving DecidableEq, Repr

/-- The migration report (R466). -/
structure MigReport where
  time : Nat
  from_ : Nat
  to_ : Nat
  entries : List Word
deriving DecidableEq, Repr

/-- What the module keeps in flash and in the always-on domain beside the recorder. -/
structure Store where
  /-- The CAN set-up copy: CFG, NBT, DBT and QCFG of CAN0 to CAN7 (R352). -/
  canCopy : Option (List Word)
  /-- The always-on seconds count and the cycle at which it was set; none when it was lost (R337). -/
  secs : Option (Nat × Nat)
  /-- Yield records in the flash store not yet delivered to the host, oldest first (R269). -/
  yields : List (List Word)
  /-- Port B: the copy of the frame store, the dirty map, and whether it is the whole panel (R415, R417). -/
  epd : Option (Cells Nat × Nat)
  dirty : List Area
  dirtyAll : Bool
  /-- Images by slot and type, and the rollback floors by type and index (R458, R460). -/
  imgs : Cells Image
  floors : Cells Nat
  boot : Boot
  /-- pers_sel in the header of the settings store (R75). -/
  pers : Nat
  /-- The settings store: its version and items, and what the module itself has stored in items by register: SYS_STOP_CFG,
  THM_CFG and THM_SHUT as the host wrote them, pers_sel, the transport delay, and under NYM_GND_STAT the scale of GROUND
  (R76, R83, R124, R270, R455). -/
  setVer : Nat
  items : List SetItem
  setRegs : Cells (Option Word)
  /-- Ephemerides and the last position, stored at stop (R348). -/
  eph : List (Nat × List Byte)
  lastPos : List Word
  /-- The store before the last migration, and its report (R465, R466). -/
  prior : Option (Nat × List SetItem × Cells (Option Word))
  report : MigReport
deriving DecidableEq, Repr

/-- The factory images: types 1 to 7 valid in slot A. (DESIGN CHOICE, log entry 12) -/
def factoryImgs : Cells Image := (List.range 7).map fun i => (16 * (i + 1), ⟨true, List.replicate 16 0#32, []⟩)

/-- DESIGN CHOICE, log entry 12. -/
def Store.init : Store :=
  { canCopy := none, secs := none, yields := [],
    epd := none, dirty := [], dirtyAll := false, imgs := factoryImgs,
    floors := [], boot := ⟨0, 0, false, false⟩, pers := 0, setVer := 0, items := [], setRegs := [],
    eph := [], lastPos := [], prior := none, report := ⟨0, 0, 0, []⟩ }

/-- Test perturbation beside its registers (spec/22). -/
structure Tst where
  /-- The cycle of the first key of the unlock sequence (R490). -/
  key : Option Nat
  /-- The cycle at which the perturbation whose condition has ceased is no longer enabled (R491). -/
  endAt : Option Nat
  /-- The draw generator. -/
  gen : Word
deriving DecidableEq, Repr

def Tst.init : Tst := ⟨none, none, 1#32⟩

/-- An exclusion of R335: of a signal, or with `con` of a constellation; `until` is none for one that lasts while its
condition does. -/
structure Excl where
  con : Bool
  id : Nat
  until_ : Option Nat
deriving DecidableEq, Repr

/-- A SNAPSHOT under way (R345): its descriptor, the MTIME it starts at, its length in ms, its stream mask, the cycle the
capture began, and whether MTIME has stepped during it. -/
structure SnapRun where
  op : Nat × Nat
  start : Nat
  len : Nat
  mask : Nat
  begun : Option Nat
  stepped : Bool
  /-- The frequency correction at its start, once that is known (R346). -/
  foff : Option Int
deriving DecidableEq, Repr

/-- How the ionosphere is taken out of a satellite's ranges (R325). -/
inductive IonoCorr where
  | free
  | sbas
  | broadcast
deriving DecidableEq, Repr

/-- A satellite tracked (R326): constellation and number, its L1 and L5 channels on antenna 0, its channels on antenna 1,
how the solution corrects it, none where it is not used, and the code and carrier range it then takes in mm (R325). -/
structure Track where
  con : Nat
  id : Nat
  l1 : Bool
  l5 : Bool
  n1 : Nat
  corr : Option IonoCorr
  range : Int × Int
deriving DecidableEq, Repr

/-- The base's last observations of a constellation (R333): the time of week of their epoch in ms, the satellite and signal
of each that R324 lists, and the message that holds them. -/
structure BaseObs where
  epoch : Nat
  cells : List (Nat × Nat)
  msg : List Byte
deriving DecidableEq, Repr

/-- GNSS and module time beside their registers (spec/13). -/
structure Gns where
  /-- The MTIME of the last fix epoch, and the last PVT message. -/
  epoch : Option Nat
  pvt : List Word
  /-- The last fix was usable (R330). -/
  usable : Bool
  /-- The MTIME of the epoch and the message of the last usable fix. -/
  useful : Option (Nat × List Word)
  /-- The last valid heading with its pitch, and its cycle (R329). -/
  heading : Option (Nat × Int × Nat)
  /-- The satellites tracked at the last fix epoch. -/
  tracks : List Track
  /-- The frequency correction of the reference in 10^-12 as it stood at a cycle, and the value it moves to (R20). -/
  foff : Int
  foffAt : Nat
  foffAim : Int
  /-- The cycle a slew began and the size of its error in ns (R339). -/
  slew : Option (Nat × Nat)
  /-- Ephemerides, by message type and satellite, and the last position stored at stop (R333, R348). -/
  eph : List (Nat × List Byte)
  lastPos : List Word
  excl : List Excl
  /-- Seconds in a row without a check that sets SUSPECT (R336). -/
  calm : Nat
  /-- Seconds in a row with a consistent time solution (R339). -/
  consist : Nat
  /-- The boundary of the last second handled and of the last PPS edge, and the cycle at which the PPS output falls. -/
  second : Option Nat
  edge : Option Nat
  ppsEnd : Option Nat
  /-- The seconds count was kept at power-good, and MTIME is valid (R337). -/
  kept : Bool
  valid : Bool
  /-- The cycle of the last second in LOCKED or SLEW, and the uncertainty then (R341). -/
  goodAt : Nat
  goodUnc : Nat
  /-- The cycle at which each antenna supply that is off retries, and since when one that is on is short; 0 for neither
  (R327). -/
  antRetry : Cells Nat
  antShortAt : Cells Nat
  /-- Correction bytes that end in an unfinished frame (R334). -/
  rtcm : List Byte
  /-- The cycle of the first CRC failure since a good frame, and whether it is noted. -/
  crcFrom : Option Nat
  crcTold : Bool
  /-- Station ID and reference position of the base in use, its X, Y and Z as sent, its observations by constellation, and
  a new base not yet reported. -/
  base : Option Nat
  basePos : List Nat
  baseObs : List (Nat × BaseObs)
  newBase : Bool
  snap : Option SnapRun
deriving DecidableEq, Repr

def Gns.init : Gns :=
  { epoch := none, pvt := [], usable := false, useful := none, heading := none, tracks := [],
    foff := 0, foffAt := 0, foffAim := 0, slew := none, eph := [], lastPos := [], excl := [], calm := 0, consist := 0, second := none,
    edge := none, ppsEnd := none, kept := false, valid := false, goodAt := 0, goodUnc := 0xFFFFFFFF, antRetry := [], antShortAt := [],
    rtcm := [], crcFrom := none, crcTold := false, base := none, basePos := [], baseObs := [], newBase := false, snap := none }
/-- A conversion under way of an analog input (R244): the cycle and the MTIME of its start, whether it was deferred, the
loops that asked for it, and the speeds of the shafts at its start, Q8.24 krpm. -/
structure AinConv where
  start : Nat
  stamp : Nat
  defer : Bool
  loops : List Nat
  speeds : List Int
deriving DecidableEq, Repr

/-- An analog input beside its registers (R244, R245). -/
structure Ain where
  /-- The cycle of the last conversion start. -/
  last : Option Nat
  /-- A deferred conversion, and the loops that wait for it. -/
  wait : Option (List Nat)
  conv : List AinConv
deriving DecidableEq, Repr

def Ain.init : Ain := ⟨none, none, []⟩

/-- A frequency input beside its registers (R246): the cycle of the last rising edge, the last complete period in cycles,
0 while there is none, the accepted level, and the cycle, the raw value and the mHz of the last latch. -/
structure FreqIn where
  rise : Option Nat
  per : Nat
  level : Bool
  latch : Option (Nat × Int × Nat)
deriving DecidableEq, Repr

def FreqIn.init : FreqIn := ⟨none, 0, false, none⟩

/-- An impact and its tag on each shaft of smask; no tag where it is not binned (R250). -/
structure Impact where
  t : Nat
  peak : Nat
  tags : List (Nat × Option Nat)
deriving DecidableEq, Repr

/-- A bank change under way (R251): the MTIME and the cycle of its instant, the instant count, and of each shaft the
position and the jumps at the instant; the excf settings by then. -/
structure Swap where
  at_ : Nat
  cyc : Nat
  seq : Nat
  pos : List Int
  jumps : List Nat
  excs : Nat
deriving DecidableEq, Repr

/-- A loss channel beside its registers (R248 to R251). State: 0 IDLE, 1 HIT, 2 WAIT. -/
structure LossCh where
  h : Int
  xPrev : Int
  env : Nat
  st : Nat
  tImp : Nat
  peak : Nat
  k : Nat
  /-- Impacts held for the next bank, oldest first. -/
  held : List Impact
  swaps : List Swap
  /-- How often excf has been set. -/
  excs : Nat
deriving DecidableEq, Repr

def LossCh.init : LossCh := ⟨0, 0, 0, 0, 0, 0, 0, [], [], 0⟩

/-- A bank of a hit map (R250 to R252): count and amplitude of each bin, the sums of its header, and its shaft's
position and jumps and its channel's excf settings when its interval began. -/
structure Bank where
  bins : Cells (Nat × Nat)
  total : Nat
  nosync : Nat
  sat : Bool
  pos : Int
  jumps : Nat
  excs : Nat
deriving DecidableEq, Repr

def Bank.init : Bank := ⟨[], 0, 0, false, 0, 0, 0⟩

/-- A hit map: the accumulating bank, and the filled bank with the MTIME of its swap, its instant count, its travel and
its JUMP and excf flags. -/
structure HitMap where
  acc : Bank
  fill : Bank
  out : Nat
  seq : Nat
  travel : Int
  jump : Bool
  exc : Bool
  /-- The cycle of the last swap. -/
  swapAt : Option Nat
deriving DecidableEq, Repr

def HitMap.init : HitMap := ⟨Bank.init, Bank.init, 0, 0, 0, false, false, none⟩

/-- The sensor front ends (spec/10). Hit maps are keyed 8 × channel + shaft. -/
structure Sns where
  ain : Cells Ain
  fin : Cells FreqIn
  /-- The last sample of the digital inputs, and the equal samples in a row of each, up to 255 (R247). -/
  din : Word
  run : Cells Nat
  loss : Cells LossCh
  maps : Cells HitMap
deriving DecidableEq, Repr

def Sns.init : Sns := ⟨[], [], 0#32, [], [], []⟩

/-- A sample a feature unit holds: of its second source or not, its capture time, its raw values (the scalars of a
frame), the elevator speed with it; for a frame, whether it is a gap flag (R258). -/
structure Smp where
  second : Bool
  cap : Nat
  vals : List Int
  speed : Int
  gap : Bool
deriving DecidableEq, Repr

/-- An instant a feature unit has not issued for: its MTIME, cycle and count, the GROUND position, and whether the
shaft its sources name was out of SYNC in the interval that ends there (R258). -/
structure UInst where
  at_ : Nat
  cyc : Nat
  seq : Nat
  gnd : Int
  nosync : Bool
deriving DecidableEq, Repr

/-- A feature unit beside its registers (R253 to R258). -/
structure FUnit where
  /-- The MTIME of the enable. -/
  since : Nat
  /-- The last instant issued for, or the enable: its MTIME, its cycle and GROUND there. -/
  prev : Nat
  prevCyc : Nat
  prevGnd : Int
  /-- Cycle of the last instant taken, or of the enable. -/
  lastCyc : Nat
  pend : List UInst
  smps : List Smp
  /-- Its next result sets LATE (R257). -/
  late : Bool
deriving DecidableEq, Repr

def FUnit.init : FUnit := ⟨0, 0, 0, 0, 0, [], [], false⟩

/-- A result on its way to the collector (R259): unit, schedule, instant count, the interval in MTIME, its 16 words, and
the control-engine cycle of its issue. -/
structure FRes where
  unit : Nat
  sched : Nat
  seq : Nat
  from_ : Nat
  at_ : Nat
  ws : List Word
  issued : Nat
deriving DecidableEq, Repr

/-- A collector port: the unit of its order it looks at, and the control-engine cycle from which it does. -/
structure CPort where
  pos : Nat
  free : Nat
deriving DecidableEq, Repr

def CPort.init : CPort := ⟨0, 0⟩

/-- An instant the collector has not committed (R260). -/
structure OpenInst where
  at_ : Nat
  cyc : Nat
  seq : Nat
  expected : List Nat
  taken : List FRes
deriving DecidableEq, Repr

/-- What the setting loop needs of the last committed record: its output time, its cycle, obs_valid and the vector. -/
structure FRec where
  out : Nat
  cyc : Nat
  valid : Nat
  obs : List Int
deriving DecidableEq, Repr

/-- A fusion schedule beside its registers. -/
structure Sched where
  count : Nat
  inst : Option OpenInst
  lateN : Nat
  /-- The last record and the one before it. -/
  last : Option FRec
  before : Option FRec
deriving DecidableEq, Repr

def Sched.init : Sched := ⟨0, none, 0, none, none⟩

/-- An entry of the position history (R266). -/
structure Hist where
  t : Nat
  g : Int
  lat : Word
  lon : Word
  fix : Nat
  mask : Nat
  down : Bool
deriving DecidableEq, Repr

/-- An open bin of the yield attribution: its wet mass, its mass times moisture and the mass with a known moisture, in
kg and kg × %, with 48 fraction bits. -/
structure YBin where
  b : Int
  mass : Int
  mw : Int
  mwMass : Int
deriving DecidableEq, Repr

/-- Yield attribution (R265 to R270). -/
structure Yield where
  first : Bool
  gLast : Int
  orphan : Int
  back : Bool
  adapted : Bool
  bins : List YBin
  /-- Records not yet in flash, and the cycle of the first (R269). -/
  wait : List (List Word)
  waitAt : Nat
  /-- Instants and flows of recent commits of the yield unit, the latest first. -/
  flows : List (Nat × Int)
  /-- The measurement under way: tL and the mean flow before it (R270). -/
  meas : Option (Nat × Int)
  /-- The header was down when last seen. -/
  down : Bool
  /-- The highest bin that the attribution has closed (R267). -/
  closed : Option Int
  /-- Bins not yet closed whose centre was crossed before the oldest entry of the history, and the entries about the
  crossing (R268). -/
  crossed : List (Int × Hist × Hist)
deriving DecidableEq, Repr

def Yield.init : Yield := ⟨true, 0, 0, false, false, [], [], 0, [], none, false, none, []⟩

/-- Fusion (spec/10). -/
structure Fus where
  units : Cells FUnit
  scheds : Cells Sched
  wait : List FRes
  ports : Cells CPort
  /-- The latest first, at most 4,096. -/
  hist : List Hist
  histAt : Nat
  yld : Yield
deriving DecidableEq, Repr

def Fus.init : Fus := ⟨[], [], [], [], [], 0, Yield.init⟩

/-- A step of the setting loop under way (R280 to R289): start MTIME and cycle, whether it runs under RUN, the output time
of its record, its flags so far, its trigger's number and problem, the settings with their loops and new values, and what
the report says of the iterations. -/
structure HslRun where
  start : Nat
  cyc : Nat
  run : Bool
  recOut : Nat
  flags : Nat
  seq : Word
  pho : Word
  sched : Nat
  set : List (Nat × Nat × Int)
  used : Nat
  d : List Int
  r : List Int
  j0 : Int
  j1 : Int
  /-- Its trigger: the domain, the nominal position, the period and the deadline in the domain's units (R283). -/
  dom : Nat
  nom : Int
  per : Nat
  dlp : Nat
deriving DecidableEq, Repr

/-- The setting loop beside its registers (spec/11). -/
structure Hsl where
  act : Cells Word
  sh : Cells Word
  pending : Bool
  pendAt : Nat
  /-- A commit waited before those of cycle `pendAt`. -/
  prevPend : Bool
  /-- The cycle of the last shadow write, and the shadow before that cycle's writes (R279). -/
  wroteAt : Nat
  prevSh : Cells Word
  /-- The trigger is armed, and its arm and nominal position (R282, R283). -/
  armed : Bool
  arm : Int
  nom : Int
  /-- The trigger has been armed afresh since the step that runs began (R287). -/
  rearmed : Bool
  run : Option HslRun
  /-- The mode in force, and HSL_CFG and HSL_BYP before the writes of the cycle they were last written in (R287). -/
  mode : Nat
  cfgAt : Nat
  cfgPrev : Word
  bypAt : Nat
  bypPrev : Word
deriving DecidableEq, Repr

def Hsl.init : Hsl :=
  { act := [], sh := [], pending := false, pendAt := 0, prevPend := false, wroteAt := 0, prevSh := [], armed := false,
    arm := 0, nom := 0, rearmed := false, run := none, mode := 0, cfgAt := 0, cfgPrev := 0#32, bypAt := 0, bypPrev := 0#32 }

/-- A trigger of a camera (R297 to R311): its index, the MTIME and cycle of its release, the delay in ns from there to
t_exp, what the lock used, and whether its message has left. -/
structure VTrig where
  idx : Nat
  rel : Nat
  relCyc : Nat
  delay : Nat
  /-- t_exp was fixed by a lamp lock, on this channel. -/
  lamp : Option Nat
  /-- Token and exposure in µs that the ON lock used. -/
  used : Option (Nat × Nat)
  /-- The exposure in µs of its frame, as far as it is known (R310). -/
  exp : Nat
  lockErr : Bool
  sent : Bool
deriving DecidableEq, Repr

/-- A paired frame in progress: its trigger, the cycle and MTIME of its Frame Start, frame number and token, the lines of
its height (none for a line whose payload CRC failed), the lines received, VIS_CAMc_SEQ of its parameters. -/
structure VFrame where
  trig : VTrig
  fsCyc : Nat
  fs : Nat
  fnum : Nat
  token : Nat
  lines : List (Option (List Nat))
  got : Nat
  ho : Word
deriving DecidableEq, Repr

/-- An accepted token (R308): its exposure, the cycle of its acceptance and the paired Frame Starts since. -/
structure VToken where
  token : Nat
  exp : Nat
  cyc : Nat
  seen : Nat
deriving DecidableEq, Repr

/-- A SET_EXPOSURE that waits to be written: its ring and slot, token, exposure in µs and I2C items (R307). -/
structure VExp where
  op : Nat × Nat
  token : Nat
  exp : Nat
  items : List Word
deriving DecidableEq, Repr

/-- A frame on its way to inference or through an encoder: t_exp, trigger index, MTIME of the release, camera, token,
damaged, LOCKERR; for an encoder, whether it is a gap; the elements of the tensor, or for an encoder the NV12 picture. -/
structure VItem where
  texp : Nat
  idx : Nat
  rel : Nat
  cam : Nat
  token : Nat
  bad : Bool
  lockErr : Bool
  gap : Bool
  data : List Byte
deriving DecidableEq, Repr

/-- A camera beside its registers (spec/12). -/
structure Cam where
  trigs : List VTrig
  /-- t_exp of the last sent trigger, in ns counted in cycles. -/
  lastExp : Option Nat
  frame : Option VFrame
  toks : List VToken
  /-- The token in force, 0 from the enable, and its exposure in µs. -/
  token : Nat
  exp : Nat
  exps : List VExp
  /-- The parameter block (R304). -/
  act : Cells Word
  sh : Cells Word
  pending : Bool
  pendAt : Nat
  prevPend : Bool
  wroteAt : Nat
  prevSh : Cells Word
  /-- Display frames not yet in a buffer, the buffer last made ready, and the one the compositor holds (R305). -/
  disp : List (List Byte)
  ready : Option Nat
  held : Option Nat
  /-- Tensors being formed, with their slots. -/
  tens : List (Nat × VItem)
deriving DecidableEq, Repr

def Cam.init : Cam :=
  { trigs := [], lastExp := none, frame := none, toks := [], token := 0, exp := 0, exps := [], act := [], sh := [], pending := false,
    pendAt := 0, prevPend := false, wroteAt := 0, prevSh := [], disp := [], ready := none, held := none, tens := [] }

/-- An encoder beside its registers (R313, R314). -/
structure Enc where
  q : List VItem
  /-- Pictures since the last IDR, and none before the first. -/
  since : Option Nat
  force : Bool
  resync : Bool
deriving DecidableEq, Repr

def Enc.init : Enc := ⟨[], none, false, false⟩

/-- A model slot: the 16 words of the model header while one is loaded, and the tensors that wait (R315 to R317). -/
structure Slot where
  model : Option (List Word)
  q : List VItem
deriving DecidableEq, Repr

def Slot.init : Slot := ⟨none, []⟩

/-- An A-PHY link (R81, R296): 0 supply off, 1 starting, 2 locked; the cycle of the last change, failed starts in a row,
the cycle of the retry, and gear_max as the last start took it (R322). -/
structure ALink where
  st : Nat
  since : Nat
  fails : Nat
  retryAt : Option Nat
  gmax : Nat
deriving DecidableEq, Repr

def ALink.init : ALink := ⟨0, 0, 0, none, 0⟩

/-- Vision and inference (spec/12). -/
structure Vis where
  cams : Cells Cam
  encs : Cells Enc
  slots : Cells Slot
  links : Cells ALink
  /-- The run of the inference engine: slot, model header, tensor, the cycle of its start. -/
  run : Option (Nat × List Word × VItem × Nat)
deriving DecidableEq, Repr

def Vis.init : Vis := ⟨[], [], [], [], none⟩


/-- A frame queued at an egress port, without its FCS, and its traffic class (R375). -/
structure NFrame where
  bs : List Byte
  tc : Nat
deriving DecidableEq, Repr

/-- A gate control list (R378): its base time and its entries, gates and interval in ns. -/
structure Gcl where
  base : Nat
  es : List (Nat × Nat)
deriving DecidableEq, Repr

def Gcl.init : Gcl := ⟨0, []⟩

/-- A port of the switch beside its registers (R375 to R379). -/
structure NPort where
  /-- Frames that wait, oldest first. -/
  q : List NFrame
  /-- When the frame in transmission ends, in 0.1 ns of the cycle count, and the cycle at which the queue was last served. -/
  busy : Nat
  served : Nat
  oper : Option Gcl
  /-- The entry in progress, the MTIME and the cycle its list's cycle began, the MTIME it ends; the list's cycle is cut
  there after a step of MTIME (R378). -/
  idx : Nat
  startM : Nat
  startCyc : Nat
  endM : Nat
  cut : Bool
  adm : Gcl
  pending : Bool
  /-- The cycle and the MTIME of the commit, and whether one waited before those of that cycle (R379). -/
  pendAt : Nat
  pendM : Nat
  prevPend : Bool
  /-- The cycle of the last write, and the administrative half before that cycle's writes. -/
  wroteAt : Nat
  prevAdm : Gcl
deriving DecidableEq, Repr

def NPort.init : NPort :=
  { q := [], busy := 0, served := 0, oper := none, idx := 0, startM := 0, startCyc := 0, endM := 0, cut := false, adm := Gcl.init,
    pending := false, pendAt := 0, pendM := 0, prevPend := false, wroteAt := 0, prevAdm := Gcl.init }

/-- A learned address (R375) and the cycle it was last seen. -/
structure Learned where
  mac : Nat
  vid : Nat
  port : Nat
  seen : Nat
deriving DecidableEq, Repr

/-- A stream filter (R380): its four words, whether it is blocked, and its meter's tokens in 1/2,000 bit as they stood
at a cycle. -/
structure SFilter where
  ws : List Word
  blocked : Bool
  tok : Nat
  tokAt : Nat
deriving DecidableEq, Repr

def SFilter.init : SFilter := ⟨[0#32, 0#32, 0#32, 0#32], false, 0, 0⟩

/-- The switch and the modem root port (spec/15). -/
structure Net where
  ports : Cells NPort
  /-- The latest last. -/
  table : List Learned
  filts : Cells SFilter
  /-- The cycles of the last Sync and of the last peer delay measurement. -/
  syncAt : Option Nat
  pdAt : Option Nat
  /-- The cycle of the modem link's next training (R383). -/
  rpRetry : Option Nat
deriving DecidableEq, Repr

def Net.init : Net := ⟨[], [], [], none, none, none⟩

/-- A DMA channel beside its registers (spec/16). -/
structure DChan where
  /-- The read of the descriptor named by CUR_DESC is under way. -/
  fetch : Bool
  /-- CUR_DESC names a host address. -/
  host : Bool
  /-- The 16 words of the descriptor in progress, its bytes written so far, and those whose reads are issued (R391). -/
  desc : Option (List Word)
  put : Nat
  got : Nat
  /-- The descriptors of the segment so far: address, and whether it is the host's (R398). -/
  past : List (Nat × Bool)
  /-- The module memory the segment's descriptors have given it so far: (address, bytes) of each descriptor and of each
  destination (R389). -/
  owned : List (Nat × Nat)
deriving DecidableEq, Repr

def DChan.init : DChan := ⟨false, false, none, 0, 0, [], []⟩

/-- How far a rectangle has come (R400, R413, R416). -/
inductive RectSt where
  | fetching
  /-- Fetched at a cycle; it waits for a frame start. -/
  | fetched (at_ : Nat)
  /-- Its waveform runs: frames begun, frames it drives, the zero-drive frames that follow a stop, its band. -/
  | driven (begun drive rest band : Nat)
deriving DecidableEq, Repr

/-- A rectangle in flight or held: the descriptor it came from, or none for a CLEAR of the port's own; its pixels in row
order, grey or XRGB; bytes taken through the intake. -/
structure DRect where
  op : Option (Nat × Nat)
  area : Area
  mode : Nat
  pix : List Nat
  fed : List Byte
  st : RectSt
  /-- It was held for the stop (R419). -/
  final : Bool
deriving DecidableEq, Repr

/-- The displays beside their registers (spec/17). Frame stores are keyed 65,536 × y + x. -/
structure Dpy where
  rectA : List DRect
  storeA : Cells Nat
  /-- Port A: 0 off, 1 powered, 2 training, 3 trained; and off until the next start (R407). -/
  pa : Nat
  dead : Bool
  /-- Black frames still to show before PNL_EN (R408). -/
  black : Nat
  vrr : Bool
  /-- The uniformity map loaded at stage 14, once it has passed its CRC (R406). -/
  umap : Option (List Byte)
  /-- The cycle of the last frame start, and frames in a row without a change (R403). -/
  frameA : Nat
  idle : Nat
  /-- DPY_A_CFG and DPY_A_CRACK.thr at the last frame start, and whether the band was TB6 or TB7 then (R403, R421). -/
  cfgA : Word
  thrA : Nat
  hotA : Bool
  /-- The window buffers shown last, by camera. -/
  shown : Cells (Option Nat)
  crackAt : Nat
  /-- Readings in a row above, and at or below, thr. -/
  above : Nat
  below : Nat
  rectB : List DRect
  /-- Rectangles held for the stop, and CLEARs of the port's own that wait. -/
  held : List DRect
  clears : List Area
  /-- The CLEAR of R414 is due or runs. -/
  ckClear : Bool
  storeB : Cells Nat
  /-- The CRC-32 kept over it (R414). -/
  crcB : Nat
  /-- The cycle of the last frame start while waveforms run, and DPY_B_CFG then. -/
  frameB : Option Nat
  cfgB : Word
  /-- The cycle at which the last waveform ended, while the rails stay on. -/
  idleB : Option Nat
  pollAt : Nat
  ckAt : Nat
  /-- The waveform tables passed their check at stage 12, and as they were loaded then (R411). -/
  wavesOk : Bool
  waves : List Byte
  /-- The rails go off when the last frame of the waveforms that stop has ended (R409, R416). -/
  railsEnd : Bool
  /-- Rectangles completed since the last copy to flash, with the cycle of each (R415). -/
  unsaved : List (Area × Nat)
  /-- The hold-up's decision has been made (R416). -/
  decided : Bool
deriving DecidableEq, Repr

def Dpy.init : Dpy :=
  { rectA := [], storeA := [], pa := 0, dead := false, black := 0, vrr := false, umap := none, frameA := 0, idle := 0, cfgA := 0#32,
    thrA := 0, hotA := false, shown := [],
    crackAt := 0, above := 0, below := 0, rectB := [], held := [], clears := [], ckClear := false, storeB := [], crcB := 0,
    frameB := none, cfgB := 0#32, idleB := none, pollAt := 0, ckAt := 0, wavesOk := false, waves := [], railsEnd := false, unsaved := [], decided := false }

/-- An update session (R461): its type, its index, its slot, the container bytes so far, and whether bytes have come
through the intake and through WRITE (R471). -/
structure Sess where
  type : Nat
  index : Nat
  slot : Nat
  bytes : List Byte
  fed : Bool
  written : Bool
deriving DecidableEq, Repr

/-- The update block and axolotl beside their registers (spec/20). -/
structure Upd where
  sess : Option Sess
  /-- A migration has been made at this start. -/
  migrated : Bool
  /-- Axolotl: the path that holds the session, 0 PCIe, 1 Ethernet, 2 CAN0; on Ethernet the last seq and its reply. -/
  path : Option Nat
  lastSeq : Option Nat
  lastReply : List Word
  /-- On CAN0: the seq expected, FD frames, DATA frames since the last reply, the cycle of the last frame. -/
  canSeq : Nat
  canFd : Bool
  canData : Nat
  canAt : Option Nat
deriving DecidableEq, Repr

def Upd.init : Upd :=
  { sess := none, migrated := false, path := none, lastSeq := none, lastReply := [], canSeq := 0, canFd := false, canData := 0,
    canAt := none }

/-- Reset value of register `a` of the K12 map (R486): values the map states, VDITH, VRAMP and ORETRY as the registers they
set read at reset, and the address not claimed. (DESIGN CHOICE, log entry 93) -/
def k12Reset (a : Nat) : Nat :=
  if a = 0x006 then 500
  else if a = 0x038 then 0x6400
  else if a = 0x03A then 5
  else if a = 0x072 then 0x0A03
  else if a = 0x0A6 then 64
  else if a = 0x0C4 then 0xFE00
  else 0

/-- A message that comes to the K12 engine in packets, from node `src` of CAN`chan`, to all nodes or to it (R484): its group,
its size, the most packets that may be asked for at once, the last one asked for, and what has come. -/
structure TpSess where
  chan : Nat
  src : Nat
  cast : Bool
  pgn : Nat
  size : Nat
  top : Nat
  last : Nat
  data : List Byte
deriving DecidableEq, Repr

/-- The K12 engine (spec/21). -/
structure K12 where
  /-- The register map as stored: what the host writes, STATUS, FAULT, and the input registers as last refreshed. -/
  map : Cells Nat
  /-- The cycle of the last write, and the map before that cycle's writes (R479). -/
  wroteAt : Nat
  prev : Cells Nat
  /-- The values last written to the shadows: 0 to 15 codes of V00 to V15, 16 to 39 mode × 65,536 + duty of L16 to L39. -/
  taken : Cells Nat
  /-- OPWM as it applies to the channels. -/
  opwm : Nat
  /-- SH_ANG_HI and NAME1 to NAME3 as latched by the read of their lower register (R478). -/
  angHi : Nat
  name1 : Nat
  name2 : Nat
  name3 : Nat
  /-- The cycle of the last valid write frame. -/
  lastFrame : Nat
  /-- The outputs are off for the loss of the host (R485). -/
  hto : Bool
  /-- The cycles of the last latch point taken and of the last refresh, and the latch point before the last step of MTIME. -/
  latchAt : Option Nat
  refreshAt : Option Nat
  stepFrom : Nat
  /-- Pairs not yet re-aligned after a step of MTIME (R482). -/
  stale : List Nat
  /-- The cycle at which CAN0 and CAN1 last entered bus-off. -/
  busOff : Cells Nat
  /-- Messages under way on CAN0 and CAN1 (R484). -/
  tp : List TpSess
deriving DecidableEq, Repr

def K12.init : K12 :=
  { map := [], wroteAt := 0, prev := [], taken := [], opwm := 0, angHi := 0, name1 := 0, name2 := 0, name3 := 0, lastFrame := 0,
    hto := false, latchAt := none, refreshAt := none, stepFrom := 0, stale := [], busOff := [], tp := [] }

/-- The whole module. -/
structure State where
  /-- The commands that wait, first in, first out. -/
  pending : List Instr
  /-- Cycles of the Nymgor/timebase clock domain since the model began (5 ns each). -/
  cyc : Nat
  /-- MTIME less 5 × cyc, modulo 2^64 (R22, R340). -/
  mtOff : Nat
  /-- The model's own counter of free values: no piece of the module. Nothing may rest on its value. -/
  free : Nat
  /-- The model's own record of what the module has sent out, newest first. -/
  out : List Emission
  /-- Every register by BAR0 offset; an unlisted one reads its reset value. -/
  regs : Cells Word
  /-- Module memory by module address (R26); an unlisted byte reads 0. -/
  mem : List Host.Cell
  /-- The cycle in which the module last wrote register fields, and the bits it set in that cycle (R8). -/
  hot : Nat × Cells Word
  /-- Poisoned codewords, by module address / 32 (R32). -/
  poison : List Nat
  /-- Supply, start and stop. -/
  pow : Power
  /-- The ring engine. -/
  rng : Rings
  /-- Fault collection. -/
  flt : Flt
  /-- The event recorder. -/
  recr : Recorder
  /-- Nymgor. -/
  nym : Nym
  /-- V00 to V47. -/
  valves : Cells Valve
  /-- L00 to L63. -/
  switches : Cells Switch
  /-- The lamps reported to the camera pipeline. -/
  lamps : Cells Lamp
  /-- Of each block that hands over: the cycle of its last hand-overs and what was handed over in it, by BAR0 block
  (R138, R169, R205, R225). -/
  handed : Cells (Nat × List Nat)
  /-- The cycle of the last step of MTIME, and none since the start while it is 0 (R223). -/
  stepAt : Nat
  /-- What MTIME exceeded 5 ns × cycles by before that step; stamps of earlier instants keep it (R354). -/
  mtWas : Nat
  /-- The thermal model. -/
  thm : Thm
  /-- CAN0 to CAN7. -/
  can : Cells CanCh
  /-- GNSS and module time. -/
  gns : Gns
  /-- What flash and the always-on domain keep. -/
  kept : Store
  /-- Test perturbation. -/
  tst : Tst
  /-- The control engine. -/
  cle : Cle
  /-- The triad and the leases. -/
  tri : Tri
  /-- The sensor front ends. -/
  sns : Sns
  /-- Fusion. -/
  fus : Fus
  /-- The setting loop. -/
  hsl : Hsl
  /-- Vision and inference. -/
  vis : Vis
  /-- The switch and the modem root port. -/
  net : Net
  /-- DMA channels 0 to 31. -/
  dma : Cells DChan
  /-- The peripheral request lines of R396. -/
  dmaLine : Cells Bool
  /-- The displays. -/
  dpy : Dpy
  /-- The update block and axolotl. -/
  upd : Upd
  /-- The K12 engine. -/
  k12 : K12
deriving DecidableEq, Repr

/-- The module before its first power-good: factory-fresh, its rails off, every register at the reset value of its
table, nothing waiting. Where the spec gives no value the assumption log names the choice.
(DESIGN CHOICE, log entry 4) -/
def State.reset : State :=
  { pending := [],
    cyc := 0,
    mtOff := 0,
    free := 0,
    out := [],
    regs := [],
    mem := [],
    hot := (0, []),
    poison := [],
    pow := Power.init,
    rng := Rings.init,
    flt := Flt.init,
    recr := Recorder.init,
    nym := Nym.init,
    valves := [],
    switches := [],
    lamps := [],
    handed := [],
    stepAt := 0, mtWas := 0,
    thm := Thm.init,
    can := [],
    gns := Gns.init,
    kept := Store.init,
    tst := Tst.init,
    cle := Cle.init,
    tri := Tri.init,
    sns := Sns.init,
    fus := Fus.init,
    hsl := Hsl.init,
    vis := Vis.init,
    net := Net.init,
    dma := [],
    dmaLine := [],
    dpy := Dpy.init,
    upd := Upd.init,
    k12 := K12.init }

end Sys2Proof.Machine
end

