-- ==== Sys2Proof/Machine/Ops.lean ====
section
/-! DEFINITION. The shared operations: time, registers and their fields, module memory, free values, what is sent
out. Every meaning reads and writes the state through these. -/

namespace Sys2Proof.Machine

/-- The next of a sequence number that wraps in 32 bits, and the number `n` places before it. -/
def seqUp (q : Nat) : Nat := (q + 1) % 2 ^ 32
def seqBack (q n : Nat) : Nat := (q + (2 ^ 32 - n)) % 2 ^ 32

/-- What a command answers. -/
abbrev Out := Host.Outcome State Fault Refusal

/-! Time: cycles of 5 ns (R22). -/

abbrev us (n : Nat) : Nat := 200 * n
abbrev ms (n : Nat) : Nat := 200000 * n
abbrev sec (n : Nat) : Nat := 200000000 * n

/-- Time runs to cycle `t`; it never runs back. (DESIGN CHOICE, log entry 1) -/
def State.at (s : State) (t : Nat) : State := { s with cyc := max s.cyc t }

/-- MTIME in ns, 64 bits (R22). (DESIGN CHOICE, log entry 1) -/
def State.mtime (s : State) : Nat := (s.mtOff + 5 * s.cyc) % 2 ^ 64

/-- MTIME at the instant `n` ns after cycle 0, no later than now: a step counts from its own cycle on (R354). -/
def State.mtimeAt (s : State) (n : Nat) : Nat :=
  ((if s.stepAt ≠ 0 ∧ n < 5 * s.stepAt then s.mtWas else s.mtOff) + n) % 2 ^ 64

/-- The stamp of cycle `k` of the CAN clock, of 12.5 ns (R22). (DESIGN CHOICE, log entry 123) -/
def State.canStamp (s : State) (k : Nat) : Nat := s.mtimeAt (25 * k / 2)

/-- The present MTIME as the Ethernet clock sees it, at the start of its cycle of 3.2 ns (R22).
(DESIGN CHOICE, log entry 123) -/
def State.netStamp (s : State) : Nat := s.mtimeAt (25 * s.cyc / 16 * 16 / 5)

/-! Fields and words. -/

/-- The value of field `f` of word `w`. -/
def Fld.get (f : Fld) (w : Word) : Nat := w.toNat / 2 ^ f.lo % 2 ^ f.wd

/-- Word `w` with `v` in field `f`, all other bits as they were. -/
def Fld.put (f : Fld) (w : Word) (v : Nat) : Word :=
  word (w.toNat / 2 ^ (f.lo + f.wd) * 2 ^ (f.lo + f.wd) + v % 2 ^ f.wd * 2 ^ f.lo + w.toNat % 2 ^ f.lo)

/-- The largest value field `f` holds. -/
def Fld.top (f : Fld) : Nat := 2 ^ f.wd - 1

/-- A word from (value, lowest bit) parts. -/
def packW (l : List (Nat × Nat)) : Word := word (l.foldl (fun a x => a + x.1 * 2 ^ x.2) 0)

/-- Bits [hi:lo] of a word. -/
def bits (w : Word) (hi lo : Nat) : Nat := w.toNat / 2 ^ lo % 2 ^ (hi + 1 - lo)

/-- Bits [31:0] and [63:32] of a number. -/
def lo32 (n : Nat) : Word := word n
def hi32 (n : Nat) : Word := word (n / 2 ^ 32)

/-- A 64-bit number from its low and high word. -/
def u64 (lo hi : Word) : Nat := lo.toNat + hi.toNat * 2 ^ 32

/-- The integer a word holds, two's complement. -/
def sInt (w : Word) : Int := w.toInt

/-- The word that holds an integer modulo 2^32. -/
def wInt (i : Int) : Word := BitVec.ofInt 32 i

/-- An `n`-bit number read as signed. -/
def sBits (n v : Nat) : Int := if v < 2 ^ (n - 1) then (v : Int) else (v : Int) - 2 ^ n

/-- A Boolean as a bit. -/
def b2n (b : Bool) : Nat := if b then 1 else 0

/-- Word `i` of a list, 0 past its end. -/
def wAt (ws : List Word) (i : Nat) : Word := ws.getD i 0#32

/-- Limit an integer to [lo, hi]. -/
def clampI (lo hi x : Int) : Int := max lo (min hi x)

/-! CRC-32 of IEEE 802.3 (R406, R414, R417), in the standard's bit order. (PRESUMED, log entry 136) -/

/-- One bit through the CRC. -/
def crc32Bit (c : Nat) : Nat := if c % 2 = 1 then (c / 2) ^^^ 0xEDB88320 else c / 2

/-- One byte through the CRC. -/
def crc32Byte (c : Nat) (b : Byte) : Nat :=
  crc32Bit (crc32Bit (crc32Bit (crc32Bit (crc32Bit (crc32Bit (crc32Bit (crc32Bit (c ^^^ b.toNat))))))))

/-- PRESUMED, log entry 136. -/
def crc32 (bs : List Byte) : Nat := 0xFFFFFFFF ^^^ bs.foldl crc32Byte 0xFFFFFFFF

/-- Do the last four bytes, the lowest first, hold the CRC of those before them? (PRESUMED, log entry 136) -/
def crcEnds (bs : List Byte) : Bool :=
  decide (4 ≤ bs.length) && ((bs.drop (bs.length - 4)).foldr (fun b a => a * 256 + b.toNat) 0) == crc32 (bs.take (bs.length - 4))

/-- Replace element `i` of a list by what `f` makes of it. -/
def modAt {α : Type} (f : α → α) : Nat → List α → List α
  | _, [] => []
  | 0, x :: t => f x :: t
  | i + 1, x :: t => x :: modAt f i t

/-! Registers. -/

/-- The stored value of the register at BAR0 offset `off`. -/
def State.reg (s : State) (off : Nat) : Word := cellGet regReset s.regs off

def State.setReg (s : State) (off : Nat) (w : Word) : State := { s with regs := cellSet regReset s.regs off w }

/-- Read a field of a register. -/
def State.rd (s : State) (off : Nat) (f : Fld) : Nat := f.get (s.reg off)

/-- A one-bit field as a Boolean. -/
def State.bit (s : State) (off : Nat) (f : Fld) : Bool := s.rd off f != 0

/-- The bits of register `off` that the module has set in this cycle (R8). -/
def State.hotBits (s : State) (off : Nat) : Word := if s.hot.1 = s.cyc then cellGet (fun _ => 0#32) s.hot.2 off else 0#32

/-- Remember that the module sets bits `w` of register `off` in this cycle. -/
def State.heat (s : State) (off : Nat) (w : Word) : State :=
  { s with hot := if w = 0#32 then s.hot
      else (s.cyc, cellSet (fun _ => 0#32) (if s.hot.1 = s.cyc then s.hot.2 else []) off (s.hotBits off ||| w)) }

/-- Write a field of a register; the register's other bits stay, and the bits it sets are remembered for the cycle. -/
def State.wr (s : State) (off : Nat) (f : Fld) (v : Nat) : State :=
  (s.setReg off (f.put (s.reg off) v)).heat off (f.put 0#32 v)

/-- Set the bits `v` of a field beside those it has. (DESIGN CHOICE, log entry 7) -/
def State.orBits (s : State) (off : Nat) (f : Fld) (v : Nat) : State :=
  (s.setReg off (f.put (s.reg off) (s.rd off f ||| v))).heat off (f.put 0#32 v)

/-- Take bit `n` of a field to `v`, the other bits as they are: setting it is the bit's event (R7, R8). -/
def State.bitTo (s : State) (off : Nat) (f : Fld) (n : Nat) (v : Bool) : State :=
  if v then s.orBits off f (2 ^ n)
  else
    let x := s.rd off f
    s.setReg off (f.put (s.reg off) (x / 2 ^ (n + 1) * 2 ^ (n + 1) + x % 2 ^ n))

/-- Count `n` up in a saturating counter field. -/
def State.bumpBy (s : State) (off : Nat) (f : Fld) (n : Nat) : State := s.wr off f (min f.top (s.rd off f + n))

/-- Count one up in a saturating counter field. -/
def State.bump (s : State) (off : Nat) (f : Fld) : State := s.bumpBy off f 1

/-- Raise a field that holds the largest value seen, saturating. -/
def State.wrMax (s : State) (off : Nat) (f : Fld) (v : Nat) : State := s.wr off f (max (s.rd off f) (min f.top v))

/-- Count up a 32-bit sequence register that wraps to 0. -/
def State.incReg (s : State) (off : Nat) : State := s.setReg off (s.reg off + 1#32)

/-! Module memory (R26). -/

/-- What a byte of module memory that nothing has written reads as. (DESIGN CHOICE, log entry 5) -/
def memReset (_ : Nat) : Byte := 0#8

def State.memRd (s : State) (a : Nat) : Byte := cellGet memReset s.mem a

/-- Write a byte; its codeword is poisoned no longer (R32). -/
def State.memWr (s : State) (a : Nat) (b : Byte) : State :=
  { s with mem := cellSet memReset s.mem a b, poison := s.poison.filter fun w => w != a / 32 }

/-- Is a byte of `n` bytes from address `a` up in a poisoned codeword? -/
def State.poisoned (s : State) (a n : Nat) : Bool :=
  s.poison.any fun w => decide (a < 32 * w + 32) && decide (32 * w < a + n)

/-- `n` bytes from address `a` up. -/
def State.memBytes (s : State) (a n : Nat) : List Byte := (List.range n).map fun i => s.memRd (a + i)

/-- Store bytes from address `a` up. (DEDUCED, log entry 106) -/
def State.memStore (s : State) (a : Nat) : List Byte → State
  | [] => s
  | b :: t => (s.memWr a b).memStore (a + 1) t

/-- The little-endian word at address `a`. (DEDUCED, log entry 106) -/
def State.memWord (s : State) (a : Nat) : Word :=
  word ((s.memRd a).toNat + (s.memRd (a + 1)).toNat * 2 ^ 8 + (s.memRd (a + 2)).toNat * 2 ^ 16
    + (s.memRd (a + 3)).toNat * 2 ^ 24)

def State.memWords (s : State) (a n : Nat) : List Word := (List.range n).map fun i => s.memWord (a + 4 * i)

/-- The four bytes of a word, lowest first. (DEDUCED, log entry 106) -/
def wordBytes (w : Word) : List Byte :=
  [byte w.toNat, byte (w.toNat / 2 ^ 8), byte (w.toNat / 2 ^ 16), byte (w.toNat / 2 ^ 24)]

def wordsBytes (ws : List Word) : List Byte := ws.flatMap wordBytes

/-- The little-endian words of a byte list; a last part shorter than a word is filled with 0.
(DEDUCED, log entry 106) -/
def bytesWords : List Byte → List Word
  | a :: b :: c :: d :: t =>
    word (a.toNat + b.toNat * 2 ^ 8 + c.toNat * 2 ^ 16 + d.toNat * 2 ^ 24) :: bytesWords t
  | [] => []
  | [a] => [word a.toNat]
  | [a, b] => [word (a.toNat + b.toNat * 2 ^ 8)]
  | [a, b, c] => [word (a.toNat + b.toNat * 2 ^ 8 + c.toNat * 2 ^ 16)]

/-- Shared DRAM ends here (R26). -/
def sharedTop : Nat := 0x300000000

/-! What is sent out, and free values. -/

/-- DESIGN CHOICE, log entry 95. -/
def State.emit (s : State) (e : Emission) : State := { s with out := e :: s.out }

/-- The items of block `b` handed over in this cycle. -/
def State.handedNow (s : State) (b : Nat) : List Nat :=
  let h := cellGet (fun _ => (0, [])) s.handed b
  if h.1 = s.cyc then h.2 else []

/-- Of these, the items numbered above `i`: a hand-over of `i` in this cycle is numbered before theirs. -/
def State.handedAbove (s : State) (b i : Nat) : List Nat := (s.handedNow b).filter fun j => decide (i < j)

/-- Item `i` of block `b` is handed over in this cycle. -/
def State.handNote (s : State) (b i : Nat) : State :=
  { s with handed := cellSet (fun _ => (0, [])) s.handed b (s.cyc, i :: s.handedNow b) }

/-- One free value is used up. (DESIGN CHOICE, log entry 9) -/
def State.freeNext (s : State) : State := { s with free := s.free + 1 }

/-- `n` free words from the present count, and the state that has used them. -/
def State.freeWords (s : State) (n : Nat) : List Word := (List.range n).map fun i => Config.freeWord (s.free + i)
/-- DESIGN CHOICE, log entry 9. -/
def State.freeAdd (s : State) (n : Nat) : State := { s with free := s.free + n }

/-! Start-up stages and ready blocks (R69, R80). -/

def State.passed (s : State) (k : Nat) : Bool := s.pow.on && s.pow.passed.contains k

/-- Is a register of the display block one of port A alone (R80)? -/
def portAReg (off : Nat) : Bool :=
  off == DPY_A_CFG || off == DPY_A_SEQ || off == DPY_A_CRACK || (0xF0020 ≤ off && off < 0xF0030)
    || off == DPY_GEO0 || off == DPY_INTAKE 0

/-- Does the register at `off` answer, under R80 and, in axolotl, R467?
(DESIGN CHOICE, log entry 3, DEDUCED, log entry 15) -/
def State.readyReg (s : State) (off : Nat) : Bool :=
  let b := off / 0x10000
  if s.pow.axo then (b == 0 || b == 0x13) && s.passed 8
  else if b ≤ 1 || b == 0xE then s.passed 8
  else if b == 0xC then s.passed 7
  else if b == 0xD then s.passed 12
  else if b == 0xB then s.passed 13
  else if b == 0xA then s.passed 15
  else if b == 0xF then
    if portAReg off then s.passed 14 else s.passed 12
  else s.passed 10

/-- May the register at `off` be read, under R80? -/
def State.readableReg (s : State) (off : Nat) : Bool :=
  s.readyReg off ||
    (s.passed 8 && !s.pow.axo && (off == THM_STAT || off == THM_SUPPLY || (THM_FEED 0 ≤ off && off ≤ THM_FEED 5)))

/-- Is block `b` ready for commands (R80)? -/
def State.ready (s : State) (b : Nat) : Bool := s.readyReg (b * 0x10000)

/-- Is this a run in K12 mode? -/
def State.isK12 (s : State) : Bool := s.bit SYS_PERSONALITY SYS_PERSONALITY_k12

/-- Is unit `u` of FLT_FENCE fenced? -/
def State.fenced (s : State) (u : Nat) : Bool := s.rd FLT_FENCE FLT_FENCE_fenced / 2 ^ u % 2 == 1

/-! The guarantee monitor (R19). -/

/-- Take a condition bit of SYS_GUAR to `v`: its seen bit is set as it rises, suspended follows, and susp_cnt counts
each rise of suspended. (DESIGN CHOICE, log entry 104) -/
def State.guarSet (s : State) (f seen : Fld) (v : Bool) : State :=
  let rise := v && !s.bit SYS_GUAR f
  let s1 := s.wr SYS_GUAR f (b2n v)
  let s2 := if rise then s1.wr SYS_GUAR seen 1 else s1
  let now := s2.reg SYS_GUAR &&& 15#32 != 0#32
  let s3 := if now && !s.bit SYS_GUAR SYS_GUAR_suspended then s2.bump SYS_GUAR SYS_GUAR_susp_cnt else s2
  s3.wr SYS_GUAR SYS_GUAR_suspended (b2n now)

/-! Temperature bands (R448). -/

/-- The boundary above band `b`, in °C. -/
def bandTop (b : Nat) : Int := [-20, -5, 10, 25, 40, 55, 70].getD b 1000

/-- One band towards a temperature in 1/16 °C, with 1 °C on either side of a boundary. -/
def bandStep (b : Nat) (t : Int) : Nat :=
  if b < 7 ∧ 16 * (bandTop b + 1) ≤ t then b + 1
  else if 0 < b ∧ t < 16 * (bandTop (b - 1) - 1) then b - 1
  else b

end Sys2Proof.Machine
end

