-- ==== Sys2Proof/Machine/Domain.lean ====
section
/-! DEFINITION. The ten schedule domains: their positions at any cycle (R112, R118, R124) and when a position is
reached (R113). -/

namespace Sys2Proof.Machine

def State.shaft (s : State) (k : Nat) : Shaft := cellGet (fun _ => Shaft.init) s.nym.shafts k

def State.setShaft (s : State) (k : Nat) (h : Shaft) : State :=
  { s with nym := { s.nym with shafts := cellSet (fun _ => Shaft.init) s.nym.shafts k h } }

def State.ev (s : State) (i : Nat) : EvEntry := cellGet (fun _ => EvEntry.init) s.nym.ev i

def State.setEv (s : State) (i : Nat) (e : EvEntry) : State :=
  { s with nym := { s.nym with ev := cellSet (fun _ => EvEntry.init) s.nym.ev i e } }

/-- The position of a shaft at cycle `c`, with 24 fraction bits: the interpolation of R118 run from its anchor.
(DEDUCED, log entry 57) -/
def Shaft.posAt (h : Shaft) (c : Nat) : Int :=
  let n : Int := (c - h.anchor : Nat)
  if h.rate = 0 ∨ n = 0 then h.posF
  else if h.fwd then min (h.posF + h.rate * n) (h.limit * 2 ^ 24)
  else max (h.posF - h.rate * n) (h.limit * 2 ^ 24)

/-- The position in whole turn units. (DEDUCED, log entry 57) -/
def Shaft.units (h : Shaft) (c : Nat) : Int := h.posAt c / 2 ^ 24

/-- Hold the shaft where it stands at cycle `c` (R117, R120). -/
def Shaft.hold (h : Shaft) (c : Nat) : Shaft := { h with posF := h.posAt c, anchor := c, rate := 0 }

/-- The position of GROUND at cycle `c`, with 24 fraction bits. -/
def Ground.posAt (g : Ground) (c : Nat) : Int := g.posF + g.rate * ((c - g.anchor : Nat) : Int)

/-- The 48-bit position of GROUND, in 0.1 mm. -/
def Ground.units (g : Ground) (c : Nat) : Int := sBits 48 ((g.posAt c / 2 ^ 24) % 2 ^ 48).toNat

/-- The position of domain `d`, coded 1 TIME, 2 to 9 SHAFT0 to SHAFT7, 10 GROUND (R112), at cycle `c`. -/
def State.posAt (s : State) (d c : Nat) : Int :=
  if d = 1 then (((s.mtOff + 5 * c) % 2 ^ 64 : Nat) : Int)
  else if d = 10 then s.nym.gnd.units c
  else (s.shaft (d - 2)).units c

/-- The position of domain `d` now. -/
def State.pos (s : State) (d : Nat) : Int := s.posAt d s.cyc

/-- The position of domain `d` in the cycle before, under the course it then had. -/
def State.posBefore (s : State) (d : Nat) : Int :=
  match cellGet (fun _ => none) s.nym.prev d with
  | some (c, p) => if c = s.cyc then p else s.posAt d (s.cyc - 1)
  | none => s.posAt d (s.cyc - 1)

/-- Keep that position: the course of domain `d` changes in this cycle. -/
def State.keepBefore (s : State) (d : Nat) : State :=
  { s with nym := { s.nym with prev := cellSet (fun _ => none) s.nym.prev d (some (s.cyc, s.posBefore d)) } }

/-- The 64-bit number a position is written as (R112). -/
def pos64 (p : Int) : Nat := (p % 2 ^ 64).toNat

/-- A position from its 64 bits: unsigned for TIME, two's complement otherwise (R112). -/
def posOf (d : Nat) (lo hi : Word) : Int := if d = 1 then (u64 lo hi : Int) else sBits 64 (u64 lo hi)

/-- Does position `q` equal or pass `p` in direction `fwd` (R113)? -/
def atOrPast (fwd : Bool) (p q : Int) : Bool := if fwd then decide (p ≤ q) else decide (q ≤ p)

/-- Does domain `d` stand at or beyond position `p` in direction `fwd`? -/
def State.reached (s : State) (d : Nat) (fwd : Bool) (p : Int) : Bool := atOrPast fwd p (s.pos d)

/-- Is domain `d` held: UNSYNC, SEEK or LOST, or GROUND with en 0 (R133)? -/
def State.domHeld (s : State) (d : Nat) : Bool :=
  if d = 1 then false
  else if d = 10 then !s.bit NYM_GND_CFG NYM_GND_CFG_en
  else s.rd (NYM_SHAFT_STAT (d - 2)) NYM_SHAFT_STAT_sync != 2

end Sys2Proof.Machine
end

