-- ==== Sys2Proof/Machine/RingCore.lean ====
section
/-! DEFINITION. The ring engine's shared operations (spec/04): descriptors and their words, the statuses of the ring
layer, starting and ending an operation, receive buffers. -/

namespace Sys2Proof.Machine

/-! Status codes (R10). -/

abbrev stDone : Nat := 0x00
abbrev stSat : Nat := 0x01
abbrev stLate : Nat := 0x02
abbrev stBadOpcode : Nat := 0x08
abbrev stBadParam : Nat := 0x09
abbrev stNoAuth : Nat := 0x0A
abbrev stWrongState : Nat := 0x0B
abbrev stFenced : Nat := 0x0C
abbrev stBusy : Nat := 0x0D
abbrev stAborted : Nat := 0x0F

/-- A status the spec does not state: one of those R10 lists. (DESIGN CHOICE, log entry 9) -/
def freeStatus (s : State) : Nat :=
  [stDone, stSat, stLate, stBadOpcode, stBadParam, stNoAuth, stWrongState, stFenced, stBusy, stAborted].getD
    (Config.freeNat s.free % 10) stDone

/-! Ring states (R101). -/

abbrev rsOff : Nat := 0
abbrev rsRunning : Nat := 1
abbrev rsDraining : Nat := 2
abbrev rsHalted : Nat := 3

def State.ring (s : State) (r : Nat) : Ring := cellGet (fun _ => Ring.init) s.rng.rings r

def State.setRing (s : State) (r : Nat) (x : Ring) : State :=
  { s with rng := { s.rng with rings := cellSet (fun _ => Ring.init) s.rng.rings r x } }

/-- Reads of doorbell line `m` that are under way (R92). -/
def State.lineOut (s : State) (m : Nat) : Nat := cellGet (fun _ => 0) s.rng.lines m

def State.setLineOut (s : State) (m n : Nat) : State :=
  { s with rng := { s.rng with lines := cellSet (fun _ => 0) s.rng.lines m n } }

def State.ringState (s : State) (r : Nat) : Nat := s.rd (RNG_CFG r) RNG_CFG_state
def State.ringTgt (s : State) (r : Nat) : Nat := s.rd (RNG_CFG r) RNG_CFG_target
def State.ringFunc (s : State) (r : Nat) : Nat := s.rd (RNG_CFG r) RNG_CFG_func
def State.ringEth (s : State) (r : Nat) : Bool := s.bit (RNG_CFG r) RNG_CFG_carriage
def State.ringLog (s : State) (r : Nat) : Nat := s.rd (RNG_CFG r) RNG_CFG_size_log2

/-- Ring addresses: a LO and a HI register hold one 64-bit address. -/
def State.addr64 (s : State) (lo hi : Nat) : Nat := u64 (s.reg lo) (s.reg hi)

def State.ringDesc (s : State) (r : Nat) : Nat := s.addr64 (RNG_DESC_LO r) (RNG_DESC_HI r)
def State.ringCq (s : State) (r : Nat) : Nat := s.addr64 (RNG_CQ_LO r) (RNG_CQ_HI r)
def State.ringCdb (s : State) (r : Nat) : Nat := s.addr64 (RNG_CDB_LO r) (RNG_CDB_HI r)

/-- A pointer register as one number, index plus wrap × 2^n (R89). -/
def State.ringPtr (s : State) (off n : Nat) : Nat :=
  s.rd off RNG_HEAD_index + s.rd off RNG_HEAD_wrap * 2 ^ n

/-- Write a pointer register from such a number. -/
def State.setPtr (s : State) (off n p : Nat) : State :=
  (s.wr off RNG_HEAD_index (p % 2 ^ n)).wr off RNG_HEAD_wrap (p / 2 ^ n % 2)

def State.ringHead (s : State) (r : Nat) : Nat := s.ringPtr (RNG_HEAD r) (s.ringLog r)
def State.ringTail (s : State) (r : Nat) : Nat := s.ringPtr (RNG_TAIL r) (s.ringLog r)

/-- How many descriptors lie from pointer `a` up to pointer `b` on a ring of 2^n entries. -/
def ptrDist (n a b : Nat) : Nat := (b + 2 ^ (n + 1) - a) % 2 ^ (n + 1)

/-- Descriptors announced by the tail and not yet read (R94). -/
def State.ringAwait (s : State) (r : Nat) : Nat :=
  ptrDist (s.ringLog r) (s.ringHead r) (s.ringTail r) - (s.ring r).descs.length

/-- The poll interval of ring `r` in µs (R93). -/
def State.pollUs (s : State) (r : Nat) : Nat :=
  let i := s.rd (RNG_POLL r) RNG_POLL_interval
  if i = 0 then
    (match s.rd (RNG_CFG r) RNG_CFG_class with
      | 0 => 1
      | 1 => 50
      | _ => 1000)
  else min i 1000

/-- Does ring `r` run with PCIe carriage on line `m` (R92)? -/
def State.onLine (s : State) (m r : Nat) : Bool :=
  s.ringState r == rsRunning && !s.ringEth r && s.rd (RNG_CFG r) RNG_CFG_line == m

/-- The shortest poll interval of line `m` in µs; none for a line that is not read (R92). -/
def State.lineUs (s : State) (m : Nat) : Option Nat :=
  ((List.range 64).filter (s.onLine m)).foldl
    (fun a r => match a with
      | none => some (s.pollUs r)
      | some x => some (min x (s.pollUs r))) none

/-- SYS_GUAR.poll_over follows the poll intervals of the running Class A rings (R16, R19, R109).
(DESIGN CHOICE, log entry 104) -/
def State.guarPoll (s : State) : State :=
  s.guarSet SYS_GUAR_poll_over SYS_GUAR_poll_seen
    ((List.range 64).any fun r =>
      s.ringState r == rsRunning && !s.ringEth r && s.rd (RNG_CFG r) RNG_CFG_class == 0
        && decide (10 < s.pollUs r))

/-! The words of a descriptor (R95). -/

def RDesc.op (d : RDesc) : Nat := bits (wAt d.ws 0) 31 24
def RDesc.fence (d : RDesc) : Bool := bits (wAt d.ws 0) 17 17 == 1
def RDesc.irq (d : RDesc) : Bool := bits (wAt d.ws 0) 16 16 == 1
def RDesc.addr (d : RDesc) : Nat := u64 (wAt d.ws 2) (wAt d.ws 3)
def RDesc.len (d : RDesc) : Nat := bits (wAt d.ws 4) 23 0
def RDesc.dom (d : RDesc) : Nat := bits (wAt d.ws 5) 31 28
/-- Parameter word `i`, 8 to 15. -/
def RDesc.par (d : RDesc) (i : Nat) : Word := wAt d.ws i

/-- The reserved bits and reserved due_dom codes of R95 that R111 forbids. -/
def descBad (ws : List Word) : Bool :=
  bits (wAt ws 0) 23 18 != 0 || bits (wAt ws 0) 15 0 != 0 || bits (wAt ws 4) 31 24 != 0
    || bits (wAt ws 5) 27 0 != 0 || decide (11 ≤ bits (wAt ws 5) 31 28)

/-- The slot index of a descriptor. -/
def RDesc.idx (d : RDesc) : Nat := d.slot % 2 ^ 16

/-- Does position `p` of the domain reach the due point of a descriptor (R97, R113)? -/
def RDesc.dueAt (d : RDesc) (p : Int) : Bool := atOrPast true (posOf d.dom (wAt d.ws 6) (wAt d.ws 7)) p

/-- Has the due point of a descriptor been reached, now or since it was taken (R97, R113)? (DEDUCED, log entry 20) -/
def State.dueLate (s : State) (d : RDesc) : Bool :=
  d.late || (decide (1 ≤ d.dom) && decide (d.dom ≤ 10) && d.dueAt (s.pos d.dom))

/-- Remember of every descriptor whether position `p` of domain `k` reaches its due point: the position may turn back. -/
def State.latchDue (s : State) (k : Nat) (p : Int) : State :=
  { s with rng := { s.rng with rings := s.rng.rings.map fun e =>
      (e.1, { e.2 with descs := e.2.descs.map fun d => if d.dom = k then { d with late := d.late || d.dueAt p } else d }) } }

/-! The ring layer (R98). -/

/-- The opcodes each function of a block serves, NOP apart (the chapters' ring tables). -/
def ringOps (tgt func : Nat) : List Nat :=
  if tgt = 0x02 then (if func = 0 then [1, 2, 3, 4] else [])
  else if tgt = 0x03 then
    (if func = 0 then [1, 2] else if func = 1 then [0x10, 0x11, 0x12, 0x13, 0x14, 0x15] else [])
  else if tgt = 0x04 then
    (if func = 0 then [1, 2, 3] else if func = 1 then [0x10, 0x11, 0x12] else if func = 2 then [0x20, 0x21] else [])
  else if tgt = 0x07 then (if func = 0 then [1] else [])
  else if tgt = 0x08 then (if func = 0 then [1] else if func = 1 then [0x10] else if func = 2 then [1] else [])
  else if tgt = 0x09 then (if func = 0 then [1, 2, 3, 4] else if func = 1 then [1] else [])
  else if tgt = 0x0A then (if func = 0 then [1, 2, 3, 4, 5, 6, 7] else if func ≤ 6 then [1] else [])
  else if tgt = 0x0B then (if func = 0 then [1, 2] else if func ≤ 2 then [1] else [])
  else if tgt = 0x0C then [1]
  else if tgt = 0x0D then (if func ≤ 1 then [1] else if func = 2 then [0x10, 0x11, 0x12] else [])
  else if tgt = 0x0F then (if func ≤ 1 then [1] else [])
  else if tgt = 0x10 then (if func = 0 then [1] else [])
  else if tgt = 0x11 then (if func = 0 then [1, 2, 3, 4, 5, 6] else [])
  else if tgt = 0x13 then (if func = 0 then [1, 2, 3, 4, 5, 6, 7] else [])
  else []

/-- The unit of FLT_FENCE that serves a target and function (R98). -/
def serveUnit (tgt func : Nat) : Option Nat :=
  if tgt = 0x03 then some 4
  else if tgt = 0x04 then some 3
  else if tgt = 0x07 then some 5
  else if tgt = 0x08 then some 10
  else if tgt = 0x09 then some 11
  else if tgt = 0x0A then (if func = 2 then some 9 else if func ≤ 6 then some 8 else none)
  else if tgt = 0x0B then some 7
  else none

/-- Is the served unit up, for a display port its own part of block DPY (R80)? -/
def State.served (s : State) (tgt func : Nat) : Bool :=
  if tgt = 0x0F then s.passed (if func = 0 then 14 else 12) else s.ready tgt

/-- Does no function of a block offer ring service (R98)? -/
def noService (tgt : Nat) : Bool := (List.range 16).all fun f => (ringOps tgt f).isEmpty

/-- The status the ring layer itself gives a descriptor that would start, if any (R80, R98).
(DESIGN CHOICE, log entry 16) -/
def State.ringLayer (s : State) (r : Nat) (d : RDesc) : Option Nat :=
  let tgt := s.ringTgt r
  let func := s.ringFunc r
  if noService tgt ∨ (d.op ≠ 0 ∧ d.op ∉ ringOps tgt func) then some stBadOpcode
  else if !s.served tgt func then some stWrongState
  else if (serveUnit tgt func).any s.fenced then some stFenced
  else none

/-! Descriptors of a ring. -/

/-- Replace the descriptor in slot `slot` of ring `r` by what `f` makes of its progress. -/
def State.setDesc (s : State) (r slot : Nat) (st : DescSt) : State :=
  let x := s.ring r
  s.setRing r { x with descs := x.descs.map fun d => if d.slot = slot then { d with st := st } else d }

/-- The descriptor ends with a status, the bytes moved and a result word; its entry is written later (R99). -/
def State.endOp (s : State) (r slot status len result : Nat) : State :=
  let s1 := s.setDesc r slot (.ended status len (result % 2 ^ 32))
  if status = stBadOpcode then s1.bump (RNG_CNT r) RNG_CNT_bad_cnt else s1

/-- A hand-over number of block `b` is reported in this cycle. -/
def State.hoNote (s : State) (b : Nat) (x : HoRef) : State :=
  { s with rng := { s.rng with
    refs := (s.cyc, (b, x) :: (if s.rng.refs.1 = s.cyc then s.rng.refs.2 else [])) } }

/-- A result word moves one number up. -/
def DescSt.up : DescSt → DescSt
  | .ended st len res => .ended st len ((res + 1) % 2 ^ 32)
  | x => x

/-- One reported number moves one up. -/
def State.hoUp (s : State) : HoRef → State
  | .op r slot =>
    let x := s.ring r
    s.setRing r { x with descs := x.descs.map fun d => if d.slot = slot then { d with st := d.st.up } else d }
  | .reg off => s.incReg off

/-- A hand-over of block `b`: what has been reported in this cycle acts after it, and reports its number
(R141, R142, R173, R290). -/
def State.hoMend (s : State) (b : Nat) : State :=
  if s.rng.refs.1 = s.cyc then (s.rng.refs.2.filter fun x => x.1 == b).foldl (fun s x => s.hoUp x.2) s else s

/-- End an operation DONE with `len` bytes and the hand-over number `seq` of block `b`. -/
def State.endSeq (s : State) (b r slot len seq : Nat) : State := (s.endOp r slot stDone len seq).hoNote b (.op r slot)

/-- The operation has started and goes on. -/
def State.startOp (s : State) (r slot : Nat) : State := s.setDesc r slot (.started 0 0 0)

/-- The descriptor of ring `r` in slot `slot`, while its operation is under way. -/
def State.running (s : State) (r slot : Nat) : Option RDesc :=
  (s.ring r).descs.find? fun d => d.slot == slot && (match d.st with
    | .started _ _ _ => true
    | _ => false)

/-- End an operation that is under way; one whose descriptor is gone ends with no entry. `honours` says that the
operation honours due points (R97). -/
def State.endRunning (s : State) (k : Nat × Nat) (honours : Bool) (status len result : Nat) : State :=
  match s.running k.1 k.2 with
  | none => s
  | some d =>
    s.endOp k.1 k.2 (if honours && decide (status ≤ 1) && s.dueLate d then stLate else status) len result

/-- The first descriptor that has not started, when it may start now (R94, R95). (DESIGN CHOICE, log entry 16) -/
def State.nextOp (s : State) (r : Nat) : Option RDesc :=
  if s.ringState r ≠ rsRunning then none
  else
    match (s.ring r).descs.findIdx? (fun d => d.st == .read) with
    | none => none
    | some i =>
      match (s.ring r).descs[i]? with
      | none => none
      | some d => if d.fence && i != 0 then none else some d

/-- Descriptors at the front that the ring layer itself answers end at once (R98). (DESIGN CHOICE, log entry 16) -/
def State.settle (s : State) (r : Nat) : Nat → State
  | 0 => s
  | n + 1 =>
    match s.nextOp r with
    | none => s
    | some d =>
      match s.ringLayer r d with
      | none => s
      | some st => (s.endOp r d.slot st 0 0).settle r n

def State.settleRing (s : State) (r : Nat) : State := s.settle r (s.ring r).descs.length

/-- The next descriptor of ring `r`, when it is opcode `op` of function `func` of block `tgt` and may start. -/
def State.opFor (s : State) (r tgt func op : Nat) : Option RDesc :=
  match s.nextOp r with
  | none => none
  | some d =>
    if d.op = op ∧ s.ringTgt r = tgt ∧ s.ringFunc r = func ∧ (s.ringLayer r d).isNone then some d else none

/-- Run `k` on the next descriptor of ring `r` when it is this operation; the operation does not start otherwise.
(DESIGN CHOICE, log entry 3) -/
def State.ringOp (s : State) (r tgt func op : Nat) (k : State → RDesc → Out) : Out :=
  match s.opFor r tgt func op with
  | none => .next s
  | some d =>
    match k s d with
    | .next s' => .next (s'.settleRing r)
    | .fault f => .fault f
    | .refused f => .refused f

/-! Buffers: host memory over PCIe, module memory over Ethernet (R96, R108). -/

/-- A buffer of an Ethernet-carried ring outside shared DRAM (R111). -/
def State.bufBad (s : State) (r : Nat) (d : RDesc) : Bool :=
  s.ringEth r && decide (d.len ≠ 0) && decide (sharedTop < d.addr + d.len)

/-- The bytes of a descriptor's buffer: those the host read returned, or those of module memory.
(DEDUCED, log entry 98) -/
def State.bufIn (s : State) (r : Nat) (d : RDesc) (buf : List Byte) : List Byte :=
  if s.ringEth r then s.memBytes d.addr d.len else buf.take d.len

/-- The same as words, for buffers of whole words. (DEDUCED, log entry 98) -/
def State.bufWords (s : State) (r : Nat) (d : RDesc) (buf : List Word) : List Word :=
  if s.ringEth r then s.memWords d.addr (d.len / 4) else buf.take (d.len / 4)

/-- Write bytes at byte `off` of a descriptor's buffer; a HALTED ring writes nothing to host memory (R101). -/
def State.bufOutBytes (s : State) (r : Nat) (d : RDesc) (off : Nat) (bs : List Byte) : State :=
  if s.ringEth r then s.memStore (d.addr + off) bs
  else if s.ringState r = rsHalted then s
  else s.emit (.hostBytes (d.addr + off) bs)

/-- Write words at byte `off` of a descriptor's buffer. -/
def State.bufOut (s : State) (r : Nat) (d : RDesc) (off : Nat) (ws : List Word) : State :=
  if s.ringEth r then s.memStore (d.addr + off) (wordsBytes ws)
  else if s.ringState r = rsHalted then s
  else s.emit (.hostWrite (d.addr + off) ws)

/-! Receive rings. -/

/-- Is function `func` of block `tgt` a receive function, whose opcode 1 is FILL? -/
def isRecv (tgt func : Nat) : Bool :=
  (tgt == 0x07 && func == 0) || (tgt == 0x08 && (func == 0 || func == 2)) || (tgt == 0x09 && func == 1)
    || (tgt == 0x0A && decide (1 ≤ func) && decide (func ≤ 6)) || (tgt == 0x0B && (func == 1 || func == 2))
    || (tgt == 0x0C && decide (func < 8)) || (tgt == 0x0D && func == 1) || (tgt == 0x10 && func == 0)

/-- What a receive function's chapter fixes: the size of its records in bytes (0 where it varies), the completion
time in cycles and the staging in bytes. -/
structure RecvInfo where
  size : Nat
  time : Nat
  stage : Nat
deriving DecidableEq, Repr

/-- The receive function 16 × block + func (R271, R272, R291, R321, R347, R369, R381, R442). -/
def State.recvInfo (s : State) (key : Nat) : RecvInfo :=
  let b := key / 16
  let f := key % 16
  if b = 0x07 then ⟨16, us (max 1 (s.rd SNS_CFG SNS_CFG_flush)), 0x10000⟩
  else if b = 0x08 then (if f = 0 then ⟨0, ms 1, 0x10000⟩ else ⟨32, sec 1, 2 ^ 40⟩)
  else if b = 0x09 then ⟨272, ms 10, 0x4000⟩
  else if b = 0x0A then
    (if f = 1 then ⟨0, ms 1, 0x40000⟩ else if f = 2 then ⟨0, ms 1, 0x10000⟩ else ⟨0, ms 5, 0x400000⟩)
  else if b = 0x0B then ⟨0, ms 10, 0x4000⟩
  else if b = 0x0C then ⟨0, ms 1, 0x10000⟩
  else if b = 0x0D then ⟨0, ms 1, 0x40000⟩
  else ⟨32, ms 1, 0x10000⟩

def State.staged (s : State) (key : Nat) : List (List Word) := cellGet (fun _ => []) s.rng.stage key

def State.setStaged (s : State) (key : Nat) (l : List (List Word)) : State :=
  { s with rng := { s.rng with stage := cellSet (fun _ => []) s.rng.stage key l } }

/-- Bytes of a list of records. -/
def recBytes (l : List (List Word)) : Nat := l.foldl (fun a r => a + 4 * r.length) 0

/-- The FILL buffer that a ring is filling: its first descriptor under way. -/
def State.filling (s : State) (r : Nat) : Option RDesc :=
  (s.ring r).descs.find? fun d => match d.st with
    | .started _ _ _ => true
    | _ => false

/-- Does a receive ring of CAN stand behind a lower-numbered running ring of its channel (R369)? -/
def State.behindRing (s : State) (r : Nat) : Bool :=
  s.ringTgt r == 0x0C && decide (s.ringFunc r < 8)
    && (List.range r).any fun q => s.ringState q == rsRunning && s.ringTgt q == 0x0C && s.ringFunc q == s.ringFunc r

/-- The ring that receives the records of a receive function: the lowest-numbered one with a buffer, and of a CAN channel
none behind a running ring. (DESIGN CHOICE, log entry 18) -/
def State.recvRing (s : State) (key : Nat) : Option Nat :=
  (List.range 64).find? fun r =>
    (s.ringState r == rsRunning || s.ringState r == rsDraining) && s.ringTgt r * 16 + s.ringFunc r == key
      && (s.filling r).isSome && !s.behindRing r

/-- Place the oldest waiting record in the buffer, or complete a buffer it does not fit (R271 and its like).
(DESIGN CHOICE, log entry 18) -/
def State.pumpOne (s : State) (key : Nat) : Option State :=
  match s.staged key, s.recvRing key with
  | x :: rest, some r =>
    match s.filling r with
    | some d =>
      match d.st with
      | .started len recs since =>
        let n := 4 * x.length
        if len + n ≤ d.len then
          let s1 := (s.bufOut r d len x).setStaged key rest
          let info := s.recvInfo key
          if info.size ≠ 0 ∧ d.len < len + n + info.size then some (s1.endOp r d.slot stDone (len + n) (recs + 1))
          else some (s1.setDesc r d.slot (.started (len + n) (recs + 1) (if recs = 0 then s.cyc else since)))
        else if recs = 0 then some (s.endOp r d.slot stBadParam 0 0)
        else some (s.endOp r d.slot stDone len recs)
      | _ => none
    | none => none
  | _, _ => none

def State.pump (s : State) (key : Nat) : Nat → State
  | 0 => s
  | n + 1 => match s.pumpOne key with
    | none => s
    | some s1 => s1.pump key n

/-- Run the receive function until its records or its buffers are used up. -/
def State.pumpAll (s : State) (key : Nat) : State :=
  s.pump key ((s.staged key).length + ((List.range 64).map fun r => (s.ring r).descs.length).sum)

/-- A record for a receive function: into a buffer, into staging, or dropped when staging is full. -/
def State.deliver (s : State) (key : Nat) (x : List Word) : State × Bool :=
  let s1 := (s.setStaged key (s.staged key ++ [x])).pumpAll key
  if (s1.recvInfo key).stage < recBytes (s1.staged key) then (s1.setStaged key (s1.staged key).dropLast, true)
  else (s1, false)

/-- FILL of a receive function; a buffer of 1 to `least` - 1 bytes completes BAD_PARAM (R96). -/
def State.fill (s : State) (r func tgt least : Nat) : Out :=
  s.ringOp r tgt func 0x01 fun s d =>
    if s.bufBad r d then .fault .ringMisuse
    else if d.len = 0 then .next (s.endOp r d.slot stDone 0 0)
    else if d.len < least then .next (s.endOp r d.slot stBadParam 0 0)
    else .next ((s.startOp r d.slot).pumpAll (tgt * 16 + func))

/-! Areas of module memory that rings use. -/

/-- A range of module memory as (address, bytes). Is address `a` in one of these? -/
def inAreas (l : List (Nat × Nat)) (a : Nat) : Bool := l.any fun x => decide (x.1 ≤ a) && decide (a < x.1 + x.2)

/-- Memory that the rings with Ethernet carriage give to the module while they are not OFF: completion areas, completion
doorbell words, the slots from head to tail and the buffers of their descriptors (R89, R94, R111). -/
def State.ethAreas (s : State) : List (Nat × Nat) :=
  ((List.range 64).filter fun r => s.ringEth r && s.ringState r != rsOff).flatMap fun r =>
    let n := s.ringLog r
    (s.ringCq r, 16 * 2 ^ n) :: (s.ringCdb r, 4) ::
      (List.range (ptrDist n (s.ringHead r) (s.ringTail r))).flatMap fun i =>
        let a := s.ringDesc r + 64 * ((s.ringHead r + i) % 2 ^ n)
        [(a, 64), (u64 (s.memWord (a + 8)) (s.memWord (a + 12)), (s.memWord (a + 16)).toNat % 2 ^ 24)]

/-- Does an operation of block `tgt` fill its buffer: a FILL, a read-out, a capture, a report? -/
def opFills (tgt func op : Nat) : Bool :=
  (op == 1 && (isRecv tgt func || tgt == 0x11)) || [(0x02, 3), (0x03, 0x12), (0x03, 0x15), (0x08, 0x10), (0x09, 3), (0x0A, 4),
    (0x0B, 2), (0x11, 5), (0x13, 7)].contains (tgt, op)

/-- Of that memory, what the module writes: completion areas and doorbell words, and the buffers that operations fill. -/
def State.ethWritten (s : State) : List (Nat × Nat) :=
  ((List.range 64).filter fun r => s.ringEth r && s.ringState r != rsOff).flatMap fun r =>
    let n := s.ringLog r
    (s.ringCq r, 16 * 2 ^ n) :: (s.ringCdb r, 4) ::
      (List.range (ptrDist n (s.ringHead r) (s.ringTail r))).flatMap fun i =>
        let a := s.ringDesc r + 64 * ((s.ringHead r + i) % 2 ^ n)
        if opFills (s.ringTgt r) (s.ringFunc r) (bits (s.memWord a) 31 24) then
          [(u64 (s.memWord (a + 8)) (s.memWord (a + 12)), (s.memWord (a + 16)).toNat % 2 ^ 24)]
        else []

/-- The memory of ring `r`: its descriptors, its completion area and its completion doorbell word. -/
def State.ringMem (s : State) (r : Nat) : List (Nat × Nat) :=
  [(s.ringDesc r, 64 * 2 ^ s.ringLog r), (s.ringCq r, 16 * 2 ^ s.ringLog r), (s.ringCdb r, 4)]

/-- Do two of these byte ranges overlap? -/
def areasClash : List (Nat × Nat) → Bool
  | [] => false
  | x :: l => (l.any fun y => decide (x.1 < y.1 + y.2) && decide (y.1 < x.1 + x.2)) || areasClash l

/-- Is one of the byte ranges of `a` in touch with one of `b`? -/
def areasMeet (a b : List (Nat × Nat)) : Bool :=
  a.any fun x => b.any fun y => decide (x.1 < y.1 + y.2) && decide (y.1 < x.1 + x.2)

/-- Memory of the rings with Ethernet carriage, that lies in shared DRAM. -/
def State.ethMem (s : State) : List (Nat × Nat) :=
  s.ethAreas ++ ((List.range 64).filter fun r => s.ringEth r && s.ringState r != rsOff).flatMap s.ringMem

end Sys2Proof.Machine
end

