-- ==== Sys2Proof/Machine/CamCore.lean ====
section
/-! DEFINITION. The parameter blocks of the cameras and their hand-overs (R304). -/

namespace Sys2Proof.Machine

def State.cam (s : State) (c : Nat) : Cam := cellGet (fun _ => Cam.init) s.vis.cams c

def State.setCam (s : State) (c : Nat) (x : Cam) : State :=
  { s with vis := { s.vis with cams := cellSet (fun _ => Cam.init) s.vis.cams c x } }

def State.camEn (s : State) (c : Nat) : Bool := s.bit (VIS_CAM_CFG c) VIS_CAM_CFG_en

def Cam.due (k : Cam) (c : Nat) : Bool := if k.pendAt = c then k.prevPend else k.pending
def Cam.source (k : Cam) (c : Nat) : Cells Word := if k.wroteAt = c then k.prevSh else k.sh

/-- The last hand-over of camera `c` moves one number up: one of a lower camera falls in its cycle. -/
def State.camShift (s : State) (c : Nat) : State :=
  let k := s.cam c
  let s1 := s.incReg (VIS_CAM_SEQ c)
  let s2 := if k.wroteAt == s.cyc then s1.incReg (VIS_CAM_WSEQ c) else s1
  s2.setCam c { k with frame := k.frame.map fun f => if f.fsCyc = s.cyc then { f with ho := f.ho + 1#32 } else f }

/-- The number of a hand-over of camera `c` in this cycle, `now`, or in one that has passed. -/
def State.camNumber (s : State) (c : Nat) (now : Bool) : State × Word :=
  let above := if now then s.handedAbove 0x0A c else []
  let s1 := above.foldl State.camShift (s.incReg VIS_HO_SEQ)
  (if now then s1.handNote 0x0A c else s1, word (seqBack (s1.reg VIS_HO_SEQ).toNat above.length))

/-- The hand-over at a Frame Start that pairs: a write or commit of its cycle acts after it. -/
def State.camCopy (s : State) (c : Nat) : State :=
  let k := s.cam c
  let q := s.camNumber c true
  let s2 := (q.1.hoMend 0x0A).setReg (VIS_CAM_SEQ c) q.2
  let s3 := if k.wroteAt == s.cyc then s2.setReg (VIS_CAM_WSEQ c) q.2 else s2
  s3.setCam c { k with act := k.source s.cyc, pending := k.pending && k.pendAt == s.cyc, prevPend := false }

/-- The hand-over of a camera with en 0, in the cycle after its commit or after the write that set en to 0. -/
def State.camIdle (s : State) (c : Nat) : State :=
  let k := s.cam c
  if k.pending && !s.camEn c && decide (k.pendAt < s.cyc) then
    let q := s.camNumber c (k.pendAt + 1 == s.cyc)
    (q.1.setReg (VIS_CAM_SEQ c) q.2).setCam c { k with act := k.sh, pending := false, prevPend := false }
  else s

/-- The hand-overs of cameras with en 0 that have fallen due, in camera order. -/
def State.camsNow (s : State) : State := (List.range 12).foldl State.camIdle s

/-- The bytes of a display buffer of camera `c`. -/
def State.dispSize (s : State) (c : Nat) : Nat :=
  s.rd (VIS_CAM_DISP c) VIS_CAM_DISP_w16 * 16 * (s.rd (VIS_CAM_DISP c) VIS_CAM_DISP_h16 * 16) * 3 / 2

/-- The buffer set of camera `c`, and whether it is in use (R305). -/
def State.dispArea (s : State) (c : Nat) : Nat × Nat := (s.rd (VIS_CAM_DISP c) VIS_CAM_DISP_base * 0x200000, 3 * s.dispSize c)
def State.dispOn (s : State) (c : Nat) : Bool := s.camEn c && s.bit (VIS_CAM_CFG c) VIS_CAM_CFG_disp

end Sys2Proof.Machine
end

