-- ==== Sys2Proof/Machine/View.lean ====
section
/-! DEFINITION. What a register reads: its stored value, or, for registers that report other state, that state.
Reading so has no side effect (R438). -/

namespace Sys2Proof.Machine

/-! The output channels and CAN channels beside their registers. -/

def State.valve (s : State) (n : Nat) : Valve := cellGet (fun _ => Valve.init) s.valves n
def State.switch (s : State) (n : Nat) : Switch := cellGet (fun _ => Switch.init) s.switches n
def State.fin (s : State) (n : Nat) : FreqIn := cellGet (fun _ => FreqIn.init) s.sns.fin n

/-- The level of an input as Nymgor sees it: a FIN's and, by code 0x20 and up, a DIN's accepted level (R246, R247). -/
def State.inLevel (s : State) (i : Nat) : Bool :=
  if 0x20 ≤ i then (s.reg SNS_DIN_STATE).toNat / 2 ^ (i - 0x20) % 2 == 1 else (s.fin i).level

def State.canCh (s : State) (n : Nat) : CanCh := cellGet (fun _ => CanCh.init) s.can n

def State.setCan (s : State) (n : Nat) (c : CanCh) : State :=
  { s with can := cellSet (fun _ => CanCh.init) s.can n c }

/-- Transmit queue `q` of a channel. -/
def CanCh.queue (c : CanCh) (q : Nat) : List TxFrame := cellGet (fun _ => []) c.q q

def CanCh.setQueue (c : CanCh) (q : Nat) (l : List TxFrame) : CanCh :=
  { c with q := cellSet (fun _ => []) c.q q l }

/-! The thermal model beside the channels (R446, R450). -/

abbrev nodeValve (n : Nat) : Nat := n
abbrev nodeSwitch (n : Nat) : Nat := 64 + n

/-- The derating factor of a channel in 1/1280 (R450). -/
def State.derate (s : State) (node : Nat) : Nat := cellGet (fun _ => 1280) s.thm.k node

/-- Is the node a junction or a case, to which a divergence is added (R447)? -/
def nodeDiverges (i : Nat) : Bool := decide (i < 48) || (decide (64 ≤ i) && decide (i < 160))

/-- A network estimate `x` of node `i` with its offset and the divergence, in 1/16 °C (R447). -/
def State.withOffset (s : State) (i : Nat) (x : Int) : Int :=
  x / 2 ^ 20 + cellGet (fun _ => 0) s.thm.offs i / 64 + (if nodeDiverges i then s.thm.diverg else 0)

/-- The estimate of a node from the last model update in 1/16 °C (R446, R497). -/
def State.nodeTemp (s : State) (i : Nat) : Int := cellGet (fun _ => 0) s.thm.est i

/-- A node number that R497 names. -/
def nodeNamed (i : Nat) : Bool :=
  decide (i < 48) || (decide (64 ≤ i) && decide (i < 140)) || (decide (144 ≤ i) && decide (i < 164)) || i == 168

/-! Items and groups: an item is coded as in TRI_GMAP_IDX (R195). -/

abbrev itemValve (n : Nat) : Nat := n
abbrev itemSwitch (n : Nat) : Nat := 64 + n
abbrev itemTmpl (n : Nat) : Nat := 128 + n

/-- The group of an item; at start every item is in group 1. -/
def State.groupOf (s : State) (item : Nat) : Nat := cellGet (fun _ => 1) s.tri.gmap item

def State.holder (s : State) (g : Nat) : Nat := s.rd (TRI_GRP g) TRI_GRP_holder
def State.limpHeld (s : State) (g : Nat) : Bool := s.bit (TRI_GRP g) TRI_GRP_limp

/-- Is switch `n` in a protected phase (R234)? -/
def State.protected (s : State) (n : Nat) : Bool :=
  (s.switch n).protEnd.isSome || s.holder (s.groupOf (itemSwitch n)) == 3

/-- A coordinate of a PVT message in units of 10^-9 degree: word `i` and eight bits of word 4 (R331). -/
def fineOf (ws : List Word) (i hi lo : Nat) : Int := sInt (wAt ws i) * 100 + sBits 8 (bits (wAt ws 4) hi lo)

/-! The ring engine and the recorder. -/

def State.ringsIn (s : State) (st : Nat) : Nat := ((List.range 64).filter fun r => s.ringState r == st).length

/-- Seq of the newest entry in flash; 0xFFFF_FFFF with none (R444). -/
def Recorder.flushed (r : Recorder) : Nat :=
  match r.store.getLast? with
  | some e => e.seq
  | none => 0xFFFFFFFF

def Recorder.bufSize (r : Recorder) : Nat := recBytes (r.buf.map RecEntry.ws)
def Recorder.storeSize (r : Recorder) : Nat := recBytes (r.store.map RecEntry.ws)

/-- Gravest class of the open windows (R428); 3 with none. -/
def Flt.gravest (f : Flt) : Nat := f.wins.foldl (fun a w => min a w.cls) 3

/-- The index of `off` among `n` registers `stride` bytes apart from `base`. -/
def regIdx (off base stride n : Nat) : Option Nat :=
  if base ≤ off ∧ (off - base) % stride = 0 ∧ (off - base) / stride < n then some ((off - base) / stride) else none

/-- CLE_GECKO_SUM: one bit for each loop of 32 that has a flag set (R155). -/
def State.geckoSum (s : State) (first : Nat) : Word :=
  packW ((List.range 32).map fun i => (b2n (s.rd (CLE_GECKO (first + i)) CLE_GECKO_flags != 0), i))

/-- Is loop `n` on the catch-up lane: moved there, or past its slot start without an evaluation (R148)? -/
def State.onLane (s : State) (n : Nat) : Bool :=
  let l := cellGet (fun _ => Loop.init) s.cle.loops n
  l.cu || decide (l.nom + 24005 ≤ s.mtime)

/-- Does an evaluation under way since a step of MTIME wait on the catch-up lane (R149)? -/
def Flight.onLane (f : Flight) (c : Nat) : Bool := f.lane || decide (f.start < c)

/-- CLE_LSTATn. -/
def State.loopStat (s : State) (n : Nat) : Word :=
  let l := cellGet (fun _ => Loop.init) s.cle.loops n
  packW [(bits (wAt l.act 0) 31 31, 31), (b2n l.auth, 30), (b2n l.moving, 29), (b2n l.pending, 28), (b2n (bits (wAt l.act 0) 31 31 == 1 && (s.onLane n || l.flight.any fun f => f.onLane s.cyc)), 27)]

/-! The K12 register map (R486). -/

/-- Register `a` of the K12 map as stored. -/
def State.k12Get (s : State) (a : Nat) : Nat := cellGet k12Reset s.k12.map a

def State.k12Set (s : State) (a v : Nat) : State :=
  { s with k12 := { s.k12 with map := cellSet k12Reset s.k12.map a v } }

/-- Set the bits of a mask in STATUS; a clear of the same cycle does not undo it (R8). -/
def State.k12Flag (s : State) (m : Nat) : State := (s.k12Set 0x004 (s.k12Get 0x004 ||| m)).heat (K12_MAP 4) (word m)

/-- Does the K12 engine run: K12 mode from stage 10, and not fenced (R472, R485)? -/
def State.k12Answers (s : State) : Bool := s.isK12 && s.passed 10
def State.k12Runs (s : State) : Bool := s.k12Answers && !s.fenced 6

/-- CYCLE (R479) and CANST, which follow other state while the engine runs. -/
def State.k12Cycle (s : State) : Nat := if s.fenced 6 then s.k12Get 0x003 else s.mtime / 1000000 % 65536

def State.k12CanSt (s : State) : Nat :=
  if s.fenced 6 then s.k12Get 0x0C5 else s.rd (CAN_STAT 0) CAN_STAT_state + 4 * s.rd (CAN_STAT 1) CAN_STAT_state

/-- STATUS, with fail while the engine is fenced (R485). -/
def State.k12Status (s : State) : Nat := s.k12Get 0x004 ||| (if s.fenced 6 then 0x8000 else 0)

/-- What a read of register `a` returns (R475, R478, R486). -/
def State.k12Read (s : State) (a : Nat) : Nat :=
  if !s.k12Answers then 0
  else if a = 0x000 then 0x4B12
  else if a = 0x001 then 0x0300
  else if a = 0x003 then s.k12Cycle
  else if a = 0x004 then s.k12Status
  else if a = 0x0A3 then s.k12.angHi
  else if a = 0x0B5 then 0
  else if a = 0x0C1 then s.k12.name1
  else if a = 0x0C2 then s.k12.name2
  else if a = 0x0C3 then s.k12.name3
  else if a = 0x0C5 then s.k12CanSt
  else if a < 512 then s.k12Get a
  else 0

/-- ATTN# is pulled low (R477). -/
def State.k12Attn (s : State) : Bool := s.k12Answers && s.k12Status &&& s.k12Get 0x005 != 0

/-- An update at `err` ns from its documented phase, or on a grid not yet re-aligned (R481, R482). -/
def State.k12Phase (s : State) (err : Nat) (stale : Bool) : State :=
  let s1 := s.wrMax K12_PHASE K12_PHASE_max_err (err / 10)
  if stale || decide (5000 < err) then s1.bump K12_PHASE K12_PHASE_over_cnt else s1

/-- K12_STAT. -/
def State.k12Stat (s : State) : Word :=
  if s.isK12 then
    packW [(1, 31), (b2n s.k12Answers, 30), (b2n (s.holder 30 == 2 && s.holder 31 == 2), 29),
      (s.k12Get 0x004 / 2 ^ 14 % 2, 28), (s.k12Cycle, 0)]
  else 0#32

/-- The rails of port B: once rail_hold has run from the last waveform's end they are falling, until they are off (R409). -/
def State.railsNow (s : State) : Nat :=
  let r := s.rd DPY_B_STAT DPY_B_STAT_rails
  match s.dpy.idleB with
  | some c => if r = 2 ∧ c + ms (s.rd DPY_B_CFG DPY_B_CFG_rail_hold) ≤ s.cyc then 3 else r
  | none => r

/-! DMA channels at the ports (R390, R396). -/

abbrev dmaIdle : Nat := 0
abbrev dmaRun : Nat := 1
abbrev dmaPausing : Nat := 2
abbrev dmaPaused : Nat := 3

def State.dmaState (s : State) (n : Nat) : Nat := s.rd (DMA_CH_STAT n) DMA_CH_STAT_state

/-- The request line a channel is paced by, 0 for none. -/
def State.dmaReq (s : State) (n : Nat) : Nat := s.rd (DMA_CH_CFG n) DMA_CH_CFG_req

def State.dmaLineOn (s : State) (q : Nat) : Bool := cellGet (fun _ => false) s.dmaLine q

/-- A peripheral's request line falls: a withdrawal for the channels it paces (R396). (DESIGN CHOICE, log entry 83) -/
def State.lineDrop (s : State) (q : Nat) : State :=
  if s.dmaLineOn q then
    let mine := (List.range 32).filter fun n => s.dmaReq n == q && s.bit (DMA_CH_CFG n) DMA_CH_CFG_en
    let s1 := mine.foldl (fun x n => (x.wr (DMA_CH_STAT n) DMA_CH_STAT_wd_seen 1).bump (DMA_CH_CNT n) DMA_CH_CNT_wd_cnt) s
    { s1 with dmaLine := cellSet (fun _ => false) s1.dmaLine q false }
  else s

/-- The rank of a channel: Class B above Class C, then prio (R390). -/
def State.dmaRank (s : State) (n : Nat) : Nat :=
  (if s.rd (DMA_CH_CFG n) DMA_CH_CFG_class = 1 then 8 else 0) + s.rd (DMA_CH_CFG n) DMA_CH_CFG_prio

/-- Is a channel ready for a port: it runs or drains, and its request line, if it has one, is asserted?
(DESIGN CHOICE, log entry 83) -/
def State.dmaActive (s : State) (n : Nat) : Bool :=
  (s.dmaState n == dmaRun || s.dmaState n == dmaPausing) && (s.dmaReq n == 0 || s.dmaLineOn (s.dmaReq n))

/-- Does a channel of higher rank hold the ports that channel `n` is ready for? -/
def State.dmaBehind (s : State) (n : Nat) : Bool :=
  s.dmaActive n && (List.range 32).any fun m => s.dmaActive m && decide (s.dmaRank n < s.dmaRank m)

/-- DMA_CHn_STAT.lf: behind a higher rank, or in turn with an equal one, where whose turn it is is free.
(DESIGN CHOICE, log entry 83) -/
def State.dmaWaits (s : State) (n : Nat) : Bool :=
  s.dmaBehind n || (s.dmaActive n && ((List.range 32).any fun m => m != n && s.dmaActive m && s.dmaRank m == s.dmaRank n)
    && Config.freeNat (s.free + n) % 2 == 1)

/-- The indexed registers that report other state. -/
def State.regViewIdx (s : State) (off : Nat) (w : Word) : Word :=
  match regIdx off (LSW_STAT 0) 0x20 64 with
  | some n => LSW_STAT_derate.put (LSW_STAT_prot.put w (b2n (s.protected n)))
      (b2n ((s.switch n).on && decide (s.derate (nodeSwitch n) < 1280)))
  | none =>
    match regIdx off (VDR_STAT 0) 0x20 48 with
    | some n => VDR_STAT_derate.put w (b2n (!s.bit (VDR_CFGn n) VDR_CFGn_mode && s.bit (VDR_CFGn n) VDR_CFGn_en
        && s.rd (VDR_STAT n) VDR_STAT_active != 0 && !(s.valve n).down && decide (s.derate (nodeValve n) < 1280)))
    | none =>
    match regIdx off (CLE_LSTAT 0) 0x20 64 with
    | some n => s.loopStat n
    | none =>
    match regIdx off (CAN_QSTAT 0) 0x40 8 with
    | some n =>
      let c := s.canCh n
      CAN_QSTAT_fill0.put (CAN_QSTAT_fill1.put (CAN_QSTAT_fill2.put (CAN_QSTAT_fill3.put w
        (c.queue 3).length) (c.queue 2).length) (c.queue 1).length) (c.queue 0).length
    | none =>
    match regIdx off (DMA_CH_STAT 0) 0x40 32 with
    | some n => DMA_CH_STAT_lf.put w (b2n (s.dmaWaits n))
    | none =>
    match regIdx off (K12_MAP 0) 4 512 with
    | some a => word (s.k12Read a)
    | none => w

/-- Is slot `m` named by an enabled camera with tens 1 (R316)? -/
def State.slotBound (s : State) (m : Nat) : Bool :=
  (List.range 12).any fun c => s.camEn c && s.bit (VIS_CAM_CFG c) VIS_CAM_CFG_tens && s.rd (VIS_CAM_CFG c) VIS_CAM_CFG_model == m

/-- A register of the vision block: hand-overs of idle cameras have been made, and bound is computed (R304, R322). -/
def State.visView (s : State) (off : Nat) : Word :=
  match regIdx off (VIS_MOD_STAT 0) 0x10 8 with
  | some m => VIS_MOD_STAT_bound.put (s.reg off) (b2n (s.slotBound m))
  | none => s.camsNow.reg off

/-- Does the setting loop act as FREEZE (R288)? -/
def State.hslFrozen (s : State) : Bool := s.pow.stop.isSome || s.bit FLT_STAT FLT_STAT_limp

/-- HSL_STAT, its W1C bits as stored. -/
def State.hslStat (s : State) (w : Word) : Word :=
  HSL_STAT_mode_act.put
    (HSL_STAT_busy.put
      (HSL_STAT_held.put
        (HSL_STAT_pending.put w (b2n s.hsl.pending))
        (b2n (s.hsl.mode != 0 && s.domHeld (s.rd HSL_TRG HSL_TRG_dom))))
      (b2n s.hsl.run.isSome))
    (if s.hslFrozen then 3 else s.hsl.mode)

/-- The value register `off` holds, computed where it reports other state. -/
def State.regView (s : State) (off : Nat) : Word :=
  let w := s.reg off
  if off = RNG_STATUS then
    RNG_STATUS_halt_cnt.put
      (RNG_STATUS_run_cnt.put w (s.ringsIn rsRunning + s.ringsIn rsDraining)) (s.ringsIn rsHalted)
  else if off = NYM_MTIME_LO then lo32 s.mtime
  else if off = TRI_GMAP_DATA then TRI_GMAP_DATA_group.put w (s.groupOf (s.rd TRI_GMAP_IDX TRI_GMAP_IDX_item))
  else if off = THM_NODE_DATA then
    let i := s.rd THM_NODE_IDX THM_NODE_IDX_node
    if nodeNamed i then
      packW [((cellGet (fun _ => 0) s.thm.offs i / 64 % 2 ^ 16).toNat, 16), ((s.nodeTemp i % 2 ^ 16).toNat, 0)]
    else 0#32
  else if off = CLE_GECKO_SUM_LO then s.geckoSum 0
  else if off = CLE_GECKO_SUM_HI then s.geckoSum 32
  else if off = CLE_POOL_DATA then cellGet (fun _ => 0#32) s.cle.pool (s.rd CLE_POOL_IDX CLE_POOL_IDX_index)
  else if off = FLT_STAT then
    FLT_STAT_any_open.put
      (FLT_STAT_wcls.put (FLT_STAT_nopen.put w (min 0xFFFF s.flt.wins.length))
        (if s.flt.wins.isEmpty then 0 else s.flt.gravest))
      (b2n !s.flt.wins.isEmpty)
  else if off = REC_SEQ then lo32 s.recr.nextSeq
  else if off = REC_FLUSHED then lo32 s.recr.flushed
  else if off = REC_STAT then
    REC_STAT_full.put
      (REC_STAT_flushing.put
        (REC_STAT_chal.put
          (REC_STAT_store_mib.put
            (REC_STAT_buf_kib.put w ((s.recr.bufSize + 1023) / 1024))
            ((s.recr.storeSize + 1048575) / 1048576))
          (b2n s.recr.chal.isSome))
        (b2n s.recr.flush.isSome))
      (b2n s.recr.full)
  else if off = DPY_B_STAT then DPY_B_STAT_rails.put w s.railsNow
  else if off = HSL_STAT then s.hslStat w
  else if off / 0x10000 = 0x0A then s.visView off
  else if off = K12_STAT then s.k12Stat
  else if off = REC_CNT then REC_CNT_lost_cnt.put w (min 0xFFFF s.recr.lost)
  else s.regViewIdx off w

/-- What a read of register `off` returns (R7, R25, R80; in axolotl R467). (DESIGN CHOICE, log entry 13) -/
def State.readReg (s : State) (off : Nat) : Word :=
  if (regRow off).isNone || (s.pow.axo && off / 0x10000 != 0 && off / 0x10000 != 0x13) then 0#32
  else if !s.readableReg off then regReset off
  else s.regView off

end Sys2Proof.Machine
end

