-- ==== Sys2Proof/Machine/FltCore.lean ====
section
/-! DEFINITION. Fault collection (R423 to R430) and the recorder's entries (R432 to R438), but for the reactions of
F0 and F1, which are in Lease.lean. -/

namespace Sys2Proof.Machine

/-! FLT and REC registers: a write applies from the next cycle (R444). -/

/-- An FLT or REC register as it acts in this cycle. -/
def State.regThen (s : State) (off : Nat) : Word :=
  if s.flt.was.1 = s.cyc then (cellGet (fun _ => none) s.flt.was.2 off).getD (s.reg off) else s.reg off

def State.rdThen (s : State) (off : Nat) (f : Fld) : Nat := f.get (s.regThen off)

def State.bitThen (s : State) (off : Nat) (f : Fld) : Bool := s.rdThen off f != 0

/-- Remember how register `off` acts in this cycle, as it is about to be written. -/
def State.keepThen (s : State) (off : Nat) : State :=
  { s with flt := { s.flt with
    was := (s.cyc, cellSet (fun _ => none) (if s.flt.was.1 = s.cyc then s.flt.was.2 else []) off (some (s.regThen off))) } }

/-! Recorder entries. -/

/-- The buffer of the recorder, 4 MiB (R432). -/
def recCap : Nat := 0x400000

/-- The four words every entry begins with (R423, R432): `n` words follow. -/
def entryHead (time ty n seq : Nat) : List Word :=
  [lo32 time, hi32 time, packW [(ty, 28), ((n + 4) / 4, 16)], lo32 seq]

/-- Give an entry the next number and put it into the buffer, or drop it (R433, R434). Answers its number. -/
def State.addRaw (s : State) (time ty : Nat) (ws : List Word) : State × Nat :=
  let q := s.recr.nextSeq
  let e : RecEntry := ⟨q, entryHead time ty ws.length q ++ ws⟩
  let r1 := { s.recr with nextSeq := (q + 1) % 2 ^ 32 }
  if recCap < r1.bufSize + 4 * e.ws.length then
    (({ s with recr := { r1 with gap := r1.gap + 1, gapFirst := if r1.gap = 0 then q else r1.gapFirst } }).bump
      REC_CNT REC_CNT_drop_cnt, q)
  else
    let r2 := { r1 with buf := r1.buf ++ [e] }
    ({ s with recr := { r2 with flushDue := r2.flushDue || decide (3 * recCap ≤ 4 * r2.bufSize) } }, q)

/-- As `addRaw`, with the GAP entry that space after drops calls for first (R434): 32 bytes, no more than any entry. -/
def State.addEntry (s : State) (time ty : Nat) (ws : List Word) : State × Nat :=
  if s.recr.gap ≠ 0 ∧ s.recr.bufSize + 32 ≤ recCap then
    let g := s.addRaw time 8 [lo32 s.recr.gap, lo32 s.recr.gapFirst, 0#32, 0#32]
    ({ g.1 with recr := { g.1.recr with gap := 0, gapFirst := 0 } }).addRaw time ty ws
  else s.addRaw time ty ws

/-- The words of a SNAPSHOT entry of slot `i` after its head (R432, R438). -/
def State.snapWords (s : State) (i seq : Nat) : List Word :=
  let n := s.rdThen (REC_TRG_A i) REC_TRG_A_n
  let items := (List.range n).flatMap fun j =>
    let off := s.rdThen (REC_LIST (32 * i + j)) REC_LIST_off * 4
    [lo32 off, s.readReg off]
  [packW [(i, 26), (n, 20)], lo32 seq, 0#32, 0#32] ++ items ++ (if n % 2 = 1 then [0#32, 0#32] else [])

/-- Take the snapshot of slot `i`; beyond 16 waiting ones it is dropped and counted (R438). Answers whether it was
taken. -/
def State.snap (s : State) (i seq : Nat) : State × Bool :=
  let n := if s.recr.snapCyc = s.cyc then s.recr.snapN else 0
  if 16 ≤ n then (s.bump REC_CNT REC_CNT_snap_drop, false)
  else
    ((({ s with recr := { s.recr with snapCyc := s.cyc, snapN := n + 1 } }).addEntry s.mtime 2
      (s.snapWords i seq)).1, true)

/-! Fault records. -/

/-- The fault record's words 4 to 7 (R423). -/
def fltWords (e : FltEv) (wins : List FltWin) : List Word :=
  [packW [(e.code, 16), (e.cls, 14), (wins.foldl (fun a w => min a w.cls) e.cls, 12), (e.kind, 10),
      (b2n !wins.isEmpty, 9), (b2n e.fenced, 8)],
    lo32 e.detail,
    lo32 (match wins.head? with
      | some w => w.seq
      | none => 0xFFFFFFFF),
    0#32]

/-- Close the earliest open window of an F2 fault. -/
def dropWin (code detail : Nat) (l : List FltWin) : List FltWin :=
  l.eraseP fun w => w.code == code && w.detail == detail && w.cls == 2

/-- One record to the recorder and to the live ring, with its interrupt (R423, R442). A PERSISTING record's own window does
not count as that of another fault. -/
def State.fltRecord (s : State) (e : FltEv) : State × Nat :=
  let ws := fltWords e (if e.kind = 2 then dropWin e.code e.detail s.flt.wins else s.flt.wins)
  let q := (s.addEntry e.time 1 ws).2
  let a := (s.addEntry e.time 1 ws).1.deliver 0x100 (entryHead e.time 1 4 q ++ ws)
  let s2 := a.1
  if a.2 then (s2.bump FLT_CNT1 FLT_CNT1_drop_cnt, q)
  else if (e.kind = 0 ∨ e.kind = 3) ∧ s.bitThen FLT_CFG FLT_CFG_irq_en ∧ e.cls ≤ s.rdThen FLT_CFG FLT_CFG_irq_cls then
    (s2.emit (.msix (s.rdThen FLT_CFG FLT_CFG_vector)), q)
  else (s2, q)

/-- The codes of the last fault and of the last grave one (R444). -/
def State.fltTell (s : State) (cls code : Nat) : State :=
  let s1 := s.wr FLT_LAST FLT_LAST_last code
  if cls ≤ 1 then s1.wr FLT_LAST FLT_LAST_grave code else s1

/-- Count a fault of class `cls` (R444). -/
def State.fltCount (s : State) (cls code : Nat) : State :=
  let s1 :=
    if cls = 0 then s.bump FLT_CNT1 FLT_CNT1_f0_cnt
    else if cls = 1 then s.bump FLT_CNT1 FLT_CNT1_f1_cnt
    else if cls = 2 then s.bump FLT_CNT0 FLT_CNT0_f2_cnt
    else s.bump FLT_CNT0 FLT_CNT0_f3_cnt
  s1.fltTell cls code

/-- Does trigger slot `i` match a fault (R438)? -/
def State.slotMatch (s : State) (i code cls : Nat) : Bool :=
  s.bitThen (REC_TRG_A i) REC_TRG_A_en &&
    (let k := s.rdThen (REC_TRG_A i) REC_TRG_A_kind
     let m := s.rdThen (REC_TRG_B i) REC_TRG_B_mask
     if k = 0 then (code &&& m) == (s.rdThen (REC_TRG_B i) REC_TRG_B_code &&& m)
     else if k = 1 then decide (cls ≤ s.rdThen (REC_TRG_A i) REC_TRG_A_cls)
     else false)

/-- Snapshots of the matching slots, in slot order; how many were dropped. -/
def State.snapAll (s : State) (code cls seq : Nat) : State × Nat :=
  ((List.range 64).filter fun i => s.slotMatch i code cls).foldl
    (fun a i => let r := a.1.snap i seq
      (r.1, if r.2 then a.2 else a.2 + 1)) (s, 0)

/-- A fault of class `cls` starts a flush when REC_CFG.flush_cls asks for it; F0 and F1 always do (R426, R435).
(DEDUCED, log entry 25) -/
def State.fltFlush (s : State) (cls : Nat) : State :=
  if cls ≤ 1 ∨ cls ≤ s.rdThen REC_CFG REC_CFG_flush_cls then { s with recr := { s.recr with flushDue := true } } else s

/-- A RAISED or ESCALATION record with its window, counters and flush, and its number; no snapshot yet. -/
def State.fltRaiseRec (s : State) (e : FltEv) : State × Nat :=
  let q := (s.fltRecord e).2
  let s1 := (s.fltRecord e).1
  let s2 := if e.fenced then s1.fltTell e.cls e.code else s1.fltCount e.cls e.code
  let s3 := if e.cls ≤ 2 then
      { s2 with flt := { s2.flt with wins := s2.flt.wins ++ [⟨e.code, e.detail, e.cls, q, e.cyc, false⟩] } }
    else s2
  (s3.fltFlush e.cls, q)

/-- A dropped snapshot raises F3 note 0x1104 (R438); that note takes no snapshot itself. -/
def State.snapNotes (s : State) : Nat → State
  | 0 => s
  | n + 1 =>
    let e : FltEv := ⟨s.mtime, s.cyc, 0x1104, 3, 0, 0, false⟩
    (((s.fltRecord e).1.fltCount 3 0x1104).fltFlush 3).snapNotes n

/-- The snapshots a record calls for, and the notes of those dropped. (DEDUCED, log entry 25) -/
def State.fltSnap (s : State) (e : FltEv) (q : Nat) : State :=
  (s.snapAll e.code e.cls q).1.snapNotes (s.snapAll e.code e.cls q).2

/-- Make a record now: RAISED and ESCALATION open a window, CLEARED closes it, PERSISTING changes nothing else. -/
def State.fltApply (s : State) (e : FltEv) : State :=
  if e.kind = 0 ∨ e.kind = 3 then
    (s.fltRaiseRec e).1.fltSnap e (s.fltRaiseRec e).2
  else if e.kind = 1 then
    let s1 := { s with flt := { s.flt with wins := dropWin e.code e.detail s.flt.wins } }
    (s1.fltRecord e).1
  else (s.fltRecord e).1

/-- A record before stage 10 is held; its window opens or closes at once (spec/18, before R423). -/
def State.fltHold (s : State) (e : FltEv) : State :=
  let f := { s.flt with held := s.flt.held ++ [e] }
  if e.kind = 1 then
    { s with flt := { f with wins := dropWin e.code e.detail f.wins } }
  else if e.cls ≤ 2 ∧ (e.kind = 0 ∨ e.kind = 3) then
    { s with flt := { f with wins := f.wins ++ [⟨e.code, e.detail, e.cls, 0xFFFFFFFF, e.cyc, false⟩] } }
  else { s with flt := f }

/-- A fault code of an output the K12 engine owns (R209, R231, R452): of a thermal latch, or of another output fault. -/
def k12Therm (code : Nat) : Bool :=
  (decide (0x1240 ≤ code) && decide (code < 0x1250)) || (decide (0x0690 ≤ code) && decide (code < 0x06A8))

def k12Trip (code : Nat) : Bool :=
  [0x0500, 0x0530, 0x0560].any (fun b => decide (b ≤ code) && decide (code < b + 16))
    || [0x0600, 0x0640].any fun b => decide (b + 16 ≤ code) && decide (code < b + 40)

/-- FAULT and the fault flags of STATUS at an output fault (R486). The spec gives the code of a thermal latch alone; the
other codes and the flags are free values. -/
def State.k12Fault (s : State) (code : Nat) : State :=
  if !s.k12Runs || !(k12Therm code || k12Trip code) then s
  else
    ((s.k12Set 0x007 (if k12Therm code then 5 else Config.freeNat s.free % 65536)).k12Flag
      (Config.freeNat (s.free + 1) % 256)).freeAdd 2

/-- DEDUCED, log entry 25. -/
def State.fltPut (s : State) (code cls detail kind : Nat) (fenced : Bool) : State :=
  let e : FltEv := ⟨s.mtime, s.cyc, code, cls, detail, kind, fenced⟩
  let s1 := if s.passed 10 then s.fltApply e else s.fltHold e
  if kind = 0 then s1.k12Fault code else s1

/-- A fault and the ESCALATION record that follows it in the same cycle: both records stand before the snapshots of
either (R429). (DEDUCED, log entry 25) -/
def State.fltEscalate (s : State) (code cls detail : Nat) : State :=
  let a : FltEv := ⟨s.mtime, s.cyc, code, cls, detail, 0, false⟩
  let b : FltEv := ⟨s.mtime, s.cyc, code, 0, detail, 3, false⟩
  if s.passed 10 then
    let s1 := (s.fltRaiseRec a).1
    ((s1.fltRaiseRec b).1.fltSnap a (s.fltRaiseRec a).2).fltSnap b (s1.fltRaiseRec b).2
  else (s.fltHold a).fltHold b

/-! What the chapters call. -/

/-- An F3 note. (DESIGN CHOICE, log entry 24) -/
def State.note (s : State) (code detail : Nat) : State := s.fltPut code 3 detail 0 false

/-- An F3 note that its chapter limits to once per second (R425). -/
def State.noteSlow (s : State) (code detail : Nat) : State :=
  match cellGet (fun _ => none) s.flt.noteAt code with
  | some c => if s.cyc < c + sec 1 then s else
      ({ s with flt := { s.flt with noteAt := cellSet (fun _ => none) s.flt.noteAt code (some s.cyc) } }).note code detail
  | none =>
      ({ s with flt := { s.flt with noteAt := cellSet (fun _ => none) s.flt.noteAt code (some s.cyc) } }).note code detail

/-- Raise an F2 fault; its reaction is the caller's (R426). (DESIGN CHOICE, log entry 24, DEDUCED, log entry 26) -/
def State.raise2 (s : State) (code detail : Nat) : State := s.fltPut code 2 detail 0 false

/-- Is an F2 fault with this code open? -/
def State.isOpen (s : State) (code : Nat) : Bool := s.flt.wins.any fun w => w.code == code && w.cls == 2

/-- The clearing condition of an F2 fault is met: a CLEARED record for each open window of the code (R426).
(DEDUCED, log entry 26) -/
def State.clear2 (s : State) (code : Nat) : State :=
  (s.flt.wins.filter fun w => w.code == code && w.cls == 2).foldl
    (fun s w => s.fltPut code 2 w.detail 1 false) s

/-- The same for the one window of a code with this detail. -/
def State.clearAt (s : State) (code detail : Nat) : State :=
  if s.flt.wins.any fun w => w.code == code && w.detail == detail && w.cls == 2 then s.fltPut code 2 detail 1 false else s

/-- A write or key the module ignores is noted (R424); with its rails off there is nothing to note it. -/
def State.ignored (s : State) (off : Nat) : State := if s.pow.on then s.note 0x00F0 off else s

/-- Is a ring frame accepted from this port and source address (R108)? -/
def State.frameOk (s : State) (port mac : Nat) : Bool :=
  s.bit RNG_ETH_CFG RNG_ETH_CFG_en && s.rd RNG_ETH_CFG RNG_ETH_CFG_ports / 2 ^ port % 2 == 1
    && mac == s.rd RNG_ETH_MAC_HI RNG_ETH_MAC_HI_mac * 2 ^ 32 + (s.reg RNG_ETH_MAC_LO).toNat

/-- A ring frame that is not accepted is dropped with an F3 note whose code the spec does not state (R108).
(DESIGN CHOICE, log entry 23) -/
def State.frameDropped (s : State) : State :=
  s.freeNext.note (0x0100 + Config.freeNat s.free % 0x100) 0

end Sys2Proof.Machine
end

