-- ==== Sys2Proof/Machine/Output.lean ====
section
/-! DEFINITION. The power-stage channels and the transmit queues as the rest of the module uses them: shadow writes
(R204, R206, R224, R225), turning off at once (R207, R227), restarts, and the removal of leased CAN frames (R363). -/

namespace Sys2Proof.Machine

/-! Valves. -/

/-- The state a valve shows (R213, VDR_STATn). (DESIGN CHOICE, log entry 60) -/
def Valve.shown (v : Valve) (en : Bool) (active : Nat) : Nat :=
  if v.therm then 0
  else if v.latched then 5
  else if v.retryAt.isSome then 4
  else if !en then 0
  else if v.feedOff then 6
  else if v.waitOff then 2
  else if v.deferAt.isSome then 3
  else if active ≠ 0 ∧ v.down then 2
  else if active ≠ 0 then 1
  else 0

def State.valveEn (s : State) (n : Nat) : Bool := s.bit (VDR_CFGn n) VDR_CFGn_en
def State.valveActive (s : State) (n : Nat) : Nat := s.rd (VDR_STAT n) VDR_STAT_active

/-- Does the valve drive its coil? -/
def State.valveOn (s : State) (n : Nat) : Bool :=
  s.valveEn n && s.valveActive n != 0 && !(s.valve n).down

/-- Put back a valve's record; VDR_STATn.state follows it. -/
def State.setValve (s : State) (n : Nat) (v : Valve) : State :=
  ({ s with valves := cellSet (fun _ => Valve.init) s.valves n v }).wr (VDR_STAT n) VDR_STAT_state
    (v.shown (s.valveEn n) (s.valveActive n))

/-- Set the active code. -/
def State.valveSetActive (s : State) (n code : Nat) : State := s.wr (VDR_STAT n) VDR_STAT_active code

/-- A write of a valve's shadow. Of a Nymgor write and a loop write in one cycle the loop's counts as the later
(R204, R206). -/
def State.valveWrite (s : State) (n code : Nat) (byNym byLoop : Bool) : State :=
  let v := s.valve n
  let s1 := s.setReg (VDR_WSEQ n) (s.reg VDR_HO_SEQ)
  if byNym && v.byLoop && v.wrote && v.wroteAt == s.cyc then s1
  else
    let prev := if v.wrote && v.wroteAt == s.cyc then v.prev else if v.wrote then some v.shadow else none
    s1.setValve n { v with shadow := code, wrote := true, wroteAt := s.cyc, byLoop := byLoop, prev := prev }

/-- The cycle at which an off-time that begins now ends (R208). -/
def State.valveOffEnd (s : State) (n : Nat) : Nat := s.cyc + us (10 * s.rd (VDR_SAFE n) VDR_SAFE_toff)

/-- A valve turns off at once, its shadow and active code kept (R207). (DESIGN CHOICE, log entry 62) -/
def State.valveOff (s : State) (n : Nat) : State :=
  let v := s.valve n
  let v1 := { v with down := true, ramp := 0, duty := 0, dither := 0, restartAt := none, lowAt := none, headAt := none,
                      lowTold := false, headTold := false, aim := 0, integ := 0 }
  s.setValve n (if s.valveOn n then { v1 with offEnd := s.valveOffEnd n, decay := some 0 } else v1)

/-- A deferral ends; the pair's longest is kept, in units of 10 µs (R216). -/
def State.deferEnd (s : State) (n : Nat) : State :=
  match (s.valve n).deferAt with
  | none => s
  | some c =>
    (s.wrMax (VDR_PAIRSTAT (n / 2)) VDR_PAIRSTAT_max_defer ((s.cyc - c) / us 10)).setValve n
      { s.valve n with deferAt := none }

/-- A valve turns off at once with shadow and active code 0: override and power-fail warning (R207). Its off-time runs from
here also where it was off with a code kept (R208). -/
def State.valveKill (s : State) (n : Nat) : State :=
  let s1 := ((s.valveOff n).deferEnd n).valveSetActive n 0
  s1.setValve n { s1.valve n with
    shadow := 0, wrote := false, prev := none, waitOff := false, down := false
    offEnd := if s.valveActive n ≠ 0 then s.valveOffEnd n else (s1.valve n).offEnd }

/-- Is pair mode set for the pair of valve `n` (R214)? -/
def State.paired (s : State) (n : Nat) : Bool :=
  decide (n < 16) && s.rd VDR_PAIR VDR_PAIR_pair_en / 2 ^ (n / 2) % 2 == 1

/-- The other valve of a pair. -/
def partner (n : Nat) : Nat := if n % 2 = 0 then n + 1 else n - 1

/-- Does the pair rule let valve `n` start now (R215)? -/
def State.pairFree (s : State) (n : Nat) : Bool :=
  !s.paired n || (!s.valveOn (partner n) && decide ((s.valve (partner n)).offEnd ≤ s.cyc))

/-- A channel starts: the ramp from 0, a fresh dither period and R_est at 10 Ω (R199, R201, R202). -/
def Valve.begin (v : Valve) (c : Nat) : Valve :=
  { v with down := false, ramp := 0, rEst := 10000, dither := 0, aim := 0, integ := 0, decay := none,
           restartAt := if v.tripped ≠ 0 then some c else none }

/-- Is a valve kept off by a trip, a latch, its feed or the thermal model? -/
def Valve.heldOff (v : Valve) : Bool := v.latched || v.retryAt.isSome || v.retryLeft.isSome || v.feedOff || v.therm

/-- A valve that is off with its active code kept restarts from it, ramping from 0, once nothing holds it off. -/
def State.valveRestart (s : State) (n : Nat) : State :=
  let v := s.valve n
  if s.valveEn n && s.valveActive n != 0 && v.down && !v.heldOff && decide (v.offEnd ≤ s.cyc) && s.pairFree n then
    s.setValve n (v.begin s.cyc)
  else s

/-! Load switches. -/

/-- The state a load switch shows (R238, LSW_STATn). -/
def Switch.shown (w : Switch) (en : Bool) : Nat :=
  if w.therm then 5
  else if w.latched then 4
  else if w.retryAt.isSome then 3
  else if !en then 0
  else if w.feedOff then 6
  else if w.on && w.inrushEnd.isSome then 2
  else if w.on then 1
  else 0

def State.switchEn (s : State) (n : Nat) : Bool := s.bit (LSW_CFG n) LSW_CFG_en

/-- The class ratings (R220): the continuous current and I_lim, in mA. -/
def ratingOf (n : Nat) : Nat := if n < 16 then 25000 else if n < 48 then 10000 else 3000
def iLimOf (n : Nat) : Nat := if n < 16 then 75000 else if n < 48 then 40000 else 12000

/-- The current limit in force in mA: I_lim, the class rating while throttled, and the derated limit; the lower where two
apply (R220, R235, R451). -/
def Switch.limitOf (w : Switch) (n k : Nat) : Nat :=
  min (if k < 1280 then (if w.inrushEnd.isSome then iLimOf n else ratingOf n) * k / 1280 else iLimOf n)
    (if w.throttled then ratingOf n else iLimOf n)

/-- A switch's record with what follows from the rest of it: the limit in force, and the times that the overload and the
open-load tests count from, derating factor `k`, at cycle `c` (R230, R235, R237, R451). -/
def Switch.settled (w : Switch) (n k c : Nat) : Switch :=
  let calm := w.on && w.inrushEnd.isNone
  let counts := calm && !w.throttled && decide (1280 ≤ k)
  let past := match w.ovlRun with
    | some r => w.ovlAcc + (c - r)
    | none => w.ovlAcc
  { w with
    limit := w.limitOf n k
    calmAt := if calm then some (w.calmAt.getD c) else none
    ovlAcc := if !calm then 0 else if counts then w.ovlAcc else past
    ovlRun := if counts then some (w.ovlRun.getD c) else none }

/-- Put back a switch's record; LSW_STATn and LSW_MEASn follow it. -/
def State.setSwitch (s : State) (n : Nat) (w : Switch) : State :=
  ((({ s with switches := cellSet (fun _ => Switch.init) s.switches n
                (w.settled n (s.derate (nodeSwitch n)) s.cyc) }).wr (LSW_STAT n) LSW_STAT_state
    (w.shown (s.switchEn n))).wr (LSW_MEAS n) LSW_MEAS_active
      (if w.actMode = 1 then 0xFFFF else if w.actMode = 2 then w.actDuty else 0)).wr (LSW_STAT n) LSW_STAT_thr
      (b2n w.throttled)

/-- A write of a switch's shadow (R224, R225). -/
def State.switchWrite (s : State) (n mode duty : Nat) (byNym byLoop : Bool) : State :=
  let w := s.switch n
  let s1 := s.setReg (LSW_WSEQ n) (s.reg LSW_HO_SEQ)
  if byNym && w.byLoop && w.wrote && w.wroteAt == s.cyc then s1
  else
    let prev := if w.wrote && w.wroteAt == s.cyc then w.prev else if w.wrote then some (w.shMode, w.shDuty) else none
    s1.setSwitch n { w with shMode := mode, shDuty := duty, wrote := true, wroteAt := s.cyc, byLoop := byLoop,
                            prev := prev }

/-- A switch turns off at once, shadow and active value kept (R227). (DESIGN CHOICE, log entry 62) -/
def State.switchOff (s : State) (n : Nat) : State :=
  let w := s.switch n
  s.setSwitch n { w with on := false, inrushEnd := none, restartAt := none, throttled := w.throttled && !w.thrInrush,
                         thrInrush := false }

/-- A switch turns off at once with shadow and active value off (R227). -/
def State.switchKill (s : State) (n : Nat) : State :=
  let s1 := s.switchOff n
  s1.setSwitch n { s1.switch n with shMode := 0, shDuty := 0, actMode := 0, actDuty := 0, wrote := false, prev := none }

/-- Length of a protected phase in cycles (R234); 0 acts as 1. -/
def State.protLen (s : State) : Nat := ms (100 * max 1 (LSW_TCFG_pdur.get s.thm.tcfg))

/-- A switch that nothing holds off turns on with its active value and a new inrush window (R228, R234). -/
def State.switchTurnOn (s : State) (n : Nat) (recovery : Bool) : State :=
  let w := s.switch n
  if s.switchEn n && w.actMode != 0 && !(w.actMode == 2 && w.actDuty == 0) && !w.on && !w.therm && !w.latched
      && w.retryAt.isNone && !w.feedOff then
    let inr := s.rd (LSW_PROT n) LSW_PROT_inr
    s.setSwitch n { w with
      on := true
      edgeAt := s.cyc
      everOn := true
      inrushEnd := if inr = 0 then none else some (s.cyc + ms inr)
      protEnd := if recovery || !w.everOn then some (s.cyc + s.protLen) else w.protEnd
      restartAt := if w.tripped then some s.cyc else none }
  else s

/-- The on-time in ns of a PWM period of `p` µs with duty `duty`, in units of 1/65,536: none with no on-phase, at least
20 µs, and the whole period where less than 20 µs off would be left (R222). (DESIGN CHOICE, log entry 116) -/
def onTime (duty p : Nat) : Option Nat :=
  let x := duty * (1000 * p)
  if x = 0 then none
  else if x < 20000 * 65536 then some 20000
  else if 65536 * (1000 * p) < x + 20000 * 65536 then some (1000 * p)
  else some (x / 65536)

/-- Every channel a feed supplies, as valve and switch numbers (R41). -/
def feedValves (f : Nat) : List Nat :=
  if f = 0 then List.range 24 else if f = 1 then (List.range 24).map (24 + ·) else []

def feedSwitches (f : Nat) : List Nat :=
  if f = 2 then List.range 8
  else if f = 3 then (List.range 8).map (8 + ·)
  else if f = 4 then (List.range 24).map (16 + ·)
  else if f = 5 then (List.range 24).map (40 + ·)
  else []

/-- Every channel turns off and is set to off, whatever its lease: the power-fail warning (R59). -/
def State.killAll (s : State) : State :=
  (List.range 64).foldl State.switchKill ((List.range 48).foldl State.valveKill s)

/-! CAN frames of a control-engine template (R361, R363). -/

/-- Take the frames that `gone` names out of Q0. The frame in transmission finishes its attempt and leaves then. -/
def CanCh.drop0 (c : CanCh) (gone : TxFrame → Bool) : CanCh :=
  let l := c.queue 0
  let behind := c.behind.bind fun f => if gone f then none else some f
  if c.cur = some 0 then
    match l with
    | [] => c
    | h :: t => { c.setQueue 0 (h :: t.filter fun f => !gone f) with
                    behind := behind, curGone := c.curGone || gone h }
  else { c.setQueue 0 (l.filter fun f => !gone f) with behind := behind }

/-- The lease of group `g` has ended: the unsent frames of its templates are removed (R363). -/
def State.canRelease (s : State) (g : Nat) : State :=
  (List.range 8).foldl (fun s n => s.setCan n ((s.canCh n).drop0 fun f =>
    match f.tmpl with
    | some p => s.groupOf (itemTmpl p.1) == g
    | none => false)) s

end Sys2Proof.Machine
end

