-- ==== Sys2Proof/Machine/Lease.lean ====
section
/-! DEFINITION. Leases and safe states (R183 to R189), limp-home (R182), tail-drop (R180), and the reactions of F0
and F1 faults (R426, R429, R430): what several chapters call. -/

namespace Sys2Proof.Machine

def State.group (s : State) (g : Nat) : Group := cellGet (fun _ => Group.init) s.tri.groups g

def State.setGroup (s : State) (g : Nat) (x : Group) : State :=
  { s with tri := { s.tri with groups := cellSet (fun _ => Group.init) s.tri.groups g x } }

/-- End an operation under way and let its ring go on. -/
def State.finish (s : State) (k : Nat × Nat) (honours : Bool) (status len result : Nat) : State :=
  (s.endRunning k honours status len result).settleRing k.1

/-! Modes and machine states. -/

abbrev modeTriad : Nat := 0
abbrev modeDuplex : Nat := 1
abbrev modeLimp : Nat := 2

def State.triMode (s : State) : Nat := s.rd TRI_STAT TRI_STAT_mode
def State.mstate (s : State) : Nat := s.rd TRI_STAT TRI_STAT_mstate
def State.coreLive (s : State) (c : Nat) : Bool := s.rd TRI_STAT TRI_STAT_live / 2 ^ c % 2 == 1

/-- Does holder `h` hold the live lease of the group of `item` (R183)? -/
def State.holds (s : State) (item h : Nat) : Bool :=
  s.holder (s.groupOf item) == h && !s.limpHeld (s.groupOf item)

/-- The lifetime of a lease of group `g` in cycles (R186). -/
def State.leaseLife (s : State) (g : Nat) : Nat :=
  let v := s.rd (TRI_GRP g) TRI_GRP_life
  us (250 * (if v = 0 then 4 else if v = 1 then 2 else min v 80))

/-- The valves and the switches of a group. -/
def State.groupValves (s : State) (g : Nat) : List Nat :=
  (List.range 48).filter fun n => s.groupOf (itemValve n) == g

def State.groupSwitches (s : State) (g : Nat) : List Nat :=
  (List.range 64).filter fun n => s.groupOf (itemSwitch n) == g

/-- Code 0 and off into every shadow of a group. -/
def State.safeOff (s : State) (g : Nat) : State :=
  (s.groupSwitches g).foldl (fun s n => s.switchWrite n 0 0 false false)
    ((s.groupValves g).foldl (fun s n => s.valveWrite n 0 false false) s)

/-- Apply the safe state of a group (R188). -/
def State.applySafe (s : State) (g : Nat) : State :=
  let k := s.rd (TRI_GRP g) TRI_GRP_safe
  if k = 1 then
    let lim := s.rd (TRI_GRP g) TRI_GRP_hold_lim
    s.setGroup g { s.group g with holdEnd := if lim = 0 then none else some (s.cyc + ms (10 * lim)) }
  else if k = 2 then
    (s.groupSwitches g).foldl
      (fun s n => s.switchWrite n (s.rd (LSW_SAFE n) LSW_SAFE_smode) (s.rd (LSW_SAFE n) LSW_SAFE_sduty) false false)
      ((s.groupValves g).foldl (fun s n => s.valveWrite n (s.rd (VDR_SAFE n) VDR_SAFE_safe_code) false false) s)
  else s.safeOff g

/-- The lease of group `g` ends: no holder is left and its frames are removed (R186, R363). -/
def State.leaseClear (s : State) (g : Nat) : State := (s.wr (TRI_GRP g) TRI_GRP_holder 0).canRelease g

/-- Groups whose lease has expired in this cycle. -/
def State.endedNow (s : State) : List Nat := if s.tri.ended.cyc = s.cyc then s.tri.ended.groups else []

/-- What is kept of this cycle's leases so far. -/
def State.endedAt (s : State) : Ended := if s.tri.ended.cyc = s.cyc then s.tri.ended else ⟨s.cyc, [], [], [], []⟩

/-- Keep group `g` as it stands, unless the cycle has touched it already: its registers, its record, its channels
(R184, R187). -/
def State.keepLease (s : State) (g : Nat) : State :=
  let x := s.endedAt
  if x.was.any fun p => p.1 == g then s
  else { s with tri := { s.tri with ended := { x with
    was := (g, s.reg (TRI_GRP g), s.reg (TRI_GCNT g), s.group g) :: x.was
    valves := x.valves ++ (s.groupValves g).map (fun n => (n, s.valve n, s.reg (VDR_WSEQ n)))
    switches := x.switches ++ (s.groupSwitches g).map fun n => (n, s.switch n, s.reg (LSW_WSEQ n)) } } }

/-- Remember an expiry of this cycle. -/
def State.keepEnded (s : State) (g : Nat) : State :=
  let s1 := s.keepLease g
  { s1 with tri := { s1.tri with ended := { s1.endedAt with groups := g :: s1.endedAt.groups } } }

/-- TRI_GRPg as this cycle began. -/
def State.grpThen (s : State) (g : Nat) : Word :=
  match s.endedAt.was.find? fun p => p.1 == g with
  | some p => p.2.1
  | none => s.reg (TRI_GRP g)

/-- Release: the lease ends and the safe state applies in the same cycle (R186). -/
def State.leaseRelease (s : State) (g : Nat) : State := ((s.keepLease g).leaseClear g).applySafe g

/-- An escalation stands above all else that touches a lease in its cycle: the groups are as the cycle found them, and no
shadow has been written (R182, R187). -/
def State.unexpire (s : State) : State :=
  if s.tri.ended.cyc = s.cyc then
    let s0 := s.tri.ended.was.foldl (fun s p =>
      ((s.setReg (TRI_GRP p.1) p.2.1).setReg (TRI_GCNT p.1) p.2.2.1).setGroup p.1 p.2.2.2) s
    let s1 := s.tri.ended.valves.foldl (fun s p => (s.setReg (VDR_WSEQ p.1) p.2.2).setValve p.1 { s.valve p.1 with
      shadow := p.2.1.shadow, wrote := p.2.1.wrote, wroteAt := p.2.1.wroteAt, byLoop := p.2.1.byLoop, prev := p.2.1.prev }) s0
    s.tri.ended.switches.foldl (fun s p => (s.setReg (LSW_WSEQ p.1) p.2.2).setSwitch p.1 { s.switch p.1 with
      shMode := p.2.1.shMode, shDuty := p.2.1.shDuty, wrote := p.2.1.wrote, wroteAt := p.2.1.wroteAt
      byLoop := p.2.1.byLoop, prev := p.2.1.prev }) s1
  else s

/-- Expiry (R186). (DEDUCED, log entry 46) -/
def State.leaseExpire (s : State) (g : Nat) : State :=
  ((((s.keepEnded g).leaseRelease g).wr (TRI_GRP g) TRI_GRP_exp_seen 1).bump (TRI_GCNT g) TRI_GCNT_expire_cnt).note 0x0421 0

/-- Has the lease of group `g` lapsed? -/
def State.lapsed (s : State) (g : Nat) : Bool := s.holder g != 0 && decide ((s.group g).expiry ≤ s.cyc)

/-- Is group 0 shut to grants by the override (R189)? -/
def State.overridden (s : State) : Bool :=
  s.bit TRI_OVR_STAT TRI_OVR_STAT_act0 || s.bit TRI_OVR_STAT TRI_OVR_STAT_act1 || !s.bit TRI_OVR_STAT TRI_OVR_STAT_armed

/-- The same as this cycle began. -/
def State.overriddenThen (s : State) : Bool :=
  match s.tri.ovrWas with
  | some (c, b) => if c = s.cyc then b else s.overridden
  | none => s.overridden

/-- Remember that, as the override is about to change. -/
def State.keepOvr (s : State) : State := { s with tri := { s.tri with ovrWas := some (s.cyc, s.overriddenThen) } }

/-- Does the lease logic refuse holder `h` for group `g`, as the cycle of state `s0` began (R184, R192)? A lease that ends in
the cycle is still live at its start, and an override that changes in it has not yet changed. -/
def State.grantRefused (s0 : State) (g h : Nat) : Bool :=
  let w := s0.grpThen g
  (TRI_GRP_holder.get w != 0 && TRI_GRP_holder.get w != h) || TRI_GRP_limp.get w == 1 || s0.lapsed g
    || s0.endedNow.contains g || TRI_GRP_allow.get w / 2 ^ (h - 1) % 2 == 0
    || (g == 0 && s0.overriddenThen) || (h == 3 && s0.mstate != 5)

/-- Start the lifetime of a lease afresh. (DEDUCED, log entry 46) -/
def State.leaseRenew (s : State) (g : Nat) : State :=
  s.setGroup g { s.group g with expiry := s.cyc + s.leaseLife g }

/-- A grant to group `g` in the cycle of a map write that takes an item out of it or into it: that write is ignored
(R187). -/
def State.unmap (s : State) (g : Nat) : State :=
  if s.tri.mapped.1 = s.cyc then
    s.tri.mapped.2.foldl (fun s p =>
      if p.2 = g ∨ s.groupOf p.1 = g then
        ({ s with tri := { s.tri with gmap := cellSet (fun _ => 1) s.tri.gmap p.1 p.2 } }).ignored TRI_GMAP_DATA
      else s) s
  else s

/-- A grant takes effect, judged on the state at the start of the cycle (R184); an override of the same cycle revokes it
(R187). -/
def State.leaseGrant (s0 s : State) (g h : Nat) : State :=
  if s0.grantRefused g h then ((s.keepLease g).bump (TRI_GCNT g) TRI_GCNT_refuse_cnt).note 0x0420 0
  else if g = 0 ∧ s.overridden then s
  else if s.holder g = h then s.leaseRenew g
  else
    let x := { s.group g with granted := true, holdEnd := none }
    ((((s.keepLease g).unmap g).wr (TRI_GRP g) TRI_GRP_holder h).setGroup g x).leaseRenew g

/-! The triad. -/

/-- Operations that wait for a commit complete ABORTED at the escalation (R182). -/
def State.abortTri (s : State) : State :=
  s.tri.ops.foldl (fun s o => s.finish o.op false stAborted 0 0) { s with tri := { s.tri with ops := [] } }

/-- Escalation to limp-home: every lease passes to the sequencer and no shadow is written (R182). -/
def State.limpHome (s : State) : State :=
  if s.triMode = modeLimp then s
  else
    let s1 := (List.range 32).foldl
      (fun s g => ((if s.holder g ≠ 0 then s.leaseClear g else s).wr (TRI_GRP g) TRI_GRP_limp 1).setGroup g
        { s.group g with holdEnd := none }) s.unexpire
    let s2 := ({ s1 with tri := { s1.tri with limpAt := some s.cyc } }).abortTri
    (s2.wr TRI_STAT TRI_STAT_mode modeLimp).wr FLT_STAT FLT_STAT_limp 1

/-- CROAK stops and holds its level with the first F0 or F1 of the run (R430). -/
def State.croakStop (s : State) : State :=
  { s.wr FLT_STAT FLT_STAT_alive 0 with flt := { s.flt with croakStopped := true } }

/-- An F0 fault, as its own record or an escalation (R426). (DEDUCED, log entry 27) -/
def State.raise0 (s : State) (code detail kind : Nat) : State :=
  ((s.fltPut code 0 detail kind false).croakStop).limpHome

/-- Is the window of a tail-drop open (R429)? -/
def State.tookOver (s : State) : Bool :=
  s.triMode == modeDuplex || s.flt.wins.any fun w => w.cls == 1 && decide (0x0400 ≤ w.code) && decide (w.code ≤ 0x0402)

/-- Does a fault name a core that took over from a tail-dropped one (R429)? -/
def State.namesTakeOver (s : State) (code detail : Nat) : Bool :=
  let core := if code = 0x1011 then detail % 4 else if 0x0400 ≤ code ∧ code ≤ 0x0402 then code - 0x0400 else 3
  decide (core < 3) && s.tookOver && s.coreLive core

/-- The K12 engine is fenced: its registers keep the values last held (R485). -/
def State.k12Freeze (s : State) (u : Nat) : State :=
  if u = 6 ∧ s.k12Runs then (s.k12Set 0x003 s.k12Cycle).k12Set 0x0C5 s.k12CanSt else s

/-- An F1 fault that names unit `u` of FLT_FENCE (R426, R428, R429). -/
def State.raise1 (s : State) (code detail u : Nat) : State :=
  if s.namesTakeOver code detail then ((s.fltEscalate code 1 detail).croakStop).limpHome
  else if s.fenced u then s.fltPut code 1 detail 0 true
  else ((s.k12Freeze u).fltPut code 1 detail 0 false |>.wr FLT_FENCE FLT_FENCE_fenced
          (s.rd FLT_FENCE FLT_FENCE_fenced + 2 ^ u)).croakStop

/-- Core `c` is tail-dropped: fenced, no longer live, and TRIAD becomes DUPLEX (R180). -/
def State.tailDrop (s : State) (c : Nat) : State :=
  let s1 := s.raise1 (0x0400 + c) c c
  let s2 := if s1.coreLive c then s1.wr TRI_STAT TRI_STAT_live (s.rd TRI_STAT TRI_STAT_live - 2 ^ c) else s1
  if s2.triMode = modeTriad then s2.wr TRI_STAT TRI_STAT_mode modeDuplex else s2

/-- An F1 fault that names core `c`, which is tail-dropped for it (R32, R426, R429, R431). The record of the tail-drop, the
lower code, comes first (R425). A second core's fence after a tail-drop is a fault of code 0x0400 + c, which escalates; the
fault itself then fences nothing. (DEDUCED, log entry 25) -/
def State.coreFault (s : State) (code c detail : Nat) : State :=
  if s.namesTakeOver code detail then s.raise1 code detail c
  else if s.fenced c then s.raise1 code detail c
  else if s.namesTakeOver (0x0400 + c) c then (s.raise1 (0x0400 + c) c c).fltPut code 1 detail 0 false
  else (s.tailDrop c).raise1 code detail c

/-- An uncorrectable error in the local memory of core `c`. -/
def State.coreError (s : State) (c detail : Nat) : State := s.coreFault 0x1011 c detail

/-- The second round that override, power-fail and limp-home share: every lease is revoked, no safe state applied. -/
def State.revokeAll (s : State) : State :=
  (List.range 32).foldl (fun s g => if s.holder g ≠ 0 then s.leaseClear g else s) s

/-- Input `n` of the steering override has become active: group 0 is revoked with OFF, which no escalation of the cycle
undoes (R189, R207, R227). -/
def State.overrideRevoke (s : State) (n : Nat) : State :=
  let had := s.holder 0 != 0 || s.limpHeld 0
  let s0 := s.keepLease 0
  let s0 := { s0 with tri := { s0.tri with ended := { s0.tri.ended with
    valves := s0.tri.ended.valves.filter fun p => s.groupOf (itemValve p.1) != 0
    switches := s0.tri.ended.switches.filter fun p => s.groupOf (itemSwitch p.1) != 0 } } }
  let s1 := (s.groupSwitches 0).foldl State.switchKill ((s.groupValves 0).foldl State.valveKill s0)
  let s2 := ((s1.leaseClear 0).wr (TRI_GRP 0) TRI_GRP_limp 0).setGroup 0 { s1.group 0 with holdEnd := none }
  let s3 := s2.wr TRI_OVR_STAT TRI_OVR_STAT_armed 0
  if had then (s3.bump TRI_OVR_STAT TRI_OVR_STAT_rev_cnt).note (0x0430 + n) 0 else s3

end Sys2Proof.Machine
end

