-- ==== Sys2Proof/Machine/Ecc.lean ====
section
/-! DEFINITION. The error-correcting code (R31, R32, R431): what an error found does, poisoned codewords, and the items
that end because they hold one. -/

namespace Sys2Proof.Machine

/-- The region an error counts for: of a payload in transit, that of its destination (R431). -/
def eccRegion (h : EccHit) : Nat := if h.region.val = 7 then h.dest.val else h.region.val

/-- The detail word of an error's fault. (DESIGN CHOICE, log entry 97) -/
def eccDetail (addr : Nat) : Nat := addr / 16 % 2 ^ 32

/-- The fault of an uncorrectable error, by its region. -/
def State.eccFault (s : State) (h : EccHit) : State :=
  let r := eccRegion h
  let d := eccDetail h.addr
  if r = 0 then s.raise0 0x1010 d 0
  else if r = 1 then s.coreError (h.who % 3) (h.addr / 64 % 2 ^ 30 * 4 + h.who % 3)
  else if r = 2 then (if h.who % 12 < 3 then s.coreFault 0x1012 (h.who % 12) d else s.raise1 0x1012 d (h.who % 12))
  else if r = 6 then s.note 0x1016 d
  else s.raise2 (0x1010 + r) d

/-- Mark the codeword at address `a` poisoned until it is next written (R32). -/
def State.poisonWord (s : State) (a : Nat) : State :=
  if s.poison.contains (a / 32) then s else { s with poison := a / 32 :: s.poison }

/-- One error found: counted, and corrected, or marked and raised. (DESIGN CHOICE, log entry 97) -/
def State.eccHit (s : State) (h : EccHit) : State :=
  let f := if h.correctable then FLT_ECC_corr else FLT_ECC_unc
  let s1 := s.bump (FLT_ECC h.region) f
  let s2 := if h.region.val = 7 then s1.bump (FLT_ECC h.dest) f else s1
  if h.correctable then (s2.setReg FLT_ECC_ADDR_LO (lo32 h.addr)).wr FLT_ECC_ADDR_HI FLT_ECC_ADDR_HI_addr (h.addr / 2 ^ 32)
  else (if h.region.val < 6 then s2.poisonWord h.addr else s2).eccFault h

def State.eccAll (s : State) (l : List EccHit) : State := l.foldl State.eccHit s

/-- The item that held the poisoned data of an error has completed ABORTED, been dropped or been flagged: an F2 fault
clears in that cycle (R32). -/
def State.eccEnd (s : State) (h : EccHit) : State :=
  if !h.correctable && decide (3 ≤ eccRegion h) && decide (eccRegion h ≤ 5) then s.clearAt (0x1010 + eccRegion h) (eccDetail h.addr) else s

/-- Errors found for an item that ends for them in the same cycle. -/
def State.eccDone (s : State) (l : List EccHit) : State := l.foldl State.eccEnd (s.eccAll l)

/-- The item that held the poisoned codewords of these bytes has ended: their faults of shared DRAM clear. -/
def State.poisonEnds (s : State) (a n : Nat) : State :=
  (s.flt.wins.filter fun w => w.code == 0x1013 && decide (a < w.detail / 2 * 32 + 32) && decide (w.detail / 2 * 32 < a + n)).foldl
    (fun x w => x.clearAt w.code w.detail) s

/-- Is an uncorrectable error among these? -/
def eccBad (l : List EccHit) : Bool := l.any fun h => !h.correctable

/-- An operation of ring `r` takes its buffer, of which the host gave `n` bytes. A buffer outside shared DRAM is misuse
(R111), as is a length beyond the buffer (R12); one in poisoned module memory ends the descriptor ABORTED (R32).
(DEDUCED, log entry 98) -/
def State.takesBuf (s : State) (r : Nat) (d : RDesc) (n : Nat) (k : Out) : Out :=
  if s.bufBad r d then .fault .ringMisuse
  else if !s.ringEth r && decide (n < d.len) then .fault .oversizeLength
  else if s.ringEth r && s.poisoned d.addr d.len then .next ((s.poisonEnds d.addr d.len).endOp r d.slot stAborted 0 0)
  else k

/-- An operation of ring `r` writes its buffer, which Ethernet carriage places in shared DRAM (R111). -/
def State.givesBuf (s : State) (r : Nat) (d : RDesc) (k : Out) : Out :=
  if s.bufBad r d then .fault .ringMisuse else k

end Sys2Proof.Machine
end

