-- ==== Sys2Proof/Machine/RegCore.lean ====
section
/-! DEFINITION. A host write to a register by its access codes (R7, R9), and when it is not carried out (R80). -/

namespace Sys2Proof.Machine

/-- The bits of a register that a mask names. -/
def maskBits (v : Word) (m : Nat) : Word := v &&& word m

/-- Store a written value under the access codes: RW and RWS fields take it, RO fields stay, counters that any write
clears are cleared, W1C bits written 1 are cleared (R7); a W1C or RWS bit that the module has set in this cycle stays set
(R8). -/
def State.store (s : State) (off : Nat) (v : Word) : State :=
  match regRow off with
  | none => s
  | some row =>
    let old := s.reg off
    let keep := word (2 ^ 32 - 1 - (row.rw ||| row.cl))
    let w := ((old &&& keep) ||| maskBits v row.rw) &&& ~~~(maskBits v row.w1c)
    s.setReg off (w ||| maskBits (old &&& s.hotBits off) (row.w1c ||| row.rws))

/-- The reserved bits of a written value. -/
def reservedOf (off : Nat) (v : Word) : Word :=
  match regRow off with
  | none => 0#32
  | some row => maskBits v row.res

/-- A host write: ignored and noted while its block is not ready or `locked` holds, undefined with a reserved bit set,
and otherwise what `k` does. (DEDUCED, log entry 14) -/
def State.hostWrite (s : State) (off : Nat) (v : Word) (locked : Bool) (k : State → Out) : Out :=
  if !s.readyReg off then .next (s.ignored off)
  else if reservedOf off v ≠ 0#32 then .fault .reservedField
  else if locked then .next (s.ignored off)
  else k s

end Sys2Proof.Machine
end

