-- ==== Sys2Proof/Machine/UpdCore.lean ====
section
/-! DEFINITION. Images in flash, sessions and slots (spec/20), as the update ring, axolotl, the display and the start
use them. -/

namespace Sys2Proof.Machine

/-! Images (R457 to R460). -/

/-- Is a type held once in each slot? -/
def slotType (ty : Nat) : Bool := decide (1 ≤ ty) && decide (ty ≤ 8)

/-- Where an image is kept; only MODEL has an index. -/
def imgKey (slot ty idx : Nat) : Nat :=
  (if slotType ty then 4096 * slot else 0) + 16 * ty + (if ty = 8 then idx else 0)

def State.img (s : State) (slot ty idx : Nat) : Image := cellGet (fun _ => Image.init) s.kept.imgs (imgKey slot ty idx)

/-- Is an image of a type valid in a slot, for MODEL of any index? -/
def State.typeValid (s : State) (slot ty : Nat) : Bool :=
  if ty = 8 then (List.range 8).any fun i => (s.img slot 8 i).valid else (s.img slot ty 0).valid

/-- The valid bits of a slot: bit t - 1 for type t. -/
def State.validBits (s : State) (slot : Nat) : Nat :=
  (List.range 8).foldl (fun a i => if s.typeValid slot (i + 1) then a + 2 ^ i else a) 0

/-- UPD_SLOT shows the boot record and the valid images; act is the slot booted. (DEDUCED, log entry 91) -/
def State.slotSync (s : State) : State :=
  (((s.wr UPD_SLOT UPD_SLOT_next s.kept.boot.next).wr UPD_SLOT UPD_SLOT_trial (b2n s.kept.boot.trial)).wr UPD_SLOT
    UPD_SLOT_valid_a (s.validBits 0)).wr UPD_SLOT UPD_SLOT_valid_b (s.validBits 1)

def State.setImg (s : State) (slot ty idx : Nat) (x : Image) : State :=
  ({ s with kept := { s.kept with imgs := cellSet (fun _ => Image.init) s.kept.imgs (imgKey slot ty idx) x } }).slotSync

def State.setBoot (s : State) (b : Boot) : State := ({ s with kept := { s.kept with boot := b } }).slotSync

/-- The rollback counter and the settings version of an image. -/
def Image.ctr (x : Image) : Nat := bits (wAt x.hdr 4) 15 0
def Image.setVer (x : Image) : Nat := bits (wAt x.hdr 4) 31 16

def State.floor (s : State) (ty idx : Nat) : Nat := cellGet (fun _ => 0) s.kept.floors (imgKey 0 ty idx)

/-- A floor never falls (R460). -/
def State.raiseFloor (s : State) (ty idx c : Nat) : State :=
  { s with kept := { s.kept with
      floors := cellSet (fun _ => 0) s.kept.floors (imgKey 0 ty idx) (max (s.floor ty idx) c) } }

/-- At a confirmation, a type's floor rises to the lower counter of its valid images (R460). -/
def State.confirmFloor (s : State) (ty idx : Nat) : State :=
  let a := s.img 0 ty idx
  let b := s.img 1 ty idx
  if a.valid ∧ b.valid then s.raiseFloor ty idx (min a.ctr b.ctr)
  else if a.valid then s.raiseFloor ty idx a.ctr
  else if b.valid then s.raiseFloor ty idx b.ctr
  else s

/-- Slot `k` is confirmed (R463). -/
def State.confirmSlot (s : State) (k : Nat) : State :=
  let s1 := (List.range 7).foldl (fun x i => x.confirmFloor (i + 1) 0) s
  ((List.range 8).foldl (fun x i => x.confirmFloor 8 i) s1).setBoot ⟨k, k, false, false⟩

/-- Does no valid image of types 1 to 7 in a slot lie below its floor (R460)? -/
def State.slotFloors (s : State) (slot : Nat) : Bool :=
  (List.range 7).all fun i => !(s.img slot (i + 1) 0).valid || decide (s.floor (i + 1) 0 ≤ (s.img slot (i + 1) 0).ctr)

/-- May a slot be activated: types 1 to 7 valid in it, none below its floor? -/
def State.slotReady (s : State) (slot : Nat) : Bool :=
  s.slotFloors slot && (List.range 7).all fun i => (s.img slot (i + 1) 0).valid

/-- The slot booted. (DEDUCED, log entry 91) -/
def State.actSlot (s : State) : Nat := s.rd UPD_SLOT UPD_SLOT_act

/-! Sessions (R461). -/

/-- Largest payload of a type. -/
def maxLen (ty : Nat) : Nat :=
  let mib := [0, 32, 1, 4, 1, 4, 16, 32, 512, 4, 40, 1].getD ty 0
  mib * 2 ^ 20

/-- The key a type is signed with. -/
def keyOf (ty : Nat) : Nat := if 8 ≤ ty then 1 else 0

/-- The session as it now stands; with none open its request line falls (R462). -/
def State.setSess (s : State) (x : Option Sess) : State :=
  let s1 := { s with upd := { s.upd with sess := x } }
  match x with
  | none => (s1.wr UPD_SESS UPD_SESS_open 0).lineDrop 4
  | some y =>
    (s1.setReg UPD_SESS (packW [(1, 31), (y.type, 16), (y.index, 13)])).setReg UPD_SESS_CNT (word y.bytes.length)

/-- Open a session; the old image is invalidated. -/
def State.sessOpen (s : State) (ty idx slot : Nat) : State :=
  let i := if ty = 8 then idx else 0
  (s.setImg slot ty i Image.init).setSess (some ⟨ty, i, slot, [], false, false⟩)

/-- A session ends without result (R462). -/
def State.sessClose (s : State) : State := if s.upd.sess.isSome then s.setSess none else s

/-- The words of a container's header. -/
def headOf (bs : List Byte) : List Word := bytesWords (bs.take 64)

/-- The most bytes a container that begins with `bs` may have: its own length, once its header says it, and the largest of
its type. -/
def containerTop (ty : Nat) (bs : List Byte) : Nat :=
  if bs.length < 12 then 64 + maxLen ty + 96 else 64 + min (maxLen ty) (wAt (headOf bs) 2).toNat + 96

def containerOver (ty : Nat) (bs : List Byte) : Bool := decide (containerTop ty bs < bs.length)

/-- Append bytes at an offset; answers the status. -/
def State.sessWrite (s : State) (off : Nat) (bs : List Byte) : State × Nat :=
  match s.upd.sess with
  | none => (s, stWrongState)
  | some y =>
    if off ≠ y.bytes.length ∨ containerOver y.type (y.bytes ++ bs) then (s, stBadParam)
    else (s.setSess (some { y with bytes := y.bytes ++ bs, written := y.written || !bs.isEmpty }), stDone)

/-- The header of a container against its session. -/
def headOk (y : Sess) : Bool :=
  let h := headOf y.bytes
  let w := wAt h 1
  wAt h 0 == 0x56524843#32 && bits w 31 24 == y.type && bits w 19 16 == y.index && bits w 15 0 == 1
    && decide ((wAt h 2).toNat ≤ maxLen y.type) && 64 + (wAt h 2).toNat + 96 == y.bytes.length
    && (y.type == 1 || y.type == 9 || bits (wAt h 4) 31 16 == 0) && (h.drop 5).all fun x => x == 0#32

/-- Does SYS_ID meet a value (R494)? -/
def State.meets (s : State) (v : Word) : Bool :=
  s.rd SYS_ID SYS_ID_part == SYS_ID_part.get v && s.rd SYS_ID SYS_ID_major == SYS_ID_major.get v
    && decide (SYS_ID_minor.get v ≤ s.rd SYS_ID SYS_ID_minor)

/-- What FINISH finds of a session (R461); `sig` is the check of the signature. (DESIGN CHOICE, log entry 89) -/
def State.finishCode (s : State) (y : Sess) (sig : Bool) : Nat :=
  let h := headOf y.bytes
  if y.bytes.length < 64 ∨ !headOk y then 2
  else if !sig ∨ bits (wAt h 1) 23 20 ≠ keyOf y.type then 1
  else if !s.meets (wAt h 3) then 3
  else if bits (wAt h 4) 15 0 < s.floor y.type y.index then 4
  else 0

/-- Close the session; with result 0 its image is valid. -/
def State.sessFinish (s : State) (y : Sess) (sig : Bool) : State × Nat :=
  let c := s.finishCode y sig
  let s1 := s.setSess none
  if c = 0 then
    (s1.setImg y.slot y.type y.index ⟨true, headOf y.bytes, (y.bytes.drop 64).take (y.bytes.length - 160)⟩, 0)
  else (s1, c)

/-- The bytes the intake brings, while it is used and a session is open (R462); those beyond the container have no place
in it. (DESIGN CHOICE, log entry 89) -/
def State.updIntake (s : State) (bs : List Byte) : State :=
  match s.upd.sess with
  | none => s
  | some y =>
    if s.bit UPD_INTAKE UPD_INTAKE_en then
      let l := y.bytes ++ bs
      s.setSess (some { y with bytes := l.take (max y.bytes.length (containerTop y.type l)), fed := y.fed || !bs.isEmpty })
    else s

/-- Has WRITE brought bytes of the open session, so that more through the intake are misuse (R471)? -/
def State.sessWritten (s : State) : Bool := s.bit UPD_INTAKE UPD_INTAKE_en && s.upd.sess.any Sess.written

/-- Has the intake brought bytes of the open session, so that more through WRITE are misuse (R471)? -/
def State.sessFed (s : State) : Bool := s.upd.sess.any Sess.fed

end Sys2Proof.Machine
end

