-- ==== Sys2Proof/Machine/DpyCore.lean ====
section
/-! DEFINITION. The display ports' shared operations (spec/17): rectangles in flight, the frame stores, the dirty map,
stopping a waveform, the intake. -/

namespace Sys2Proof.Machine

def State.setDpy (s : State) (d : Dpy) : State := { s with dpy := d }

/-- Rectangles in flight on port 0 (A) or 1 (B). -/
def State.rects (s : State) (p : Nat) : List DRect := if p = 0 then s.dpy.rectA else s.dpy.rectB

/-- Replace them; the counts of DPY_STAT follow. -/
def State.setRects (s : State) (p : Nat) (l : List DRect) : State :=
  if p = 0 then (s.setDpy { s.dpy with rectA := l }).wr DPY_STAT DPY_STAT_a_infl l.length
  else (s.setDpy { s.dpy with rectB := l }).wr DPY_STAT DPY_STAT_b_infl l.length

/-- Do two areas share a pixel? -/
def Area.meets (a b : Area) : Bool :=
  decide (a.x < b.x + b.w) && decide (b.x < a.x + a.w) && decide (a.y < b.y + b.h) && decide (b.y < a.y + a.h)

/-- May a rectangle go into flight on port `p` (R400)? -/
def State.mayFly (s : State) (p : Nat) (a : Area) : Bool :=
  decide ((s.rects p).length < 32) && !(s.rects p).any fun r => r.area.meets a

/-- The panel of port `p`. -/
def State.panel (s : State) (p : Nat) : Area :=
  let o := if p = 0 then DPY_GEO0 else DPY_GEO1
  ⟨0, 0, s.rd o DPY_GEO0_width, s.rd o DPY_GEO0_height⟩

/-- The frame store key of pixel (x, y). -/
def pixKey (x y : Nat) : Nat := 65536 * y + x

/-- Keys of an area in row order. -/
def Area.keys (a : Area) : List Nat :=
  (List.range a.h).flatMap fun j => (List.range a.w).map fun i => pixKey (a.x + i) (a.y + j)

/-- What a pixel of a frame store reads as unwritten: black on port A, white on port B.
(DESIGN CHOICE, log entry 84) -/
def storeReset (p : Nat) (_ : Nat) : Nat := if p = 0 then 0 else 15

/-- New pixels enter the frame store. -/
def putPix (p : Nat) (st : Cells Nat) (a : Area) (pix : List Nat) : Cells Nat :=
  (a.keys.zip pix).foldl (fun m k => cellSet (storeReset p) m k.1 k.2) st

/-- Pixels that hold what the spec does not state: free greys (R415). -/
def State.unknownPix (s : State) (st : Cells Nat) (l : List Area) : Cells Nat :=
  ((l.flatMap Area.keys).zipIdx s.free).foldl (fun m k => cellSet (storeReset 1) m k.1 (Config.freeNat k.2 % 16)) st

/-- The frame store of port B as the bytes its CRC runs over: rows of two pixels a byte (R399, R414). -/
def State.storeBytes (s : State) (st : Cells Nat) : List Byte :=
  let p := s.panel 1
  (List.range p.h).flatMap fun y => (List.range (p.w / 2)).map fun i =>
    BitVec.ofNat 8 (cellGet (storeReset 1) st (pixKey (2 * i) y) + 16 * cellGet (storeReset 1) st (pixKey (2 * i + 1) y))

/-! The dirty map (R417). -/

/-- The words of the dirty map in flash. -/
def Store.dirtyWords (k : Store) : List Word :=
  let l := k.dirty.flatMap fun a => [packW [(a.y, 16), (a.x, 0)], packW [(a.h, 16), (a.w, 0)]]
  let ws := packW [(b2n k.dirtyAll, 31), (k.dirty.length, 0)] :: (l ++ List.replicate (128 - l.length) 0#32)
  ws ++ [word (crc32 (wordsBytes ws))]

/-- Does a dirty map pass its CRC? -/
def dirtyGood (ws : List Word) : Bool := wAt ws 129 == word (crc32 (wordsBytes (ws.take 129)))

/-- The map in flash as a start finds it; `ok` says that flash reads back what was written. -/
def State.dirtyRead (s : State) (ok : Bool) : State :=
  let ws := s.kept.dirtyWords
  if ok && dirtyGood ws then s else { s with kept := { s.kept with dirtyAll := true, dirty := [] } }

/-- Mark an area dirty; with more than 64 the map holds the whole panel. -/
def State.markDirty (s : State) (a : Area) : State :=
  let l := if s.kept.dirty.contains a then s.kept.dirty else s.kept.dirty ++ [a]
  let k := if s.kept.dirtyAll || decide (64 < l.length) then { s.kept with dirtyAll := true, dirty := [] }
    else { s.kept with dirty := l }
  ({ s with kept := k }).wr DPY_B_STAT DPY_B_STAT_dirty k.dirty.length

def State.markAll (s : State) : State :=
  ({ s with kept := { s.kept with dirtyAll := true, dirty := [] } }).wr DPY_B_STAT DPY_B_STAT_dirty 0

def State.emptyDirty (s : State) : State :=
  ({ s with kept := { s.kept with dirtyAll := false, dirty := [] } }).wr DPY_B_STAT DPY_B_STAT_dirty 0

/-! Ends. -/

/-- A rectangle's descriptor completes. -/
def State.rectEnd (s : State) (r : DRect) (status result : Nat) : State :=
  match r.op with
  | none => s
  | some k =>
    match s.running k.1 k.2 with
    | none => s
    | some d => (s.endRunning k false status (if status = stDone then d.len else 0) result).settleRing k.1

/-- Frames of a waveform (R411). -/
def State.waveLen (s : State) (mode band : Nat) : Nat := 1 + Config.waveFrames s.dpy.waves mode band % 255

/-- Had its pixels all arrived before cycle `c`? -/
def DRect.ripe (c : Nat) (r : DRect) : Bool := match r.st with
  | .fetched d => decide (d < c)
  | _ => false

/-- A rectangle whose waveform runs. -/
def DRect.drives (r : DRect) : Bool := match r.st with
  | .driven _ _ _ _ => true
  | _ => false

/-- Stop a waveform at the end of the frame in progress, with two zero-drive frames (R416). -/
def DRect.stop (r : DRect) : DRect := match r.st with
  | .driven begun _ 0 band => { r with st := .driven begun begun 2 band }
  | _ => r

/-- Rectangle `r` of port B leaves unfinished: it completes ABORTED, or, a CLEAR of the port's own, waits to run again. -/
def State.rectAbort (s : State) (r : DRect) : State :=
  let s1 := s.setRects 1 (s.dpy.rectB.erase r)
  if r.op.isNone then s1.setDpy { s1.dpy with clears := s1.dpy.clears ++ [r.area] } else s1.rectEnd r stAborted 0

/-- Stop rectangle `r` of port B: a waveform stops and its region is dirty; one not yet driven leaves. -/
def State.rectStop (s : State) (r : DRect) : State :=
  if r.drives then (s.setRects 1 (s.dpy.rectB.map fun x => if x = r then x.stop else x)).markDirty r.area
  else s.rectAbort r

/-- The frame period of port B in cycles. -/
def State.fper (s : State) : Nat := us (100 * s.rd DPY_B_CFG DPY_B_CFG_fper)

/-- Cycles from now to the end of a rectangle's last frame. (DESIGN CHOICE, log entry 86) -/
def State.rectLeft (s : State) (r : DRect) : Nat :=
  match r.st, s.dpy.frameB with
  | .driven begun drive _ _, some c => (c + s.fper - s.cyc) + (drive - begun) * s.fper
  | _, _ => 0

/-- The rails go off: they fall (R409). -/
def State.railsFall (s : State) : State :=
  let r := s.rd DPY_B_STAT DPY_B_STAT_rails
  (if r = 0 then s else s.wr DPY_B_STAT DPY_B_STAT_rails 3).setDpy { s.dpy with railsEnd := false, idleB := none, frameB := none }

/-- The rails go off at once where no waveform runs, else at the end of the last (R409, R416). -/
def State.railsStop (s : State) : State :=
  if s.dpy.rectB.any DRect.drives then s.setDpy { s.dpy with railsEnd := true } else s.railsFall

/-- The decision at the power-fail warning (R416, R419): `draw` is the rails' draw in mW over the last 100 ms, `low` that
the bank holds less than 9 J. (DESIGN CHOICE, log entry 86) -/
def State.dpyPowerFail (s : State) (draw : Nat) (low : Bool) : State :=
  let budget := if draw ≤ 15000 then ms 180 else ms 180 * 15000 / draw
  let fits := fun r => !low && r.drives && decide (s.rectLeft r ≤ budget)
  let s1 := s.dpy.rectB.foldl (fun x r => if fits r then x.markDirty r.area else x.rectStop r) s
  let recent := s.dpy.unsaved.filter fun a => decide (s.cyc ≤ a.2 + sec 1)
  let s2 := recent.foldl (fun x a => x.markDirty a.1) s1
  let s3 := s2.dpy.held.foldl (fun x r => x.rectEnd r stAborted 0) s2
  (s3.setDpy { s3.dpy with held := [], decided := true }).railsStop

/-- stop_discard of ring `k` (R103, R420). (DEDUCED, log entry 17) -/
def State.dpyDiscard (s : State) (k : Nat) : State :=
  let mine := fun (r : DRect) => r.op.any fun o => o.1 == k
  let s1 := (s.dpy.rectA.filter mine).foldl (fun x r =>
    (x.setRects 0 (x.dpy.rectA.erase r)).rectEnd r stAborted 0) s
  let s2 := (s1.dpy.rectB.filter mine).foldl State.rectStop s1
  let s3 := (s2.dpy.held.filter mine).foldl (fun x r => x.rectEnd r stAborted 0) s2
  s3.setDpy { s3.dpy with held := s3.dpy.held.filter fun r => !mine r }

/-! Going into flight on port B. -/

/-- A CLEAR of the port's own. -/
def clearRect (a : Area) (c : Nat) : DRect :=
  { op := none, area := a, mode := 0, pix := List.replicate (a.w * a.h) 15, fed := [], st := .fetched c, final := false }

/-- A rectangle with no buffer is fetched at once. -/
def DRect.launch (r : DRect) (p c : Nat) : DRect :=
  if p = 1 ∧ r.mode = 0 then
    { r with pix := List.replicate (r.area.w * r.area.h) 15, st := .fetched c }
  else { r with st := .fetching }

/-- Something waits for the panel: the rails rise (R409). -/
def State.railsUp (s : State) : State :=
  if s.railsNow = 0 ∨ s.railsNow = 3 then (s.wr DPY_B_STAT DPY_B_STAT_rails 1).setDpy { s.dpy with idleB := none } else s

/-- The port's own CLEARs that may fly do. -/
def State.flyClears (s : State) : State :=
  s.dpy.clears.foldl (fun x a =>
    if x.mayFly 1 a && !x.dpy.decided then
      ((x.setRects 1 (x.dpy.rectB ++ [clearRect a x.cyc])).setDpy
        { (x.setRects 1 (x.dpy.rectB ++ [clearRect a x.cyc])).dpy with clears := x.dpy.clears.erase a }).railsUp
    else x) s

/-- At an orderly stop the held rectangles run, in order (R419): the first that may fly does, and so on. -/
def State.flyHeld (s : State) : Nat → State
  | 0 => s
  | n + 1 =>
    match s.dpy.held with
    | [] => s
    | r :: rest =>
      if s.mayFly 1 r.area then
        let s1 := s.setRects 1 (s.dpy.rectB ++ [r.launch 1 s.cyc])
        ((s1.setDpy { s1.dpy with held := rest }).railsUp).flyHeld n
      else s

/-- What waits on port B goes into flight as space and pixels come free. -/
def State.flyB (s : State) : State :=
  let s1 := s.flyClears
  if s1.pow.stop.isSome then s1.flyHeld s1.dpy.held.length else s1

/-- Bytes of one row of `w` pixels. -/
def rowBytes (p w : Nat) : Nat := if p = 0 then 4 * w else w / 2

/-- Bytes that a rectangle being fetched on port `p` still takes through the intake. -/
def DRect.wants (p : Nat) (r : DRect) : Nat := if r.st = .fetching then rowBytes p r.area.w * r.area.h - r.fed.length else 0

/-- Does port `p` ask for a burst: its intake is on, a rectangle is fetching, and there is room for its pixels (R401)? -/
def State.dpyWants (s : State) (p : Nat) : Bool :=
  s.bit (DPY_INTAKE p) DPY_INTAKE_en && (s.rects p).any fun r => r.wants p != 0

/-- Feed bytes to rectangles in order, each as many as it still takes; what none takes is not kept. -/
def feedRects (p : Nat) : List DRect → List Byte → List DRect
  | [], _ => []
  | r :: l, bs => { r with fed := r.fed ++ bs.take (r.wants p) } :: feedRects p l (bs.drop (r.wants p))

/-- Bytes the intake of port `p` takes for the rectangles being fetched (R401). -/
def State.dpyIntake (s : State) (p : Nat) (bs : List Byte) : State := s.setRects p (feedRects p (s.rects p) bs)

/-- Copy the frame store of port B to flash (R415). -/
def State.epdCopy (s : State) : State :=
  let s1 := { s with kept := { s.kept with epd := some (s.dpy.storeB, s.dpy.crcB) } }
  s1.setDpy { s1.dpy with unsaved := [] }

end Sys2Proof.Machine
end

