-- ==== Sys2Proof/Machine/VisCore.lean ====
section
/-! DEFINITION. Cameras, first part (R297, R309 to R311): triggers and the exposure lock to lamps. -/

namespace Sys2Proof.Machine

/-- ns counted in cycles. -/
def State.ns (s : State) : Nat := 5 * s.cyc

/-- t_exp in MTIME, and in ns counted in cycles. -/
def VTrig.texp (x : VTrig) : Nat := (x.rel + x.delay) % 2 ^ 64
def VTrig.at_ (x : VTrig) : Nat := 5 * x.relCyc + x.delay

/-- The pairing window in ns counted in cycles (R299). -/
def State.winLo (s : State) (c : Nat) (x : VTrig) : Nat := x.at_ + 100000 * s.rd (VIS_CAM_WIN c) VIS_CAM_WIN_win_lo
def State.winHi (s : State) (c : Nat) (x : VTrig) : Nat := x.at_ + 100000 * s.rd (VIS_CAM_WIN c) VIS_CAM_WIN_win_hi

def State.winOpen (s : State) (c : Nat) (x : VTrig) : Bool :=
  x.sent && decide (s.winLo c x ≤ s.ns) && decide (s.ns ≤ s.winHi c x)

/-- The bit of switch `n` in LSW_VIS_LO or LSW_VIS_HI (R226). -/
def State.visBit (s : State) (n : Nat) : Bool :=
  (if n < 32 then (s.reg LSW_VIS_LO).toNat / 2 ^ n else (s.reg LSW_VIS_HI).toNat / 2 ^ (n - 32)) % 2 == 1

def State.lamp (s : State) (n : Nat) : Lamp := cellGet (fun _ => Lamp.init) s.lamps n

/-- Has switch `n` been reported at its last hand-over, from which a write of its bit applies (R226, R240)? -/
def State.lampSeen (s : State) (n : Nat) : Bool := (s.lamp n).period != 0

/-- On-time of a lamp in ns; none while it is off, and the whole period while it is fully on (R222). -/
def Lamp.onTime (l : Lamp) : Option Nat := Sys2Proof.Machine.onTime l.duty l.period

/-- The first instant at or after `t` that equals a period start of the lamp plus `d`. -/
def Lamp.next (l : Lamp) (t d : Nat) : Nat :=
  let p := 1000 * l.period
  t + (l.offset + d + p - t % p) % p

/-- The same with a step of MTIME: the period then in progress keeps its start and ends at the first grid instant at least
1 µs after the step (R223, R309). -/
def State.lampNext (s : State) (l : Lamp) (t d : Nat) : Nat :=
  let m := (s.mtOff + 5 * s.stepAt) % 2 ^ 64
  let first := l.next (m + 1000) 0
  let p := 1000 * l.period
  let gone := ((s.mtWas + 5 * s.stepAt) % 2 ^ 64 + p - l.offset % p) % p
  if s.stepAt = 0 ∨ first + d ≤ t then l.next t d
  else if t + gone ≤ m + d ∧ m + d < first + gone then m + d - gone
  else first + d

/-- The token that R308 will assign to the frame of a release in this cycle, with its exposure; none for token 0 (R311). -/
def State.tokenAhead (s : State) (c : Nat) : Option (Nat × Nat) :=
  let k := s.cam c
  let n := (k.trigs.filter fun x => s.winOpen c x).length + 1
  let x := match (k.toks.filter fun x => decide (2 ≤ x.seen + n)).getLast? with
    | some x => (x.token, x.exp)
    | none => (k.token, k.exp)
  if x.1 = 0 then none else some x

/-- What the lock settles for a release (R310). -/
structure LockRes where
  /-- From the release to t_exp, in ns. -/
  delay : Nat
  /-- The lamp channel that fixed it. -/
  lamp : Option Nat
  /-- The token and exposure used. -/
  used : Option (Nat × Nat)
  err : Bool
deriving DecidableEq, Repr

def State.lockOf (s : State) (c rel : Nat) : LockRes :=
  let lat := 1000 * s.rd (VIS_CAM_WIN c) VIS_CAM_WIN_trig_lat
  let mode := s.rd (VIS_CAM_LOCK c) VIS_CAM_LOCK_mode
  let n := s.rd (VIS_CAM_LOCK c) VIS_CAM_LOCK_chan
  let l := s.lamp n
  let treq := rel + lat
  if mode = 0 then ⟨lat, none, none, false⟩
  else
    match l.onTime with
    | none => ⟨lat, none, none, true⟩
    | some on =>
      if !s.lampSeen n then ⟨lat, none, none, true⟩
      else if mode = 2 then ⟨if on = 1000 * l.period then lat else s.lampNext l treq 0 - rel, some n, none, false⟩
      else
        let u := s.tokenAhead c
        let exp := 1000 * (u.getD (0, 0)).2
        if on = 1000 * l.period then ⟨lat, some n, u, u.isNone⟩
        else if on < exp then ⟨lat, some n, u, true⟩
        else ⟨s.lampNext l treq ((on - exp) / 2) - rel, some n, u, u.isNone⟩

/-- The trigger of a release of this cycle for camera `c`: its index, the MTIME of the release. -/
def State.trigOf (s : State) (c idx rel : Nat) : VTrig :=
  let q := s.lockOf c rel
  { idx := idx, rel := rel, relCyc := s.cyc, delay := q.delay, lamp := q.lamp, used := q.used
    exp := ((s.tokenAhead c).getD (0, 0)).2, lockErr := q.err, sent := false }

/-- What was settled for the releases of this cycle of camera `c` is settled again. -/
def State.relock (s : State) (c : Nat) : State :=
  s.setCam c { s.cam c with
    trigs := (s.cam c).trigs.map fun x => if x.relCyc = s.cyc ∧ !x.sent then s.trigOf c x.idx x.rel else x }

/-- A hand-over of lamp channel `n` (R310): a release of this cycle sees it, and a lock between its release and the end of
its exposure is in error. -/
def State.lampMoved (s : State) (n : Nat) : State :=
  let hit := fun (x : VTrig) => x.lamp == some n && decide (x.relCyc < s.cyc) && decide (s.ns ≤ x.at_ + 1000 * x.exp)
  let mark := fun (x : VTrig) => if hit x then { x with lockErr := true } else x
  (List.range 12).foldl (fun s c =>
    let k := s.cam c
    let refix := fun (x : VTrig) =>
      if x.relCyc = s.cyc ∧ !x.sent ∧ s.rd (VIS_CAM_LOCK c) VIS_CAM_LOCK_chan = n then s.trigOf c x.idx x.rel else mark x
    s.setCam c { k with
      trigs := k.trigs.map refix
      frame := k.frame.map fun f => { f with trig := mark f.trig } }) s

end Sys2Proof.Machine
end

