-- ==== Sys2Proof/Machine/Display.lean ====
section
/-! DEFINITION. The display ports (spec/17). -/

namespace Sys2Proof.Machine

/-! Rectangles (R400, R401, R420). -/

/-- Pixel `i` of a row of bytes. -/
def pixAt (p : Nat) (bs : List Byte) (i : Nat) : Nat :=
  let b := fun j => (bs.getD j 0#8).toNat
  if p = 0 then b (4 * i) + b (4 * i + 1) * 2 ^ 8 + b (4 * i + 2) * 2 ^ 16
  else b (i / 2) / 2 ^ (4 * (i % 2)) % 16

/-- The pixels of an area from bytes whose rows are `pitch` apart. -/
def pixOf (p : Nat) (a : Area) (pitch : Nat) (bs : List Byte) : List Nat :=
  (List.range a.h).flatMap fun j =>
    let row := bs.drop (pitch * j)
    (List.range a.w).map fun i => pixAt p row i

/-- The area and the mode of a RECT. -/
def RDesc.area (d : RDesc) : Area :=
  ⟨bits (d.par 8) 15 0, bits (d.par 8) 31 16, bits (d.par 9) 15 0, bits (d.par 9) 31 16⟩

def RDesc.pitch (d : RDesc) : Nat := bits (d.par 10) 23 0

/-- A RECT that completes BAD_PARAM. -/
def State.rectBad (s : State) (p : Nat) (d : RDesc) : Bool :=
  let a := d.area
  let pan := s.panel p
  let clear := p == 1 && bits (d.par 10) 29 28 == 0
  decide (pan.w < a.x + a.w) || decide (pan.h < a.y + a.h) || (p == 1 && (a.x % 2 != 0 || a.w % 2 != 0))
    || (!clear && !s.bit (DPY_INTAKE p) DPY_INTAKE_en && decide (d.len < d.pitch * (a.h - 1) + rowBytes p a.w))

/-- Can port `p` show nothing (R411, R420)? -/
def State.portDown (s : State) (p : Nat) : Bool :=
  if p = 0 then !s.bit SYS_LINK SYS_LINK_edp_up
  else !s.bit SYS_LINK SYS_LINK_epd_present || !s.dpy.wavesOk || !s.bit DPY_B_CFG DPY_B_CFG_en

/-- DPY_A_CFG and DPY_B_CFG as they are in force: as at the last frame start, and as written while the port shows no
frames (R421). (DESIGN CHOICE, log entry 124) -/
def State.cfgA (s : State) : Word := if s.dpy.pa = 3 then s.dpy.cfgA else s.reg DPY_A_CFG
def State.cfgB (s : State) : Word := if s.dpy.frameB.isSome then s.dpy.cfgB else s.reg DPY_B_CFG

/-- Is the rectangle held for the stop (R419)? -/
def State.rectHeld (s : State) (p : Nat) (d : RDesc) : Bool :=
  p == 1 && DPY_B_CFG_final.get s.cfgB == 1 && bits (d.par 10) 31 31 == 1

/-- RECT: the rectangle goes into flight, or waits while it may not; in the hold-up none does.
(DESIGN CHOICE, log entry 86) -/
def execRect (t : Nat) (r : Fin 64) (s : State) : Out :=
  let s := s.at t
  let p := s.ringFunc r
  s.ringOp r 0x0F p 1 fun s d =>
    let a := d.area
    let x : DRect := ⟨some (r, d.slot), a, bits (d.par 10) 29 28, [], [], .fetching, s.rectHeld p d⟩
    if a.w = 0 ∨ a.h = 0 then .next (s.endOp r d.slot stDone 0 0)
    else if p = 1 ∧ s.bit DPY_STAT DPY_STAT_clearing then .next (s.endOp r d.slot stBusy 0 0)
    else if p = 1 ∧ !s.dpy.wavesOk then .next (s.endOp r d.slot stWrongState 0 0)
    else if s.bufBad r d then .fault .ringMisuse
    else if s.rectBad p d then .next (s.endOp r d.slot stBadParam 0 0)
    else if s.rectHeld p d ∧ 32 ≤ s.dpy.held.length then .next (s.endOp r d.slot stBusy 0 0)
    else if s.portDown p then .next (s.endOp r d.slot stWrongState 0 0)
    else if s.rectHeld p d ∧ s.pow.stop.isNone then
      let s1 := s.startOp r d.slot
      .next (s1.setDpy { s1.dpy with held := s1.dpy.held ++ [x] })
    else if (p = 1 ∧ (s.dpy.ckClear ∨ s.dpy.decided)) ∨ !s.mayFly p a then .next s
    else
      let s1 := (s.startOp r d.slot).setRects p (s.rects p ++ [x.launch p s.cyc])
      .next (if p = 1 then s1.railsUp else s1)

/-- RECT_FETCH_DONE: the first rectangle being fetched on port `p` has its pixels; `buf` is what the host read
returned. -/
def execRectFetchDone (t : Nat) (p : Fin 2) (buf : List Byte) (s : State) : Out :=
  let s := s.at t
  match (s.rects p).findIdx? fun r => r.st == .fetching with
  | none => .next s
  | some i =>
    match (s.rects p)[i]? with
    | none => .next s
    | some x =>
      let done := fun (pix : List Nat) =>
        Host.Outcome.next (s.setRects p (modAt (fun r => { r with pix := pix, fed := [], st := .fetched s.cyc }) i (s.rects p)))
      if s.bit (DPY_INTAKE p) DPY_INTAKE_en then
        (if x.fed.length < rowBytes p x.area.w * x.area.h then .next s
        else done (pixOf p x.area (rowBytes p x.area.w) x.fed))
      else
        match x.op with
        | none => .next s
        | some k =>
          match s.running k.1 k.2 with
          | none => .next s
          | some d =>
            if !s.ringEth k.1 && decide (buf.length < d.len) then .fault .oversizeLength
            else if s.ringEth k.1 && s.poisoned d.addr d.len then
              .next (((s.setRects p ((s.rects p).eraseIdx i)).poisonEnds d.addr d.len).rectEnd x stAborted 0)
            else done (pixOf p x.area d.pitch (s.bufIn k.1 d buf))

/-! Port A: frames (R403 to R406, R408). -/

/-- Frame periods in cycles, as the last frame start has taken the settings; in TB6 and TB7 rmin acts as at least 30 Hz. -/
def State.perMax (s : State) : Nat := sec 1 / max 1 (DPY_A_CFG_rmax.get s.cfgA)
def State.perMin (s : State) : Nat :=
  let r := DPY_A_CFG_rmin.get s.cfgA
  sec 1 / max 1 (if s.dpy.hotA then max 30 r else r)

/-- The camera of window `w`, while it is shown. -/
def State.winCam (s : State) (w : Nat) : Option Nat :=
  if s.bit (DPY_WIN w) DPY_WIN_en then some (s.rd (DPY_WIN w) DPY_WIN_cam) else none

/-- Is a change to be shown (R403)? A fetch that completes in this cycle counts for the next frame. -/
def State.changeA (s : State) : Bool :=
  s.dpy.rectA.any (DRect.ripe s.cyc) || (List.range 4).any fun w => (s.winCam w).any fun c =>
      (s.cam c).ready != cellGet (fun _ => none) s.dpy.shown c

/-- May a frame start now? -/
def State.frameDue (s : State) : Bool :=
  let per := if s.dpy.vrr && !s.changeA && decide (max 1 (DPY_A_CFG_idle.get s.cfgA) ≤ s.dpy.idle) then max s.perMax s.perMin
    else s.perMax
  decide (s.dpy.frameA + per ≤ s.cyc)

/-- The settings in force on port A from this frame start (R403, R421). -/
def State.takeCfgA (s : State) : State :=
  s.setDpy { s.dpy with
    cfgA := s.reg DPY_A_CFG, thrA := s.rd DPY_A_CRACK DPY_A_CRACK_thr, hotA := decide (6 ≤ s.rd THM_STAT THM_STAT_band) }

/-- out_c of a subpixel (R406). -/
def uniform (bpc : Nat) (g o x : Int) : Int := clampI 0 (2 ^ bpc - 1) ((x * (256 + g) + 128) / 256 + o)

/-- The rectangles a frame start shows. -/
def State.showA (s : State) : List DRect := s.dpy.rectA.filter (DRect.ripe s.cyc)

/-- The windows take their cameras' latest ready buffers and hold them; cameras no longer shown are let go (R405). -/
def State.takeWindows (s : State) : State :=
  let cams := (List.range 4).filterMap s.winCam
  let s1 := (List.range 12).foldl (fun x c =>
    let k := x.cam c
    x.setCam c { k with held := if cams.contains c then k.ready else none }) s
  s1.setDpy { s1.dpy with
    shown := cams.foldl (fun m c => cellSet (fun _ => none) m c (s.cam c).ready) s1.dpy.shown }

/-- The pixel that window `w` lays over pixel (x, y), if it covers it: that of its camera's held buffer, or black (R405). -/
def State.winPix (s : State) (w x y : Nat) : Option (Nat × Nat × Nat) :=
  match s.winCam w with
  | none => none
  | some c =>
    let x0 := 16 * s.rd (DPY_WIN w) DPY_WIN_x16
    let y0 := 16 * s.rd (DPY_WIN w) DPY_WIN_y16
    let n := 16 * s.rd (VIS_CAM_DISP c) VIS_CAM_DISP_w16
    let m := 16 * s.rd (VIS_CAM_DISP c) VIS_CAM_DISP_h16
    if x < x0 ∨ x0 + n ≤ x ∨ y < y0 ∨ y0 + m ≤ y then none
    else
      match (s.cam c).held with
      | none => some (0, 0, 0)
      | some i =>
        let a := (s.dispArea c).1 + i * s.dispSize c
        let b := fun k => (s.memRd (a + k)).toNat
        let k := n * m + (y - y0) / 2 * n + (x - x0) / 2 * 2
        some (Config.windowRgb (b ((y - y0) * n + (x - x0))) (b k) (b (k + 1)))

/-- The composed pixel (x, y): of the uppermost window there, or of the frame store. -/
def State.composed (s : State) (x y : Nat) : Nat × Nat × Nat :=
  match ([3, 2, 1, 0].filterMap fun w => s.winPix w x y).head? with
  | some v => v
  | none =>
    let v := cellGet (storeReset 0) s.dpy.storeA (pixKey x y)
    (v / 2 ^ 16 % 256, v / 2 ^ 8 % 256, v % 256)

/-- What subpixel `k` puts out for an 8-bit component: in 8 or 10 bits, corrected where the map is in use (R402, R406). -/
def State.subpixel (s : State) (k v : Nat) : Nat :=
  let deep := s.bit DPY_A_CFG DPY_A_CFG_bpc10
  let u := if deep then Config.widen v else v
  let m := Config.umap (s.dpy.umap.getD []) k
  if s.bit DPY_A_CFG DPY_A_CFG_umap_en && s.bit DPY_STAT DPY_STAT_umap_ok then
    (uniform (if deep then 10 else 8) m.1 m.2 u).toNat
  else u

/-- The pixels of a frame, in row order; of a larger panel the part beyond 3840 × 1600 is black (R402). -/
def State.cabPix (s : State) : List (Nat × Nat × Nat) :=
  let p := s.panel 0
  (List.range p.h).flatMap fun y => (List.range p.w).map fun x =>
    if 3840 ≤ x ∨ 1600 ≤ y then (0, 0, 0)
    else
      let v := s.composed x y
      let k := 3 * (y * p.w + x)
      (s.subpixel k v.1, s.subpixel (k + 1) v.2.1, s.subpixel (k + 2) v.2.2)

/-- PORT_A_FRAME_START. -/
def execPortAFrameStart (t : Nat) (s : State) : Out :=
  let s := s.at t
  if s.dpy.pa ≠ 3 ∨ !s.frameDue then .next s
  else if s.dpy.black ≠ 0 then
    .next (((s.setDpy { s.dpy with black := s.dpy.black - 1, frameA := s.cyc, idle := 0 }).takeCfgA).emit (.cabFrame none))
  else
    let l := s.showA
    let s1 := (s.wr DPY_STAT DPY_STAT_a_on 1).takeWindows.takeCfgA
    let st := l.foldl (fun m r => putPix 0 m r.area r.pix) s1.dpy.storeA
    let s2 := s1.setDpy { s1.dpy with storeA := st, frameA := s.cyc, idle := if s.changeA then 0 else s.dpy.idle + 1 }
    let s3 := if l.isEmpty then s2 else s2.incReg DPY_A_SEQ
    let s4 := s3.setRects 0 (s3.dpy.rectA.filter fun r => !l.contains r)
    let s5 := l.foldl (fun x r => x.rectEnd r stDone (s3.reg DPY_A_SEQ).toNat) s4
    .next (s5.emit (.cabFrame (some s2.cabPix)))

/-- The uniformity map is used, or noted (R406). -/
def State.umapCheck (s : State) : State :=
  let pan := s.panel 0
  if s.dpy.umap.any fun l => l.length == 6 * pan.w * pan.h + 4 then s.wr DPY_STAT DPY_STAT_umap_ok 1
  else (s.wr DPY_STAT DPY_STAT_umap_ok 0).note 0x0F03 0

/-- HPD_RISE: training starts. -/
def execHpdRise (t : Nat) (s : State) : Out :=
  let s := s.at t
  if s.dpy.pa = 0 then .next s
  else .next ((s.setDpy { s.dpy with pa := 2 }).wr SYS_LINK SYS_LINK_edp_up 0)

/-- EDP_TRAINING_RESULT: `geo` is the panel's size and `vrr` that it offers variable refresh; none when no rate and no lane
count trains. -/
def execEdpTrainingResult (t : Nat) (geo : Option (Nat × Nat)) (vrr : Bool) (s : State) : Out :=
  let s := s.at t
  if s.dpy.pa ≠ 1 ∧ s.dpy.pa ≠ 2 then .next s
  else
    match geo with
    | none =>
      let s1 := (s.setDpy { s.dpy with pa := 1 }).wr SYS_LINK SYS_LINK_edp_fail 1
      .next (if s1.isOpen 0x0F02 then s1 else s1.raise2 0x0F02 0)
    | some g =>
      let s1 := s.setDpy { s.dpy with pa := 3, vrr := vrr, black := if s.bit DPY_STAT DPY_STAT_a_on then 0 else 3 }
      let s2 := (s1.setReg DPY_GEO0 (packW [(g.1 % 2 ^ 16, 16), (g.2 % 2 ^ 16, 0)])).wr SYS_LINK SYS_LINK_edp_up 1
      let s3 := if s.dpy.umap.isSome then s2.umapCheck else s2
      .next (s3.takeCfgA.clear2 0x0F02)

/-- PORT_A_POWER_ON (stage 14, R408): `umap` is the uniformity map, once its CRC holds. -/
def State.portAOn (s : State) (umap : Option (List Byte)) : State :=
  let s1 := s.setDpy { s.dpy with umap := umap, pa := if s.bit DPY_A_CFG DPY_A_CFG_en then 1 else 0 }
  if umap.isNone then s1.note 0x0F03 0 else s1

/-- Port A is off, after one black frame if it showed any (R408). -/
def State.portAOff (s : State) : State :=
  let s1 := if s.dpy.pa = 3 then s.emit (.cabFrame none) else s
  ((s1.setDpy { s1.dpy with pa := 0, black := 0 }).wr DPY_STAT DPY_STAT_a_on 0).wr SYS_LINK SYS_LINK_edp_up 0

/-- A write of DPY_A_CFG that sets en powers the port on, after stage 14 (R408, R421); one of DPY_GEO1 gives the frame store
another shape, of which the checksum is taken.
(DESIGN CHOICE, log entry 124) -/
def State.dpyStored (s : State) (off : Nat) (v : Word) : State :=
  let s1 := s.store off v
  if off = DPY_A_CFG ∧ s.dpy.pa = 0 ∧ !s.dpy.dead ∧ s.passed 14 ∧ s.pow.stop.isNone ∧ s.pow.holdUp.isNone ∧ s1.bit DPY_A_CFG DPY_A_CFG_en then
    s1.setDpy { s1.dpy with pa := 1 }
  else if off = DPY_GEO1 then s1.setDpy { s1.dpy with crcB := crc32 (s1.storeBytes s1.dpy.storeB) }
  else s1

/-- PORT_A_POWER_OFF (R408): at a stop, in the hold-up, after a crack, or with the port no longer used. -/
def execPortAPowerOff (t : Nat) (s : State) : Out :=
  let s := s.at t
  if s.dpy.pa = 0 then .next s
  else if s.pow.stop.isSome || s.pow.holdUp.isSome || s.dpy.dead || !s.bit DPY_A_CFG DPY_A_CFG_en then .next s.portAOff
  else .next s

/-- CRACK_MEASURE (R407). -/
def execCrackMeasure (t : Nat) (res : Nat) (s : State) : Out :=
  let s := s.at t
  if !s.passed 14 || decide (s.cyc < s.dpy.crackAt + ms 100) then .next s
  else
    let high := decide ((if s.dpy.pa = 3 then s.dpy.thrA else s.rd DPY_A_CRACK DPY_A_CRACK_thr) < res)
    let up := if high then s.dpy.above + 1 else 0
    let dn := if high then 0 else s.dpy.below + 1
    let s1 := (s.setDpy { s.dpy with crackAt := s.cyc, above := up, below := dn }).wr DPY_A_CRACK DPY_A_CRACK_res (min 0xFFFF res)
    if up = 3 ∧ !s.bit DPY_STAT DPY_STAT_crack then
      let s2 := ((s1.wr DPY_STAT DPY_STAT_crack 1).wr DPY_STAT DPY_STAT_crack_seen 1).raise2 0x0F01 0
      .next (if DPY_A_CFG_crack_off.get s2.cfgA = 1 then s2.setDpy { s2.dpy with dead := true } else s2)
    else if dn = 3 ∧ s.bit DPY_STAT DPY_STAT_crack then .next ((s1.wr DPY_STAT DPY_STAT_crack 0).clear2 0x0F01)
    else .next s1

/-! Port B: frames (R409 to R413). -/

/-- Begin the waveforms whose rectangles are fetched, on the band in force. -/
def State.beginWaves (s : State) : State :=
  let band := s.rd DPY_B_STAT DPY_B_STAT_band
  s.setRects 1 (s.dpy.rectB.map fun r => match r.st with
    | .fetched c => if c < s.cyc then { r with st := .driven 0 (s.waveLen r.mode band) 0 band } else r
    | _ => r)

/-- Has a rectangle driven every frame it will? -/
def DRect.spent (r : DRect) : Bool := match r.st with
  | .driven begun drive rest _ => decide (drive + rest ≤ begun)
  | _ => false

/-- The drive codes of rectangle `r` in the frame it begins; zero-drive frames and pixels outside get none. -/
def State.codes (s : State) (r : DRect) : List (Nat × Nat) :=
  match r.st with
  | .driven begun drive _ band =>
    if drive ≤ begun then []
    else (r.area.keys.zip r.pix).map fun k =>
      (k.1, Config.waveCode s.dpy.waves r.mode band begun (cellGet (storeReset 1) s.dpy.storeB k.1) k.2 % 4)
  | _ => []

/-- One frame more of every waveform. -/
def DRect.step (r : DRect) : DRect := match r.st with
  | .driven begun drive rest band => { r with st := .driven (begun + 1) drive rest band }
  | _ => r

/-- PORT_B_FRAME_START. -/
def execPortBFrameStart (t : Nat) (s : State) : Out :=
  let s := s.at t
  let due := match s.dpy.frameB with
    | none => true
    | some c => decide (c + s.fper ≤ s.cyc)
  let fresh := s.dpy.rectB.any (DRect.ripe s.cyc)
  if !due || s.dpy.rectB.any DRect.spent || !(fresh || s.dpy.rectB.any DRect.drives) then .next s
  else if s.rd DPY_B_STAT DPY_B_STAT_rails = 0 ∨ s.rd DPY_B_STAT DPY_B_STAT_rails = 3 then .next s
  else
    let s0 := s.wr DPY_B_STAT DPY_B_STAT_rails 2
    let s1 := if fresh && !s.dpy.railsEnd then s0.beginWaves.clear2 0x0F10 else s0
    let l := s1.dpy.rectB.flatMap s1.codes
    let s2 := s1.setRects 1 (s1.dpy.rectB.map DRect.step)
    .next ((s2.setDpy { s2.dpy with frameB := some s.cyc, cfgB := s.reg DPY_B_CFG, idleB := none }).emit (.panelFrame l))

/-- A rectangle whose last frame has ended: its pixels enter the store, or it was stopped. -/
def State.waveEnd (s : State) (r : DRect) : State :=
  match r.st with
  | .driven _ drive rest _ =>
    let s1 := s.setRects 1 (s.dpy.rectB.erase r)
    if rest ≠ 0 then s.rectAbort r
    else
      let st := putPix 1 s1.dpy.storeB r.area r.pix
      let s2 := s1.setDpy { s1.dpy with storeB := st, crcB := crc32 (s1.storeBytes st)
                                        unsaved := s1.dpy.unsaved ++ [(r.area, s.cyc)] }
      let s3 := if s.dpy.decided then s2.markDirty r.area else s2
      s3.rectEnd r stDone drive
  | _ => s

/-- The CLEARs of the port's own have all ended (R414, R418); after a power-fail warning the map stays (R416). -/
def State.clearsEnd (s : State) : State :=
  if s.dpy.clears.isEmpty && !s.dpy.decided && !s.dpy.rectB.any (fun r => r.op.isNone) && (s.bit DPY_STAT DPY_STAT_clearing || s.dpy.ckClear) then
    let s1 := (s.wr DPY_STAT DPY_STAT_clearing 0).emptyDirty
    if s.dpy.ckClear then (s1.setDpy { s1.dpy with ckClear := false }).clear2 0x0F20 else s1
  else s

/-- WAVEFORM_COMPLETE: the last frame of the waveforms that are spent has ended. -/
def execWaveformComplete (t : Nat) (s : State) : Out :=
  let s := s.at t
  let l := s.dpy.rectB.filter DRect.spent
  let over_ := match s.dpy.frameB with
    | none => false
    | some c => decide (c + s.fper ≤ s.cyc)
  if l.isEmpty || !over_ then .next s
  else
    let s1 := (l.foldl State.waveEnd s).clearsEnd.flyB
    .next (if s1.dpy.rectB.any DRect.drives then s1
      else if s1.dpy.railsEnd then s1.railsFall else s1.setDpy { s1.dpy with frameB := none, idleB := some s.cyc })

/-- With a rectangle in flight, or one that may fly, rails that went off rise again. -/
def State.railsAgain (s : State) : State :=
  let s1 := s.flyB
  if s1.dpy.rectB.isEmpty then s1 else s1.railsUp

/-- RAIL_FAULT (R409): every waveform stops as under R416, with its rectangle dirty and ABORTED, and the rails go off. -/
def execRailFault (t : Nat) (s : State) : Out :=
  let s := s.at t
  if s.rd DPY_B_STAT DPY_B_STAT_rails ≠ 1 ∧ s.rd DPY_B_STAT DPY_B_STAT_rails ≠ 2 then .next s
  else
    let l := s.dpy.rectB.filter DRect.drives
    let s1 := (s.wr DPY_STAT DPY_STAT_rail_seen 1).raise2 0x0F10 0
    .next (l.foldl State.rectStop s1).railsStop

/-- RAIL_HOLD_END (R409): the rails, that fall since rail_hold ran out or a stop called for it, are off.
(DESIGN CHOICE, log entry 86) -/
def execRailHoldEnd (t : Nat) (s : State) : Out :=
  let s := s.at t
  if s.railsNow ≠ 3 ∨ s.dpy.rectB.any DRect.drives then .next s
  else .next ((s.wr DPY_B_STAT DPY_B_STAT_rails 0).setDpy { s.dpy with idleB := none }).railsAgain

/-! Port B: the panel and its store (R412, R414, R415, R419). -/

/-- The band of port B from a panel temperature in °C. -/
def panelBand : Nat → Nat → Int → Nat
  | 0, b, _ => b
  | n + 1, b, t => panelBand n (bandStep b (16 * t)) t

/-- What a reading of the panel's presence and temperature sets (R81, R412); absence is noted when it begins.
(DESIGN CHOICE, log entry 122) -/
def State.panelSeen (s : State) (present : Bool) (temp : Option Int) : State :=
  let was := s.bit SYS_LINK SYS_LINK_epd_present
  let s1 := s.wr SYS_LINK SYS_LINK_epd_present (b2n present)
  let s2 :=
    if present then
      (match temp with
        | some v =>
          ((s1.wr DPY_B_STAT DPY_B_STAT_temp_ok 1).wr DPY_B_STAT DPY_B_STAT_temp (v % 256).toNat).wr DPY_B_STAT DPY_B_STAT_band
            (panelBand 8 (s1.rd DPY_B_STAT DPY_B_STAT_band) v)
        | none =>
          ((s1.wr DPY_B_STAT DPY_B_STAT_temp_ok 0).wr DPY_B_STAT DPY_B_STAT_band (s1.rd THM_STAT THM_STAT_band)).note 0x0F11 0)
    else s1
  if present then (if was then s2 else s2.railsAgain)
  else
    let s3 := s2.wr DPY_B_STAT DPY_B_STAT_rails 0
    if was || s.dpy.pollAt == 0 then s3.note 0x0F13 0 else s3

/-- EPD_PANEL_POLL. -/
def execEpdPanelPoll (t : Nat) (present : Bool) (temp : Option Int) (s : State) : Out :=
  let s := s.at t
  if !s.passed 12 || decide (s.cyc < s.dpy.pollAt + sec 10) then .next s
  else
    let s1 := s.panelSeen present temp
    .next (s1.setDpy { s1.dpy with pollAt := s.cyc })

/-- STORE_CRC_CHECK (R414): `bad` are pixels of the store that have changed by themselves, by key, with their greys. -/
def execStoreCrcCheck (t : Nat) (bad : List (Nat × Nat)) (s : State) : Out :=
  let s := s.at t
  if !s.passed 12 || decide (s.cyc < s.dpy.ckAt + sec 10) then .next s
  else
    let st := bad.foldl (fun m k => cellSet (storeReset 1) m k.1 (k.2 % 16)) s.dpy.storeB
    let s1 := s.setDpy { s.dpy with ckAt := s.cyc, storeB := st }
    if crc32 (s.storeBytes st) ≠ s.dpy.crcB ∧ !s.dpy.ckClear then
      let s2 := ((s1.wr DPY_STAT DPY_STAT_cks_err 1).raise2 0x0F20 0).markAll
      .next (s2.setDpy { s2.dpy with ckClear := true, clears := s2.dpy.clears ++ [s2.panel 1] }).flyB
    else .next s1

/-- STORE_FLASH_COPY (R415); not during the hold-up. -/
def execStoreFlashCopy (t : Nat) (s : State) : Out :=
  let s := s.at t
  if s.dpy.unsaved.isEmpty || s.pow.holdUp.isSome then .next s else .next s.epdCopy

/-- FINAL_IMAGE_CUTOFF (R419): 2.9 s after the stop began. -/
def execFinalImageCutoff (t : Nat) (s : State) : Out :=
  let s := s.at t
  match s.pow.stop with
  | none => .next s
  | some x =>
    if s.cyc < x.ts + ms 2900 then .next s
    else
      let s1 := (s.dpy.rectB.filter fun r => r.final && !(match r.st with
        | .driven _ _ z _ => z != 0
        | _ => false)).foldl State.rectStop s
      let s2 := s1.dpy.held.foldl (fun y r => y.rectEnd r stAborted 0) s1
      .next (s2.setDpy { s2.dpy with held := [] })

/-- The panel's content at a start (R415): the copy in flash when its CRC holds, with the regions of the dirty map unknown;
else nothing is known of it. `ok` says that flash reads back what was written. -/
def State.storeLoad (s : State) (ok : Bool) : State :=
  let good := ok && s.kept.epd.any fun c => crc32 (s.storeBytes c.1) == c.2
  let s1 := if good then s else s.markAll
  let l := if s1.kept.dirtyAll then [s1.panel 1] else s1.kept.dirty
  let st := s1.unknownPix (if good then (s.kept.epd.map Prod.fst).getD [] else []) l
  (s1.setDpy { s1.dpy with storeB := st, crcB := crc32 (s1.storeBytes st) }).freeAdd (l.flatMap Area.keys).length

/-- Stage 12 of port B (R411, R415, R418): `waves` are the waveform tables that pass their checks, none for none; `copyOk`
and `mapOk` say that flash reads back the copy of the frame store and the dirty map as written. -/
def State.portBStart (s : State) (present : Bool) (temp : Option Int) (waves : Option (List Byte)) (copyOk mapOk : Bool) : State :=
  let s0 := s.panelSeen present temp
  let s1 := s0.setDpy { s0.dpy with pollAt := s.cyc, ckAt := s.cyc, wavesOk := waves.isSome, waves := waves.getD [] }
  let s2 := if waves.isSome then s1 else s1.raise2 0x0F12 0
  let s3 := (s2.dirtyRead mapOk).storeLoad copyOk
  let s4 := s3.wr DPY_B_STAT DPY_B_STAT_dirty s3.kept.dirty.length
  if present && waves.isSome && (s4.kept.dirtyAll || !s4.kept.dirty.isEmpty) then
    let l := if s4.kept.dirtyAll then [s4.panel 1] else s4.kept.dirty
    ((s4.setDpy { s4.dpy with clears := l }).wr DPY_STAT DPY_STAT_clearing 1).flyB
  else s4

/-! Registers (R421, R422). -/

/-- A display register value R422 forbids. -/
def State.dpyBad (s : State) (off : Nat) (v : Word) : Bool :=
  if off = DPY_A_CFG then
    let x := DPY_A_CFG_rmax.get v
    let n := DPY_A_CFG_rmin.get v
    x == 0 || decide (60 < x) || n == 0 || decide (x < n)
  else if off = DPY_B_CFG then
    let w := s.rd DPY_GEO1 DPY_GEO1_width
    let h := s.rd DPY_GEO1 DPY_GEO1_height
    decide (DPY_B_CFG_vcom.get v < 50) || decide (300 < DPY_B_CFG_vcom.get v)
      || (DPY_B_CFG_en.get v == 1
        && (decide (w < 64) || decide (2560 < w) || w % 8 != 0 || decide (h < 64) || decide (1600 < h)
        || decide (100000 * DPY_B_CFG_fper.get v < h * ((w + 7) / 8 * 25 + 2000) + 1000000)))
  else if off = DPY_GEO1 then
    let w := DPY_GEO1_width.get v
    let h := DPY_GEO1_height.get v
    decide (w < 64) || decide (2560 < w) || w % 8 != 0 || decide (h < 64) || decide (1600 < h)
  else if off = DPY_INTAKE 0 ∨ off = DPY_INTAKE 1 then
    DPY_INTAKE_en.get v == 1 && decide (sharedTop < 32 * DPY_INTAKE_addr.get v + 32)
  else if DPY_WIN 0 ≤ off ∧ off ≤ DPY_WIN 3 then decide (11 < DPY_WIN_cam.get v)
  else false

/-- Does a write change a field of `fs`? -/
def changes (old v : Word) (fs : List Fld) : Bool := fs.any fun f => f.get v != f.get old

/-- Is a write of a display register ignored (R421)? -/
def State.dpyLocked (s : State) (off : Nat) (v : Word) : Bool :=
  let old := s.reg off
  if off = DPY_A_CFG then
    s.bit DPY_A_CFG DPY_A_CFG_en && DPY_A_CFG_en.get v == 1 && changes old v [DPY_A_CFG_bpc10]
  else if off = DPY_B_CFG then
    s.bit DPY_B_CFG DPY_B_CFG_en && DPY_B_CFG_en.get v == 1 && changes old v [DPY_B_CFG_vcom, DPY_B_CFG_fper]
  else if off = DPY_GEO1 then s.bit DPY_B_CFG DPY_B_CFG_en
  else if off = DPY_INTAKE 0 then !s.dpy.rectA.isEmpty
  else if off = DPY_INTAKE 1 then !s.dpy.rectB.isEmpty
  else false

end Sys2Proof.Machine
end

