-- ==== Sys2Proof/Machine/CleLaw.lean ====
section
/-! DEFINITION. The arithmetic of a control-engine loop (R150 to R163): formats, rounding and saturation, the profile
generator, the two control laws, compensation and the output code. -/

namespace Sys2Proof.Machine

/-! The words of a loop half (R167). -/

def lpEn (ws : List Word) : Bool := bits (wAt ws 0) 31 31 == 1
def lpForm (ws : List Word) : Nat := bits (wAt ws 0) 30 30
def lpOutKind (ws : List Word) : Nat := bits (wAt ws 0) 29 28
def lpTsrc (ws : List Word) : Nat := bits (wAt ws 0) 27 26
def lpInKind (ws : List Word) : Nat := bits (wAt ws 0) 25 23
def lpInNum (ws : List Word) : Nat := bits (wAt ws 0) 22 17
def lpOutNum (ws : List Word) : Nat := bits (wAt ws 0) 16 11
def lpCompR (ws : List Word) : Bool := bits (wAt ws 0) 10 10 == 1
def lpWrap (ws : List Word) : Bool := bits (wAt ws 0) 9 9 == 1
def lpFph (ws : List Word) : Nat := bits (wAt ws 1) 13 8
def lpDiv (ws : List Word) : Nat := bits (wAt ws 1) 5 0
def lpTgtLoop (ws : List Word) : Nat := bits (wAt ws 27) 13 8
def lpCanDiv (ws : List Word) : Nat := max 1 (bits (wAt ws 27) 7 0)
/-- Word `i` as a two's complement number: the Q8.24 and Q16.16 fields. -/
def lpS (ws : List Word) (i : Nat) : Int := sInt (wAt ws i)
/-- The loop period in ns (R146). -/
def lpPeriod (ws : List Word) : Nat := 50000 * lpDiv ws

/-- A half R176 forbids, as the half of loop `n`. (DESIGN CHOICE, log entry 56) -/
def lpBad (n : Nat) (ws : List Word) : Bool :=
  bits (wAt ws 0) 8 0 != 0 || bits (wAt ws 1) 31 14 != 0 || bits (wAt ws 1) 7 6 != 0
    || bits (wAt ws 22) 31 27 != 0 || bits (wAt ws 23) 31 27 != 0 || bits (wAt ws 27) 31 14 != 0
    || (List.range 4).any (fun i => wAt ws (28 + i) != 0#32)
    || (lpEn ws &&
      (lpInKind ws == 7 || lpDiv ws == 0 || decide (40 < lpDiv ws) || decide (lpDiv ws ≤ lpFph ws)
        || (lpInKind ws == 2 && decide (24 ≤ lpInNum ws))
        || ((lpInKind ws == 3 || lpInKind ws == 4) && decide (8 ≤ lpInNum ws))
        || (lpInKind ws == 5 && lpInNum ws != 0)
        || (lpOutKind ws == 1 && decide (48 ≤ lpOutNum ws))
        || (lpInKind ws == 6 && lpInNum ws == n) || (lpTsrc ws == 3 && lpTgtLoop ws == n)
        || (lpInKind ws == 1 && lpDiv ws == 1)
        || decide (lpS ws 12 < 0) || decide (lpS ws 26 < 0) || decide (lpS ws 14 < lpS ws 13)
        || decide (lpS ws 21 < lpS ws 20)
        || decide (8192 < bits (wAt ws 22) 12 0 + bits (wAt ws 22) 26 13)
        || decide (8192 < bits (wAt ws 23) 12 0 + bits (wAt ws 23) 26 13)))

/-! Rounding and saturation (R154). -/

/-- Round to nearest, halves toward +∞, dropping `n` fraction bits. -/
def rnd (n : Nat) (x : Int) : Int := (x + 2 ^ (n - 1)) / 2 ^ n

def sat32 (x : Int) : Int := clampI (-(2 ^ 31)) (2 ^ 31 - 1) x
def sat40 (x : Int) : Int := clampI (-(2 ^ 39)) (2 ^ 39 - 1) x

/-- A product in Q16.24. -/
def mulQ (a b : Int) : Int := rnd 24 (a * b)

/-- The gecko flags (R155), bit 0 first. -/
abbrev gkIn : Nat := 0
abbrev gkTgt : Nat := 1
abbrev gkProf : Nat := 2
abbrev gkErr : Nat := 3
abbrev gkPin : Nat := 4
abbrev gkDf : Nat := 5
abbrev gkIArith : Nat := 6
abbrev gkILim : Nat := 7
abbrev gkFf : Nat := 8
abbrev gkComp : Nat := 9
abbrev gkSum : Nat := 10
abbrev gkOutLim : Nat := 11
abbrev gkCode : Nat := 12

/-- A flag mask of one bit, when a stage clamped. -/
def flagIf (b : Bool) (bit : Nat) : Nat := if b then 2 ^ bit else 0

/-! The profile generator (R156, R157), in Q16.48. -/

structure Profile where
  r : Int
  v : Int
  a : Int
deriving DecidableEq, Repr

/-- The quotient of two numbers of Q16.48 in that format, rounded once. -/
def quo48 (a b : Int) : Int := (2 * a * 2 ^ 48 + b) / (2 * b)

/-- The loop period in seconds and its reciprocal, Q16.48, both rounded to nearest. -/
def dt48 (periodNs : Nat) : Int := ((2 * periodNs * 2 ^ 48 + 1000000000) / 2000000000 : Nat)
def inv48 (periodNs : Nat) : Int := ((2 * 1000000000 * 2 ^ 48 + periodNs) / (2 * periodNs) : Nat)

/-- A value outside Q16.48 is not stated; `f` stands for it. (DEDUCED, log entry 53) -/
def fit64 (f x : Int) : Int := if -(2 ^ 63) ≤ x ∧ x < 2 ^ 63 then x else clampI (-(2 ^ 63)) (2 ^ 63 - 1) f

/-- The step of a profile toward target `tgt`, Q8.24, with authority; limits are Q16.16. (DEDUCED, log entry 53) -/
def profileStep (p : Profile) (tgt : Int) (vmax amax jmax periodNs : Nat) (f : Int) : Profile :=
  let goal := tgt * 2 ^ 24
  let vm : Int := (vmax : Int) * 2 ^ 32
  let am : Int := (amax : Int) * 2 ^ 32
  let jm : Int := (jmax : Int) * 2 ^ 32
  let dt := dt48 periodNs
  let inv := inv48 periodNs
  let d := goal - p.r
  let near := decide ((d.natAbs : Int) ≤ rnd 48 (p.v.natAbs * dt))
    && decide ((p.v.natAbs : Int) ≤ (if amax = 0 then vm else rnd 48 (am * dt)))
  if (vmax = 0 ∧ amax = 0) ∨ near then ⟨goal, 0, 0⟩
  else
    let root : Int := Nat.sqrt (am * d.natAbs).toNat
    let mag := if amax = 0 then min vm (quo48 d.natAbs dt) else if vmax = 0 then root else min vm root
    let vdes := if d < 0 then -mag else mag
    let a0 := rnd 48 ((vdes - p.v) * inv)
    let ades := if amax = 0 then a0 else clampI (-am) am a0
    let j := rnd 48 (jm * dt)
    let a1 := fit64 f (if jmax = 0 then ades else p.a + clampI (-j) j (ades - p.a))
    let v0 := p.v + rnd 48 (a1 * dt)
    let v1 := fit64 f (if vmax = 0 then v0 else clampI (-vm) vm v0)
    ⟨fit64 f (p.r + rnd 48 (v1 * dt)), v1, a1⟩

/-! Compensation (R161). -/

/-- The interpolated value of a pool region at coordinate source `xc`; a region of length 0 gives 0. -/
def regionVal (pool : Nat → Int) (base len : Nat) (wrap : Bool) (xc pos0 scale : Int) : Int :=
  if len = 0 then 0
  else
    let f0 := rnd 16 ((xc - pos0) * scale)
    let f := if wrap then f0 % (len * 2 ^ 24) else clampI 0 (((len - 1 : Nat) : Int) * 2 ^ 24) f0
    let i := (f / 2 ^ 24).toNat
    let j := if i + 1 < len then i + 1 else if wrap then 0 else i
    pool (base + i) + mulQ (f % 2 ^ 24) (pool (base + j) - pool (base + i))

/-! One evaluation (R158). -/

/-- The run state the law carries from one evaluation to the next. -/
structure LawState where
  prof : Profile
  integ : Int
  df : Int
  xPrev : Int
  clampHi : Bool
  clampLo : Bool
  resetD : Bool
deriving DecidableEq, Repr

/-- What an evaluation gives. -/
structure LawOut where
  st : LawState
  uLim : Int
  /-- The output code, where there is an output. -/
  code : Int
  flags : Nat
deriving DecidableEq, Repr

/-- The code range of an output kind (R163). -/
def codeRange (kind width : Nat) (sgn : Bool) : Int × Int :=
  if kind = 1 then (0, 16383)
  else if kind = 2 then (0, 65535)
  else
    let n := if width = 0 then 8 else if width = 1 then 16 else 32
    if sgn then (-(2 ^ (n - 1)), 2 ^ (n - 1) - 1) else (0, 2 ^ n - 1)

/-- y := sat32(mul(raw, in_gain) + in_off), and whether it saturated (R150). -/
def scaleIn (ws : List Word) (raw : Int) : Int × Bool :=
  let m := sat40 (mulQ raw (lpS ws 2) + lpS ws 3)
  (sat32 m, sat32 m != m || m != mulQ raw (lpS ws 2) + lpS ws 3)

/-- The law from measurement `y` and target `tgt`, with or without authority; `f` stands for what the formats do not
hold. -/
def lawStep (ws : List Word) (pool : Nat → Int) (st : LawState) (y tgt : Int) (auth : Bool) (range : Int × Int)
    (f : Int) : LawOut :=
  let prof := if auth then profileStep st.prof tgt (wAt ws 17).toNat (wAt ws 18).toNat (wAt ws 19).toNat (lpPeriod ws) f
    else ⟨y * 2 ^ 24, 0, 0⟩
  let r0 := rnd 24 prof.r
  let v0 := rnd 24 prof.v
  let a0 := rnd 24 prof.a
  let r := sat32 r0
  let v := sat32 v0
  let a := sat32 a0
  let e := sat32 (r - y)
  let pin0 := mulQ (lpS ws 8) r - y
  let pin := if lpForm ws = 0 then e else sat32 pin0
  let din := if lpForm ws = 0 then e else sat32 (-y)
  let xp := if st.resetD then din else st.xPrev
  let df1 := sat40 (din - xp - st.df)
  let df2 := st.df + mulQ (lpS ws 7) df1
  let df := sat32 df2
  let p := mulQ (lpS ws 4) pin
  let dd := mulQ (lpS ws 6) df
  let kie := mulQ (lpS ws 5) e
  let hold := !auth || (st.clampHi && decide (0 < kie)) || (st.clampLo && decide (kie < 0))
  let i1 := if hold then st.integ else sat40 (st.integ + kie)
  let i2 := clampI (-(lpS ws 12)) (lpS ws 12) i1
  let ff1 := sat40 (mulQ (lpS ws 9) v + mulQ (lpS ws 10) a)
  let ff := sat40 (ff1 + lpS ws 11)
  let xc := if lpCompR ws then r else y
  let region := fun i => regionVal pool (bits (wAt ws i) 12 0) (bits (wAt ws i) 26 13) (lpWrap ws) xc (lpS ws 24) (lpS ws 25)
  let sg : Int := if (v.natAbs : Int) ≤ lpS ws 26 then 0 else if v < 0 then -1 else 1
  let comp0 := region 23 + sg * region 22
  let comp := sat40 comp0
  let s1 := sat40 (p + i2)
  let s2 := sat40 (s1 + dd)
  let s3 := sat40 (s2 + ff)
  let s4 := sat40 (s3 + comp)
  let u := sat32 s4
  let ul := clampI (lpS ws 13) (lpS ws 14) u
  let c0 := rnd 40 (ul * lpS ws 15 + lpS ws 16 * 2 ^ 24)
  let c := clampI range.1 range.2 c0
  { st := { prof := prof, integ := i2, df := df, xPrev := din, clampHi := decide (lpS ws 14 < u)
            clampLo := decide (u < lpS ws 13), resetD := false }
    uLim := ul
    code := c
    flags := flagIf (r != r0 || v != v0 || a != a0) gkProf + flagIf (e != r - y) gkErr
      + flagIf (lpForm ws != 0 && pin != pin0) gkPin
      + flagIf ((lpForm ws != 0 && din != -y) || df1 != din - xp - st.df || df != df2) gkDf
      + flagIf (!hold && i1 != st.integ + kie) gkIArith + flagIf (i2 != i1) gkILim
      + flagIf (ff1 != mulQ (lpS ws 9) v + mulQ (lpS ws 10) a || ff != ff1 + lpS ws 11) gkFf
      + flagIf (comp != comp0) gkComp
      + flagIf (s1 != p + i2 || s2 != s1 + dd || s3 != s2 + ff || s4 != s3 + comp || u != s4) gkSum
      + flagIf (ul != u) gkOutLim + flagIf (lpOutKind ws != 0 && c != c0) gkCode }

/-! The grid (R146, R149). -/

/-- The first grid trigger of loop `n` at or after MTIME `m`: 24 µs before a slot start. -/
def gridTrigger (n : Nat) (ws : List Word) (m : Nat) : Nat :=
  let per := lpPeriod ws
  let off := (50000 * lpFph ws + 3125 * (n / 4) + per - 24000) % per
  m + (off + per - m % per) % per

end Sys2Proof.Machine
end

