-- ==== Sys2Proof/Machine/CleCore.lean ====
section
/-! DEFINITION. The loops of the control engine (R145 to R171): hand-overs, targets, authority, outputs and one
evaluation. -/

namespace Sys2Proof.Machine

def State.loop (s : State) (n : Nat) : Loop := cellGet (fun _ => Loop.init) s.cle.loops n

def State.setLoop (s : State) (n : Nat) (l : Loop) : State :=
  { s with cle := { s.cle with loops := cellSet (fun _ => Loop.init) s.cle.loops n l } }

def State.poolAt (s : State) (i : Nat) : Word := cellGet (fun _ => 0#32) s.cle.pool i

def State.setPool (s : State) (i : Nat) (w : Word) : State :=
  { s with cle := { s.cle with pool := cellSet (fun _ => 0#32) s.cle.pool i w } }

/-- Set gecko flags of loop `n`; they stay until the host clears them (R155). -/
def State.gecko (s : State) (n : Nat) (flags : Nat) : State :=
  s.orBits (CLE_GECKO n) CLE_GECKO_flags flags

/-- The run state (R168). -/
def State.loopRun (s : State) (n : Nat) : List Word :=
  let l := s.loop n
  let p := fun x : Int => pos64 x
  [lo32 (p l.r64), hi32 (p l.r64), lo32 (p l.v64), hi32 (p l.v64), lo32 (p l.a64), hi32 (p l.a64),
    lo32 (p l.integ), hi32 (p l.integ), wInt l.df, wInt l.xPrev, lo32 l.nom, hi32 l.nom, lo32 l.trig, hi32 l.trig,
    word (min 0xFFFFFFFF l.lag),
    packW [(b2n l.auth, 31), (b2n l.pending, 30), (b2n l.moving, 29), (b2n l.clampHi, 28), (b2n l.clampLo, 27)],
    word l.hoSeq, word l.wrSeq] ++ List.replicate 14 0#32

/-- Item `k` of a loop: 0 shadow, 1 active, 2 run state. (DESIGN CHOICE, log entry 100) -/
def State.loopItem (s : State) (n k : Nat) : List Word :=
  if k = 0 then (s.loop n).sh else if k = 1 then (s.loop n).act else s.loopRun n

/-! Targets (R152, R172). -/

/-- A loop's waiting operations complete with a status, and are no longer waited for. A SET_TARGETS among them takes
none of its pairs still waiting. -/
def State.dropTgtOps (s : State) (n : Nat) : State :=
  let l := s.loop n
  let s0 := s.setLoop n { l with tgtOps := [], newTgt := none, prevTgt := none }
  l.tgtOps.foldl (fun s o =>
    match s.cle.tgts.find? (fun x => x.op == o.1) with
    | none => s.finish o.1 false stWrongState 0 0
    | some x =>
      let s1 := x.left.foldl (fun s m =>
        let q := s.loop m
        let mine := match q.newTgt with
          | some y => y.2.2 == some o.1
          | none => false
        s.setLoop m { q with
          tgtOps := q.tgtOps.filter fun y => y.1 != o.1
          newTgt := if mine then none else q.newTgt }) s
      let s2 := { s1 with cle := { s1.cle with tgts := s1.cle.tgts.filter fun y => y.op != o.1 } }
      s2.finish o.1 false stWrongState 0 0) s0

/-- A host target write to a loop whose source is not the host is counted (R152). -/
def State.countIgn (s : State) (n : Nat) : State :=
  if lpTsrc (s.loop n).act ≠ 0 then s.bump (CLE_LNA n) CLE_LNA_ign_cnt else s

/-- A target written by source `src` to loop `n`; one from a source not selected is ignored and counted. -/
def State.writeTarget (s : State) (n src : Nat) (v : Int) (op : Option (Nat × Nat)) : State :=
  let l := s.loop n
  if lpTsrc l.act ≠ src then s.bump (CLE_LNA n) CLE_LNA_ign_cnt
  else
    let prev := match l.newTgt with
      | some x => if x.2.1 = s.cyc then l.prevTgt else some x.1
      | none => none
    s.setLoop n { l with
      newTgt := some (v, s.cyc, op), prevTgt := prev
      tgtOps := match op with
        | some k => l.tgtOps ++ [(k, s.cyc)]
        | none => l.tgtOps }

/-- The target in force, Q8.24. -/
def State.tgtOf (s : State) (n : Nat) : Int := sInt (s.reg (CLE_TGT n))

/-- One waiting operation ends as loop `n` takes its target at the evaluation triggered at MTIME `trig`. -/
def State.tgtTaken (s : State) (n trig : Nat) (sat : Bool) (o : Nat × Nat) : State :=
  match s.cle.tgts.find? fun x => x.op == o with
  | none => s.finish o true (if sat then stSat else stDone) 0 (trig % 2 ^ 32)
  | some x =>
    let x1 := { x with left := x.left.filter (· != n), sat := x.sat || sat }
    let rest := s.cle.tgts.filter fun y => y.op != o
    if x1.left.isEmpty then
      ({ s with cle := { s.cle with tgts := rest } }).finish o true (if x1.sat then stSat else stDone) (8 * x.count) x.count
    else { s with cle := { s.cle with tgts := rest ++ [x1] } }

/-- At an evaluation start the loop takes the target written before this cycle (R152). The operations of targets that a later
write has replaced complete at the take of the later one, with the status it gives (R172). (DESIGN CHOICE, log entry 137) -/
def State.takeTarget (s : State) (n trig : Nat) : State :=
  let l := s.loop n
  let ws := l.act
  let put := fun (s : State) (v : Int) =>
    let c := clampI (lpS ws 20) (lpS ws 21) v
    (if c ≠ v then s.gecko n (2 ^ gkTgt) else s).setReg (CLE_TGT n) (wInt c)
  if lpTsrc ws = 3 then put s (sInt (s.reg (CLE_ULIM (lpTgtLoop ws))))
  else
    match l.newTgt with
    | none => s
    | some x =>
      let late := x.2.1 == s.cyc
      match (if late then l.prevTgt else some x.1) with
      | none => s
      | some v =>
        let sat := clampI (lpS ws 20) (lpS ws 21) v != v
        let ops := l.tgtOps.filter fun o => o.2 != s.cyc
        let s1 := s.setLoop n { l with
          newTgt := if late then l.newTgt else none, prevTgt := none
          tgtOps := l.tgtOps.filter fun o => o.2 == s.cyc }
        ops.foldl (fun s o => s.tgtTaken n trig sat o.1) (put s1 v)

/-! Hand-overs (R169, R170). -/

/-- Is a loop template's value field misused (R176)? -/
def State.tmplBad (s : State) (m : Nat) : Bool :=
  let w := s.rd (CLE_CANT_FMT m) CLE_CANT_FMT_width
  let d := s.rd (CLE_CANT_FMT m) CLE_CANT_FMT_dlc
  w == 3 || decide (8 < d) || decide (d < s.rd (CLE_CANT_FMT m) CLE_CANT_FMT_offset + 2 ^ w)

/-- Would loop `n` with half `ws` share its output with another enabled loop, or use a misused template (R176)? -/
def State.outBad (s : State) (n : Nat) (ws : List Word) : Bool :=
  lpEn ws && lpOutKind ws != 0 &&
    ((List.range 64).any (fun m => m != n && lpEn (s.loop m).act && lpOutKind (s.loop m).act == lpOutKind ws
        && lpOutNum (s.loop m).act == lpOutNum ws)
      || (lpOutKind ws == 3 && s.tmplBad (lpOutNum ws)))

/-- The half a hand-over in this cycle copies. -/
def Loop.source (l : Loop) (c : Nat) : List Word := if l.wroteAt = c then l.prevSh else l.sh

/-- Does a commit wait that did not land in this cycle? -/
def Loop.due (l : Loop) (c : Nat) : Bool := if l.pendAt = c then l.prevPend else l.pending

/-- What a hand-over does to the run state (R170). -/
def Loop.changed (l : Loop) (n : Nat) (old new : List Word) (mtime : Nat) : Loop :=
  if !lpEn old && lpEn new then
    let g := gridTrigger n new (mtime + 24000)
    { l with
      v64 := 0, a64 := 0, integ := 0, df := 0, resetD := true, fresh := true, nom := g, trig := g, lag := 0, cu := false
      trigged := false, sample := none, canCnt := 0, clear := false, flight := none }
  else
    let l1 := if lpDiv old ≠ lpDiv new ∨ lpFph old ≠ lpFph new then
        let g := gridTrigger n new mtime
        { l with nom := g, trig := g, lag := 0, cu := false }
      else l
    if lpForm old ≠ lpForm new ∨ lpInKind old ≠ lpInKind new ∨ lpInNum old ≠ lpInNum new then
      { l1 with df := 0, resetD := true }
    else l1

/-- Loop `n`'s last hand-over moves one number up: one of a lower loop falls in its cycle (R169). -/
def State.loopShift (s : State) (n : Nat) : State :=
  let l := s.loop n
  s.setLoop n { l with hoSeq := seqUp l.hoSeq, wrSeq := if l.wroteAt = s.cyc then seqUp l.wrSeq else l.wrSeq }

/-- Copy the shadow half of loop `n` to its active half; the hand-overs of one cycle are numbered in loop order (R169). -/
def State.loopCopy (s : State) (n : Nat) : State :=
  let above := s.handedAbove 3 n
  let s1 := ((above.foldl State.loopShift (s.incReg CLE_HO_SEQ)).handNote 3 n).hoMend 3
  let q := seqBack (s1.reg CLE_HO_SEQ).toNat above.length
  let l := s1.loop n
  let new := l.source s.cyc
  let again := l.pending && l.pendAt == s.cyc
  let l1 := { l with
    act := new, hoSeq := q, pending := again, prevPend := false
    wrSeq := if l.wroteAt = s.cyc then q else l.wrSeq }
  let s2 := s1.setLoop n (l1.changed n l.act new s.mtime)
  if !lpEn new || lpTsrc new != lpTsrc l.act || !lpEn l.act then s2.dropTgtOps n else s2

/-- A step of MTIME from `old`: every loop's next trigger is the first grid trigger after the stepped value; an evaluation
under way keeps its own instant (R149). (DEDUCED, log entry 112) -/
def State.loopsStep (s : State) (old : Nat) : State :=
  (List.range 64).foldl (fun s n =>
    let l := s.loop n
    if lpEn l.act then
      let g := gridTrigger n l.act (s.mtime + 1)
      s.setLoop n { l with
        nom := g, trig := g, lag := 0, cu := false, trigged := false, sample := none
        flight := if l.trigged then
            some ⟨s.cyc + (l.nom + 24000 - old + 4) / 5, l.trig, l.cu || l.trig != l.nom || decide (l.nom + 24005 ≤ old), l.sample⟩
          else l.flight }
    else s) s

/-- Write a loop's shadow half. -/
def State.loopWrite (s : State) (n : Nat) (ws : List Word) : State :=
  let l := s.loop n
  s.setLoop n { l with
    sh := ws, wrSeq := (s.reg CLE_HO_SEQ).toNat, wroteAt := s.cyc
    prevSh := if l.wroteAt = s.cyc then l.prevSh else l.sh }

def State.loopCommit (s : State) (n : Nat) : State :=
  let l := s.loop n
  s.setLoop n { l with
    pending := true, pendAt := s.cyc
    prevPend := if l.pending ∧ l.pendAt = s.cyc then l.prevPend else l.pending }

/-! Authority and outputs (R159, R163, R165). -/

def State.tmplChan (s : State) (m : Nat) : Nat := s.rd (CLE_CANT_FMT m) CLE_CANT_FMT_chan

/-- Has a loop with half `ws` authority over its output? -/
def State.loopAuth (s : State) (ws : List Word) : Bool :=
  let k := lpOutKind ws
  if k = 0 then true
  else if k = 1 then s.holds (itemValve (lpOutNum ws)) 1
  else if k = 2 then s.holds (itemSwitch (lpOutNum ws)) 1
  else s.holds (itemTmpl (lpOutNum ws)) 1 && !(s.isK12 && decide (s.tmplChan (lpOutNum ws) ≤ 1))

/-- The data bytes of a template with a code written into its value field (R165). -/
def State.tmplData (s : State) (m : Nat) (code : Int) : List Byte :=
  let d := wordBytes (s.reg (CLE_CANT_D0 m)) ++ wordBytes (s.reg (CLE_CANT_D1 m))
  let n := 2 ^ s.rd (CLE_CANT_FMT m) CLE_CANT_FMT_width
  let le := (List.range n).map fun i => byte ((code % 2 ^ 32).toNat / 2 ^ (8 * i))
  let v := if s.bit (CLE_CANT_FMT m) CLE_CANT_FMT_big then le.reverse else le
  let o := s.rd (CLE_CANT_FMT m) CLE_CANT_FMT_offset
  (d.take o ++ v ++ d.drop (o + n)).take (s.rd (CLE_CANT_FMT m) CLE_CANT_FMT_dlc)

def State.canEn (s : State) (c : Nat) : Bool := s.bit (CAN_CFG c) CAN_CFG_en

/-- Enqueue the frame of a template into Q0, in the place of an unsent frame of the same template (R165, R361). A frame
for a disabled channel or a full queue is dropped. -/
def State.sendTmpl (s : State) (n m : Nat) (code : Int) : State :=
  let c := s.tmplChan m
  let ch := s.canCh c
  let fdf := s.bit (CLE_CANT_ID m) CLE_CANT_ID_fdf
  let ide := s.bit (CLE_CANT_ID m) CLE_CANT_ID_ide
  let id := s.rd (CLE_CANT_ID m) CLE_CANT_ID_id
  let f : TxFrame :=
    { fdf := fdf, brs := fdf && s.bit (CLE_CANT_ID m) CLE_CANT_ID_brs, ide := ide, id := if ide then id else id % 2 ^ 11
      dlc := s.rd (CLE_CANT_FMT m) CLE_CANT_FMT_dlc, data := s.tmplData m code, tmpl := some (m, n), op := none
      again := false }
  let same := fun (g : TxFrame) => match g.tmpl with
    | some p => p.1 == m
    | none => false
  let q := ch.queue 0
  let sending := ch.cur == some 0
  let k := b2n sending
  if !s.canEn c then s
  else if sending && (q.take 1).any same && !ch.curGone then
    let s1 := if ch.behind.isSome then s.bump (CLE_LNA n) CLE_LNA_sup_cnt else s
    s1.setCan c { ch with behind := some f }
  else
    match (q.drop k).findIdx? same with
    | some i => (s.bump (CLE_LNA n) CLE_LNA_sup_cnt).setCan c (ch.setQueue 0 (modAt (fun _ => f) (i + k) q))
    | none => if q.length < 16 then s.setCan c (ch.setQueue 0 (q ++ [f])) else s

/-- Deliver the output code of an evaluation with authority to the loop's output (R163, R165).
(DESIGN CHOICE, log entry 52) -/
def State.deliverOut (s : State) (n : Nat) (code : Int) : State :=
  let l := s.loop n
  let ws := l.act
  let k := lpOutKind ws
  let s1 := s.setLoop n { l with canCnt := l.canCnt + 1 }
  if k = 0 then s1
  else if k = 1 then s1.valveWrite (lpOutNum ws) code.toNat false true
  else if k = 2 then s1.switchWrite (lpOutNum ws) 2 code.toNat false true
  else if (l.canCnt + 1) % lpCanDiv ws = 0 then s1.sendTmpl n (lpOutNum ws) code else s1

/-- The code range of loop half `ws` (R163). -/
def State.outRange (s : State) (ws : List Word) : Int × Int :=
  codeRange (lpOutKind ws) (s.rd (CLE_CANT_FMT (lpOutNum ws)) CLE_CANT_FMT_width)
    (s.bit (CLE_CANT_FMT (lpOutNum ws)) CLE_CANT_FMT_signed)

/-! One evaluation. -/

/-- CLE_CFG.catchup; above 128 acts as 128. -/
def State.cleCatchup (s : State) : Nat := min 128 (s.rd CLE_CFG CLE_CFG_catchup)

/-- Lag, and the next trigger (R166), at evaluation start `m`. -/
def State.loopLag (s : State) (n m : Nat) : State :=
  let l := s.loop n
  let per := lpPeriod l.act
  let lag := m - (l.nom + 24000)
  let nom := l.nom + per
  let cand := m + per - (per * s.cleCatchup / 2 ^ 8) - 24000
  let s1 := if 0 < lag then s.bump (CLE_LCNT n) CLE_LCNT_late_cnt else s
  let s2 := if nom < cand then s1.bump (CLE_LCNT n) CLE_LCNT_short_cnt else s1
  s2.setLoop n { l with
    lag := lag, nom := nom, trig := if nom < cand then cand else nom, cu := decide (nom < cand)
    trigged := false, sample := none }

/-- The law, after the hand-over, with input `raw` (R158, R170, R173). -/
def State.evalLaw (s : State) (n trig : Nat) (raw : Int) : State :=
  let l := s.loop n
  let ws := l.act
  let y := (scaleIn ws raw).1
  let s0 := if (scaleIn ws raw).2 then s.gecko n (2 ^ gkIn) else s
  let s1 := if l.fresh then (s0.setReg (CLE_TGT n) (wInt y)).setLoop n { l with r64 := y * 2 ^ 24, fresh := false } else s0
  let l1 := s1.loop n
  let s2 := if l1.clear then
      s1.setLoop n { l1 with r64 := y * 2 ^ 24, v64 := 0, a64 := 0, integ := 0, df := 0, resetD := true, clear := false }
    else s1
  let s3 := s2.takeTarget n trig
  let l3 := s3.loop n
  let auth := s.loopAuth ws
  let o := lawStep ws (fun i => sInt (s.poolAt i)) ⟨⟨l3.r64, l3.v64, l3.a64⟩, l3.integ, l3.df, l3.xPrev, l3.clampHi,
    l3.clampLo, l3.resetD⟩ y (s3.tgtOf n) auth (s.outRange ws) (Config.freeInt s.free)
  let s4 := ((s3.gecko n o.flags).setReg (CLE_YMEAS n) (wInt y)).setReg (CLE_ULIM n) (wInt o.uLim)
  let s5 := s4.setLoop n { l3 with
    r64 := o.st.prof.r, v64 := o.st.prof.v, a64 := o.st.prof.a, integ := o.st.integ, df := o.st.df, xPrev := o.st.xPrev
    clampHi := o.st.clampHi, clampLo := o.st.clampLo, resetD := o.st.resetD, auth := auth
    moving := o.st.prof.r != s3.tgtOf n * 2 ^ 24 }
  let s6 := { s5 with cle := { s5.cle with evals := s5.cle.evals + 1 } }.freeNext
  if auth then s6.deliverOut n o.code else s6.bump (CLE_LNA n) CLE_LNA_noauth_cnt

/-- What an evaluation of loop `n` at MTIME `m` leaves, of the trigger at `trig` with its sample `raw`: hand-over, law,
output, lag. A loop that the hand-over disables is not evaluated. An evaluation under way as MTIME stepped is not `own`:
the step has set its lag and the next trigger (R149). (DESIGN CHOICE, log entry 52) -/
def State.evaluated (s : State) (n : Nat) (raw : Int) (trig m : Nat) (own : Bool) : State :=
  let l := s.loop n
  let s1 := if l.due s.cyc then s.loopCopy n else s
  if !lpEn (s1.loop n).act then s1
  else
    let moved := l.due s.cyc && (lpDiv l.act != lpDiv (s1.loop n).act || lpFph l.act != lpFph (s1.loop n).act)
    let s2 := s1.evalLaw n trig raw
    if moved then s2.setLoop n { s2.loop n with trigged := false, sample := none }
    else if own then s2.loopLag n m else s2

/-- An evaluation start: a due hand-over to an output that another user holds faults (R176). -/
def State.evaluate (s : State) (n : Nat) (raw : Int) (trig m : Nat) (own : Bool) : Out :=
  if (s.loop n).due s.cyc && s.outBad n ((s.loop n).source s.cyc) then .fault .controlEngineMisuse
  else .next (s.evaluated n raw trig m own)

end Sys2Proof.Machine
end

