-- ==== Sys2Proof/Machine/Perturb.lean ====
section
/-! DEFINITION. Test perturbation (R490 to R492, R495): locking, what is enabled, the stalls of TST_BP. -/

namespace Sys2Proof.Machine

def State.tstOpen (s : State) : Bool := s.bit TST_UNLOCK TST_UNLOCK_open

/-- Does any perturbation meet its enabling condition? -/
def State.tstLive (s : State) : Bool :=
  (s.rd TST_FAB TST_FAB_mask != 0 && s.rd TST_FAB TST_FAB_dly != 0)
    || (s.rd TST_BP TST_BP_classes != 0 && s.rd TST_BP TST_BP_on != 0)
    || s.rd TST_JIT TST_JIT_nym_j != 0 || s.rd TST_JIT TST_JIT_db_j != 0
    || s.rd TST_CANERR TST_CANERR_count != 0

/-- SYS_STATUS.perturb and SYS_GUAR.perturb follow what is enabled. -/
def State.perturbSet (s : State) (v : Bool) : State :=
  let s1 := if v && !s.bit SYS_STATUS SYS_STATUS_perturb then s.wr SYS_STATUS SYS_STATUS_perturb_seen 1 else s
  (s1.wr SYS_STATUS SYS_STATUS_perturb (b2n v)).guarSet SYS_GUAR_perturb SYS_GUAR_perturb_seen v

/-- Perturbation is enabled while a condition holds, and 1 ms longer. -/
def State.tstSync (s : State) : State :=
  if s.tstLive then ({ s with tst := { s.tst with endAt := none } }).perturbSet true
  else if s.bit SYS_STATUS SYS_STATUS_perturb && s.tst.endAt.isNone then
    { s with tst := { s.tst with endAt := some (s.cyc + ms 1) } }
  else s

/-- PERTURB_END. -/
def execPerturbEnd (t : Nat) (s : State) : Out :=
  let s := s.at t
  match s.tst.endAt with
  | none => .next s
  | some c =>
    if s.cyc < c ∨ s.tstLive then .next s
    else .next (({ s with tst := { s.tst with endAt := none } }).perturbSet false)

def State.tstMark (s : State) (open_ : Bool) : State :=
  (s.wr TST_UNLOCK TST_UNLOCK_open (b2n open_)).wr SYS_STATUS SYS_STATUS_tst_open (b2n open_)

/-- Lock TST: every TST register takes its reset value. -/
def State.tstLock (s : State) : State :=
  let s1 := ((((s.setReg TST_FAB 0#32).setReg TST_BP 0#32).setReg TST_JIT 0#32).setReg TST_SEED 1#32).setReg TST_CANERR 0#32
  (({ s1 with tst := { s1.tst with key := none } }).tstMark false).tstSync

/-- A write of `v` to TST_UNLOCK (R490). -/
def State.tstUnlock (s : State) (v : Word) : State :=
  if !s.readyReg TST_UNLOCK then s.ignored TST_UNLOCK
  else if s.tstOpen then (if v = 0#32 then s.tstLock else s.ignored TST_UNLOCK)
  else if v = 0x2A5E#32 ∧ (s.tst.key.any fun c => decide (s.cyc ≤ c + ms 1)) then
    ({ s with tst := { s.tst with key := none } }).tstMark true
  else { s with tst := { s.tst with key := if v = 0xD5A1#32 then some s.cyc else none } }

/-- TST_UNLOCK. -/
def execTstUnlock (t : Nat) (v : Word) (s : State) : Out := .next ((s.at t).tstUnlock v)

/-- TST_LOCK: a write of 0. -/
def execTstLock (t : Nat) (s : State) : Out := .next ((s.at t).tstUnlock 0#32)

/-- A value R495 forbids in TST_FAB, TST_BP or TST_CANERR; a write of the reset value, 0, is none. -/
def tstBad (off : Nat) (v : Word) : Bool :=
  if off = TST_FAB then decide (10000 < TST_FAB_dly.get v)
  else if off = TST_BP then
    v != 0#32 && (decide (TST_BP_per.get v < 2) || decide (1000 < TST_BP_per.get v)
      || decide (TST_BP_per.get v ≤ TST_BP_on.get v))
  else if off = TST_CANERR then v != 0#32 && TST_CANERR_pos.get v == 0
  else false

/-- A perturbation enabled while the machine harvests or travels on a road (R495). -/
def State.tstUnsafe (s : State) : Bool := s.tstLive && (s.mstate == 2 || s.mstate == 4)

/-- A write to a TST register other than TST_UNLOCK. -/
def State.tstWrite (s : State) (off : Nat) (v : Word) (k : State → State) : Out :=
  s.hostWrite off v (!s.tstOpen) fun s =>
    let s1 := k (s.store off v)
    if tstBad off v || s1.tstUnsafe then .fault .testMisuse else .next s1.tstSync

/-- TST_JIT_WRITE: the generator is reseeded. (DESIGN CHOICE, log entry 50) -/
def execTstJitWrite (t : Nat) (v : Word) (s : State) : Out :=
  (s.at t).tstWrite TST_JIT v fun s =>
    { s with tst := { s.tst with gen := if s.reg TST_SEED = 0#32 then 1#32 else s.reg TST_SEED } }

/-- Is a class stalled by TST_BP now? `bit` is the class's bit in the register. -/
def State.stalled (s : State) (bit : Nat) : Bool :=
  let w := s.reg TST_BP
  let per := 1000 * TST_BP_per.get w
  bits w bit bit == 1 && TST_BP_on.get w != 0 && per != 0 && decide (s.mtime % per < 1000 * TST_BP_on.get w)

end Sys2Proof.Machine
end

