-- ==== Sys2Proof/Machine/Can.lean ====
section
/-! DEFINITION. The CAN FD channels (R350 to R371): set-up, receiving, transmit queues and arbitration, error states and
bus-off, the ring operations. -/

namespace Sys2Proof.Machine

/-! Channel states (R364). -/

abbrev csActive : Nat := 0
abbrev csPassive : Nat := 1
abbrev csBusOff : Nat := 2
abbrev csRecovering : Nat := 3

def State.canState (s : State) (n : Nat) : Nat := s.rd (CAN_STAT n) CAN_STAT_state

/-- Does the K12 engine hold channel `n` (R368)? -/
def State.canK12 (s : State) (n : Nat) : Bool := s.isK12 && decide (n ≤ 1)

/-! Receiving (R353 to R357). -/

/-- Data length of a DLC (R356). -/
def dlcLen (fdf : Bool) (dlc : Nat) : Nat :=
  if dlc ≤ 8 then dlc
  else if !fdf then 8
  else if dlc = 9 then 12 else if dlc = 10 then 16 else if dlc = 11 then 20 else if dlc = 12 then 24
  else if dlc = 13 then 32 else if dlc = 14 then 48 else 64

/-- A receive record (R355). -/
def canRecord (n : Nat) (f : CanFrame) (stamp : Nat) (echo lost : Bool) : List Word :=
  let len := if f.rtr then 0 else dlcLen f.fdf f.dlc
  let bs := (List.range ((len + 15) / 16 * 16)).map fun i => if i < len then f.data.getD i 0#8 else 0#8
  [lo32 stamp, hi32 stamp,
    packW [(n, 29), (b2n f.ide, 28), (b2n f.fdf, 27), (b2n f.brs, 26), (b2n f.esi, 25), (b2n f.rtr, 24), (b2n echo, 23),
      (b2n lost, 22), (f.dlc % 16, 0)],
    word (if f.ide then f.id % 2 ^ 29 else f.id % 2 ^ 11)] ++ bytesWords bs

/-- The key of channel `n`'s receive function. -/
abbrev canKey (n : Nat) : Nat := 0xC0 + n

/-- Deliver or stage a record; one that staging does not take is dropped (R357). -/
def State.canDeliver (s : State) (n : Nat) (f : CanFrame) (echo : Bool) : State :=
  let c := s.canCh n
  let a := s.deliver (canKey n) (canRecord n f (s.canStamp f.sof) echo c.lost)
  let s1 := a.1.setCan n { a.1.canCh n with lost := a.2 }
  if a.2 then (s1.bump (CAN_CNT1 n) CAN_CNT1_rx_drop).noteSlow (0x0C20 + n) 0 else s1

/-! Error states (R364 to R366). -/

/-- The queues of a channel that hold a frame set bo_held. -/
def State.boHeld (s : State) (n : Nat) : State :=
  (List.range 4).foldl (fun s q =>
    if ((s.canCh n).queue q).isEmpty then s
    else s.orBits (CAN_QSTAT n) CAN_QSTAT_bo_held (2 ^ q)) s

/-- The state follows TEC and REC. -/
def State.canConfine (s : State) (n : Nat) : State :=
  let st := s.canState n
  let tec := s.rd (CAN_STAT n) CAN_STAT_tec
  let passive := decide (127 < tec) || decide (127 < s.rd (CAN_STAT n) CAN_STAT_rec)
  if st = csBusOff ∨ st = csRecovering then s
  else if 255 < tec then
    let s1 := if n < 2 then { s with k12 := { s.k12 with busOff := cellSet (fun _ => 0) s.k12.busOff n s.cyc } } else s
    (((s1.wr (CAN_STAT n) CAN_STAT_state csBusOff).wr (CAN_STAT n) CAN_STAT_bo_seen 1).boHeld n).raise2 (0x0C00 + n) 0
  else if passive then
    if st = csPassive then s
    else ((s.wr (CAN_STAT n) CAN_STAT_state csPassive).wr (CAN_STAT n) CAN_STAT_ep_seen 1).note (0x0C08 + n) 0
  else s.wr (CAN_STAT n) CAN_STAT_state csActive

/-- Add to TEC or, saturating at 255, to REC. (PRESUMED, log entry 79) -/
def State.canCount (s : State) (n : Nat) (own : Bool) (add : Nat) : State :=
  if own then s.wr (CAN_STAT n) CAN_STAT_tec (s.rd (CAN_STAT n) CAN_STAT_tec + add)
  else s.bumpBy (CAN_STAT n) CAN_STAT_rec add

/-- A frame received without error lowers REC; from above 127 ISO 11898-1 takes it to a value of 119 to 127.
(PRESUMED, log entry 79) -/
def State.canGood (s : State) (n : Nat) : State :=
  let r := s.rd (CAN_STAT n) CAN_STAT_rec
  if 127 < r then (s.wr (CAN_STAT n) CAN_STAT_rec (119 + Config.freeNat s.free % 9)).freeNext.canConfine n
  else s.wr (CAN_STAT n) CAN_STAT_rec (r - 1)

/-- Does a channel take part in its bus: on it, or ending a frame as it leaves, and not in bus-off or recovering?
(PRESUMED, log entry 79) -/
def State.canOnBus (s : State) (n : Nat) : Bool :=
  (s.canEn n || (s.canCh n).cur.isSome) && decide (s.canState n ≤ csPassive)

/-- Does it receive a frame that started in cycle `sof` of the CAN clock: on the bus, or on it as the frame started?
(PRESUMED, log entry 79) -/
def State.canHears (s : State) (n sof : Nat) : Bool :=
  (s.canEn n || (s.canCh n).left.any fun c => decide (25 * sof < 10 * c)) && decide (25 * sof ≤ 10 * s.cyc)
    && decide (s.canState n ≤ csPassive)

/-! ISO 11783 on CAN0 and CAN1 in K12 mode (R484). -/

/-- Queue a classical frame with a 29-bit identifier in Q1 of channel `n`; a full queue takes no more. -/
def State.k12Send (s : State) (n id : Nat) (bs : List Byte) : State :=
  let c := s.canCh n
  if !s.canEn n || decide (64 ≤ (c.queue 1).length) then s
  else
    let x : TxFrame :=
      { fdf := false, brs := false, ide := true, id := id % 2 ^ 29, dlc := min 8 bs.length, data := bs.take 8, tmpl := none
        op := none, again := false }
    s.setCan n (c.setQueue 1 (c.queue 1 ++ [x]))

/-- A parameter group of the K12's own has come in: its mailboxes take what their layout makes of it. (DESIGN CHOICE, log entry 142) -/
def State.k12Mail (s : State) (pgn : Nat) (bs : List Byte) : State :=
  (Config.k12Mail pgn bs).foldl (fun s p => s.k12Set (0x0C6 + p.1 % 58) (p.2 % 65536)) s

/-- A transport control frame to node `dst` about parameter group `pgn`. (PRESUMED, log entry 141) -/
def State.tpTell (s : State) (n dst : Nat) (ctl : List Nat) (pgn : Nat) : State :=
  s.k12Send n (0x1CEC0000 + dst * 256 + s.k12Get 0x0C4 / 256)
    ((ctl ++ [pgn % 256, pgn / 256 % 256, pgn / 65536]).map byte)

/-- The sessions but those of node `src` on channel `n`, to all nodes or to this one. -/
def State.tpDrop (s : State) (n src : Nat) (cast : Bool) : State :=
  { s with k12 := { s.k12 with tp := s.k12.tp.filter fun x => !(x.chan == n && x.src == src && x.cast == cast) } }

def State.tpPut (s : State) (x : TpSess) : State :=
  let s1 := s.tpDrop x.chan x.src x.cast
  { s1 with k12 := { s1.k12 with tp := x :: s1.k12.tp } }

/-- Ask for the packets that are next, as many as the sender allows. (PRESUMED, log entry 141) -/
def State.tpAsk (s : State) (x : TpSess) : State :=
  let next := x.data.length / 7 + 1
  let k := min x.top ((x.size + 6) / 7 + 1 - next)
  (s.tpPut { x with last := next + k - 1 }).tpTell x.chan x.src [17, k, next, 0xFF, 0xFF] x.pgn

/-- A transport control frame from node `src`: a message to this node or to all is announced, or one is given up. One of
more than 1,785 bytes is refused. (PRESUMED, log entry 141) -/
def State.tpControl (s : State) (n src : Nat) (all : Bool) (bs : List Byte) : State :=
  let b := fun i => (bs.getD i 0#8).toNat
  let pgn := b 5 + 256 * b 6 + 65536 * b 7
  let x : TpSess := ⟨n, src, all, pgn, b 1 + 256 * b 2, max 1 (b 4), 0, []⟩
  let fits := decide (9 ≤ x.size) && decide (x.size ≤ 1785) && b 3 == (x.size + 6) / 7
  if b 0 = 32 ∧ all then if fits then s.tpPut x else s
  else if b 0 = 16 ∧ !all then
    if fits then s.tpAsk x else (s.tpDrop n src false).tpTell n src [255, 2, 0xFF, 0xFF, 0xFF] pgn
  else if b 0 = 255 ∧ !all then s.tpDrop n src false
  else s

/-- A packet of a message from node `src`. One out of its order ends a broadcast and is asked for again otherwise.
(PRESUMED, log entry 141) -/
def State.tpPacket (s : State) (n src : Nat) (all : Bool) (bs : List Byte) : State :=
  match s.k12.tp.find? fun x => x.chan == n && x.src == src && x.cast == all with
  | none => s
  | some x =>
    let seq := (bs.getD 0 0#8).toNat
    if seq ≠ x.data.length / 7 + 1 then if all then s.tpDrop n src all else s.tpAsk x
    else
      let y := { x with data := x.data ++ (bs.drop 1).take 7 }
      if x.size ≤ y.data.length then
        let s1 := (s.tpDrop n src all).k12Mail x.pgn (y.data.take x.size)
        if all then s1 else s1.tpTell n src [19, x.size % 256, x.size / 256, (x.size + 6) / 7, 0xFF] x.pgn
      else if !all && seq == x.last then s.tpAsk y
      else s.tpPut y

/-- A frame that the K12 engine hears: of a group for all nodes or for its own address (R484). (PRESUMED, log entry 141) -/
def State.k12Heard (s : State) (n : Nat) (f : CanFrame) : State :=
  let pf := f.id / 2 ^ 16 % 256
  let ps := f.id / 2 ^ 8 % 256
  let bs := f.data.take (dlcLen f.fdf f.dlc)
  let me := s.k12Get 0x0C4 / 256
  if !s.k12Runs || decide (1 < n) || !f.ide || f.rtr || !(decide (240 ≤ pf) || ps == 0xFF || (ps == me && me != 0xFE)) then s
  else if pf = 0xEC then if bs.length = 8 then s.tpControl n (f.id % 256) (ps == 0xFF) bs else s
  else if pf = 0xEB then if bs.length = 8 then s.tpPacket n (f.id % 256) (ps == 0xFF) bs else s
  else s.k12Mail (f.id / 2 ^ 24 % 2 * 65536 + 256 * pf + (if 240 ≤ pf then ps else 0)) bs

/-- CAN_FRAME_RECEIVED (R353). -/
def execCanFrameReceived (t : Nat) (n : Fin 8) (frame : CanFrame) (s : State) : Out :=
  let s := s.at t
  if !s.canHears n frame.sof then .next s
  else
    let s1 := (s.bump (CAN_CNT0 n) CAN_CNT0_rx_cnt).canGood n
    .next (((s1.setCan n { s1.canCh n with left := none }).canDeliver n frame false).k12Heard n frame)

/-! Transmitting (R358 to R363). -/

/-- The arbitration field as the bits go on the bus: base identifier, then the bit that tells base from extended, then
the rest of an extended identifier. -/
def TxFrame.arb (f : TxFrame) : Nat :=
  if f.ide then (f.id / 2 ^ 18 % 2 ^ 11) * 2 ^ 19 + 2 ^ 18 + f.id % 2 ^ 18 else f.id % 2 ^ 11 * 2 ^ 19

/-- The queue whose head has the lowest arbitration field; between equal fields the lower number. -/
def CanCh.best (c : CanCh) : Option Nat :=
  (List.range 4).foldl (fun a q =>
    match c.queue q with
    | [] => a
    | f :: _ =>
      match a with
      | none => some q
      | some b =>
        match c.queue b with
        | [] => some q
        | g :: _ => if f.arb < g.arb then some q else some b) none

/-- CAN_TX_OPPORTUNITY (R359). A retry after an error is counted (R360). -/
def execCanTxOpportunity (t : Nat) (n : Fin 8) (s : State) : Out :=
  let s := s.at t
  let c := s.canCh n
  if !s.canEn n || s.bit (CAN_CFG n) CAN_CFG_listen || decide (csBusOff ≤ s.canState n) || c.cur.isSome then .next s
  else
    match c.best with
    | none => .next s
    | some q =>
      let again := (c.queue q).head?.any TxFrame.again
      let s1 := if again then s.bump (CAN_CNT1 n) CAN_CNT1_retry_cnt else s
      .next (s1.setCan n { c.setQueue q (modAt (fun f => { f with again := false }) 0 (c.queue q)) with
        cur := some q, curGone := false })

/-- End the operation a frame came from. -/
def State.txDone (s : State) (f : TxFrame) (status result : Nat) : State :=
  match f.op with
  | none => s
  | some k => s.finish k (status != stAborted) status (if status = stAborted then 0 else 8 + f.data.length) result

/-- The attempt under way has failed: an older frame that another waits behind, or that is to go, leaves its queue. -/
def State.canMissed (s : State) (n : Nat) (err : Bool) : State :=
  let c := s.canCh n
  match c.cur with
  | none => s
  | some q =>
    let c1 := { c with cur := none, behind := none, curGone := false, left := if err then none else c.left }
    match c.queue q with
    | [] => s.setCan n c1
    | f :: t =>
      if c.behind.isSome || c.curGone then (s.setCan n (c1.setQueue q (c.behind.toList ++ t))).txDone f stAborted 0
      else s.setCan n (c1.setQueue q ({ f with again := err } :: t))

/-- The frame a transmit-queue entry puts on the bus. -/
def TxFrame.onBus (f : TxFrame) (esi : Bool) (sof : Nat) : CanFrame :=
  ⟨f.ide, f.fdf, f.brs, esi, false, f.id, f.dlc, f.data, sof⟩

/-- Are the frames that channel `n` sends delivered: with echo set, and those of the K12 engine (R353, R368)? -/
def State.canEcho (s : State) (n : Nat) : Bool := s.bit (CAN_CFG n) CAN_CFG_echo || s.canK12 n

/-- A channel that has left the bus keeps TEC and REC at 0, also after the frame it finished (R370). -/
def State.canGone (s : State) (n : Nat) : State :=
  if s.canEn n then s
  else ((s.wr (CAN_STAT n) CAN_STAT_tec 0).wr (CAN_STAT n) CAN_STAT_rec 0).wr (CAN_STAT n) CAN_STAT_state csActive

/-- CAN_FRAME_TRANSMITTED (R360): `sof` is the cycle of the CAN clock in which the frame started. -/
def execCanFrameTransmitted (t : Nat) (n : Fin 8) (sof : Nat) (s : State) : Out :=
  let s := s.at t
  let c := s.canCh n
  match c.cur with
  | none => .next s
  | some q =>
    if 10 * s.cyc < 25 * sof then .next s
    else
    let c1 := { c with cur := none, behind := none, curGone := false, left := none }
    match c.queue q with
    | [] => .next (s.setCan n c1)
    | f :: rest =>
      let s1 := (s.setCan n (c1.setQueue q (c.behind.toList ++ rest))).bump (CAN_CNT0 n) CAN_CNT0_tx_cnt
      let s2 := (s1.wr (CAN_STAT n) CAN_STAT_tec (s1.rd (CAN_STAT n) CAN_STAT_tec - 1)).canConfine n
      let s3 := s2.txDone f stDone (s.canStamp sof % 2 ^ 32)
      .next (if s3.canEcho n then
          s3.canDeliver n (f.onBus (s.canState n == csPassive && f.fdf) sof) true
        else s3)

/-- CAN_ARBITRATION_LOST (R360). -/
def execCanArbitrationLost (t : Nat) (n : Fin 8) (s : State) : Out := .next ((s.at t).canMissed n false)

/-- Is a forced error due on this channel's attempt (R492)? -/
def State.canForced (s : State) (n : Nat) : Bool :=
  s.rd TST_CANERR TST_CANERR_count != 0 && s.rd TST_CANERR TST_CANERR_chans / 2 ^ n % 2 == 1 && (s.canCh n).cur.isSome

/-- CAN_ERROR (R360, R364, R366). -/
def execCanError (t : Nat) (n : Fin 8) (err : CanFault) (s : State) : Out :=
  let s := s.at t
  if !s.canOnBus n || (err.own && (s.canCh n).cur.isNone) || (err.forced && !(err.own && s.canForced n)) then .next s
  else
    let s0 := if err.forced then
        (s.wr TST_CANERR TST_CANERR_count (s.rd TST_CANERR TST_CANERR_count - 1)).tstSync
      else s
    let s1 := (s0.bump (CAN_CNT1 n) CAN_CNT1_err_cnt).canCount n err.own err.add
    .next (((if err.own then s1.canMissed n true else s1).canConfine n).canGone n)

/-! Flush and recovery (R362, R365). -/

/-- Take the waiting frames out of queue `q`; the frame in transmission finishes its attempt. -/
def State.canFlushQ (s : State) (n q : Nat) : State :=
  let c := s.canCh n
  let l := c.queue q
  let sending := c.cur == some q
  let keep := if sending then l.take 1 else []
  let gone := if sending then l.drop 1 else l
  let c1 := { c.setQueue q keep with
    curGone := c.curGone || (sending && !l.isEmpty), behind := if sending then none else c.behind }
  gone.foldl (fun s f => s.txDone f stAborted 0) (s.setCan n c1)

/-- A write of `v` to CAN_CTLn. -/
def State.canCtl (s : State) (n : Nat) (v : Word) : State :=
  let s1 := (List.range 4).foldl (fun s q => if bits v (4 + q) (4 + q) = 1 then s.canFlushQ n q else s) s
  if bits v 0 0 = 0 then s1
  else if s1.canState n = csBusOff then s1.wr (CAN_STAT n) CAN_STAT_state csRecovering
  else s1.ignored (CAN_CTL n)

/-- CAN_RECOVER: a write of `v` to CAN_CTLn with recover 1. -/
def execCanRecover (t : Nat) (n : Fin 8) (v : Word) (s : State) : Out :=
  (s.at t).hostWrite (CAN_CTL n) v ((s.at t).canK12 n) fun s => .next (s.canCtl n v)

/-- CAN_FLUSH: a write of `v` to CAN_CTLn with flush bits. -/
def execCanFlush (t : Nat) (n : Fin 8) (v : Word) (s : State) : Out :=
  (s.at t).hostWrite (CAN_CTL n) v ((s.at t).canK12 n) fun s => .next (s.canCtl n v)

/-- TEC and REC at 0, error-active; a bus-off fault clears. -/
def State.canReset (s : State) (n : Nat) : State :=
  (((s.wr (CAN_STAT n) CAN_STAT_tec 0).wr (CAN_STAT n) CAN_STAT_rec 0).wr (CAN_STAT n) CAN_STAT_state csActive).clear2
    (0x0C00 + n)

/-- CAN_RECOVERY_DONE (R365). -/
def execCanRecoveryDone (t : Nat) (n : Fin 8) (s : State) : Out :=
  let s := s.at t
  if s.canState n = csRecovering then .next (s.canReset n) else .next s

/-! Set-up (R352, R370, R371). -/

/-- The set-up copy. -/
def State.canSetup (s : State) : List Word :=
  (List.range 8).flatMap fun n => [s.reg (CAN_CFG n), s.reg (CAN_NBT n), s.reg (CAN_DBT n), s.reg (CAN_QCFG n)]

def State.canSave (s : State) : State := { s with kept := { s.kept with canCopy := some s.canSetup } }

/-- Bit times outside ISO 11898-1 or the stated ranges, or above 1 Mbit/s in the data phase without compensation (R371). -/
def State.canTimingBad (s : State) (n : Nat) : Bool :=
  let a := s.rd (CAN_NBT n)
  let d := s.rd (CAN_DBT n)
  let nb := (1 + a CAN_NBT_tseg1 + a CAN_NBT_tseg2) * a CAN_NBT_brp
  let db := (1 + d CAN_DBT_dtseg1 + d CAN_DBT_dtseg2) * d CAN_DBT_dbrp
  decide (a CAN_NBT_tseg2 < a CAN_NBT_sjw) || decide (d CAN_DBT_dtseg2 < d CAN_DBT_dsjw) || decide (nb < 80)
    || decide (db < 10) || (decide (db < 80) && d CAN_DBT_tdc == 0) || a CAN_NBT_brp == 0 || d CAN_DBT_dbrp == 0
    || decide (32 < a CAN_NBT_brp) || decide (a CAN_NBT_tseg1 < 2) || a CAN_NBT_tseg2 == 0 || a CAN_NBT_sjw == 0
    || d CAN_DBT_dtseg1 == 0 || d CAN_DBT_dtseg2 == 0 || d CAN_DBT_dsjw == 0

/-- A reserved class code in CAN_QCFGn. -/
def canClassBad (v : Word) : Bool :=
  [CAN_QCFG_q1.get v, CAN_QCFG_q2.get v, CAN_QCFG_q3.get v].any fun c => c == 0 || c == 3

/-- CAN_ENABLE: a write that sets en. -/
def execCanEnable (t : Nat) (n : Fin 8) (v : Word) (s : State) : Out :=
  let s := s.at t
  s.hostWrite (CAN_CFG n) v (s.canEn n || s.canK12 n) fun s =>
    if CAN_CFG_en.get v = 0 then .next s
    else if s.canTimingBad n then .fault .canMisuse
    else .next ((s.store (CAN_CFG n) v).setCan n { s.canCh n with left := none }).canSave

/-- The channel leaves the bus: waiting frames complete ABORTED; the frame being sent is finished first. -/
def State.canLeave (s : State) (n : Nat) : State :=
  let s1 := (List.range 4).foldl (fun s q => s.canFlushQ n q) s
  (s1.setCan n { s1.canCh n with left := some s.cyc }).canReset n

/-- CAN_DISABLE: a write that changes en from 1 to 0. -/
def execCanDisable (t : Nat) (n : Fin 8) (v : Word) (s : State) : Out :=
  let s := s.at t
  s.hostWrite (CAN_CFG n) v (s.canK12 n) fun s =>
    if CAN_CFG_en.get v = 1 ∨ !s.canEn n then .next s else .next ((s.store (CAN_CFG n) v).canLeave n)

/-! Ring operations (R369). -/

/-- CAN_FILL: only the lowest-numbered running receive ring of a channel receives. -/
def execCanFill (t : Nat) (r : Fin 64) (s : State) : Out :=
  let s := s.at t
  let f := s.ringFunc r
  if 8 ≤ f then .next s
  else if s.behindRing r then
    s.ringOp r 0x0C f 1 fun s d => .next (s.endOp r d.slot stWrongState 0 0)
  else s.fill r f 0x0C 1

/-- The class of queue `q`, coded as RNG_CFG.class. -/
def State.queueClass (s : State) (n q : Nat) : Nat :=
  if q = 0 then 0 else bits (s.reg (CAN_QCFG n)) (2 * q - 1) (2 * q - 2)

/-- CAN_SEND. -/
def execCanSend (t : Nat) (r : Fin 64) (buf : List Byte) (s : State) : Out :=
  let s := s.at t
  let f := s.ringFunc r
  if f < 8 then .next s
  else
    s.ringOp r 0x0C f 1 fun s d =>
      let n := f - 8
      let q := bits (d.par 8) 1 0
      let bs := s.bufIn r d buf
      let hw := bytesWords bs
      let h0 := wAt hw 0
      let dlc := bits (wAt hw 1) 3 0
      let fdf := bits h0 31 31 == 1
      let brs := bits h0 30 30 == 1
      let c := s.canCh n
      s.takesBuf r d buf.length <|
      if d.len = 0 then .next (s.endOp r d.slot stDone 0 0)
      else if d.len < 8 ∨ d.len ≠ 8 + dlcLen fdf dlc ∨ (!fdf ∧ (8 < dlc ∨ brs)) ∨ s.queueClass n q ≠ s.rd (RNG_CFG r) RNG_CFG_class then
        .next (s.endOp r d.slot stBadParam 0 0)
      else if bits (wAt hw 1) 31 4 ≠ 0 then .fault .canMisuse
      else if !s.canEn n || s.bit (CAN_CFG n) CAN_CFG_listen || s.canK12 n || (fdf && !s.bit (CAN_CFG n) CAN_CFG_fd) then
        .next (s.endOp r d.slot stWrongState 0 0)
      else if (if q = 0 then 16 else 64) ≤ (c.queue q).length then .next (s.endOp r d.slot stBusy 0 0)
      else
        let x : TxFrame :=
          { fdf := fdf, brs := brs, ide := bits h0 29 29 == 1, id := bits h0 28 0, dlc := dlc
            data := bs.drop 8, tmpl := none, op := some (r.val, d.slot), again := false }
        .next ((s.startOp r d.slot).setCan n (c.setQueue q (c.queue q ++ [x])))

end Sys2Proof.Machine
end

