-- ==== Sys2Proof/Machine/FusCore.lean ====
section
/-! DEFINITION. Fusion, first part (R253 to R258): how samples reach the feature units, late samples, the raw stream, and
the values of a result. -/

namespace Sys2Proof.Machine

def State.fu (s : State) (u : Nat) : FUnit := cellGet (fun _ => FUnit.init) s.fus.units u

def State.setFu (s : State) (u : Nat) (x : FUnit) : State :=
  { s with fus := { s.fus with units := cellSet (fun _ => FUnit.init) s.fus.units u x } }

def State.sched (s : State) (k : Nat) : Sched := cellGet (fun _ => Sched.init) s.fus.scheds k

def State.setSched (s : State) (k : Nat) (x : Sched) : State :=
  { s with fus := { s.fus with scheds := cellSet (fun _ => Sched.init) s.fus.scheds k x } }

def State.setYld (s : State) (y : Yield) : State := { s with fus := { s.fus with yld := y } }

def State.hitMap (s : State) (n k : Nat) : HitMap := cellGet (fun _ => HitMap.init) s.sns.maps (8 * n + k)

def State.setMap (s : State) (n k : Nat) (m : HitMap) : State :=
  { s with sns := { s.sns with maps := cellSet (fun _ => HitMap.init) s.sns.maps (8 * n + k) m } }

def State.lossCh (s : State) (n : Nat) : LossCh := cellGet (fun _ => LossCh.init) s.sns.loss n

def State.setLoss (s : State) (n : Nat) (x : LossCh) : State :=
  { s with sns := { s.sns with loss := cellSet (fun _ => LossCh.init) s.sns.loss n x } }

/-- Do the sensor front ends run, and does fusion? -/
def State.snsRuns (s : State) : Bool := s.ready 7 && !s.fenced 5
def State.fusRuns (s : State) : Bool := s.ready 8 && !s.fenced 10

/-! The units' set-up (R254). -/

def State.fuEn (s : State) (u : Nat) : Bool := s.bit (FUS_FU_CFG u) FUS_FU_CFG_en
def State.fuKind (s : State) (u : Nat) : Nat := s.rd (FUS_FU_CFG u) FUS_FU_CFG_kind
def State.fuSched (s : State) (u : Nat) : Nat := s.rd (FUS_FU_CFG u) FUS_FU_CFG_sched
def State.fuSrc (s : State) (u : Nat) : Nat := s.rd (FUS_FU_CFG u) FUS_FU_CFG_src
def State.fuSrc2 (s : State) (u : Nat) : Nat := s.rd (FUS_FU_CFG u) FUS_FU_CFG_src2
/-- Parameters as Q8.24. -/
def State.fuP0 (s : State) (u : Nat) : Int := sInt (s.reg (FUS_FU_P0 u))
def State.fuP1 (s : State) (u : Nat) : Int := sInt (s.reg (FUS_FU_P1 u))
def State.fuP2 (s : State) (u : Nat) : Int := sInt (s.reg (FUS_FU_P2 u))
def State.fuP3 (s : State) (u : Nat) : Int := sInt (s.reg (FUS_FU_P3 u))

/-- Is a source code AIN, FIN, shaft speed, GROUND, hit map or DIN (R253)? -/
def srcAin (c : Nat) : Bool := decide (c < 0x40)
def srcFin (c : Nat) : Bool := decide (0x40 ≤ c) && decide (c < 0x58)
def srcShaft (c : Nat) : Bool := decide (0x58 ≤ c) && decide (c < 0x60)
def srcMap (c : Nat) : Bool := decide (0x80 ≤ c) && decide (c < 0x90)
def srcDin (c : Nat) : Bool := decide (0x90 ≤ c) && decide (c < 0xB0)

/-- A code in the gaps of R253. -/
def srcGap (c : Nat) : Bool :=
  (decide (0x6C ≤ c) && decide (c < 0x80) && c != 0x70) || (decide (0xB0 ≤ c) && decide (c < 0xFF))

/-- A unit set-up R275 forbids, for a value `v` of FUS_FU_CFGn. -/
def State.fuBad (s : State) (u : Nat) (v : Word) : Bool :=
  let kind := FUS_FU_CFG_kind.get v
  let src := FUS_FU_CFG_src.get v
  let src2 := FUS_FU_CFG_src2.get v
  let p0 := s.reg (FUS_FU_P0 u)
  FUS_FU_CFG_en.get v == 1 &&
    (decide (8 ≤ kind) || srcGap src || srcGap src2
      || (kind == 1 && !(srcAin src || srcFin src || srcShaft src || src == 0x70))
      || (kind == 2 && !(srcAin src && (srcShaft src2 || src2 == 0xFF)))
      || (kind == 3 && !((srcAin src || srcFin src) && (srcAin src2 || src2 == 0xFF)))
      || (kind == 4 && !srcAin src)
      || (kind == 5 && (!(srcMap src && srcShaft src2) || bits p0 11 8 == 0 || decide (8 < bits p0 11 8)
            || decide (64 < bits p0 5 0 + bits p0 11 8)
            || s.rd (SNS_LOSS_CFG (src % 16)) SNS_LOSS_CFG_smask / 2 ^ (src2 % 8) % 2 == 0
            || (List.range (bits p0 11 8)).any fun j =>
                let n := s.rd (FUS_SECT (bits p0 5 0 + j)) FUS_SECT_len
                n == 0 || decide (512 < n)))
      || (kind == 7 && src != 0x70))

/-- How unit `u` reads source `src`: as its first source, as its second, or both. -/
def State.fuReads (s : State) (u src : Nat) : List Bool :=
  if !s.fuEn u then []
  else
    let kind := s.fuKind u
    let a := if (kind = 1 ∨ kind = 2 ∨ kind = 3 ∨ kind = 4) ∧ s.fuSrc u = src then [false] else []
    let b := if kind = 3 ∧ s.fuSrc2 u = src then [true] else []
    let c := if kind = 6 ∧ 0x60 ≤ src ∧ src < 0x6C ∧ (s.reg (FUS_FU_P0 u)).toNat / 2 ^ (src - 0x60) % 2 = 1
      then [false] else []
    a ++ b ++ c

/-! The raw stream (R271). -/

abbrev rfLate : Nat := 1
abbrev rfDefer : Nat := 2
abbrev rfSat : Nat := 4
abbrev rfImpact : Nat := 8

/-- A record of the raw stream; one that staging does not take is dropped and counted. -/
def State.rawRec (s : State) (cap src flags : Nat) (value : Word) : State :=
  let a := s.deliver 0x70 [lo32 cap, hi32 cap, packW [(src, 24), (flags, 20)], value]
  if a.2 then (a.1.bump SNS_RAW_STAT SNS_RAW_STAT_drop_cnt).noteSlow 0x0720 0 else a.1

/-! Samples (R255, R257). -/

/-- A sample as it reaches the units: source code, capture time, values (one raw Q8.24 value, or the scalars of a frame),
the shaft speeds with it, a gap flag. -/
structure Arrival where
  src : Nat
  cap : Nat
  vals : List Int
  speeds : List Int
  gap : Bool
deriving DecidableEq, Repr

/-- Does the sample fall in an interval that unit `u` has issued? -/
def State.fuLate (s : State) (u : Nat) (x : Arrival) : Bool :=
  s.fuReads u x.src != [] && !x.gap && decide ((s.fu u).since < x.cap) && decide (x.cap ≤ (s.fu u).prev)

def State.lateUnits (s : State) (x : Arrival) : List Nat := (List.range 16).filter fun u => s.fuLate u x

/-- The units that take the sample keep it. -/
def State.fold (s : State) (x : Arrival) : State :=
  (List.range 16).foldl (fun s u =>
    let f := s.fu u
    if f.prev < x.cap then
      let k := s.fuSrc2 u
      let v := if srcShaft k then x.speeds.getD (k - 0x58) 0 else Config.freeInt s.free
      s.setFu u { f with smps := f.smps ++ (s.fuReads u x.src).map fun b => ⟨b, x.cap, x.vals, v, x.gap⟩ }
    else s) s

/-- Count a late sample: of its source once, of every unit it is late for, and of the unit's schedule (R257, R261). -/
def State.countLate (s : State) (x : Arrival) : State :=
  (s.lateUnits x).foldl (fun s u =>
    let k := s.fuSched u
    ((s.bump (FUS_FU_STAT u) FUS_FU_STAT_late_cnt).setFu u { s.fu u with late := true }).setSched k
      { s.sched k with lateN := (s.sched k).lateN + 1 }) (s.bump (FUS_LATE x.src) FUS_LATE_late)

/-- A sample reaches the units and, with its raw bit `raw` or late, the raw stream. -/
def State.sampleIn (s : State) (x : Arrival) (raw : Bool) (flags : Nat) (value : Word) : State :=
  if !s.fusRuns then (if raw then s.rawRec x.cap x.src flags value else s)
  else
    let late := s.lateUnits x != []
    let s1 := if late then s.countLate x else s
    let s2 := (s1.fold x).freeNext
    if late then s2.rawRec x.cap x.src (flags ||| rfLate) value
    else if raw then s2.rawRec x.cap x.src flags value
    else s2

/-- LATE_SAMPLE (R257): a sample held back by test perturbation, or a frame result, reaches a unit that has issued its
interval's result. For a unit that has not, it is a sample as any other. -/
def execLateSample (t : Nat) (src : Fin 256) (cap : Nat) (v : HeldSample) (value : Word) (s : State) : Out :=
  let s := s.at t
  let x : Arrival := ⟨src, cap, v.vals, v.speeds, false⟩
  if !s.fusRuns || s.lateUnits x == [] then .next s
  else .next (s.sampleIn x false ((if v.defer then rfDefer else 0) ||| (if v.sat then rfSat else 0)) value)

/-! Header state (R265). -/

/-- Bit `i` of a word. -/
def bitAt (w : Word) (i : Nat) : Bool := w.toNat / 2 ^ i % 2 == 1

/-- Is the header down? By a source that is neither AIN nor DIN the spec does not say. (DESIGN CHOICE, log entry 131) -/
def State.headerDown (s : State) : Bool :=
  let src := s.rd FUS_YLD_HDR FUS_YLD_HDR_src
  let pol := s.bit FUS_YLD_CFG FUS_YLD_CFG_hdr_pol
  if srcAin src then
    let x := s.rd (SNS_AIN_DATA src) SNS_AIN_DATA_value
    let thr := s.rd FUS_YLD_HDR FUS_YLD_HDR_thr
    if pol then decide (thr < x) else decide (x < thr)
  else if srcDin src then bitAt (s.reg SNS_DIN_STATE) (src - 0x90) == pol
  else Config.headerBy src s.cyc

/-- A change of an input or of the header's set-up that brings the header down is seen (R270). -/
def State.headerSeen (s : State) : State :=
  if s.fusRuns && s.headerDown && !s.fus.yld.down then s.setYld { s.fus.yld with down := true } else s

/-! Values (R254, R256). -/

/-- A quotient rounded to nearest, halves toward +∞; `b` is not 0. (DEDUCED, log entry 68) -/
def rndDiv (a b : Int) : Int := if 0 < b then (2 * a + b) / (2 * b) else (2 * -a - b) / (2 * -b)

/-- The mean of a list, 0 of none. -/
def meanI (l : List Int) : Int := if l = [] then 0 else rndDiv l.sum l.length

/-- What a unit's formulas give: up to twelve values, the number used, saturation, STALL. -/
structure FuVals where
  vs : List Int
  n : Nat
  sat : Bool
  stall : Bool
deriving DecidableEq, Repr

/-- Values written to Q8.24, and whether one saturated. (DEDUCED, log entry 68) -/
def satAll (vs : List Int) (sat : Bool) : List Int × Bool := (vs.map sat32, sat || vs.any fun v => sat32 v != v)

/-- An interval amount: a rate times the interval's length in seconds. -/
def amount (rate : Int) (ns : Nat) : Int := rndDiv (rate * ns) 1000000000

/-- The first value of each sample. -/
def rawsOf (l : List Smp) : List Int := l.map fun x => x.vals.headD 0

def fuMean (p0 p1 : Int) (l : List Smp) : FuVals :=
  let y := satAll ((rawsOf l).map fun r => sat40 (mulQ p0 r + p1)) false
  ⟨[meanI y.1, y.1.foldl min (y.1.headD 0), y.1.foldl max (y.1.headD 0)], l.length, y.2, false⟩

/-- One sample of MASS_FLOW: the flow, whether it saturated, whether the elevator stood. -/
def massFlow (p0 p1 p2 p3 : Int) (x : Smp) : Int × Bool × Bool :=
  let a0 := x.vals.headD 0 - p0
  let a := sat32 a0
  let q := mulQ p2 (mulQ a a)
  let f0 := mulQ p1 a + sat40 q
  let f1 := sat40 f0
  let k := rndDiv (p3 * 2 ^ 24) x.speed
  let f2 := if p3 = 0 then f1 else if x.speed = 0 then 0 else sat40 (mulQ f1 (sat40 k))
  let f3 := sat32 f2
  (max 0 f3, a != a0 || sat40 q != q || f1 != f0 || (p3 != 0 && x.speed != 0 && sat40 k != k) || f3 != f2,
    p3 != 0 && x.speed == 0)

def fuMass (p0 p1 p2 p3 : Int) (l : List Smp) (ns : Nat) : FuVals :=
  let fs := l.map (massFlow p0 p1 p2 p3)
  let flow := meanI (fs.map Prod.fst)
  let m := satAll [flow, amount flow ns, meanI (rawsOf l)] (fs.any fun x => x.2.1)
  ⟨m.1, l.length, m.2, fs.any fun x => x.2.2⟩

/-- MOISTURE; `f` stands for the mean of a second source that gave no sample. -/
def fuMoist (p0 p1 p2 : Int) (has2 : Bool) (l l2 : List Smp) (f : Int) : FuVals :=
  let c := meanI (rawsOf l)
  let g := if !has2 then 0 else if l2 = [] then sat32 f else meanI (rawsOf l2)
  let a := p0 + mulQ p1 c
  let m := satAll [sat40 (sat40 a + mulQ p2 g), c] (sat40 a != a || (has2 && l2 == [] && sat32 f != f))
  ⟨m.1, l.length + l2.length, m.2, false⟩

def fuTail (p0 p1 : Int) (l : List Smp) (ns : Nat) : FuVals :=
  let y := satAll ((rawsOf l).map fun r => sat40 (mulQ p0 r + p1)) false
  let q := meanI y.1
  let m := satAll [q, amount q ns] y.2
  ⟨m.1, l.length, m.2, false⟩

/-- The mean of each of twelve scalars over the frames used. -/
def fuVision (first : Nat) (l : List Smp) : FuVals :=
  let used := l.filter fun x => !x.gap
  ⟨(List.range 12).map fun i => meanI (used.map fun x => x.vals.getD (first + i) 0), used.length, false, false⟩

/-- Impacts in `len` bins from `start`, wrapping past bin 511. -/
def sectCount (b : Bank) (start len : Nat) : Nat :=
  ((List.range len).map fun i => (cellGet (fun _ => (0, 0)) b.bins ((start + i) % 512)).1).sum

/-- LOSS_SECTORS from the filled bank of channel `n` on shaft `k`; with no travel the rates are not stated. -/
def State.fuLoss (s : State) (u : Nat) : FuVals :=
  let m := s.hitMap (s.fuSrc u % 16) (s.fuSrc2 u % 8)
  let p0 := s.reg (FUS_FU_P0 u)
  let rate := fun (i c : Nat) =>
    if m.travel = 0 then sat32 (Config.freeInt (s.free + i)) else rndDiv ((c : Int) * 2 ^ 48) m.travel
  let cnt := bits p0 11 8
  let sect := (List.range 8).map fun j =>
    if j < cnt then
      let q := FUS_SECT (bits p0 5 0 + j)
      rate j (sectCount m.fill (s.rd q FUS_SECT_start) (s.rd q FUS_SECT_len))
    else 0
  let v := satAll (sect ++ [rate 8 (sectCount m.fill 0 512), m.travel]) false
  ⟨v.1, m.fill.total, v.2, false⟩

/-- GROUND from the positions at the instants, in 0.1 mm; the spec names no samples, so their number is not stated. -/
def State.fuGround (s : State) (d : Int) (ns : Nat) : FuVals :=
  let v := satAll [rndDiv (d * 2 ^ 24) 10000,
    if ns = 0 then Config.freeInt s.free else rndDiv (d * 2 ^ 24 * 1000000000) (10000 * ns)] false
  ⟨v.1, 1 + Config.freeNat s.free % 0xFFFF, v.2, false⟩

/-- The values of unit `u` for the samples of its interval of `ns` ns and `d` units of GROUND.
(DEDUCED, log entry 68) -/
def State.fuValues (s : State) (u : Nat) (l : List Smp) (d : Int) (ns : Nat) : FuVals :=
  let kind := s.fuKind u
  let a := l.filter fun x => !x.second
  if kind = 1 then fuMean (s.fuP0 u) (s.fuP1 u) a
  else if kind = 2 then fuMass (s.fuP0 u) (s.fuP1 u) (s.fuP2 u) (s.fuP3 u) a ns
  else if kind = 3 then
    fuMoist (s.fuP0 u) (s.fuP1 u) (s.fuP2 u) (s.fuSrc2 u != 0xFF) a (l.filter fun x => x.second) (Config.freeInt s.free)
  else if kind = 4 then fuTail (s.fuP0 u) (s.fuP1 u) a ns
  else if kind = 5 then s.fuLoss u
  else if kind = 6 then fuVision (bits (s.reg (FUS_FU_P1 u)) 3 0) a
  else s.fuGround d ns

/-- Has unit `u` no usable sample? A MOISTURE unit needs its cell. -/
def State.fuEmpty (s : State) (u : Nat) (v : FuVals) (l : List Smp) : Bool :=
  v.n == 0 || (s.fuKind u == 3 && !l.any fun x => !x.second)

/-- The 16 words of a result (R262). -/
def State.fuWords (s : State) (u : Nat) (x : UInst) : List Word :=
  let f := s.fu u
  let l := f.smps.filter fun y => decide (f.prev < y.cap) && decide (y.cap ≤ x.at_)
  let v := s.fuValues u l (x.gnd - f.prevGnd) (5 * (x.cyc - f.prevCyc))
  let empty := s.fuEmpty u v l
  let flags := b2n v.sat + 2 * b2n (l.any fun y => y.gap) + 4 * b2n empty + 8 * b2n x.nosync + 16 * b2n v.stall
    + 32 * b2n f.late
  [packW [(u, 28), (s.fuKind u, 24), (flags, 16), (min 0xFFFF v.n, 0)]]
    ++ (List.range 12).map (fun i => if empty then 0#32 else wInt (v.vs.getD i 0)) ++ [0#32, 0#32, 0#32]

/-- FU_ISSUE (R255): at I + settle, a LOSS_SECTORS unit not before the swap of its map. -/
def execFuIssue (t : Nat) (u : Fin 16) (s : State) : Out :=
  let s := s.at t
  let f := s.fu u
  match f.pend with
  | [] => .next s
  | x :: rest =>
    if !s.fusRuns || !s.fuEn u || s.fuKind u == 0
        || decide (s.cyc < x.cyc + us (s.rd (FUS_FU_SET u) FUS_FU_SET_settle))
        || (s.fuKind u == 5 && (s.lossCh (s.fuSrc u % 16)).swaps.any fun w => w.at_ == x.at_) then .next s
    else
      let res : FRes := ⟨u, s.fuSched u, x.seq, f.prev, x.at_, s.fuWords u x, 2 * s.cyc⟩
      let s1 := s.setFu u { f with
        prev := x.at_, prevCyc := x.cyc, prevGnd := x.gnd, pend := rest, late := false
        smps := f.smps.filter fun y => decide (x.at_ < y.cap) }
      .next ({ s1 with fus := { s1.fus with wait := s1.fus.wait ++ [res] } }.freeAdd 9)

/-- A unit's set-up is enabled: its first interval starts here (R255). -/
def State.fuEnable (s : State) (u : Nat) : State :=
  s.setFu u { FUnit.init with since := s.mtime, prev := s.mtime, prevCyc := s.cyc, prevGnd := s.pos 10, lastCyc := s.cyc }

end Sys2Proof.Machine
end

