-- ==== Sys2Proof/Machine/EvCore.lean ====
section
/-! DEFINITION. Event-table entries: arming (R132, R133), jumps (R135), hand-overs (R138 to R140). -/

namespace Sys2Proof.Machine

/-! The words of a half (R129). -/

def evDom (ws : List Word) : Nat := bits (wAt ws 0) 31 28
def evAction (ws : List Word) : Nat := bits (wAt ws 0) 27 24
def evDir (ws : List Word) : Nat := bits (wAt ws 0) 23 22
def evNext (ws : List Word) : Bool := bits (wAt ws 0) 21 21 == 1
def evRebase (ws : List Word) : Bool := bits (wAt ws 0) 20 20 == 1
def evRepeat (ws : List Word) : Nat := bits (wAt ws 0) 19 18
def evOwner (ws : List Word) : Nat := bits (wAt ws 0) 17 16
def evTag (ws : List Word) : Nat := bits (wAt ws 0) 15 0
def evPos (ws : List Word) : Int := posOf (evDom ws) (wAt ws 1) (wAt ws 2)
def evPeriod (ws : List Word) : Nat := (wAt ws 3).toNat + bits (wAt ws 4) 31 24 * 2 ^ 32
def evCount (ws : List Word) : Nat := bits (wAt ws 4) 23 0

abbrev repOnce : Nat := 0
abbrev repPeriodic : Nat := 1
abbrev repCounted : Nat := 2

/-- A half that R144 forbids. An empty half is never armed, and its codes do not count.
(DESIGN CHOICE, log entry 56) -/
def evBad (ws : List Word) : Bool :=
  wAt ws 7 != 0#32 || decide (11 ≤ evDom ws) ||
    (evDom ws != 0 &&
      (decide (8 ≤ evAction ws) || evDir ws == 0 || evRepeat ws == 3 || evOwner ws == 3
        || (evPeriod ws == 0 && (evRepeat ws != repOnce || evNext ws))
        || (evDom ws == 1 && evDir ws != 1)
        || (evDir ws == 3 && (evRepeat ws != repOnce || evNext ws))
        || (evAction ws == 1 && decide (48 ≤ bits (wAt ws 5) 5 0))
        || (evAction ws == 2 && bits (wAt ws 6) 17 16 == 3)))

/-- Do two halves agree in what the schedule follows (R140)? -/
def evSame (a b : List Word) : Bool :=
  evDom a == evDom b && evDir a == evDir b && evNext a == evNext b && evRepeat a == evRepeat b
    && wAt a 1 == wAt b 1 && wAt a 2 == wAt b 2 && wAt a 3 == wAt b 3 && wAt a 4 == wAt b 4

/-- +1 or -1. -/
def dirSign (fwd : Bool) : Int := if fwd then 1 else -1

/-- The entry as it stands now: a disarm of an earlier cycle has acted (R141). -/
def State.evNow (s : State) (i : Nat) : EvEntry :=
  let e := s.ev i
  match e.disarmAt with
  | some c => if c < s.cyc then { e with armed := false, await := false, disarmAt := none } else e
  | none => e

/-- Is a shaft domain not yet synchronised since its enable, so that arming waits (R133)? -/
def State.unsynced (s : State) (d : Nat) : Bool :=
  decide (2 ≤ d) && decide (d ≤ 9) && decide (s.rd (NYM_SHAFT_STAT (d - 2)) NYM_SHAFT_STAT_sync ≤ 1)

/-- The first position at or beyond `p` in a direction that is congruent to `pos` modulo the period; strictly beyond
`p` where the arming follows a release there (R132). -/
def nextPos (fwd strict : Bool) (p pos : Int) (period : Nat) : Int :=
  let per : Int := period
  let m := if fwd then (pos - p) % per else (p - pos) % per
  let m1 := if strict && m == 0 then per else m
  if fwd then p + m1 else p - m1

/-- Arm entry `e` from position `p` of its domain in cycle `c` (R132). -/
def EvEntry.armFrom (e : EvEntry) (p : Int) (strict : Bool) (c : Nat) : EvEntry :=
  let ws := e.act
  let fwd := if evDir ws = 3 then decide (p ≤ evPos ws) else evDir ws != 2
  let a := if evNext ws then nextPos fwd strict p (evPos ws) (evPeriod ws) else evPos ws
  { e with
    arm := a, nom := a, armed := true, await := false, leapt := false, fwd := fwd, hit := if atOrPast fwd a p then some c else none
    missed := decide (0 < dirSign fwd * (p - a)) }

/-- Arm afresh after a hand-over (R140); an entry with dom 0 or a COUNTED one with count 0 is not armed. -/
def State.armFresh (s : State) (e : EvEntry) (strict : Bool) : EvEntry :=
  let d := evDom e.act
  let e1 := { e with lag := 0, left := evCount e.act, armed := false, await := false, missed := false, leapt := false, hit := none }
  if d = 0 ∨ (evRepeat e.act = repCounted ∧ evCount e.act = 0) then e1
  else if s.unsynced d then { e1 with await := true }
  else e1.armFrom (s.pos d) strict s.cyc

/-- Apply `f` to every listed entry whose active half is in domain `d`. -/
def State.mapDom (s : State) (d : Nat) (f : EvEntry → EvEntry) : State :=
  (s.nym.ev.map Prod.fst).foldl
    (fun s i => let e := s.evNow i
      if evDom e.act = d then s.setEv i (f e) else s) s

/-- Entry `e`, whose domain stands at `p` in cycle `c`, keeps that its position has been reached. -/
def EvEntry.touch (e : EvEntry) (p : Int) (c : Nat) : EvEntry :=
  if e.armed && !e.await && e.hit.isNone && atOrPast e.fwd e.arm p then { e with hit := some c } else e

/-- Change the course of domain `d` by `f`. What was reached up to the cycle before and what is reached in this cycle stays
reached, for entries and for due points: the domain may turn back (R113, R134). (DEDUCED, log entry 20) -/
def State.course (s : State) (d : Nat) (f : State → State) : State :=
  let s1 := s.keepBefore d
  let s2 := f ((s1.mapDom d fun e => e.touch (s1.posBefore d) (s.cyc - 1)).latchDue d (s1.posBefore d))
  (s2.mapDom d fun e => e.touch (s2.pos d) s.cyc).latchDue d (s2.pos d)

/-! The setting loop's trigger follows its domain like an entry (R282, R283). -/

def State.hslDom (s : State) : Nat := s.rd HSL_TRG HSL_TRG_dom

/-- The trigger period in the domain's units: ns, or turn units. -/
def State.hslPeriod (s : State) : Nat := s.rd HSL_TRG HSL_TRG_per * (if s.hslDom = 1 then 1000000 else 2 ^ 24)

def State.hslPhase (s : State) : Nat := s.rd HSL_PHASE HSL_PHASE_phase * (if s.hslDom = 1 then 1000 else 1)

/-- Arm the first trigger at or beyond the present position, with lag 0 (R287). -/
def State.hslArm (s : State) : State :=
  let a := nextPos true false (s.pos s.hslDom) s.hslPhase s.hslPeriod
  { s with hsl := { s.hsl with armed := true, arm := a, nom := a, rearmed := true } }

/-- A jump shifts the armed trigger and its nominal position (R283). -/
def State.hslJump (s : State) (d : Nat) (delta : Int) : State :=
  let h := s.hsl
  let run := h.run.map fun x => if x.dom = d then { x with nom := x.nom + delta } else x
  if h.armed ∧ s.hslDom = d then { s with hsl := { h with arm := h.arm + delta, nom := h.nom + delta, run := run } }
  else { s with hsl := { h with run := run } }

/-- First synchronisation of domain `d`: its entries, and a trigger of the setting loop, are armed from the synchronised
position (R133). -/
def State.firstSync (s : State) (d : Nat) : State :=
  let s1 := s.mapDom d fun e => if e.armed || e.await then e.armFrom (s.pos d) false s.cyc else e
  if s1.hsl.armed ∧ s1.hslDom = d then s1.hslArm else s1

/-- A jump of domain `d` by `delta` from position `old` (R135). An entry that waits for its release keeps waiting. -/
def EvEntry.jumped (e : EvEntry) (old delta : Int) : EvEntry :=
  if !e.armed then e
  else if evRebase e.act then { e with arm := e.arm + delta, nom := e.nom + delta }
  else
    let d := dirSign e.fwd
    if 0 < d * delta ∧ 0 < d * (e.arm - old) ∧ 0 ≤ d * (old + delta - e.arm) then { e with missed := true, leapt := true } else e

/-- A shaft counts its jumps for the hit maps (R251). -/
def State.jump (s : State) (d : Nat) (old delta : Int) : State :=
  let s1 := ((s.bump (NYM_DOM_NA d) NYM_DOM_NA_jump_cnt).mapDom d fun e => e.jumped old delta).hslJump d delta
  if 2 ≤ d ∧ d ≤ 9 then s1.setShaft (d - 2) { s1.shaft (d - 2) with jumps := (s1.shaft (d - 2)).jumps + 1 } else s1

/-! Hand-overs. -/

/-- What is pending in this cycle, commits that land in it apart (R139). -/
def EvEntry.due (e : EvEntry) (c : Nat) : Nat := if e.pending ≠ 0 ∧ e.pendAt = c then e.prevPend else e.pending

/-- The entry's last hand-over moves one number up: one of a lower index falls in its cycle (R138). -/
def State.evShift (s : State) (i : Nat) : State :=
  let e := s.ev i
  s.setEv i { e with hoSeq := seqUp e.hoSeq, wrSeq := if e.wroteAt = s.cyc then seqUp e.wrSeq else e.wrSeq }

/-- Copy the shadow half to the active half (R138 to R140). `strict` says that the hand-over follows a release. The
hand-overs of one cycle are numbered in order of entry index. -/
def State.evCopy (s : State) (i : Nat) (strict : Bool) : State :=
  let above := s.handedAbove 2 i
  let s1 := ((above.foldl State.evShift (s.incReg NYM_HO_SEQ)).handNote 2 i).hoMend 2
  let e := s1.evNow i
  let q := seqBack (s1.reg NYM_HO_SEQ).toNat above.length
  let new := if e.wroteAt = s.cyc then e.prevSh else e.sh
  let same := evSame e.act new
  let again := e.pending ≠ 0 ∧ e.pendAt = s.cyc
  let e1 := { e with
    act := new, hoSeq := q, pending := if again then e.pending else 0, prevPend := 0
    wrSeq := if e.wroteAt = s.cyc then q else e.wrSeq }
  s1.setEv i (if same && evDom new != 0 then e1 else s1.armFresh e1 strict)

/-- Write a shadow half (R139). -/
def State.evWrite (s : State) (i : Nat) (ws : List Word) : State :=
  let e := s.evNow i
  s.setEv i { e with
    sh := ws, wrSeq := (s.reg NYM_HO_SEQ).toNat, wroteAt := s.cyc
    prevSh := if e.wroteAt = s.cyc then e.prevSh else e.sh }

/-- Commit with mode 1 at arm or 2 now (R138). -/
def State.evCommit (s : State) (i mode : Nat) : State :=
  let e := s.evNow i
  s.setEv i { e with
    pending := mode, pendAt := s.cyc
    prevPend := if e.pending ≠ 0 ∧ e.pendAt = s.cyc then e.prevPend else e.pending }

/-- DISARM acts in the next cycle (R141). -/
def State.evDisarm (s : State) (i : Nat) : State := s.setEv i { s.evNow i with disarmAt := some s.cyc }

/-- The eight words of the run state (R129). -/
def State.evRun (s : State) (i : Nat) : List Word :=
  let e := s.evNow i
  [lo32 (pos64 e.arm), hi32 (pos64 e.arm), lo32 (pos64 e.nom), hi32 (pos64 e.nom), word (min 0xFFFFFFFF e.lag),
    packW [(b2n (e.armed && !e.await), 31), (b2n (evDom e.act != 0 && s.domHeld (evDom e.act)), 30), (e.pending, 28),
      (e.left, 0)],
    word e.hoSeq, word e.wrSeq]

/-- Item `k` of an entry: 0 shadow, 1 active, 2 run state. (DESIGN CHOICE, log entry 100) -/
def State.evItem (s : State) (i k : Nat) : List Word :=
  if k = 0 then (s.ev i).sh else if k = 1 then (s.ev i).act else s.evRun i

end Sys2Proof.Machine
end

