-- ==== Sys2Proof/Machine/Grounds.lean ====
section
/-! DEFINITION. The GROUND schedule domain (R124 to R126) and the snapshot of all positions (R114). -/

namespace Sys2Proof.Machine

def State.setGnd (s : State) (g : Ground) : State := { s with nym := { s.nym with gnd := g } }

def State.gndEn (s : State) : Bool := s.bit NYM_GND_CFG NYM_GND_CFG_en
def State.wheelUsed (s : State) : Bool := s.rd NYM_GND_CFG NYM_GND_CFG_wheel_in != 0x1F
def State.gnssUsed (s : State) : Bool := s.bit NYM_GND_CFG NYM_GND_CFG_gnss_en

/-- Wheel pulses per metre in units of 1/16; the spec gives no speed for 0, so it is a free value then.
(DEDUCED, log entry 59) -/
def State.ppm (s : State) : Nat :=
  let v := s.rd NYM_GND_CFG NYM_GND_CFG_ppm
  if v = 0 then Config.freeNat s.free + 1 else v

/-- Nominal wheel speed in mm/s for a pulse period in cycles: 1 / (ppm × period) (R124). -/
def State.wheelNominal (s : State) (per : Nat) : Nat := if per = 0 then 0 else 3200000000000 / (s.ppm * per)

/-- Measured wheel speed in mm/s, and as a rate in 0.1 mm per cycle, Q8.24. -/
def State.wheelSpeed (s : State) (per : Nat) : Nat :=
  if per = 0 then 0 else 3200000000000 * s.nym.gnd.scale / (s.ppm * per * 2 ^ 24)
def State.wheelRate (s : State) (per : Nat) : Nat := if per = 0 then 0 else 160000 * s.nym.gnd.scale / (s.ppm * per)

/-- A GNSS speed as a rate in 0.1 mm per cycle, Q8.24. -/
def gnssRate (v : Nat) : Nat := v * 10 * 2 ^ 24 / 200000000

/-- The GROUND speed register: it remembers since when it has read 0 (R192). -/
def State.gndSpeed (s : State) (v : Nat) : State :=
  let old := s.rd NYM_GND_STAT NYM_GND_STAT_speed
  let s1 := s.wr NYM_GND_STAT NYM_GND_STAT_speed (min 0xFFFF v)
  if old ≠ 0 ∧ v = 0 then { s1 with tri := { s1.tri with stillFrom := s.cyc } } else s1

/-- The level of dir_in; none reads low. (DESIGN CHOICE, log entry 111) -/
def State.gndDirIn (s : State) : Bool :=
  let i := s.rd NYM_GND_CFG NYM_GND_CFG_dir_in
  i != 0x1F && s.inLevel i

/-- Travelling in reverse, by dir_src (R124)? -/
def State.gndRev (s : State) : Bool :=
  let d := s.rd NYM_GND_CFG NYM_GND_CFG_dir_src
  if d = 1 then s.gndDirIn else if d = 2 then s.nym.gnd.gnssRev else false

/-- Anchor GROUND at this cycle with a new rate; the position itself never jumps (R125). -/
def State.gndRate (s : State) (rate : Int) : State :=
  s.course 10 fun s =>
    let g := s.nym.gnd
    s.setGnd { g with posF := g.posAt s.cyc, anchor := s.cyc, rate := rate }

/-- The direction may have changed while the speed goes on (R124). -/
def State.gndTurn (s : State) : State :=
  if !s.gndEn || s.rd NYM_GND_STAT NYM_GND_STAT_rev == b2n s.gndRev then s
  else (s.gndRate (dirSign (!s.gndRev) * s.nym.gnd.rate.natAbs)).wr NYM_GND_STAT NYM_GND_STAT_rev (b2n s.gndRev)

/-- The level of input FIN `n`, which may be the direction input, has changed. -/
def State.gndFin (s : State) (n : Nat) : State :=
  if s.rd NYM_GND_CFG NYM_GND_CFG_dir_in = n then s.gndTurn else s

/-- Recompute the rate from the sources that give a speed (R124, R126). -/
def State.gndRecalc (s : State) : State :=
  if !s.gndEn then s
  else
    let g := s.nym.gnd
    let w := if s.wheelUsed then g.wheel else none
    let n := if s.gnssUsed then g.gnss.map Nat.sqrt else none
    let src := (if w.isSome then 1 else 0) + (if n.isSome then 2 else 0)
    if src = 0 then s.wr NYM_GND_STAT NYM_GND_STAT_src 0
    else
      let rate : Int := match w with
        | some p => s.wheelRate p
        | none => gnssRate (n.getD 0)
      let speed := match w with
        | some p => s.wheelSpeed p
        | none => n.getD 0
      let s1 := s.gndRate (if s.gndRev then -rate else rate)
      let s2 := s1.setGnd { s1.nym.gnd with srcAt := s.cyc }
      let s3 := (((s2.wr NYM_GND_STAT NYM_GND_STAT_src src).wr NYM_GND_STAT NYM_GND_STAT_rev (b2n s.gndRev)).wr
        NYM_GND_STAT NYM_GND_STAT_coast 0).gndSpeed speed
      if s.bit NYM_GND_STAT NYM_GND_STAT_coast then s3.clear2 0x0220 else s3

/-- Does the measured wheel speed of a pulse period lie above 0.5 m/s? -/
def State.wheelFast (s : State) (per : Nat) : Bool :=
  per != 0 && decide (500 * (s.ppm * per * 2 ^ 24) < 3200000000000 * s.nym.gnd.scale)

/-- Do both speeds now lie above 0.5 m/s? -/
def State.bothFast (s : State) : Bool :=
  s.nym.gnd.wheel.any s.wheelFast && s.nym.gnd.gnss.any fun v => decide (250000 < v)

/-- WHEEL_PULSE (R124): a pulse on the input of code `n`; on wheel_in, the period since the last one gives the nominal
speed. -/
def execWheelPulse (t n : Nat) (s : State) : Out :=
  let s := s.at t
  if !s.gndEn || !s.wheelUsed || s.rd NYM_GND_CFG NYM_GND_CFG_wheel_in != n then .next s
  else
    let g := s.nym.gnd
    let per := match g.lastPulse with
      | some c => if c < s.cyc then some (s.cyc - c) else g.wheel
      | none => g.wheel
    let slow := !per.any s.wheelFast
    let s1 := s.setGnd { g with
      lastPulse := some s.cyc, wheel := per, dWheel := g.dWheel + 1, bothFast := g.bothFast && !slow }
    .next (s1.gndRecalc.freeNext)

/-- The time of one pulse at 0.05 m/s, in cycles (R124). -/
def State.wheelTimeout (s : State) : Nat := 64000000000 / s.ppm

/-- WHEEL_TIMEOUT (R124): the wheel speed becomes 0. -/
def execWheelTimeout (t : Nat) (s : State) : Out :=
  let s := s.at t
  let g := s.nym.gnd
  if !s.gndEn || !s.wheelUsed || g.wheel == some 0
      || decide (s.cyc < (g.lastPulse.getD g.since) + s.wheelTimeout) then .next s
  else .next ((s.setGnd { g with wheel := some 0, bothFast := false }).gndRecalc.freeNext)

/-- The scale after one update (R124): an eighth of the way to d_gnss / d_wheel, at most 0.002, within 0.75 to
1.2499, in units of 2^-24. (DEDUCED, log entry 59) -/
def nextScale (scale : Nat) (dGnss dWheel : Nat) : Nat :=
  let target : Int := ((dGnss * 2 ^ 24 / dWheel : Nat) : Int)
  let step := clampI (-33554) 33554 ((target - scale) / 8)
  (clampI 12582912 20969842 ((scale : Int) + step)).toNat

/-- GROUND_SCALE_UPDATE (R124), once per second. (DEDUCED, log entry 59) -/
def execGroundScaleUpdate (t : Nat) (s : State) : Out :=
  let s := s.at t
  let g := s.nym.gnd
  if !s.gndEn || decide (s.cyc < g.secFrom + sec 1) then .next s
  else
    let fresh := { g with secFrom := s.cyc, dWheel := 0, dGnss := 0, bothFast := s.bothFast }
    if s.wheelUsed && s.gnssUsed && g.bothFast && g.wheel.isSome && g.gnss.isSome && g.dWheel != 0 then
      let sc := nextScale g.scale g.dGnss (g.dWheel * 16000000 / s.ppm)
      let dev : Int := ((sc : Int) - 2 ^ 24) / 2 ^ 11
      let s1 := (s.setGnd { fresh with scale := sc }).wr NYM_GND_STAT NYM_GND_STAT_scale_dev (dev % 2 ^ 12).toNat
      .next (s1.gndRecalc.freeNext)
    else .next (s.setGnd fresh)

/-- GROUND_COAST (R126): no enabled source has given a speed for 200 ms. -/
def execGroundCoast (t : Nat) (s : State) : Out :=
  let s := s.at t
  let g := s.nym.gnd
  if !s.gndEn || s.bit NYM_GND_STAT NYM_GND_STAT_coast || (s.wheelUsed && g.wheel.isSome)
      || (s.gnssUsed && g.gnss.isSome) || decide (s.cyc < g.srcAt + ms 200) then .next s
  else
    .next ((((s.gndRate 0).gndSpeed 0).wr NYM_GND_STAT NYM_GND_STAT_coast 1).raise2 0x0220 0)

/-- The square of the GNSS ground speed of an epoch in (mm/s)² and its sign along the heading, or none while it is not
valid. -/
def State.gndGnss (s : State) (v : Option (Nat × Bool)) : State :=
  let g := s.nym.gnd
  match v with
  | none => (s.setGnd { g with gnss := none, bothFast := false }).gndRecalc
  | some x =>
    (s.setGnd { g with
      gnss := some x.1, gnssRev := x.2, dGnss := g.dGnss + 10 * Nat.sqrt x.1
      bothFast := g.bothFast && decide (250000 < x.1) }).gndRecalc

/-- A write of NYM_GND_CFG that is accepted: en from 0 starts GROUND, en to 0 holds it (R126). -/
def State.gndConfig (s : State) (v : Word) : State :=
  let was := s.gndEn
  let s1 := (s.gndRate 0).store NYM_GND_CFG v
  if s1.gndEn && !was then
    s1.setGnd { s1.nym.gnd with
      srcAt := s.cyc, since := s.cyc, secFrom := s.cyc, lastPulse := none, wheel := none, dWheel := 0, dGnss := 0, bothFast := false }
  else if was then ((s1.gndSpeed 0).wr NYM_GND_STAT NYM_GND_STAT_src 0).wr NYM_GND_STAT NYM_GND_STAT_rev 0
  else s1

/-- MTIME_SNAPSHOT_READ (R114): MTIME and the nine other positions are latched. -/
def execMtimeSnapshotRead (t : Nat) (s : State) : Out :=
  let s := s.at t
  if !s.readyReg NYM_MTIME_LO then .next s
  else
    let s1 := s.setReg NYM_MTIME_HI (hi32 s.mtime)
    let s2 := (List.range 8).foldl
      (fun x k => (x.setReg (NYM_SHAFT_POS_LO k) (lo32 (pos64 (s.pos (2 + k))))).setReg (NYM_SHAFT_POS_HI k)
        (hi32 (pos64 (s.pos (2 + k))))) s1
    .next ((s2.setReg NYM_GND_POS_LO (lo32 (pos64 (s.pos 10)))).setReg NYM_GND_POS_HI (hi32 (pos64 (s.pos 10))))

end Sys2Proof.Machine
end

