-- ==== Sys2Proof/Machine/NetCore.lean ====
section
/-! DEFINITION. The Ethernet switch's shared operations (spec/15): ports, frames, gate lists, stream filters, what a step
of MTIME does to the gates. -/

namespace Sys2Proof.Machine

def State.nport (s : State) (k : Nat) : NPort := cellGet (fun _ => NPort.init) s.net.ports k

def State.setNport (s : State) (k : Nat) (p : NPort) : State :=
  { s with net := { s.net with ports := cellSet (fun _ => NPort.init) s.net.ports k p } }

/-- Is port `k` enabled, and does it have link? P7 is internal. -/
def State.netEn (s : State) (k : Nat) : Bool := k == 7 || s.bit (NET_PORT k) NET_PORT_en
def State.netUp (s : State) (k : Nat) : Bool := k == 7 || (s.netEn k && s.bit (NET_PSTAT k) NET_PSTAT_link)

/-- Port `k` gains or loses link: NET_PSTATk.link and SYS_LINK.eth_up (R81). -/
def State.netLink (s : State) (k : Nat) (up : Bool) : State :=
  let x := s.rd SYS_LINK SYS_LINK_eth_up
  (s.wr (NET_PSTAT k) NET_PSTAT_link (b2n up)).wr SYS_LINK SYS_LINK_eth_up
    (x / 2 ^ (k + 1) * 2 ^ (k + 1) + b2n up * 2 ^ k + x % 2 ^ k)

/-- Does port `k` run as leader? P3 does while SVC_DET is grounded, whatever its role field (R374). -/
def State.portLeader (s : State) (k : Nat) : Bool := (k == 3 && s.bit (NET_PSTAT 3) NET_PSTAT_svc) || s.bit (NET_PORT k) NET_PORT_role

/-- Link training of an enabled port begins, without link. -/
def State.portTrain (s : State) (k : Nat) : State :=
  if s.bit (NET_PORT k) NET_PORT_en then (s.netLink k false).emit (.train k (s.portLeader k)) else s.netLink k false

/-- The PHYs begin to train, with SVC_DET as it stands (R81, R374). -/
def State.netBegin (s : State) : State :=
  (List.range 7).foldl State.portTrain (s.wr (NET_PSTAT 3) NET_PSTAT_svc (b2n s.pow.svc))

/-! Gates (R378). -/

/-- The cycle time of a list. -/
def Gcl.cycle (g : Gcl) : Nat := (g.es.map Prod.snd).sum

/-- Is the gate of class `tc` open in entry `i`? -/
def Gcl.isOpen (g : Gcl) (i tc : Nat) : Bool := (g.es.getD i (255, 0)).1 / 2 ^ tc % 2 == 1

/-- Time on the wire in 0.1 ns of `n` bytes with preamble and FCS, at the speed of port `k` (R372).
(DESIGN CHOICE, log entry 82) -/
def State.wireTime (s : State) (k n : Nat) : Nat :=
  let per := if k ≤ 3 then 80 else if k ≤ 5 then 32 else if s.bit (NET_PORT k) NET_PORT_spd then 32 else 8
  per * (max 60 n + 12)

/-! Hand-over of gate lists (R379), and the frames that leave. -/

/-- The MTIME of the first instant of a list at or after `m`. -/
def Gcl.first (g : Gcl) (m : Nat) : Nat :=
  let c := max 1 g.cycle
  if m ≤ g.base then g.base else g.base + (m - g.base + c - 1) / c * c

/-- The commit and the administrative half as they act in this cycle: those of this cycle's own operations do not. -/
def State.gclPend (s : State) (p : NPort) : Bool := if p.pendAt = s.cyc then p.prevPend else p.pending
def State.gclAdm (s : State) (p : NPort) : Gcl := if p.wroteAt = s.cyc then p.prevAdm else p.adm

/-- The entry of a list in force `off` ns after its cycle start, and how long it still lasts. -/
def gateAt : List (Nat × Nat) → Nat → Nat × Nat
  | [], _ => (0, 0)
  | e :: l, off => if off < e.2 then (0, e.2 - off) else let x := gateAt l (off - e.2); (x.1 + 1, x.2)

/-- List `g` runs from MTIME `m` on, its cycles starting at its base + k × cycle (R378). -/
def NPort.startList (p : NPort) (g : Gcl) (m c : Nat) : NPort :=
  let x := gateAt g.es (if m ≤ g.base then 0 else (m - g.base) % max 1 g.cycle)
  { p with oper := some g, idx := x.1, startM := m, startCyc := c, endM := m + x.2, cut := false }

/-- For how long the gate of class `tc` stays open through the entries `l` that follow MTIME `m` and the cycles after them,
with a hand-over that falls in between; none for longer than any frame takes. -/
def State.openFor (s : State) (p : NPort) (o : Gcl) (tc : Nat) : Nat → List (Nat × Nat) → Nat → Option Nat
  | 0, _, _ => none
  | n + 1, [], m =>
    let g := s.gclAdm p
    s.openFor p o tc n (if s.gclPend p && !g.es.isEmpty && decide (g.base ≤ m) then
      let x := gateAt g.es ((m - g.base) % max 1 g.cycle)
      ((g.es.getD x.1 (255, 0)).1, x.2) :: g.es.drop (x.1 + 1) else o.es) m
  | n + 1, e :: l, m => if e.1 / 2 ^ tc % 2 = 1 then (s.openFor p o tc n l (m + e.2)).map (e.2 + ·) else some 0

/-- May a frame of class `tc` and `n` bytes start at port `k`, `ago` tenths of a ns before this cycle: its gate is open and
stays open until the frame has ended? -/
def State.gateFree (s : State) (k tc n ago : Nat) : Bool :=
  let p := s.nport k
  match p.oper with
  | none => true
  | some g =>
    let es := ((g.es.getD p.idx (255, 0)).1, p.endM - s.mtime) :: (if p.cut then [] else g.es.drop (p.idx + 1))
    match s.openFor p g tc 64 es s.mtime with
    | none => true
    | some left => (g.isOpen p.idx tc) && decide (s.wireTime k n ≤ 10 * left + ago)

/-- Serve the queue of port `k`: while no frame is in transmission, the first frame of the highest class whose gate lets it
go leaves (R375, R378). A frame leaves when the one before it has ended, and not before the queue was last served.
(DESIGN CHOICE, log entry 82) -/
def State.portSend (s : State) (k : Nat) : Nat → State
  | 0 => s
  | n + 1 =>
    let p := s.nport k
    let start := max p.busy (50 * p.served)
    let heads := (List.range 8).reverse.filterMap fun tc => p.q.find? fun x => x.tc == tc
    if !s.netUp k || decide (50 * s.cyc < start) then s
    else
      match heads.find? fun x => s.gateFree k x.tc x.bs.length (50 * s.cyc - start) with
      | none => s
      | some x =>
        ((s.setNport k { p with q := p.q.erase x, busy := start + s.wireTime k x.bs.length }).emit (.frame k x.bs)).portSend k n

/-- What has left port `k` up to this cycle. -/
def State.portCatch (s : State) (k : Nat) : State :=
  if (s.nport k).q.isEmpty then s
  else
    let s1 := s.portSend k (s.nport k).q.length
    s1.setNport k { s1.nport k with served := s.cyc }

/-- What has left the external ports up to this cycle. -/
def State.portsCatch (s : State) : State := (List.range 7).foldl State.portCatch s

/-- A frame is queued at external port `k`. -/
def State.portQueue (s : State) (k tc : Nat) (bs : List Byte) : State :=
  let s1 := s.portCatch k
  let p := s1.nport k
  (s1.setNport k { p with q := p.q ++ [⟨bs, tc⟩], served := s.cyc }).portSend k (p.q.length + 1)

/-- The hand-over of port `k` at the instant `m`. -/
def State.gclCopy (s : State) (k m : Nat) (g : Gcl) : State :=
  let p := s.nport k
  let late := p.pendAt == s.cyc && p.prevPend
  let s1 := s.incReg NET_HO_SEQ
  let s2 := (s1.setReg (NET_GSEQ k) (s1.reg NET_HO_SEQ)).wr (NET_PSTAT k) NET_PSTAT_pend (b2n late)
  s2.setNport k { p.startList g m s.cyc with pending := late, prevPend := false }

/-- With no operating list: hand over at the first instant at or after the commit. -/
def State.gclFirst (s : State) (k : Nat) : State :=
  let p := s.nport k
  let early := s.gclPend p
  let g := if early then s.gclAdm p else p.adm
  if p.oper.isSome || !p.pending || g.es.isEmpty || decide (s.mtime < g.first p.pendM) then s
  else if early then s.gclCopy k (g.first p.pendM) g
  else
    let s1 := s.incReg NET_HO_SEQ
    ((s1.setReg (NET_GSEQ k) (s1.reg NET_HO_SEQ)).wr (NET_PSTAT k) NET_PSTAT_pend 0).setNport k
      { p.startList g (g.first p.pendM) s.cyc with pending := false, prevPend := false }

/-- At a cycle start of the operating list, at MTIME `m`: the administrative half is taken, or the cycle begins anew. -/
def State.gclStart (s : State) (k m : Nat) : State :=
  let p := s.nport k
  let g := s.gclAdm p
  if s.gclPend p && !g.es.isEmpty && decide (g.base ≤ m) then s.gclCopy k m g
  else
    match p.oper with
    | none => s
    | some o => s.setNport k (p.startList o m s.cyc)

/-- The entry in progress of port `k` ends, when its time is up. -/
def State.gateEnd (s : State) (k : Nat) : State :=
  let p := s.nport k
  match p.oper with
  | none => s
  | some g =>
    if s.mtime < p.endM then s
    else if p.cut || decide (g.es.length ≤ p.idx + 1) then s.gclStart k p.endM
    else s.setNport k { p with idx := p.idx + 1, endM := p.endM + (g.es.getD (p.idx + 1) (0, 0)).2 }

/-- A step of MTIME: the cycle in progress is cut at the first cycle start at least 1 µs on (R378); a commit that waits
for its first instant looks for it on the new count. -/
def State.netStep (s : State) : State :=
  (List.range 7).foldl (fun s k =>
    let p := s.nport k
    match p.oper with
    | some g => s.setNport k { p with endM := g.first (s.mtime + 1000), cut := true }
    | none => if p.pending then s.setNport k { p with pendM := s.mtime } else s) s

/-! Frames. -/

/-- Six bytes as a MAC address, the first byte in the high bits. -/
def macOf (bs : List Byte) : Nat := (bs.take 6).foldl (fun a b => a * 256 + b.toNat) 0

def frameDst (bs : List Byte) : Nat := macOf bs
def frameSrc (bs : List Byte) : Nat := macOf (bs.drop 6)
def be16 (bs : List Byte) (i : Nat) : Nat := (bs.getD i 0#8).toNat * 256 + (bs.getD (i + 1) 0#8).toNat
def frameTagged (bs : List Byte) : Bool := be16 bs 12 == 0x8100
def frameType (bs : List Byte) : Nat := if frameTagged bs then be16 bs 16 else be16 bs 12

/-- Traffic class and VLAN of a frame that enters at port `k` (R375); a priority tag names no VLAN. -/
def frameTc (bs : List Byte) : Nat := if frameTagged bs then be16 bs 14 / 2 ^ 13 else 0

/-- The class a frame travels in; ring frames travel in class 7 (R376). -/
def State.frameClass (s : State) (bs : List Byte) : Nat :=
  if frameType bs = s.rd RNG_ETH_CFG RNG_ETH_CFG_ethertype then 7 else frameTc bs
def State.frameVid (s : State) (k : Nat) (bs : List Byte) : Nat :=
  let v := if frameTagged bs then be16 bs 14 % 4096 else 0
  if v ≠ 0 then v else if k < 7 then s.rd (NET_PORT k) NET_PORT_pvid else 1

/-- Bytes of the service data unit: the frame without its addresses and its tag. -/
def frameSdu (bs : List Byte) : Nat := bs.length - (if frameTagged bs then 16 else 12)

/-! Stream filters (R380). -/

def State.sfilt (s : State) (i : Nat) : SFilter := cellGet (fun _ => SFilter.init) s.net.filts i

def State.setSfilt (s : State) (i : Nat) (x : SFilter) : State :=
  { s with net := { s.net with filts := cellSet (fun _ => SFilter.init) s.net.filts i x } }

def SFilter.en (x : SFilter) : Bool := bits (wAt x.ws 0) 31 31 == 1
def SFilter.vid (x : SFilter) : Nat := bits (wAt x.ws 0) 11 0
def SFilter.mac (x : SFilter) : Nat := bits (wAt x.ws 2) 31 16 * 2 ^ 32 + (wAt x.ws 1).toNat
/-- Burst size in 1/2,000 bit; the rate, in units of 100 kbit/s, is the same number of 1/2,000 bit a cycle. -/
def SFilter.burst (x : SFilter) : Nat := bits (wAt x.ws 3) 15 0 * 64 * 8 * 2000
def SFilter.rate (x : SFilter) : Nat := bits (wAt x.ws 3) 31 16

/-- The meter's tokens at cycle `c`. -/
def SFilter.tokens (x : SFilter) (c : Nat) : Nat := min x.burst (x.tok + x.rate * (c - x.tokAt))

/-- Policing at ingress: does the frame pass? (DESIGN CHOICE, log entry 81) -/
def State.police (s : State) (k : Nat) (bs : List Byte) : State × Bool :=
  match (List.range 256).find? fun i => (s.sfilt i).en && (s.sfilt i).vid == s.frameVid k bs && (s.sfilt i).mac == frameDst bs with
  | none => (s, true)
  | some i =>
    let x := s.sfilt i
    if x.blocked then (s, false)
    else if bits (wAt x.ws 2) 15 0 < frameSdu bs then
      (if bits (wAt x.ws 0) 30 30 = 1 then
        ((s.setSfilt i { x with blocked := true }).wr (NET_PSTAT k) NET_PSTAT_blk_seen 1 |>.noteSlow 0x0D10 0, false)
      else (s, false))
    else
      let need := bs.length * 8 * 2000
      if need ≤ x.tokens s.cyc then (s.setSfilt i { x with tok := x.tokens s.cyc - need, tokAt := s.cyc }, true)
      else (s, false)

/-! Forwarding (R375). -/

/-- An address is learned at its port, in a table of 4,096 entries. (DESIGN CHOICE, log entry 81) -/
def State.learn (s : State) (mac vid k : Nat) : State :=
  let l := s.net.table.filter fun e => !(e.mac == mac && e.vid == vid)
  if mac / 2 ^ 40 % 2 = 1 ∨ 4096 ≤ l.length then s
  else { s with net := { s.net with table := l ++ [⟨mac, vid, k, s.cyc⟩] } }

/-- Remove the addresses last seen 300 s ago. -/
def State.ageOut (s : State) : State :=
  { s with net := { s.net with table := s.net.table.filter fun e => decide (s.cyc < e.seen + sec 300) } }

/-- The ports a frame leaves at. (DESIGN CHOICE, log entry 81) -/
def State.egress (s : State) (k : Nat) (bs : List Byte) : List Nat :=
  let d := frameDst bs
  let vid := s.frameVid k bs
  let all := (List.range 8).filter fun q => q != k && s.netUp q
  if d / 16 = 0x0180C200000 then []
  else if d / 2 ^ 40 % 2 = 1 then all
  else
    match s.net.table.find? fun e => e.mac == d && e.vid == vid with
    | some e => all.filter fun q => q == e.port
    | none => all

/-- A frame from port `k` leaves at P7: into the host's buffers, unless it is a ring frame (R381). One that is not accepted
is dropped; the effect of one that is comes with the row of its kind (R108). (DEDUCED, log entry 22) -/
def State.toHost (s : State) (k : Nat) (bs : List Byte) : State :=
  if frameType bs = s.rd RNG_ETH_CFG RNG_ETH_CFG_ethertype then
    (if s.frameOk k (frameSrc bs) then s else s.frameDropped)
  else
    let pad := List.replicate ((4 - bs.length % 4) % 4) 0#8
    let a := s.deliver 0xD1 (word bs.length :: bytesWords (bs ++ pad))
    if a.2 then a.1.bump (NET_PSTAT 7) NET_PSTAT_drop_cnt else a.1

/-- A frame enters the switch at port `k`: dropped when too long, policed, learned, queued at its egress ports. -/
def State.ingress (s : State) (k : Nat) (bs : List Byte) : State :=
  if 2000 < bs.length then s.bump (NET_PSTAT k) NET_PSTAT_drop_cnt
  else
    let a := s.police k bs
    if !a.2 then a.1
    else
      let s1 := a.1.ageOut.learn (frameSrc bs) (s.frameVid k bs) k
      (s1.egress k bs).foldl (fun s q => if q = 7 then s.toHost k bs else s.portQueue q (s.frameClass bs) bs) s1

end Sys2Proof.Machine
end

