-- ==== Sys2Proof/Machine/Trig.lean ====
section
/-! DEFINITION. Sines, cosines and arc tangents for the formulas the spec gives in angles (R190, R264, R329): integers
with 60 fraction bits, and the one step of rounding the spec leaves open. -/

namespace Sys2Proof.Machine

/-- One, and π, with 60 fraction bits. -/
def one60 : Int := 2 ^ 60
def pi60 : Int := 3622009729038561421

def mul60 (a b : Int) : Int := a * b / 2 ^ 60

/-- `n` terms of an alternating power series in `x2`, from `term` on; the next term divides by (k + 1) (k + 2). -/
def seriesFact (x2 : Int) : (n k : Nat) → (term : Int) → Int
  | 0, _, _ => 0
  | n + 1, k, term => term + seriesFact x2 n (k + 2) (-(mul60 term x2) / ((k + 1) * (k + 2)))

/-- An angle in radians brought to [-π, π). -/
def reduce60 (x : Int) : Int := (x + pi60) % (2 * pi60) - pi60

def sin60 (x : Int) : Int :=
  let r := reduce60 x
  seriesFact (mul60 r r) 18 1 r

def cos60 (x : Int) : Int :=
  let r := reduce60 x
  seriesFact (mul60 r r) 18 0 one60

/-- The square root of a number with 60 fraction bits. -/
def sqrt60 (x : Int) : Int := Nat.sqrt (x.toNat * 2 ^ 60)

/-- The tangent of half the angle whose tangent is `z`. -/
def halfTan (z : Int) : Int := z * one60 / (one60 + sqrt60 (one60 + mul60 z z))

/-- `n` terms of the arc tangent series, `pow` an odd power of the tangent. -/
def seriesAtan (z2 : Int) : (n k : Nat) → (pow : Int) → Int
  | 0, _, _ => 0
  | n + 1, k, pow => pow / k + seriesAtan z2 n (k + 2) (-(mul60 pow z2))

/-- The arc tangent: of an eighth of the angle, by its series. -/
def atan60 (z : Int) : Int :=
  let w := halfTan (halfTan (halfTan z))
  8 * seriesAtan (mul60 w w) 16 1 w

/-- The angle of the point `x` ahead and `y` to the side, in (-π, π]; 0 at the origin. -/
def atan2_60 (y x : Int) : Int :=
  if 0 < x then atan60 (y * one60 / x)
  else if x < 0 then (if 0 ≤ y then atan60 (y * one60 / x) + pi60 else atan60 (y * one60 / x) - pi60)
  else if 0 < y then pi60 / 2
  else if y < 0 then -(pi60 / 2)
  else 0

/-- An angle of `n` parts, `per` of them to the half turn, in radians; and an angle in radians in such parts, its
fraction bits kept. -/
def radOf (n : Int) (per : Nat) : Int := n * pi60 / per
def partsOf (x : Int) (per : Nat) : Int := x * per * 2 ^ 60 / pi60

/-- A value with `n` fraction bits made whole, down or up: the spec does not state the rounding. (DESIGN CHOICE, log entry
113) -/
def roundOpen (n : Nat) (x : Int) : Int := x / 2 ^ n + (if x % 2 ^ n ≠ 0 ∧ Config.roundUp x then 1 else 0)

/-- A position in units of 10^-9 degree carried along heading `hd`, in 0.01°, by `dist` in 0.1 mm, on a sphere of radius
6,371 km, in units of 10^-7 degree (R264). (DESIGN CHOICE, log entry 70) -/
def carryOn (lat lon : Int) (hd : Nat) (dist : Int) : Int × Int :=
  let p := radOf lat 180000000000
  let h := radOf hd 18000
  let d := dist * one60 / 63710000000
  let y := mul60 (sin60 p) (cos60 d) + mul60 (mul60 (cos60 p) (sin60 d)) (cos60 h)
  let q := atan2_60 y (sqrt60 (one60 - mul60 y y))
  let dl := atan2_60 (mul60 (mul60 (sin60 h) (sin60 d)) (cos60 p)) (cos60 d - mul60 (sin60 p) y)
  let east := (radOf lon 180000000000 + dl + pi60) % (2 * pi60) - pi60
  (roundOpen 60 (partsOf q 1800000000), roundOpen 60 (partsOf east 1800000000))

/-- The square of the eccentricity of the WGS 84 ellipsoid. -/
def ecc60 : Int := 7718094650643697

/-- A lever arm `f` forward, `r` to the right and `u` up, in mm, turned by heading `hd` and pitch `pt` in 0.01°, roll 0:
north, east and up with 60 fraction bits (R329). -/
def leverNeu (f r u : Int) (hd : Nat) (pt : Int) : Int × Int × Int :=
  let h := radOf hd 18000
  let p := radOf pt 18000
  let fwd := f * cos60 p - u * sin60 p
  (mul60 fwd (cos60 h) - r * sin60 h, mul60 fwd (sin60 h) + r * cos60 h, f * sin60 p + u * cos60 p)

/-- Latitude, longitude in 10^-9 degree and height in mm, moved by `d` north, east and up on the WGS 84 ellipsoid.
(DESIGN CHOICE, log entry 119) -/
def moved (lat lon hgt : Int) (d : Int × Int × Int) : Int × Int × Int :=
  let p := radOf lat 180000000000
  let w2 := one60 - mul60 ecc60 (mul60 (sin60 p) (sin60 p))
  let n := 6378137000 * one60 * one60 / sqrt60 w2
  let m := mul60 n (one60 - ecc60) * one60 / w2
  let per := 180000000000
  let y := lat * one60 + partsOf (d.1 * one60 / (m + hgt * one60)) per
  let x := lon * one60 + partsOf (d.2.1 * one60 / mul60 (n + hgt * one60) (cos60 p)) per
  let turn := 2 * per * one60
  (roundOpen 60 y, roundOpen 60 ((x + per * one60) % turn - per * one60), roundOpen 60 (hgt * one60 + d.2.2))

/-- atan(2 × W × sin(α) / Ld) in Q8.24 radians: wheelbase `w` and look-ahead `ld` in mm, α from heading `hd`, in 0.01°, to
the point `dx` east and `dy` north, to the right positive (R190). (DESIGN CHOICE, log entry 114) -/
def trackSp (w ld hd : Nat) (dx dy : Int) : Int :=
  let h := radOf hd 18000
  let side := dx * cos60 h - dy * sin60 h
  let far := Nat.sqrt ((dx * dx + dy * dy).toNat * 2 ^ 64)
  roundOpen 36 (atan60 (2 * w * side * 2 ^ 32 / (far * ld)))

end Sys2Proof.Machine
end

