-- ==== Sys2Proof/Machine/Gnss.lean ====
section
/-! DEFINITION. GNSS positioning (R324 to R336) and module time (R337 to R344), the snapshot capture and the ring
operations of GNS. -/

namespace Sys2Proof.Machine

def State.setGns (s : State) (g : Gns) : State := { s with gns := g }

/-- Does the receiver run? -/
def State.gnsRuns (s : State) : Bool :=
  s.ready 0x0B && s.bit GNS_CFG GNS_CFG_en && !s.fenced 7 && s.pow.holdUp.isNone

def State.tstate (s : State) : Nat := s.rd GNS_STAT GNS_STAT_tstate

abbrev tsNoTime : Nat := 0
abbrev tsLocked : Nat := 1
abbrev tsHoldover : Nat := 2
abbrev tsSlew : Nat := 3

def State.suspect (s : State) : Bool := s.bit GNS_STAT GNS_STAT_suspect

/-- The frequency correction at cycle `c`: from its last value toward its aim by at most 0.1 ppm a second (R20). -/
def Gns.foffThen (g : Gns) (c : Nat) : Int :=
  let d : Int := 100000 * (c - g.foffAt) / sec 1
  clampI (g.foff - d) (g.foff + d) g.foffAim

/-- From now on the correction moves to `aim`. -/
def State.foffTo (s : State) (aim : Int) : State :=
  s.setGns { s.gns with foff := s.gns.foffThen s.cyc, foffAt := s.cyc, foffAim := aim }

/-- Time enters HOLDOVER from LOCKED or SLEW; the frequency correction stays as it is then (R338, R341, GNS_CNT). -/
def State.holdover (s : State) : State :=
  if s.tstate = tsLocked ∨ s.tstate = tsSlew then
    (((s.foffTo (s.gns.foffThen s.cyc)).wr GNS_STAT GNS_STAT_tstate tsHoldover).bump GNS_CNT GNS_CNT_hold_cnt).note 0x0B20 0
  else s

/-- Deliver a message of function `f`; what staging does not take is dropped and counted (R347). -/
def State.gnsSend (s : State) (f : Nat) (ws : List Word) : State :=
  let a := s.deliver (0xB0 + f) ws
  if a.2 then a.1.bump GNS_CNT GNS_CNT_drop_cnt else a.1

/-! Tracking (R324 to R326). -/

/-- The number of a signal: constellation, satellite, antenna and band. -/
def signalNo (con id ant band : Nat) : Nat := ((con * 256 + id) * 2 + ant) * 2 + band

/-- Insert a satellite into a list that falls in elevation. -/
def skyInsert (x : SatView) : List SatView → List SatView
  | [] => [x]
  | y :: t => if y.elev < x.elev then x :: y :: t else y :: skyInsert x t

/-- Give channels to satellites, the highest first: antenna 0, then antenna 1 while `head` is set; no SBAS signal in L5.
(DESIGN CHOICE, log entry 120) -/
def giveChannels (head : Bool) : Nat → List SatView → List Track
  | _, [] => []
  | free, x :: t =>
    let l1 := x.a0.1 && decide (1 ≤ free)
    let f1 := free - b2n l1
    let l5 := x.a0.2 && x.con != 0 && decide (1 ≤ f1)
    let f2 := f1 - b2n l5
    let n1 := if head && (l1 || l5) then min f2 (b2n x.a1.1 + b2n (x.a1.2 && x.con != 0)) else 0
    if l1 || l5 then ⟨x.con, x.id, l1, l5, n1, if x.used then some .free else none, (0, 0)⟩ :: giveChannels head (f2 - n1) t
    else giveChannels head free t

/-- The satellites above the elevation mask, of the constellations in use. -/
def State.skySeen (s : State) (l : List SatView) : List SatView :=
  (l.filter fun x => decide ((min 30 (s.rd GNS_CFG GNS_CFG_elev) : Int) < x.elev)
    && s.rd GNS_CFG GNS_CFG_con / 2 ^ x.con % 2 == 1).foldl (fun a x => skyInsert x a) []

/-- Is a tracked signal of antenna 0 free of exclusions (R335)? -/
def State.signalIn (s : State) (t : Track) (band : Nat) : Bool :=
  (if band = 0 then t.l1 else t.l5)
    && !s.gns.excl.any fun x => if x.con then x.id == t.con else x.id == signalNo t.con t.id 0 band

/-- Seconds of week of a constellation's time at MTIME `m` in ms: GPS time, which Galileo and QZSS share, is TAI less 19 s,
and BeiDou time 14 s less. (PRESUMED, log entry 132) -/
def weekMs (con m : Nat) : Nat :=
  (m / 1000000 + 604800000 - (315964819000 + (if con = 2 then 14000 else 0)) % 604800000) % 604800000

/-- The age of the base's newest observations in 0.1 s by the module's time (R334). -/
def State.obsAge (s : State) : Option Nat :=
  (s.gns.baseObs.map fun x => (weekMs x.1 s.mtime + 604800000 - x.2.epoch) % 604800000 / 100).min?

/-- The age of the corrections of a fix: that of the observations received while MTIME is valid, else the receiver's own.
(PRESUMED, log entry 132) -/
def State.corrAge (s : State) (x : GnssFix) : Option Nat :=
  if s.gns.valid && !s.gns.baseObs.isEmpty then s.obsAge else x.cAge

/-- Does the base supply observations of a band (R334)? Without any message the receiver's own say stands.
(PRESUMED, log entry 132) -/
def isL5 (sig : Nat) : Bool := decide (22 ≤ sig) && decide (sig ≤ 24)
def State.baseBand (s : State) (con : Nat) (l5 : Bool) : Bool :=
  s.gns.baseObs.isEmpty || s.gns.baseObs.any fun x => x.1 == con && x.2.cells.any fun c => isL5 c.2 == l5

/-- How the solution of fix type `f` corrects a tracked satellite; none where it does not use it (R325). -/
def State.corrOf (s : State) (f : Nat) (t : Track) : Option IonoCorr :=
  let b1 := s.signalIn t 0 && (decide (f < 4) || s.baseBand t.con false)
  let b5 := s.signalIn t 1 && (decide (f < 4) || s.baseBand t.con true)
  if t.corr.isNone || !(b1 || b5) then none
  else if b1 && b5 then some .free
  else if f = 2 then some .sbas
  else some .broadcast

/-- The ionosphere-free combination of two ranges: 1,575.42 and 1,176.45 MHz are 154 and 115 times 10.23 MHz (R325). -/
def ionoFree (x : Int × Int) : Int := rndDiv (23716 * x.1 - 13225 * x.2) 10491

/-- The ranges of a satellite by its correction: a delay `d` at L1 lengthens the code and shortens the carrier, and is
23,716 / 13,225 times as long at L5. -/
def corrRange (x : SatView) (l1 : Bool) : Option IonoCorr → Int × Int
  | none => (0, 0)
  | some .free => (ionoFree x.code, ionoFree x.carrier)
  | some c =>
    let d := if c = .sbas then x.iono.1 else x.iono.2
    if l1 then (x.code.1 - d, x.carrier.1 + d)
    else (x.code.2 - rndDiv (23716 * d) 13225, x.carrier.2 + rndDiv (23716 * d) 13225)

/-- The satellites tracked of a sky, with the corrections and ranges of a fix of type `f`. -/
def State.tracksOf (s : State) (f : Nat) (l : List SatView) : List Track :=
  (giveChannels (s.bit GNS_CFG GNS_CFG_head) 384 (s.skySeen l)).map fun t =>
    let c := s.corrOf f t
    { t with
      corr := c
      range := match l.find? fun x => x.con == t.con && x.id == t.id with
        | some x => corrRange x (s.signalIn t 0) c
        | none => (0, 0) }

/-- Channels, satellites used, satellites used in both bands. -/
def trackCount (l : List Track) : Nat := (l.map fun t => b2n t.l1 + b2n t.l5 + t.n1).sum
def usedCount (l : List Track) : Nat := (l.filter fun t => t.corr.isSome).length
def dualCount (l : List Track) : Nat := (l.filter fun t => t.corr == some IonoCorr.free).length

/-! Fixes (R328 to R331). -/

/-- Heading, its accuracy, pitch and hd_src of a fix. -/
def State.fixHeading (s : State) (x : GnssFix) : Nat × Nat × Int × Nat :=
  let course := if s.bit NYM_GND_STAT NYM_GND_STAT_rev && s.rd NYM_GND_CFG NYM_GND_CFG_dir_src != 2
    then (x.course + 18000) % 36000 else x.course % 36000
  let other := (course, x.courseAcc, x.pitch, if 1000000 ≤ x.vn * x.vn + x.ve * x.ve then 2 else 0)
  match x.baseline with
  | some (len, az, el, acc) =>
    let want := s.rd GNS_HEAD GNS_HEAD_base_len
    if s.bit GNS_CFG GNS_CFG_head && decide (len ≤ want + 30) && decide (want ≤ len + 30) then
      ((az + s.rd GNS_HEAD GNS_HEAD_yaw_off) % 36000, acc, el, 1)
    else other
  | none => other

/-- Correction age limit in 0.1 s; 0 acts as 1. -/
def State.cAgeMax (s : State) : Nat := 10 * max 1 (s.rd GNS_CFG GNS_CFG_cmax)

/-- Are the corrections stale, and may RTK run (R334)? -/
def State.staleFix (s : State) (x : GnssFix) : Bool :=
  s.bit GNS_CFG GNS_CFG_rtk && (match s.corrAge x with
    | some a => decide (s.cAgeMax < a)
    | none => false)

def State.rtkRuns (s : State) (x : GnssFix) : Bool :=
  s.bit GNS_CFG GNS_CFG_rtk && ((List.range 4).any fun i => s.baseBand (4 - i) false || s.baseBand (4 - i) true) && (match s.corrAge x with
    | some a => decide (a ≤ s.cAgeMax)
    | none => false)

/-- Fix type: RTK types only while RTK runs, at most 4 with a new base. -/
def State.fixType (s : State) (x : GnssFix) : Nat :=
  let f := if x.fix ≤ 3 then x.fix else if !s.rtkRuns x then min 3 x.fall else min 5 x.fix
  if s.gns.newBase then min 4 f else f

/-- Does any antenna show a fault (R327)? -/
def State.antFault (s : State) : Bool :=
  s.bit GNS_ANT GNS_ANT_open0 || s.bit GNS_ANT GNS_ANT_short0 || s.bit GNS_ANT GNS_ANT_open1 || s.bit GNS_ANT GNS_ANT_short1

/-- The heading and pitch that turn the lever arm: the last valid ones, for up to 2 s (R329). -/
def State.leverHead (s : State) : Option (Nat × Int) :=
  match s.gns.heading with
  | some h => if h.2.2 + sec 2 < s.cyc then none else some (h.1, h.2.1)
  | none => none

/-- The machine reference point of a fix: latitude and longitude in 10^-9 degree, height in mm (R329). -/
def State.refPoint (s : State) (x : GnssFix) : Int × Int × Int :=
  match s.leverHead with
  | some h =>
    moved x.lat x.lon x.hgt (leverNeu (sBits 16 (s.rd GNS_LEV0 GNS_LEV0_fwd)) (sBits 16 (s.rd GNS_LEV0 GNS_LEV0_right))
      (sBits 16 (s.rd GNS_LEV1 GNS_LEV1_up)) h.1 h.2)
  | none => (x.lat, x.lon, x.hgt)

/-- The PVT message of a fix whose heading has been taken up (R331). Without a base the spec states no station.
(DESIGN CHOICE, log entry 119) -/
def State.pvtWords (s : State) (x : GnssFix) (hd : Nat × Nat × Int × Nat) (epoch : Nat) (l : List Track) : List Word :=
  let f := s.fixType x
  let flags := b2n s.suspect + 2 * b2n (hd.2.2.2 != 0) + 4 * b2n (s.staleFix x) + 8 * b2n s.gns.newBase
    + 16 * b2n !s.gns.excl.isEmpty + 32 * b2n s.antFault + 64 * b2n s.leverHead.isNone
  let p := s.refPoint x
  let i16 := fun (v : Int) => (v % 2 ^ 16).toNat
  let i8 := fun (v : Int) => (v.tmod 100 % 2 ^ 8).toNat
  let pos := if f = 0 then [0x80000000#32, 0x80000000#32] else [wInt (p.1.tdiv 100), wInt (p.2.1.tdiv 100)]
  [lo32 epoch, hi32 epoch] ++ pos ++
  [packW [(i8 p.1, 24), (i8 p.2.1, 16)], wInt p.2.2, packW [(i16 x.vn, 16), (i16 x.ve, 0)],
    packW [(i16 x.vd, 16), (min 0xFFFF x.sAcc, 0)],
    packW [(hd.1, 16), (min 0xFFFF hd.2.1, 0)], packW [(i16 hd.2.2.1, 16), (hd.2.2.2, 14)],
    packW [(min 0xFFFF x.hAcc, 16), (min 0xFFFF x.vAcc, 0)],
    packW [(f, 28), (min 0xFF (usedCount l), 20), (min 0xFF (dualCount l), 12), (flags, 0)],
    packW [((match s.corrAge x with
      | some a => min 0xFFFF a
      | none => 0xFFFF), 16), ((s.gns.base.getD (Config.freeNat s.free)) % 2 ^ 16, 0)],
    packW [(if s.bit GNS_CFG GNS_CFG_head then (match x.baseline with
      | some b => min 0xFFFF b.1
      | none => 0) else 0, 16)], 0#32, 0#32]

def antOpen (a : Nat) : Fld := if a = 0 then GNS_ANT_open0 else GNS_ANT_open1
def antShort (a : Nat) : Fld := if a = 0 then GNS_ANT_short0 else GNS_ANT_short1

/-- The bit of GNS_ANT.seen: open0, short0, open1, short1 from the top. -/
def State.antSeen (s : State) (a : Nat) (short : Bool) : State :=
  s.orBits GNS_ANT GNS_ANT_seen (2 ^ (3 - 2 * a - b2n short))

def antCur (a : Nat) : Fld := if a = 0 then GNS_ANT_cur0 else GNS_ANT_cur1

/-- Is an antenna supply allowed, and is it on: not while a short has turned it off? -/
def State.antSup (s : State) (a : Nat) : Bool := s.bit GNS_ANT (if a = 0 then GNS_ANT_sup0 else GNS_ANT_sup1)
def State.antOn (s : State) (a : Nat) : Bool :=
  s.ready 0x0B && s.pow.holdUp.isNone && s.antSup a && cellGet (fun _ => 0) s.gns.antRetry a == 0

def State.antShortTime (s : State) (a c : Nat) : State :=
  s.setGns { s.gns with antShortAt := cellSet (fun _ => 0) s.gns.antShortAt a c }

/-- An antenna supply that is on is at its 100 mA limit, or is not (R327). -/
def State.antLimit (s : State) (a : Nat) (short : Bool) : State :=
  if !short then (s.wr GNS_ANT (antShort a) 0).antShortTime a 0
  else if s.bit GNS_ANT (antShort a) then s
  else ((s.wr GNS_ANT (antShort a) 1).antSeen a true).antShortTime a (max 1 s.cyc)

/-- The current of an antenna supply that is on: open below 3 mA, short at 100 mA (R327). -/
def State.antCurrent (s : State) (a ma : Nat) : State :=
  if !s.antOn a then s
  else
    let s1 := (s.wr GNS_ANT (antCur a) (min 0xFF ma)).antLimit a (decide (100 ≤ ma))
    if 3 ≤ ma then s1.wr GNS_ANT (antOpen a) 0
    else if s.bit GNS_ANT (antOpen a) then s1
    else ((s1.wr GNS_ANT (antOpen a) 1).antSeen a false).note (0x0B01 + 2 * a) 0

/-- An antenna supply is off and not to retry: it draws nothing, and no condition of R327 holds. -/
def State.antOff (s : State) (a : Nat) : State :=
  let s1 := s.setGns { s.gns with antRetry := cellSet (fun _ => 0) s.gns.antRetry a 0 }
  ((((s1.antShortTime a 0).wr GNS_ANT (antCur a) 0).wr GNS_ANT (antOpen a) 0).wr GNS_ANT (antShort a) 0).clear2 (0x0B02 + 2 * a)

/-- An antenna draws current while its supply is not allowed (R349). -/
def State.antMisuse (s : State) (a ma : Nat) : Bool := s.ready 0x0B && !s.antSup a && ma != 0

/-- FIX_EPOCH (R330): the fix of the last epoch goes to path tracking, GROUND, the fusion state block and the ring. -/
def execFixEpoch (t : Nat) (fix : GnssFix) (s : State) : Out :=
  let s := s.at t
  let epoch := s.mtime / 10000000 * 10000000
  if !s.gnsRuns || s.gns.epoch == some epoch then .next s
  else if s.antMisuse 0 fix.cur0 || s.antMisuse 1 fix.cur1 then .fault .gnssMisuse
  else
    let s0 := (s.antCurrent 0 fix.cur0).antCurrent 1 fix.cur1
    let hd := s0.fixHeading fix
    let s1 := if hd.2.2.2 ≠ 0 then s0.setGns { s0.gns with heading := some (hd.1, hd.2.2.1, s.cyc) } else s0
    let f := s1.fixType fix
    let l := s1.tracksOf f fix.sky
    let ws := s1.pvtWords fix hd epoch l
    let usable := decide (0 < f) && !s.suspect
    let sent := s.bit GNS_CFG GNS_CFG_pvt100 || epoch % 50000000 == 0
    let s2 := (s1.setGns { s1.gns with
      epoch := some epoch, pvt := ws, usable := usable, newBase := s1.gns.newBase && !sent, tracks := l
      useful := if usable then some (epoch, ws) else s1.gns.useful
      lastPos := if f = 0 then s1.gns.lastPos else (ws.drop 2).take 4 }).freeNext
    let s3 := (((s2.wr GNS_STAT GNS_STAT_fix f).wr GNS_STAT GNS_STAT_hd_valid (b2n (hd.2.2.2 != 0))).wr GNS_STAT
      GNS_STAT_nsv (min 0xFF (usedCount l))).wr GNS_STAT GNS_STAT_ntrk (trackCount l)
    let speed := (fix.vn * fix.vn + fix.ve * fix.ve).toNat
    let s4 := s3.gndGnss (if usable && decide (fix.sAcc ≤ 100) then some (speed, fix.back) else none)
    .next (if sent then s4.gnsSend 1 ws else s4)

/-! Antenna supplies (R327). -/

/-- ANTENNA_OPEN: a supply's current is measured, at `ma` mA. -/
def execAntennaOpen (t : Nat) (x : AntReading) (s : State) : Out :=
  let s := s.at t
  if s.antMisuse x.ant x.ma then .fault .gnssMisuse else .next (s.antCurrent x.ant x.ma)

/-- ANTENNA_SHORT: the supply has been at its limit for 10 ms, and turns off. -/
def execAntennaShort (t : Nat) (a : Fin 2) (s : State) : Out :=
  let s := s.at t
  let c := cellGet (fun _ => 0) s.gns.antShortAt a
  if !s.antOn a || (decide (0 < c) && decide (s.cyc < c + ms 10)) then .next s
  else
    let s1 := s.antLimit a true
    let s2 := (s1.setGns { s1.gns with antRetry := cellSet (fun _ => 0) s1.gns.antRetry a (s.cyc + sec 1) }).antShortTime a 0
    .next ((s2.wr GNS_ANT (antCur a) 0).raise2 (0x0B02 + 2 * a) 0)

/-- ANTENNA_RETRY. -/
def execAntennaRetry (t : Nat) (a : Fin 2) (s : State) : Out :=
  let s := s.at t
  let c := cellGet (fun _ => 0) s.gns.antRetry a
  if c = 0 ∨ s.pow.holdUp.isSome ∨ s.cyc < c then .next s
  else .next (s.antOff a)

/-! Consistency checks (R335, R336). -/

/-- GNS_CHKSTAT counts what is excluded. -/
def State.exclSync (s : State) : State :=
  let sig := ((s.gns.excl.filter fun x => !x.con).map Excl.id).eraseDups.length
  let con := (List.range 5).foldl (fun a i => if s.gns.excl.any fun x => x.con && x.id == i then a + 2 ^ i else a) 0
  (s.wr GNS_CHKSTAT GNS_CHKSTAT_excl_sig (min 0xFF sig)).wr GNS_CHKSTAT GNS_CHKSTAT_excl_con con

/-- Is check `i`, 0 inter-frequency to 4 oscillator, enabled? -/
def State.chkEn (s : State) (i : Nat) : Bool := s.rd GNS_CHK0 GNS_CHK0_en / 2 ^ (4 - i) % 2 == 1

/-- Exclude a signal or constellation until a cycle, or while its condition lasts; each way takes the place of the same way
only. -/
def exclude (l : List Excl) (con : Bool) (until_ : Option Nat) (ids : List Nat) : List Excl :=
  ids.foldl (fun l i => ⟨con, i, until_⟩ :: l.filter fun x => !(x.con == con && x.id == i && x.until_.isSome == until_.isSome)) l

/-- SUSPECT is set (R336). -/
def State.suspectSet (s : State) : State :=
  let s1 := s.setGns { s.gns with calm := 0 }
  if s.suspect then s1 else ((s1.wr GNS_STAT GNS_STAT_suspect 1).raise2 0x0B12 0).holdover

/-- A second in which no check sets SUSPECT. -/
def State.suspectCalm (s : State) : State :=
  let n := s.gns.calm + 1
  let s1 := s.setGns { s.gns with calm := n }
  if s.suspect && decide (3 ≤ n) then (s1.wr GNS_STAT GNS_STAT_suspect 0).clear2 0x0B12 else s1

/-- Signals and constellations that fail a check of R335 by its thresholds. -/
def ionoFails (c : GnssCheck) : List Nat :=
  (c.iono.filter fun x => decide (x.2.1 < -2000) || decide (60000 < x.2.1) || decide (1000 < x.2.2)).flatMap fun x => x.1

def State.codeFails (s : State) (c : GnssCheck) : List Nat :=
  (c.code.filter fun x => decide (1000 * s.rd GNS_CHK0 GNS_CHK0_cc_thr < x.2)).map fun x => x.1

def State.powerFails (s : State) (c : GnssCheck) : List Nat :=
  ((c.cn0.filter fun x => decide (10 * s.rd GNS_CHK0 GNS_CHK0_cn0_max < x.2)).map fun x => x.1)
    ++ (c.fronts.filter fun x => (decide (6 ≤ x.2.1) && decide (x.2.2.1 < 20)) || decide (100 < x.2.2.2)).flatMap fun x => x.1

def State.consFails (s : State) (c : GnssCheck) : List Nat :=
  (c.cons.filter fun x => decide (1000 * s.rd GNS_CHK0 GNS_CHK0_ic_pos < x.2.1) || decide (50000 < x.2.2)).map fun x => x.1

def State.oscFails (s : State) (c : GnssCheck) : Bool :=
  decide (1000 * s.rd GNS_CHK1 GNS_CHK1_clk_thr < c.phase) || decide (1000 * s.rd GNS_CHK1 GNS_CHK1_f_thr < c.freq)

/-- GNSS_CHECK_SECOND (R335). -/
def execGnssCheckSecond (t : Nat) (chk : GnssCheck) (s : State) : Out :=
  let s := s.at t
  if !s.gnsRuns then .next s
  else
    let on := fun i (l : List Nat) => if s.chkEn i then l else []
    let end_ := some (s.cyc + sec 60)
    let kept := s.gns.excl.filter fun x => x.until_.isSome
    let iono := on 0 (ionoFails chk)
    let code := on 1 (s.codeFails chk)
    let power := on 2 (s.powerFails chk)
    let cons := on 3 (s.consFails chk)
    let l1 := exclude (exclude kept false end_ iono) false end_ code
    let l2 := exclude (exclude l1 false none power) true end_ cons
    let agree := s.chkEn 3 && chk.noAgree
    let osc := s.chkEn 4 && s.oscFails chk
    let failed := [!iono.isEmpty, !code.isEmpty, !power.isEmpty, !cons.isEmpty || agree, osc]
    let seen := (List.range 5).foldl (fun a i => if failed.getD i false then a + 2 ^ (4 - i) else a) 0
    let s1 := (s.setGns { s.gns with excl := l2 }).exclSync
    let s2 := s1.orBits GNS_CHKSTAT GNS_CHKSTAT_fail_seen seen
    let fresh := l2.any fun x => !(s.gns.excl.any fun y => y.con == x.con && y.id == x.id)
    let s3 := if fresh then s2.noteSlow 0x0B10 0 else s2
    .next (if agree || osc then s3.suspectSet else s3.suspectCalm)

/-- EXCLUSION_EXPIRY. -/
def execExclusionExpiry (t : Nat) (con : Bool) (id : Nat) (s : State) : Out :=
  let s := s.at t
  let l := s.gns.excl.filter fun x => !(x.con == con && x.id == id && x.until_.any fun c => decide (c ≤ s.cyc))
  .next (s.setGns { s.gns with excl := l }).exclSync

/-! Module time (R337 to R343). -/

/-- The cycle a capture began at: when MTIME reached its start. -/
def State.snapBegan (s : State) (x : SnapRun) : Nat := x.begun.getD (s.cyc - (s.mtime - x.start) / 5)

/-- MTIME takes the value `m`; what counts in it follows its course. -/
def State.mtimeSet (s : State) (m : Int) : State :=
  s.course 1 fun x => ({ x with
    mtOff := ((m - 5 * (s.cyc : Int)) % 2 ^ 64).toNat, mtWas := x.mtOff, stepAt := x.cyc }).jump 1 s.mtime (m - s.mtime)

/-- What a step of MTIME from that of state `s` marks in `s1`: the commit that lies ahead, the K12 ticks and a capture. -/
def State.stepMarks (s s1 : State) : State :=
  let old := s.mtime
  let k := s1.mtime / 250000 + 1
  let tri := if s.tri.due ≤ s.cyc ∨ s.tri.nextK * 250000 ≤ old then
      { s1.tri with stepped := true, due := min s.tri.due s.cyc }
    else { s1.tri with nextK := k, due := s.cyc + (k * 250000 - s1.mtime + 4) / 5 }
  let snap := s1.gns.snap.map fun x =>
    if x.begun.isSome || decide (x.start ≤ old) then { x with begun := some (s.snapBegan x), stepped := true } else x
  let k12 := if s.k12Runs then { s1.k12 with stepFrom := (old + 25000) / 1000000, stale := List.range 8 } else s1.k12
  { s1 with tri := tri, k12 := k12, gns := { s1.gns with snap := snap } }

/-- A step of MTIME to `m` in this cycle: a jump of TIME, and what R135, R149, R177 and R223 make of it. -/
def State.timeStep (s : State) (m : Int) : State :=
  let x := s.portsCatch
  ((x.stepMarks (x.mtimeSet m)).loopsStep x.mtime).netStep

/-- Present uncertainty (R341). -/
def State.timeUnc (s : State) (acc : Nat) : Nat :=
  if s.tstate = tsLocked ∨ s.tstate = tsSlew then min 0xFFFFFFFF acc
  else if s.tstate = tsHoldover then
    min 0xFFFFFFFF (s.gns.goodUnc + max 1 (s.rd GNS_TCFG GNS_TCFG_hold_rate) * ((s.cyc - s.gns.goodAt) / sec 1))
  else if s.gns.kept then 1000000000 else 0xFFFFFFFF

/-- The 802.1AS clockClass of the time state (R338). -/
def State.clockClass (s : State) : Nat :=
  if s.tstate = tsNoTime then 248
  else if s.tstate = tsHoldover then
    if (s.reg GNS_UNC).toNat ≤ 1000 * max 1 (s.rd GNS_TCFG GNS_TCFG_hold_spec) then 7 else 52
  else 6

/-- The clockAccuracy of an uncertainty in ns: the first of the steps of IEEE 1588 that holds it (R344).
(PRESUMED, log entry 134) -/
def clockAccuracy (unc : Nat) : Nat :=
  if unc = 0xFFFFFFFF then 0xFE
  else 0x20 + ([25, 100, 250, 1000, 2500, 10000, 25000, 100000, 250000, 1000000, 2500000, 10000000, 25000000, 100000000,
    250000000, 1000000000].filter fun x => decide (x < unc)).length

/-- The time message (R343). -/
def State.timeWords (s : State) (sol : TimeSol) (edge : Nat) (pps : Bool) (step : Option Int) : List Word :=
  let ts := s.tstate
  let flags := b2n s.gns.valid + 2 * b2n (ts == tsHoldover) + 4 * b2n (ts == tsSlew) + 8 * b2n step.isSome
    + 16 * b2n sol.leap + 32 * b2n s.suspect + 64 * b2n pps
  let e := ((step.getD 0) % 2 ^ 64).toNat
  [lo32 edge, hi32 edge, packW [(sol.utc % 2 ^ 16, 16), (ts, 14), (flags, 0)],
    if ts = tsNoTime then 0#32 else wInt (if ts = tsLocked then clampI (-5000) 5000 sol.qerr else sol.qerr), s.reg GNS_UNC,
    wInt s.gns.foff, lo32 e, hi32 e,
    packW [(if ts = tsHoldover then min 0xFFFF ((s.cyc - s.gns.goodAt) / sec 1) else 0, 16), (sol.sats % 2 ^ 16, 0)]]
    ++ List.replicate 7 0#32

/-- The slew or step decision at the edge of the third consistent second, or the loss of the solution (R338, R339). -/
def State.timeDecide (s : State) (sol : TimeSol) (edge : Nat) : State × Option Int :=
  let ok := s.gnsRuns && decide (4 ≤ sol.sats) && !s.suspect
  let n := if ok then s.gns.consist + 1 else 0
  let s1 := s.setGns { s.gns with consist := n }
  let ts := s.tstate
  let asks := ts == tsNoTime || ts == tsHoldover || (ts == tsLocked && decide (1000 ≤ sol.e.natAbs))
  if !ok then (s1.holdover, none)
  else if decide (3 ≤ n) && asks then
    if sol.e.natAbs < 1000 then
      ((s1.setGns { s1.gns with slew := some (s.cyc, sol.e.natAbs) }).wr GNS_STAT GNS_STAT_tstate tsSlew, none)
    else
      let s2 := s1.timeStep (edge + sol.e)
      (((s2.setGns { s2.gns with valid := true }).wr GNS_STAT GNS_STAT_tstate tsLocked).bump GNS_CNT GNS_CNT_step_cnt,
        some sol.e)
  else (s1, none)

/-- A capture that has begun takes the correction of its start (R346). -/
def State.snapFoff (s : State) : State :=
  let snap := s.gns.snap.map fun x =>
    if x.foff.isNone && (x.begun.isSome || decide (x.start ≤ s.mtime)) then { x with foff := some (s.gns.foffThen (s.snapBegan x)) }
    else x
  s.setGns { s.gns with snap := snap }

/-- The discipline of one second: a consistent solution's frequency correction and, in LOCKED and SLEW, a phase correction of
at most 20 ns a second; in HOLDOVER and without one the correction stays (R20, R339, R341). `e` is the phase error that is
left. (DEDUCED, log entry 133) -/
def State.discipline (s : State) (sol : TimeSol) (e : Int) : State :=
  let s1 := s.snapFoff
  let slews := s.tstate == tsLocked || s.tstate == tsSlew
  if s.gns.consist = 0 ∨ s.tstate = tsHoldover then s1.foffTo s.gns.foffAim
  else s1.foffTo (sol.foff + if slews then clampI (-20000) 20000 (1000 * e) else 0)

/-- TIME_SECOND_BOUNDARY (R339 to R343). -/
def execTimeSecondBoundary (t : Nat) (sol : TimeSol) (s : State) : Out :=
  let s := s.at t
  let edge := s.mtime / 1000000000 * 1000000000
  if !s.pow.on || decide (5 ≤ s.mtime % 1000000000) || s.gns.second == some edge then .next s
  else
    let a := s.timeDecide sol edge
    let s1 := (a.1.setGns { a.1.gns with second := some edge }).discipline sol (if a.2.isSome then 0 else sol.e)
    let s2 := s1.setReg GNS_UNC (lo32 (s1.timeUnc sol.acc))
    let good := s2.tstate == tsLocked || s2.tstate == tsSlew
    let s3 := if good then
        { s2 with gns := { s2.gns with goodAt := s.cyc, goodUnc := s2.timeUnc sol.acc }
                  kept := { s2.kept with secs := some (s2.mtime / 1000000000, s.cyc) } }
      else s2
    let pps := s3.bit GNS_TCFG GNS_TCFG_pps_en && s3.tstate != tsNoTime
      && (match s3.gns.edge with
        | some b => decide (b < edge)
        | none => true)
    let s4 := if pps then
        (s3.setGns { s3.gns with
          edge := some edge, ppsEnd := some (s.cyc + ms (max 1 (s3.rd GNS_TCFG GNS_TCFG_pps_w))) }).emit .pps
      else s3
    .next (s4.gnsSend 2 (s4.timeWords sol edge pps a.2))

/-- SLEW_END (R339): the error, removed at no more than 20 ns a second, is below 5 ns. -/
def execSlewEnd (t : Nat) (s : State) : Out :=
  let s := s.at t
  match s.gns.slew with
  | some x =>
    if s.tstate = tsSlew ∧ x.2 * sec 1 < 20 * (s.cyc - x.1) + 5 * sec 1 then
      .next ((s.setGns { s.gns with slew := none }).wr GNS_STAT GNS_STAT_tstate tsLocked)
    else .next s
  | none => .next s

/-- PPS_PULSE_END (R342). -/
def execPpsPulseEnd (t : Nat) (s : State) : Out :=
  let s := s.at t
  match s.gns.ppsEnd with
  | none => .next s
  | some c => if s.cyc < c then .next s else .next (s.setGns { s.gns with ppsEnd := none })

/-- Values R349 forbids in GNS_HEAD, GNS_TCFG, GNS_CHK0 and GNS_CHK1. -/
def gnsBad (off : Nat) (v : Word) : Bool :=
  if off = GNS_HEAD then
    decide (GNS_HEAD_base_len.get v < 500) || decide (10000 < GNS_HEAD_base_len.get v)
      || decide (35999 < GNS_HEAD_yaw_off.get v)
  else if off = GNS_TCFG then decide (999 < GNS_TCFG_pps_w.get v)
  else if off = GNS_CHK0 then
    decide (GNS_CHK0_cn0_max.get v < 40) || decide (70 < GNS_CHK0_cn0_max.get v) || GNS_CHK0_cc_thr.get v == 0
      || GNS_CHK0_ic_pos.get v == 0
  else if off = GNS_CHK1 then decide (GNS_CHK1_clk_thr.get v < 10)
  else false

/-- Is a write of `v` to GNS_CFG ignored: it changes bits [30:23] while en is 1 and does not set en to 0 (R348)? -/
def State.gnsLocked (s : State) (v : Word) : Bool :=
  s.bit GNS_CFG GNS_CFG_en && GNS_CFG_en.get v == 1 && bits (s.reg GNS_CFG) 30 23 != bits v 30 23

/-- Tracking stops; time goes to HOLDOVER (R338). -/
def State.gnsStop (s : State) : State :=
  let s1 := (((s.wr GNS_STAT GNS_STAT_fix 0).wr GNS_STAT GNS_STAT_hd_valid 0).wr GNS_STAT GNS_STAT_nsv 0).wr GNS_STAT
    GNS_STAT_ntrk 0
  ((s1.setGns { s1.gns with usable := false, consist := 0 }).gndGnss none).holdover

/-- An accepted write of GNS_CFG. -/
def State.gnsConfig (s : State) (v : Word) : State :=
  let s1 := s.store GNS_CFG v
  if s.bit GNS_CFG GNS_CFG_en && GNS_CFG_en.get v == 0 then s1.gnsStop else s1

/-- An accepted write of GNS_ANT: a supply no longer allowed is off. -/
def State.antConfig (s : State) (v : Word) : State :=
  let s1 := s.store GNS_ANT v
  let s2 := if s1.antSup 0 then s1 else s1.antOff 0
  if s2.antSup 1 then s2 else s2.antOff 1

/-- GNSS_DISABLE: a write of `v` to GNS_CFG with en 0. -/
def execGnssDisable (t : Nat) (v : Word) (s : State) : Out :=
  (s.at t).hostWrite GNS_CFG v ((s.at t).gnsLocked v) fun s => .next (s.gnsConfig v)

/-! RTCM corrections (R333, R334). -/

/-- One bit through CRC-24Q. -/
def crcBit (c : Nat) : Nat :=
  let d := c * 2
  if d / 2 ^ 24 % 2 = 1 then (d ^^^ 0x864CFB) % 2 ^ 24 else d % 2 ^ 24

/-- One byte through CRC-24Q. -/
def crcByte (c : Nat) (b : Byte) : Nat :=
  crcBit (crcBit (crcBit (crcBit (crcBit (crcBit (crcBit (crcBit (c ^^^ b.toNat * 2 ^ 16))))))))

/-- PRESUMED, log entry 138. -/
def crc24 (bs : List Byte) : Nat := bs.foldl crcByte 0

/-- The frames of a byte stream, each with its CRC checked, and the bytes that remain: preamble 0xD3, ten bits of length,
payload, three bytes of CRC. (DESIGN CHOICE, log entry 78) -/
def rtcmFrames : Nat → List Byte → List (List Byte × Bool) × List Byte
  | 0, bs => ([], bs)
  | _, [] => ([], [])
  | n + 1, b :: t =>
    if b ≠ 0xD3#8 then rtcmFrames n t
    else if t.length < 2 then ([], b :: t)
    else
      let len := (t.getD 0 0#8).toNat % 4 * 256 + (t.getD 1 0#8).toNat
      if t.length < len + 5 then ([], b :: t)
      else
        let c := t.drop (len + 2)
        let crc := (c.getD 0 0#8).toNat * 2 ^ 16 + (c.getD 1 0#8).toNat * 2 ^ 8 + (c.getD 2 0#8).toNat
        let r := rtcmFrames n (t.drop (len + 5))
        ((((t.drop 2).take len, crc24 ((b :: t).take (len + 3)) == crc)) :: r.1, r.2)

/-- The 12-bit number at bit 0 or bit 12 of a payload: message type and station ID. -/
def rtcmType (p : List Byte) : Nat := (p.getD 0 0#8).toNat * 16 + (p.getD 1 0#8).toNat / 16
def rtcmStation (p : List Byte) : Nat := (p.getD 1 0#8).toNat % 16 * 256 + (p.getD 2 0#8).toNat

/-- Reference station, observation and ephemeris messages the receiver uses (R333). -/
def rtcmRef (ty : Nat) : Bool := ty == 1005 || ty == 1006
def rtcmObs (ty : Nat) : Bool :=
  [1074, 1075, 1076, 1077, 1094, 1095, 1096, 1097, 1114, 1115, 1116, 1117, 1124, 1125, 1126, 1127].contains ty
def rtcmEph (ty : Nat) : Bool := [1019, 1042, 1044, 1045, 1046].contains ty

/-- Bits `i` to `i + n - 1` of a payload, the first the highest. -/
def payBits (p : List Byte) (i n : Nat) : Nat :=
  if 8 * p.length < i + n then 0
  else (p.foldl (fun a b => a * 256 + b.toNat) 0) / 2 ^ (8 * p.length - i - n) % 2 ^ n

/-- The reference position of messages 1005 and 1006: X, Y and Z. (PRESUMED, log entry 138) -/
def rtcmPos (p : List Byte) : List Nat := [payBits p 34 38, payBits p 74 38, payBits p 114 38]

/-- The constellation of an MSM, by bit of GNS_CFG.con. -/
def msmCon (ty : Nat) : Nat := if ty < 1080 then 4 else if ty < 1100 then 3 else if ty < 1120 then 1 else 2

/-- The signals of R324 in a constellation's signal mask. (PRESUMED, log entry 138) -/
def msmSignals (con : Nat) : List Nat :=
  (if con = 3 then [2, 3, 4, 5, 6] else if con = 2 then [30, 31, 32] else [2]) ++ [22, 23, 24]

/-- The numbers of the bits set in a mask of `n` bits, the first of them 1. -/
def maskIds (p : List Byte) (i n : Nat) : List Nat := ((List.range n).filter fun k => payBits p (i + k) 1 == 1).map (· + 1)

/-- The base's observations in an MSM: epoch, and the satellite and signal of each cell that R324 lists; the others are
ignored. (PRESUMED, log entry 138) -/
def msmObs (ty : Nat) (p : List Byte) : BaseObs :=
  let sigs := maskIds p 137 32
  let pairs := (maskIds p 73 64).flatMap fun a => sigs.map fun b => (a, b)
  let cells := ((pairs.zipIdx).filter fun x => payBits p (169 + x.2) 1 == 1).map Prod.fst
  ⟨payBits p 24 30, cells.filter fun c => (msmSignals (msmCon ty)).contains c.2, p⟩

/-- The satellite of an ephemeris message: 4 bits after the type in message 1044, 6 in the others. -/
def ephSat (ty : Nat) (p : List Byte) : Nat :=
  if ty = 1044 then (p.getD 1 0#8).toNat % 16 else (p.getD 1 0#8).toNat % 16 * 4 + (p.getD 2 0#8).toNat / 64

/-- Keep an ephemeris in place of that of the same satellite. -/
def ephPut (ty : Nat) (p : List Byte) (l : List (Nat × List Byte)) : List (Nat × List Byte) :=
  (ty, p) :: l.filter fun x => !(x.1 == ty && ephSat ty x.2 == ephSat ty p)

/-- A good frame. -/
def State.rtcmGood (s : State) (p : List Byte) : State :=
  let ty := rtcmType p
  let s1 := s.setGns { s.gns with crcFrom := none, crcTold := false }
  if !(rtcmRef ty || rtcmObs ty || rtcmEph ty) then s1.bump GNS_RTCM GNS_RTCM_ign_cnt
  else
    let s2 := s1.bump GNS_RTCM GNS_RTCM_rx_cnt
    if rtcmEph ty then s2.setGns { s2.gns with eph := ephPut ty p s2.gns.eph }
    else
      let g := s2.gns
      let id := rtcmStation p
      let other := g.base.any fun b => b != id
      let pos := if rtcmRef ty then rtcmPos p else if other then [] else g.basePos
      let moved := other || (rtcmRef ty && !g.basePos.isEmpty && g.basePos != pos)
      let old := if other then [] else g.baseObs
      let obs := if rtcmObs ty then (msmCon ty, msmObs ty p) :: old.filter (fun x => x.1 != msmCon ty) else old
      s2.setGns { g with base := some id, basePos := pos, baseObs := obs, newBase := g.newBase || moved }

/-- A frame that fails its CRC; 30 s of failures raise one note. -/
def State.rtcmBad (s : State) : State :=
  let s1 := s.bump GNS_RTCM GNS_RTCM_crc_cnt
  match s.gns.crcFrom with
  | none => s1.setGns { s1.gns with crcFrom := some s.cyc }
  | some c =>
    if !s.gns.crcTold && decide (c + sec 30 ≤ s.cyc) then (s1.setGns { s1.gns with crcTold := true }).note 0x0B30 0 else s1

/-- RTCM_IN. (DESIGN CHOICE, log entry 78) -/
def execRtcmIn (t : Nat) (r : Fin 64) (buf : List Byte) (s : State) : Out :=
  (s.at t).ringOp r 0x0B 0 1 fun s d =>
    s.takesBuf r d buf.length <|
      let bs := s.gns.rtcm ++ s.bufIn r d buf
      let f := rtcmFrames bs.length bs
      let s1 := f.1.foldl (fun s p => if p.2 then s.rtcmGood p.1 else s.rtcmBad) (s.setGns { s.gns with rtcm := f.2 })
      .next (s1.endOp r d.slot stDone d.len (f.1.filter Prod.snd).length)

/-! Snapshot capture (R345, R346). -/

/-- Streams in a mask. -/
def streams (mask : Nat) : Nat := mask % 2 + mask / 2 % 2 + mask / 4 % 2 + mask / 8 % 2

/-- SNAPSHOT. In the hold-up the receiver is off, and it does not start (R60). (DESIGN CHOICE, log entry 77) -/
def execSnapshot (t : Nat) (r : Fin 64) (s : State) : Out :=
  if s.pow.holdUp.isSome then .next (s.at t)
  else (s.at t).ringOp r 0x0B 0 2 fun s d =>
    let len := bits (d.par 8) 5 0
    let mask := bits (d.par 8) 11 8
    let start := u64 (d.par 9) (d.par 10)
    s.givesBuf r d <|
    if len < 2 ∨ 32 < len ∨ mask = 0 ∨ d.len < 64 + streams mask * len * 81840 then
      .next (s.endOp r d.slot stBadParam 0 0)
    else if s.gns.snap.isSome then .next (s.endOp r d.slot stBusy 0 0)
    else if 4 ≤ mask ∧ !s.bit GNS_CFG GNS_CFG_head then .next (s.endOp r d.slot stWrongState 0 0)
    else
      let now := start == 0 || decide (start ≤ s.mtime)
      let x : SnapRun := ⟨(r.val, d.slot), if now then s.mtime else start, len, mask, if now then some s.cyc else none, false, if now then some (s.gns.foffThen s.cyc) else none⟩
      .next ((s.startOp r d.slot).setGns { s.gns with snap := some x })

/-- SNAPSHOT_DONE: the capture goes to the buffer; in a hold-up the front ends have stopped (R60). `agc0` and `agc1` are
the gains of the front ends of antennas 0 and 1. (DESIGN CHOICE, log entry 77) -/
def execSnapshotDone (t : Nat) (agc0 agc1 : BitVec 16) (samples : List Byte) (s : State) : Out :=
  let s := s.at t
  match s.gns.snap with
  | none => .next s
  | some x =>
    if s.pow.holdUp.isSome || (x.begun.isNone && decide (s.mtime < x.start)) || decide (s.cyc < s.snapBegan x + ms x.len) then .next s
    else
      let n := streams x.mask * x.len * 81840
      let head := [lo32 x.start, hi32 x.start, packW [(x.len, 24), (x.mask, 20), (b2n x.stepped, 19)], word 163680000, agc1 ++ agc0,
        wInt (x.foff.getD (s.gns.foffThen (s.snapBegan x)))] ++ List.replicate 10 0#32
      let s1 := s.setGns { s.gns with snap := none }
      match s1.running x.op.1 x.op.2 with
      | none => .next s1
      | some d =>
        let bs := wordsBytes head ++ (List.range n).map fun i => samples.getD i 0#8
        .next ((s1.bufOutBytes x.op.1 d 0 bs).finish x.op false stDone (64 + n) 0)

/-- PVT_FILL and TIME_FILL (R347). -/
def execPvtFill (t : Nat) (r : Fin 64) (s : State) : Out := (s.at t).fill r 1 0x0B 64
def execTimeFill (t : Nat) (r : Fin 64) (s : State) : Out := (s.at t).fill r 2 0x0B 64

end Sys2Proof.Machine
end

