-- ==== Sys2Proof/Machine/DmaCore.lean ====
section
/-! DEFINITION. The DMA channels' shared operations (R386 to R390, R394): states, kicks, the chain. -/

namespace Sys2Proof.Machine

/-! Fields of a descriptor (R386). -/

def dBit (ws : List Word) (b : Nat) : Bool := bits (wAt ws 0) b b == 1
def dLen (ws : List Word) : Nat := bits (wAt ws 0) 23 0
def dSrc (ws : List Word) : Nat := u64 (wAt ws 2) (wAt ws 3)
def dDst (ws : List Word) : Nat := u64 (wAt ws 4) (wAt ws 5)
def dNext (ws : List Word) : Nat := u64 (wAt ws 6) (wAt ws 7)
abbrev dStop : Nat := 31
abbrev dIrq : Nat := 30
abbrev dEnd : Nat := 29
abbrev dSrcHost : Nat := 28
abbrev dDstHost : Nat := 27
abbrev dNxtHost : Nat := 26
abbrev dFixSrc : Nat := 25
abbrev dFixDst : Nat := 24

/-- The address of byte `i` from `a`; a fixed address stays within its 32 bytes. -/
def dAddr (a : Nat) (fix : Bool) (i : Nat) : Nat := if fix then a + i % 32 else a + i

/-- Bytes a side of the transfer spans. -/
def dSpan (ws : List Word) (fix : Bool) : Nat := if fix then min 32 (dLen ws) else dLen ws

/-! Channels. -/

def State.dch (s : State) (n : Nat) : DChan := cellGet (fun _ => DChan.init) s.dma n

def State.setDch (s : State) (n : Nat) (x : DChan) : State := { s with dma := cellSet (fun _ => DChan.init) s.dma n x }

/-- Set a channel's state; DMA_BUSY follows. -/
def State.setDmaState (s : State) (n st : Nat) : State :=
  let x := s.rd DMA_BUSY DMA_BUSY_busy
  (s.wr (DMA_CH_STAT n) DMA_CH_STAT_state st).wr DMA_BUSY DMA_BUSY_busy
    (x / 2 ^ (n + 1) * 2 ^ (n + 1) + b2n (st != dmaIdle) * 2 ^ n + x % 2 ^ n)

def State.dmaPause (s : State) (n : Nat) : Bool := s.bit (DMA_CH_CTL n) DMA_CH_CTL_pause

/-- The descriptor at an address, read in one request, is awaited (R388). -/
def State.dmaFetch (s : State) (n addr : Nat) (host : Bool) : State :=
  let s1 := ((s.setReg (DMA_CH_CUR_DESC_LO n) (lo32 addr)).setReg (DMA_CH_CUR_DESC_HI n) (hi32 addr)).setDch n
    { s.dch n with fetch := true, host := host, desc := none, put := 0, got := 0 }
  if host then s1.emit (.hostRead addr 64) else s1

/-- Channel `n` has become ready and takes the ports: channels of lower rank that held one are displaced, and of `l` those
that still had another (R390). (DESIGN CHOICE, log entry 83) -/
def State.dmaLeap (s : State) (n : Nat) (auto : Bool) (l : List Nat) : State :=
  let held := fun m => (List.range 32).all fun k => k == n || !s.dmaActive k || decide (s.dmaRank k ≤ s.dmaRank m)
  (List.range 32).foldl (fun x m =>
    if m ≠ n ∧ s.dmaActive m ∧ s.dmaRank m < s.dmaRank n ∧ ((auto && held m) || l.contains m) then
      x.bump (DMA_CH_CNT m) DMA_CH_CNT_lf_cnt
    else x) s

/-- NEXT as an address and whether it is the host's. -/
def State.dmaNext (s : State) (n : Nat) : Nat × Bool :=
  (s.rd (DMA_CH_NEXT_LO n) DMA_CH_NEXT_LO_addr * 64 + (s.reg (DMA_CH_NEXT_HI n)).toNat * 2 ^ 32,
    s.bit (DMA_CH_NEXT_LO n) DMA_CH_NEXT_LO_host)

/-- A segment begins at NEXT (R387); `l` are channels that lose a port besides those a start displaces. -/
def State.dmaStart (s : State) (n : Nat) (l : List Nat) : State :=
  ((s.setDmaState n dmaRun).dmaFetch n (s.dmaNext n).1 (s.dmaNext n).2).dmaLeap n true l

/-- May a segment begin? -/
def State.dmaReady (s : State) (n : Nat) : Bool :=
  s.dmaState n == dmaIdle && !s.dmaPause n && s.bit (DMA_CH_STAT n) DMA_CH_STAT_nv && s.bit (DMA_CH_CFG n) DMA_CH_CFG_en

/-- A pending kick starts a further segment as soon as it may (R387). -/
def State.dmaPend (s : State) (n : Nat) : State :=
  let p := s.rd (DMA_CH_STAT n) DMA_CH_STAT_pend
  if p ≠ 0 ∧ s.dmaReady n then (s.wr (DMA_CH_STAT n) DMA_CH_STAT_pend (p - 1)).dmaStart n [] else s

/-- A kick (R387). -/
def State.dmaKick (s : State) (n : Nat) (l : List Nat) : State :=
  let kov := s.bump (DMA_CH_CNT n) DMA_CH_CNT_kov_cnt
  if !s.bit (DMA_CH_CFG n) DMA_CH_CFG_en then kov
  else if s.dmaState n ≠ dmaIdle ∨ s.dmaPause n then
    (if s.rd (DMA_CH_STAT n) DMA_CH_STAT_pend = 255 then kov else s.bump (DMA_CH_STAT n) DMA_CH_STAT_pend)
  else if !s.bit (DMA_CH_STAT n) DMA_CH_STAT_nv then kov
  else s.dmaStart n l

/-! What a segment gives to the module (R389). -/

/-- The address of the descriptor in progress. -/
def State.dmaDescAddr (s : State) (n : Nat) : Nat := s.addr64 (DMA_CH_CUR_DESC_LO n) (DMA_CH_CUR_DESC_HI n)

/-- The destination of a descriptor as (address, bytes). -/
def dstArea (ws : List Word) : List (Nat × Nat) :=
  if dLen ws = 0 then [] else [(dDst ws, dSpan ws (dBit ws dFixDst))]

/-- The memory that a descriptor at address `a` takes: its own when `host` is false, and its destination in module memory. -/
def descAreas (a : Nat) (host : Bool) (ws : List Word) : List (Nat × Nat) :=
  (if host then [] else [(a, 64)]) ++
    (if dBit ws dDstHost then [] else dstArea ws)

/-- The descriptors that follow in module memory from address `a`, to the end of the segment and of `past` further ones. -/
def State.dmaFollow (s : State) : Nat → Nat → Nat → List Nat
  | 0, _, _ => []
  | f + 1, past, a =>
    let ws := s.memWords a 16
    let left := if dBit ws dStop then past - 1 else past
    a :: (if dBit ws dEnd || (dBit ws dStop && past == 0) || dBit ws dNxtHost then [] else s.dmaFollow f left (dNext ws))

/-- Where channel `n`'s kicked segments go on in module memory: the descriptors that follow the one in progress, or, of
kicks that wait in IDLE, those from NEXT on (R389). -/
def State.dmaAhead (s : State) (n : Nat) : List Nat :=
  let x := s.dch n
  let p := s.rd (DMA_CH_STAT n) DMA_CH_STAT_pend
  let f := s.mem.length + 2
  if s.dmaState n = dmaIdle then
    (if p = 0 ∨ !s.bit (DMA_CH_STAT n) DMA_CH_STAT_nv ∨ (s.dmaNext n).2 then [] else s.dmaFollow f (p - 1) (s.dmaNext n).1)
  else
    match x.desc with
    | some ws =>
      if dBit ws dEnd || (dBit ws dStop && p == 0) || dBit ws dNxtHost then []
      else s.dmaFollow f (if dBit ws dStop then p - 1 else p) (dNext ws)
    | none => if x.host then [] else s.dmaFollow f p (s.dmaDescAddr n)

/-- The descriptors of channel `n`'s segment, so far and to come. -/
def State.dmaSegment (s : State) (n : Nat) : List (Nat × Bool) :=
  (s.dch n).past ++ (s.dmaAhead n).map fun a => (a, false)

/-- Does channel `n`'s segment share a descriptor with another's (R398)? -/
def State.dmaShared (s : State) (n : Nat) : Bool :=
  (List.range 32).any fun m => m != n && s.dmaState m != dmaIdle
    && (s.dmaSegment m).any fun a => (s.dmaSegment n).contains a

/-- Of the memory of the descriptor at `a`, what the module writes: words 14 and 15 and the destination (R386, R389). -/
def descWrites (a : Nat) (host : Bool) (ws : List Word) : List (Nat × Nat) :=
  (if host then [] else [(a + 56, 8)]) ++ (if dBit ws dDstHost then [] else dstArea ws)

/-- What the descriptor in progress of channel `n` writes. -/
def State.dmaWrites (s : State) (n : Nat) : List (Nat × Nat) :=
  match (s.dch n).desc with
  | some ws => if s.dmaState n = dmaIdle then [] else descWrites (s.dmaDescAddr n) (s.dch n).host ws
  | none => []

/-- All that channel `n` holds until its kicked segments have ended. -/
def State.dmaAreas (s : State) (n : Nat) : List (Nat × Nat) :=
  (if s.dmaState n = dmaIdle then [] else (s.dch n).owned)
    ++ (s.dmaAhead n).flatMap fun a => descAreas a false (s.memWords a 16)

end Sys2Proof.Machine
end

