-- ==== Sys2Proof/Machine/Bus.lean ====
section
/-! DEFINITION. BAR0 accesses outside the register map, the BAR2 window and scrubbing (spec/01). -/

namespace Sys2Proof.Machine

/-- SCRUB_PASS (R33): what the scrubber's reads found. No item ends: the one that holds an error meets it at its own
read. (DESIGN CHOICE, log entry 24) -/
def execScrubPass (t : Nat) (ecc : List EccHit) (s : State) : Out := .next ((s.at t).eccAll ecc)

/-! BAR0 outside the register map (R25, R424). -/

/-- UNMAPPED_BAR0_ACCESS: it reads 0 or is ignored, with F3 note 0x00F1. -/
def execUnmappedBar0Access (t : Nat) (off : Nat) (s : State) : Out :=
  let s := s.at t
  if off % 4 ≠ 0 then .fault .registerAccess
  else if (regRow off).isSome || !s.readyReg 0 || decide (0x400000 ≤ off) then .next s
  else .next (s.note 0x00F1 off)

/-! The BAR2 window (R26 to R29, R34). -/

/-- The alignment an access of a length needs: the largest power of two that divides it. The spec says only "aligned".
(DESIGN CHOICE, log entry 107) -/
def lenAlign (len : Nat) : Nat :=
  if len % 64 = 0 then 64 else if len % 32 = 0 then 32 else if len % 16 = 0 then 16 else if len % 8 = 0 then 8
  else if len % 4 = 0 then 4 else if len % 2 = 0 then 2 else 1

/-- The window ends here (R26). -/
def bar2Top : Nat := 0x10000000

/-- An access longer than 64 bytes, unaligned, or across a 64-byte boundary (R34). -/
def bar2Bad (off len : Nat) : Bool :=
  len == 0 || decide (64 < len) || off % lenAlign len != 0 || decide (64 < off % 64 + len)

/-- SRAM ends here; above it nothing is populated (R26). -/
def sramTop : Nat := 0x401800000

/-- The module address of byte `i` of an access at window offset `off` (R27). -/
def State.bar2Addr (s : State) (off i : Nat) : Nat :=
  (s.rd SYS_BAR2_BASE SYS_BAR2_BASE_base * 0x200000 + off + i) % 2 ^ 36

/-- Does an access return 0 or drop bytes, because the window is shut or an address is unpopulated? -/
def State.bar2Oob (s : State) (off len : Nat) : Bool :=
  !s.bit SYS_BAR2_BASE SYS_BAR2_BASE_win_en || (List.range len).any fun i => decide (sramTop ≤ s.bar2Addr off i)

/-- The byte a BAR2 read returns: module-private memory and SRAM hold what the spec does not state. -/
def State.bar2Byte (s : State) (off i : Nat) : Byte :=
  let a := s.bar2Addr off i
  if !s.bit SYS_BAR2_BASE SYS_BAR2_BASE_win_en || decide (sramTop ≤ a) then 0#8
  else if a < sharedTop then s.memRd a
  else Config.freeByte (64 * s.free + i)

/-- Is a byte of an access in a poisoned codeword? -/
def State.bar2Poison (s : State) (off len : Nat) : Bool :=
  s.bit SYS_BAR2_BASE SYS_BAR2_BASE_win_en && (List.range len).any fun i => s.poisoned (s.bar2Addr off i) 1

/-- The completion of a read of poisoned data is flagged: the faults of the codewords it holds clear (R32). -/
def State.bar2Flag (s : State) (off len : Nat) : State :=
  if s.bar2Poison off len then (List.range len).foldl (fun x i => x.poisonEnds (s.bar2Addr off i) 1) s else s

/-- Does an access of module memory touch the recorder's mirror codeword (R445)? -/
def State.mirrorHit (s : State) (a n : Nat) : Bool :=
  s.bit REC_MIRROR REC_MIRROR_en && decide (a < 32 * s.rd REC_MIRROR REC_MIRROR_addr + 32)
    && decide (32 * s.rd REC_MIRROR REC_MIRROR_addr < a + n)

/-- BAR2_READ. -/
def execBar2Read (t : Nat) (off len : Nat) (ecc : List EccHit) (s : State) : Out :=
  let s := s.at t
  if bar2Top ≤ off ∨ !s.readyReg 0 then .next s
  else if bar2Bad off len then .fault .bar2Misuse
  else if s.bit SYS_BAR2_BASE SYS_BAR2_BASE_win_en && (List.range len).any fun i => s.mirrorHit (s.bar2Addr off i) 1 then
    .fault .recorderMisuse
  else
    let s1 := s.emit (.bar2Data ((List.range len).map (s.bar2Byte off)) (eccBad ecc || s.bar2Poison off len))
    let s2 := if s.bar2Oob off len then s1.bump SYS_BAR2_BASE SYS_BAR2_BASE_oob_cnt else s1
    .next ((s2.freeNext.eccDone ecc).bar2Flag off len)

/-- The codewords a peripheral's DMA intake and the recorder's mirror use (R405, R439, R462). -/
def State.portAreas (s : State) : List (Nat × Nat) :=
  [REC_MIRROR, UPD_INTAKE, DPY_INTAKE 0, DPY_INTAKE 1].filterMap fun o =>
    if s.bit o REC_MIRROR_en then some (32 * s.rd o REC_MIRROR_addr, 32) else none

/-- Memory the module may write at any time, which the host must not write (R29, R34, R389). -/
def State.moduleAreas (s : State) : List (Nat × Nat) :=
  s.ethAreas ++ s.portAreas ++ (List.range 32).flatMap s.dmaAreas ++ ((List.range 12).filter s.dispOn).map s.dispArea

/-- Memory that the module itself writes: destinations of DMA segments, completions, buffers that operations fill,
intakes, the mirror and display buffers (R29, R385). -/
def State.writtenAreas (s : State) : List (Nat × Nat) :=
  s.ethWritten ++ s.portAreas ++ (List.range 32).flatMap s.dmaWrites ++ ((List.range 12).filter s.dispOn).map s.dispArea

/-- BAR2_WRITE: bytes of shared DRAM are written, bytes of unpopulated addresses dropped. -/
def execBar2Write (t : Nat) (off : Nat) (bs : List Byte) (ecc : List EccHit) (s : State) : Out :=
  let s := s.at t
  let n := bs.length
  let on := s.bit SYS_BAR2_BASE SYS_BAR2_BASE_win_en
  if bar2Top ≤ off ∨ !s.readyReg 0 then .next s
  else if bar2Bad off n then .fault .bar2Misuse
  else if on && (List.range n).any (fun i => (decide (sharedTop ≤ s.bar2Addr off i) && decide (s.bar2Addr off i < sramTop))
      || inAreas s.moduleAreas (s.bar2Addr off i)) then .fault .bar2Misuse
  else
    let s1 :=
      if on then
        (List.range n).foldl (fun x i =>
          if s.bar2Addr off i < sharedTop then x.memWr (s.bar2Addr off i) (bs.getD i 0#8) else x) s
      else s
    let s2 := if s.bar2Oob off n then s1.bump SYS_BAR2_BASE SYS_BAR2_BASE_oob_cnt else s1
    .next ((if s.bar2Poison off n then (List.range n).foldl (fun x i => x.poisonEnds (s.bar2Addr off i) 1) s2 else s2).eccDone ecc)

/-- SYS_BAR2_BASE_WRITE (R26, R28): later accesses use the new window and oob_cnt is cleared. -/
def execSysBar2BaseWrite (t : Nat) (v : Word) (s : State) : Out :=
  let s := s.at t
  if !s.readyReg SYS_BAR2_BASE then .next (s.ignored SYS_BAR2_BASE)
  else if bits v 22 15 ≠ 0 then .fault .reservedField
  else .next (s.setReg SYS_BAR2_BASE (v &&& 0x80007FFF#32))

end Sys2Proof.Machine
end

