-- ==== Sys2Proof/Machine/Net.lean ====
section
/-! DEFINITION. The Ethernet switch and the modem root port (spec/15). -/

namespace Sys2Proof.Machine

def State.netRuns (s : State) : Bool := s.passed 12

/-! The switch. -/

/-- SWITCH_FRAME_INGRESS: `bs` is the frame without its FCS. (DEDUCED, log entry 22) -/
def execSwitchFrameIngress (t : Nat) (k : Fin 8) (bs : List Byte) (s : State) : Out :=
  let s := s.at t
  if !s.netRuns || !s.netUp k || decide (bs.length < 14) then .next s else .next (s.ingress k bs)

/-- ADDRESS_AGE_OUT. -/
def execAddressAgeOut (t : Nat) (s : State) : Out := .next (s.at t).ageOut

/-- GATE_INTERVAL_END. -/
def execGateIntervalEnd (t : Nat) (k : Fin 7) (s : State) : Out :=
  let s := s.at t
  if !s.netRuns then .next s
  else
    .next (((s.portCatch k).gateEnd k).portCatch k)

/-- The hand-over of port `k`, where one is due. -/
def State.gclDue (s : State) (k : Nat) : State :=
  let p := s.nport k
  match p.oper with
  | none => s.gclFirst k
  | some g =>
    if s.mtime < p.endM then (if p.idx = 0 ∧ p.startCyc = s.cyc ∧ s.gclPend p then s.gclStart k p.startM else s)
    else if p.cut || decide (g.es.length ≤ p.idx + 1) then s.gclStart k p.endM else s

/-- GCL_HANDOVER (R379). -/
def execGclHandover (t : Nat) (k : Fin 7) (s : State) : Out :=
  let s := s.at t
  if !s.netRuns then .next s else .next (((s.portCatch k).gclDue k).portCatch k)

/-- Has a period of `n` cycles passed since the last time? -/
def State.since (s : State) (last : Option Nat) (n : Nat) : Bool :=
  match last with
  | none => true
  | some c => decide (c + n ≤ s.cyc)

/-- What the grandmaster sends at port `k`: Sync with its stamp, and what it advertises (R344).
(DESIGN CHOICE, log entry 139) -/
def State.syncPort (s : State) (k : Nat) : State :=
  (s.emit (.sync k s.netStamp)).emit (.announce k s.clockClass (clockAccuracy (s.reg GNS_UNC).toNat) 0x20)

/-- GPTP_SYNC_SEND (R377). -/
def execGptpSyncSend (t : Nat) (s : State) : Out :=
  let s := s.at t
  if !s.netRuns || !s.since s.net.syncAt (ms 125) then .next s
  else
    let l := (List.range 7).filter s.netUp
    let s1 := { s with net := { s.net with syncAt := some s.cyc } }
    .next (l.foldl State.syncPort s1.portsCatch)

/-- PDELAY_MEASURE (R377). -/
def execPdelayMeasure (t : Nat) (s : State) : Out :=
  let s := s.at t
  if !s.netRuns || !s.since s.net.pdAt (sec 1) then .next s
  else
    let l := (List.range 7).filter s.netUp
    let s1 := { s with net := { s.net with pdAt := some s.cyc } }
    .next (l.foldl (fun x k => x.emit (.pdelay k s.netStamp)) s1.portsCatch)

/-- ANNOUNCE_RECEIVED (R377). -/
def execAnnounceReceived (t : Nat) (k : Fin 7) (s : State) : Out :=
  let s := s.at t
  if !s.netRuns || !s.netUp k then .next s else .next (s.bump (NET_PSTAT k) NET_PSTAT_ann_cnt)

/-- SVC_DET_EDGE (R374): P3's link training restarts; before stage 12 the level is only kept. -/
def execSvcDetEdge (t : Nat) (grounded : Bool) (s : State) : Out :=
  let s := s.at t
  let s1 := { s with pow := { s.pow with svc := grounded } }
  if s.pow.svc = grounded ∨ !s.netRuns then .next s1
  else .next (((s1.portCatch 3).wr (NET_PSTAT 3) NET_PSTAT_svc (b2n grounded)).portTrain 3)

/-- ETH_LINK_CHANGE (R81). -/
def execEthLinkChange (t : Nat) (k : Fin 7) (up : Bool) (s : State) : Out :=
  let s := s.at t
  if !s.netRuns || (up && (!s.netEn k || s.pow.holdUp.isSome)) then .next s else .next (((s.portCatch k).netLink k up).portCatch k)

/-- A pvid R385 forbids. -/
def netPortBad (v : Word) : Bool := NET_PORT_pvid.get v == 0 || NET_PORT_pvid.get v == 4095

/-- A write of NET_PORTk: a disabled port has no link; `spd` reads 0 but for P6 (R384). -/
def State.netPortWrite (s : State) (k : Nat) (v : Word) : State :=
  let v1 := if k = 6 then v else NET_PORT_spd.put v 0
  let s1 := s.store (NET_PORT k) v1
  if !s1.netEn k then (s1.portCatch k).netLink k false else if s.netEn k then s1 else s1.portTrain k

/-- Do the set-up fields of a write change while the port is enabled and stays so (R384)? -/
def State.netPortLocked (s : State) (k : Nat) (v : Word) : Bool :=
  let old := s.reg (NET_PORT k)
  s.netEn k && NET_PORT_en.get v == 1
    && (NET_PORT_role.get v != NET_PORT_role.get old || NET_PORT_pvid.get v != NET_PORT_pvid.get old
      || (k == 6 && NET_PORT_spd.get v != NET_PORT_spd.get old))

/-! Ring operations (R381). -/

/-- NET_SEND: one frame entering at P7. -/
def execNetSend (t : Nat) (r : Fin 64) (buf : List Byte) (s : State) : Out :=
  (s.at t).ringOp r 0x0D 0 1 fun s d =>
    s.takesBuf r d buf.length <|
    if d.len = 0 then .next (s.endOp r d.slot stDone 0 0)
    else if d.len < 14 ∨ 2000 < d.len then .next (s.endOp r d.slot stBadParam 0 0)
    else .next ((s.ingress 7 (s.bufIn r d buf)).endOp r d.slot stDone d.len 0)

/-- NET_FILL. -/
def execNetFill (t : Nat) (r : Fin 64) (s : State) : Out := (s.at t).fill r 1 0x0D 1

/-- A gate entry R385 forbids. -/
def gateBad (e : Word × Word) : Bool :=
  bits e.1 23 0 != 0 || decide (e.2.toNat < 1000) || decide (100000000 < e.2.toNat)

/-- The entries of a buffer. -/
def gatePairs : List Word → List (Word × Word)
  | a :: b :: t => (a, b) :: gatePairs t
  | _ => []

/-- GCL_WRITE. -/
def execGclWrite (t : Nat) (r : Fin 64) (buf : List Word) (s : State) : Out :=
  (s.at t).ringOp r 0x0D 2 0x10 fun s d =>
    let k := bits (d.par 8) 2 0
    let seq := (s.reg NET_HO_SEQ).toNat
    if d.len % 8 ≠ 0 then .fault .netMisuse else
    s.takesBuf r d (4 * buf.length) <|
    if d.len = 0 then .next (s.endOp r d.slot stDone 0 seq)
    else if k = 7 ∨ 1024 < d.len then .next (s.endOp r d.slot stBadParam 0 seq)
    else
      let l := gatePairs (s.bufWords r d buf)
      let g : Gcl := ⟨u64 (d.par 9) (d.par 10), l.map fun e => (bits e.1 31 24, e.2.toNat)⟩
      if l.any gateBad || decide (1000000000 < g.cycle) then .fault .netMisuse
      else
        let p := s.nport k
        let p1 := { p with adm := g, wroteAt := s.cyc, prevAdm := if p.wroteAt = s.cyc then p.prevAdm else p.adm }
        let p2 := if bits (d.par 8) 7 7 = 1 then { p1 with
            pending := true, pendAt := s.cyc, pendM := s.mtime
            prevPend := if p.pendAt = s.cyc then p.prevPend else p.pending }
          else p1
        let s1 := (s.setNport k p2).wr (NET_PSTAT k) NET_PSTAT_pend (b2n p2.pending)
        .next (s1.endOp r d.slot stDone d.len seq)

/-- The filters of a buffer, four words each. -/
def filterQuads : List Word → List (List Word)
  | a :: b :: c :: e :: t => [a, b, c, e] :: filterQuads t
  | _ => []

/-- Two enabled filters with the same address and VID (R385). -/
def State.filtersClash (s : State) : Bool :=
  (List.range 256).any fun i => (s.sfilt i).en && (List.range i).any fun j =>
    (s.sfilt j).en && (s.sfilt j).vid == (s.sfilt i).vid && (s.sfilt j).mac == (s.sfilt i).mac

/-- SF_WRITE: a filter written has a full meter; a blocked one stays blocked. (DESIGN CHOICE, log entry 81) -/
def execSfWrite (t : Nat) (r : Fin 64) (buf : List Word) (s : State) : Out :=
  (s.at t).ringOp r 0x0D 2 0x11 fun s d =>
    let first := bits (d.par 8) 7 0
    if d.len % 16 ≠ 0 then .fault .netMisuse else
    s.takesBuf r d (4 * buf.length) <|
    if d.len = 0 then .next (s.endOp r d.slot stDone 0 0)
    else if 256 < first + d.len / 16 then .next (s.endOp r d.slot stBadParam 0 0)
    else
      let l := filterQuads (s.bufWords r d buf)
      let s1 := (l.zipIdx first).foldl (fun x e =>
        let f : SFilter := ⟨e.1, (x.sfilt e.2).blocked, 0, s.cyc⟩
        x.setSfilt e.2 { f with tok := f.burst }) s
      if l.any (fun q => bits (wAt q 0) 29 12 != 0) || s1.filtersClash then .fault .netMisuse
      else .next (s1.endOp r d.slot stDone d.len 0)

/-- UNBLOCK. -/
def execUnblock (t : Nat) (r : Fin 64) (s : State) : Out :=
  (s.at t).ringOp r 0x0D 2 0x12 fun s d =>
    let i := bits (d.par 8) 7 0
    .next ((s.setSfilt i { s.sfilt i with blocked := false }).endOp r d.slot stDone 0 0)

/-! The modem root port (R383). -/

def State.rpUp (s : State) : Bool := s.bit NET_RP_CFG NET_RP_CFG_en && s.bit NET_RP_STAT NET_RP_STAT_link

/-- RP_DATA_READ: `v` is what the modem answers, none for Unsupported Request or Completer Abort. -/
def execRpDataRead (t : Nat) (v : Option Word) (s : State) : Out :=
  let s := s.at t
  if !s.netRuns then .next s
  else if (s.reg NET_RP_ADDR).toNat % 4 ≠ 0 then .fault .netMisuse
  else
    let x := if s.rpUp then v.getD 0xFFFFFFFF#32 else 0xFFFFFFFF#32
    .next ((s.setReg NET_RP_DATA x).emit
      (.modem false (s.rd NET_RP_CFG NET_RP_CFG_space) (s.reg NET_RP_ADDR).toNat x))

/-- RP_DATA_WRITE: with no link there is nothing to write to. -/
def execRpDataWrite (t : Nat) (v : Word) (s : State) : Out :=
  let s := s.at t
  if !s.netRuns then .next (s.ignored NET_RP_DATA)
  else if (s.reg NET_RP_ADDR).toNat % 4 ≠ 0 then .fault .netMisuse
  else
    let s1 := s.setReg NET_RP_DATA v
    .next (if s.rpUp then s1.emit (.modem true (s.rd NET_RP_CFG NET_RP_CFG_space) (s.reg NET_RP_ADDR).toNat v) else s1)

/-- MODEM_MEMORY_REQUEST: a write of `bs`, or a read of `len` bytes. A read of poisoned memory returns no data; a write to
a buffer the module writes is misuse (R385). (DESIGN CHOICE, log entry 97) -/
def execModemMemoryRequest (t : Nat) (write : Bool) (addr len : Nat) (bs : List Byte) (s : State) : Out :=
  let s := s.at t
  let n := if write then bs.length else len
  if !s.netRuns || !s.rpUp then .next s
  else if sharedTop < addr + n then
    .next (if write then s.note 0x0D30 0 else (s.note 0x0D30 0).emit (.modemData none))
  else if write then
    (if areasMeet [(addr, n)] s.writtenAreas then .fault .netMisuse else .next (s.memStore addr bs))
  else if s.poisoned addr n then .next ((s.poisonEnds addr n).emit (.modemData none))
  else .next (s.emit (.modemData (some (s.memBytes addr n))))

/-- MODEM_MSI. -/
def execModemMsi (t : Nat) (s : State) : Out :=
  let s := s.at t
  if !s.netRuns || !s.rpUp then .next s else .next (s.emit (.msix (s.rd NET_RP_CFG NET_RP_CFG_vector)))

def State.rpRetry (s : State) (c : Option Nat) : State := { s with net := { s.net with rpRetry := c } }

/-- The modem link is down. -/
def State.rpDown (s : State) : State := (s.wr NET_RP_STAT NET_RP_STAT_link 0).wr NET_RP_STAT NET_RP_STAT_gen 0

/-- MODEM_LINK_LOSS. -/
def execModemLinkLoss (t : Nat) (s : State) : Out :=
  let s := s.at t
  if !s.netRuns || !s.rpUp then .next s
  else .next (((s.rpDown.bump NET_RP_STAT NET_RP_STAT_retry_cnt).note 0x0D40 0).rpRetry (some (s.cyc + sec 5)))

/-- MODEM_LINK_RETRY: the link trains to `gen`, 0 when it fails. -/
def execModemLinkRetry (t : Nat) (gen : Fin 5) (s : State) : Out :=
  let s := s.at t
  match s.net.rpRetry with
  | none => .next s
  | some c =>
    if !s.netRuns || !s.bit NET_RP_CFG NET_RP_CFG_en || decide (s.cyc < c) then .next s
    else if gen.val = 0 then .next (s.rpRetry (some (s.cyc + sec 5)))
    else .next (((s.wr NET_RP_STAT NET_RP_STAT_link 1).wr NET_RP_STAT NET_RP_STAT_gen gen).rpRetry none)

/-- A write of NET_RP_CFG: the port goes on and its link trains, or it goes off (R384). -/
def State.rpWrite (s : State) (v : Word) : State :=
  let was := s.bit NET_RP_CFG NET_RP_CFG_en
  if was then
    let s1 := s.wr NET_RP_CFG NET_RP_CFG_en (NET_RP_CFG_en.get v)
    if NET_RP_CFG_en.get v = 0 then s1.rpDown.rpRetry none else s1
  else
    let s1 := s.store NET_RP_CFG v
    if NET_RP_CFG_en.get v = 1 then s1.rpRetry (some s.cyc) else s1

end Sys2Proof.Machine
end

