-- ==== Sys2Proof/Machine/Recorder.lean ====
section
/-! DEFINITION. Commands of fault collection and the recorder (R427, R430, R433 to R444). -/

namespace Sys2Proof.Machine

def State.setRecr (s : State) (r : Recorder) : State := { s with recr := r }

/-! Fault collection. -/

/-- FLT_CFG.plim as it stands in this cycle, in cycles; 0 acts as 1 (R427). -/
def State.plim (s : State) : Nat := sec (max 1 (s.rdThen FLT_CFG FLT_CFG_plim))

/-- FAULT_PERSISTING (R427): the earliest open window of this F2 fault that has not been told. -/
def execFaultPersisting (t : Nat) (code detail : Nat) (s : State) : Out :=
  let s := s.at t
  let due := fun w : FltWin =>
    w.code == code && w.detail == detail && w.cls == 2 && !w.told && decide (w.since + s.plim ≤ s.cyc)
  match s.flt.wins.findIdx? due with
  | none => .next s
  | some i =>
    if !s.passed 10 then .next s
    else
      let s1 := { s with flt := { s.flt with wins := modAt (fun w => { w with told := true }) i s.flt.wins } }
      .next (s1.fltPut code 2 detail 2 false)

/-- CROAK_TOGGLE (R430). -/
def execCroakToggle (t : Nat) (s : State) : Out :=
  let s := s.at t
  if !s.bit FLT_STAT FLT_STAT_alive || decide (s.cyc < s.flt.croakAt) then .next s
  else
    let s1 := s.wr FLT_STAT FLT_STAT_level (1 - s.rd FLT_STAT FLT_STAT_level)
    .next { s1 with flt := { s1.flt with croakAt := s1.flt.croakAt + 100000 } }

/-- FAULT_FILL (R442). -/
def execFaultFill (t : Nat) (r : Fin 64) (s : State) : Out := (s.at t).fill r 0 0x10 32

/-! Flushes (R435 to R437, R439). -/

/-- A GAP entry of the mirror, for `n` entries not offered from `first` on; the spec gives it no number. -/
def State.mirrorHead (s : State) (n first : Nat) : RecEntry :=
  ⟨(Config.freeWord s.free).toNat,
    entryHead s.mtime 8 4 (Config.freeWord s.free).toNat ++ [lo32 n, lo32 first, 0#32, 0#32]⟩

/-- A flush begins with what the buffer holds; with the mirror set, the block is offered there too.
(DESIGN CHOICE, log entry 87) -/
def State.flushBegin (s : State) : State :=
  let r := s.recr
  let gap := if r.mirrorGap = 0 then [] else [s.mirrorHead r.mirrorGap r.mirrorFirst]
  let on := s.bitThen REC_CFG REC_CFG_mirror
  let m := if on then gap ++ r.buf else []
  (s.setRecr { r with
    flush := some r.buf.length, flushDue := false, flushRun := r.flushOps, flushOps := [], mirror := m, mirrorOff := 0
    mirrorGap := if on then 0 else r.mirrorGap }).freeNext

/-- FLUSH_PERIOD_END. -/
def execFlushPeriodEnd (t : Nat) (s : State) : Out :=
  let s := s.at t
  let per := s.rdThen REC_CFG REC_CFG_per
  if per = 0 ∨ !s.passed 10 ∨ s.cyc < s.recr.perFrom + sec per then .next s
  else .next (s.setRecr { s.recr with flushDue := true, perFrom := s.cyc })

/-- The history store, 1 GiB (R432). -/
def storeCap : Nat := 0x40000000

/-- Store one entry, or count it lost; the first that does not fit sets full (R436). -/
def Recorder.keep (r : Recorder) (e : RecEntry) : Recorder :=
  if r.full ∨ storeCap < r.storeSize + 4 * e.ws.length then { r with full := true, lost := r.lost + 1 }
  else { r with store := r.store ++ [e] }

/-- Discard the history and the buffer and write the CLEAR entry (R441). -/
def State.recClear (s : State) (issued : Nat) : State :=
  let r := s.recr
  let all := r.store ++ r.buf
  let last := match all.getLast? with
    | some e => e.seq
    | none => 0xFFFFFFFF
  let e : RecEntry := ⟨0, entryHead s.mtime 6 4 0 ++ [lo32 all.length, lo32 last, lo32 issued, hi32 issued]⟩
  s.setRecr { r with store := [e], buf := [], nextSeq := 1, full := false, lost := 0, gap := 0, gapFirst := 0 }

/-- Entries reach the store; the first that does not fit raises its note (R436). -/
def State.storeEntries (s : State) (l : List RecEntry) : State :=
  let s1 := s.setRecr (l.foldl Recorder.keep s.recr)
  if s1.recr.full && !s.recr.full then s1.note 0x1101 0 else s1

/-- A flush ends: its entries are in flash, its operations complete, what the mirror offered is offered no longer, and the
CLEARs that wait for it act.
(DESIGN CHOICE, log entry 87) -/
def State.flushFinish (s : State) : State :=
  match s.recr.flush with
  | none => s
  | some n =>
    let r := s.recr
    let s1 := ((s.setRecr { r with
      buf := r.buf.drop n, flush := none, flushRun := [], mirror := [], mirrorOff := 0, clearOps := []
      mirrorGap := r.mirrorGap + r.mirror.length
      mirrorFirst := if r.mirrorGap = 0 then (match r.mirror.head? with
        | some e => e.seq
        | none => 0) else r.mirrorFirst }).lineDrop 3).storeEntries (r.buf.take n)
    let s2 := r.flushRun.foldl (fun s o => s.finish o false stDone 0 0) s1
    r.clearOps.foldl (fun s c => (s.recClear c.2).finish c.1 false stDone 96 0) s2

/-- FLUSH_END. -/
def execFlushEnd (t : Nat) (s : State) : Out := .next (s.at t).flushFinish

/-! Ring operations (R440, R441, R443). -/

/-- The longest run of whole entries that fits `len` bytes. -/
def takeFit : Nat → List RecEntry → List RecEntry
  | _, [] => []
  | len, e :: t => if 4 * e.ws.length ≤ len then e :: takeFit (len - 4 * e.ws.length) t else []

/-- The words of an entry as READ returns it; bit 15 of word 2 tells a damaged one. -/
def RecEntry.out (e : RecEntry) (damaged : Bool) : List Word :=
  if damaged then modAt (fun w => w ||| 0x8000#32) 2 e.ws else e.ws

/-- REC_READ: `ecc` holds the errors the flash reads find, each with the number of the entry it is in. -/
def execRecRead (t : Nat) (r : Fin 64) (ecc : List (Nat × EccHit)) (s : State) : Out :=
  (s.at t).ringOp r 0x11 0 1 fun s d =>
    let from' := (d.par 8).toNat
    let l := s.recr.store.filter fun e => decide (from' ≤ e.seq)
    let fit := takeFit d.len l
    let hits := ecc.filter fun x => x.2.region.val == 6
    s.givesBuf r d <|
    if d.len = 0 then .next (s.endOp r d.slot stDone 0 0)
    else if l.isEmpty then .next (s.endOp r d.slot stDone 0 from')
    else if fit.isEmpty then .next (s.endOp r d.slot stBadParam 0 0)
    else
      let bad := fun q => hits.any fun x => x.1 == q && !x.2.correctable
      let ws := fit.flatMap fun e => e.out (bad e.seq)
      let next := match l[fit.length]? with
        | some e => e.seq
        | none => match fit.getLast? with
          | some e => e.seq + 1
          | none => from'
      .next (((s.bufOut r d 0 ws).eccAll (hits.map Prod.snd)).endOp r d.slot stDone (4 * ws.length) next)

/-- FLUSH: it completes when the flush it starts, or the one that waits, ends. -/
def execFlush (t : Nat) (r : Fin 64) (s : State) : Out :=
  (s.at t).ringOp r 0x11 0 2 fun s d =>
    .next ((s.startOp r d.slot).setRecr { s.recr with
      flushDue := true, flushOps := s.recr.flushOps ++ [(r.val, d.slot)] })

/-- MARK. -/
def execMark (t : Nat) (r : Fin 64) (buf : List Word) (s : State) : Out :=
  (s.at t).ringOp r 0x11 0 3 fun s d =>
    s.takesBuf r d (4 * buf.length) <|
    if d.len ≠ 16 then .next (s.endOp r d.slot stBadParam 0 0)
    else .next ((s.addEntry s.mtime 7 (s.bufWords r d buf)).1.endOp r d.slot stDone 16 0)

/-- SNAP; the spec gives no status for one that is dropped. (DESIGN CHOICE, log entry 128) -/
def execSnap (t : Nat) (r : Fin 64) (s : State) : Out :=
  (s.at t).ringOp r 0x11 0 4 fun s d =>
    let i := bits (d.par 8) 5 0
    if !s.bitThen (REC_TRG_A i) REC_TRG_A_en then .next (s.endOp r d.slot stWrongState 0 0)
    else
      let a := s.snap i 0xFFFFFFFF
      .next (if a.2 then a.1.endOp r d.slot stDone 0 0
        else (a.1.snapNotes 1).freeNext.endOp r d.slot (freeStatus s) 0 0)

/-- CHALLENGE (R440): nonce, SYS_ID, serial and the MTIME of its expiry, filled up to 64 bytes with what the spec does
not state. -/
def execChallenge (t : Nat) (r : Fin 64) (s : State) : Out :=
  (s.at t).ringOp r 0x11 0 5 fun s d =>
    s.givesBuf r d <|
    if d.len < 64 then .next (s.endOp r d.slot stBadParam 0 0)
    else
      let exp := (s.mtime + 60000000000) % 2 ^ 64
      let f := s.freeWords 9
      let ws := f.take 8 ++ [s.reg SYS_ID] ++ (List.range 4).map Config.serial ++ [lo32 exp, hi32 exp] ++ f.drop 8
      let s1 := (s.freeAdd 9).setRecr { s.recr with chal := some (s.mtime, s.cyc + sec 60) }
      .next ((s1.bufOut r d 0 ws).endOp r d.slot stDone 64 0)

/-- CHALLENGE_EXPIRY. -/
def execChallengeExpiry (t : Nat) (s : State) : Out :=
  let s := s.at t
  match s.recr.chal with
  | none => .next s
  | some c => if s.cyc < c.2 then .next s else .next (s.setRecr { s.recr with chal := none })

/-- CLEAR (R440, R441): `ok` is the result of the signature check. -/
def execClear (t : Nat) (r : Fin 64) (ok : Bool) (s : State) : Out :=
  (s.at t).ringOp r 0x11 0 6 fun s d =>
    s.takesBuf r d d.len <|
    if d.len ≠ 96 then .next (s.endOp r d.slot stBadParam 0 0)
    else
      match s.recr.chal with
      | none => .next (s.endOp r d.slot stWrongState 0 0)
      | some c =>
        if s.cyc ≥ c.2 then .next (s.endOp r d.slot stWrongState 0 0)
        else
          let s1 := s.setRecr { s.recr with chal := none }
          if !ok then .next ((s1.note 0x1103 0).endOp r d.slot stBadParam 0 0)
          else if s.recr.flush.isSome then
            .next ((s1.startOp r d.slot).setRecr { s1.recr with clearOps := s1.recr.clearOps ++ [((r.val, d.slot), c.1)] })
          else .next ((s1.recClear c.1).endOp r d.slot stDone 96 0)

end Sys2Proof.Machine
end

