-- ==== Sys2Proof/Machine/Rings.lean ====
section
/-! DEFINITION. The ring engine's commands (spec/04): doorbell lines, descriptors, completions, starting and stopping
a ring, Ethernet carriage. A command whose condition does not hold does not happen: the state stays, but for the
time. -/

namespace Sys2Proof.Machine

/-! Tails and descriptors. -/

/-- `k` slots from pointer `p` as (first slot, number): at most eight a request, none past the ring's end (R94). -/
def descChunks (n : Nat) : Nat → Nat → Nat → List (Nat × Nat)
  | 0, _, _ => []
  | f + 1, p, k =>
    if k = 0 then []
    else
      let c := min (min 8 k) (2 ^ n - p % 2 ^ n)
      (p % 2 ^ n, c) :: descChunks n f (p + c) (k - c)

/-- Is this slot word misuse for ring `r` (R91, R111)? -/
def State.tailBad (s : State) (r : Nat) (w : Word) : Bool :=
  let n := s.ringLog r
  let p := bits w 15 0 + bits w 16 16 * 2 ^ n
  bits w 31 17 != 0 || decide (2 ^ n ≤ bits w 15 0)
    || decide (2 ^ n < ptrDist n (s.ringHead r) p)
    || decide (ptrDist n (s.ringHead r) p < ptrDist n (s.ringHead r) (s.ringTail r))

/-- Take a ring's tail from its slot word; over PCIe the reads of the new descriptors go out (R94). -/
def State.seeTail (s : State) (r : Nat) (w : Word) : State :=
  let n := s.ringLog r
  let old := s.ringTail r
  let p := bits w 15 0 + bits w 16 16 * 2 ^ n
  let k := ptrDist n old p
  let s1 := s.setPtr (RNG_TAIL r) n p
  if s.ringEth r then s1
  else (descChunks n k old k).foldl (fun s c => s.emit (.hostRead (s.ringDesc r + 64 * c.1) (64 * c.2))) s1

/-- The running rings with carriage `eth` on line `m`. -/
def State.lineRings (s : State) (m : Nat) (eth : Bool) : List Nat :=
  (List.range 64).filter fun r =>
    s.ringState r == rsRunning && s.ringEth r == eth && s.rd (RNG_CFG r) RNG_CFG_line == m

/-- The line's words have been seen: every running ring on it takes its tail (R92). -/
def State.evalLine (s : State) (m : Nat) (eth : Bool) (slots : List Word) : Out :=
  let w := fun r => wAt slots (s.rd (RNG_CFG r) RNG_CFG_slot)
  if (s.lineRings m eth).any fun r => s.tailBad r (w r) then .fault .ringMisuse
  else .next ((s.lineRings m eth).foldl (fun s r => s.seeTail r (w r)) s)

def State.dbl (s : State) (m : Nat) : Nat := s.addr64 (RNG_DBL_LO m) (RNG_DBL_HI m)

/-- DOORBELL_LINE_READ (R92): one 64-byte request for the whole line; an earlier one may still be under way.
(DESIGN CHOICE, log entry 96) -/
def execDoorbellLineRead (t : Nat) (m : Fin 4) (s : State) : Out :=
  let s := s.at t
  if (s.lineUs m).isNone then .next s
  else .next ((s.setLineOut m (s.lineOut m + 1)).emit (.hostRead (s.dbl m) 64))

/-- LINE_READ_RETURN (R94). -/
def execLineReadReturn (t : Nat) (m : Fin 4) (slots : List Word) (s : State) : Out :=
  let s := s.at t
  if s.lineOut m = 0 then .next s else (s.setLineOut m (s.lineOut m - 1)).evalLine m false slots

/-- Is ring `r` in a stall of TST_BP, in which it reads no descriptor and writes no completion (R491)? -/
def State.ringStalled (s : State) (r : Nat) : Bool := s.stalled (31 - s.rd (RNG_CFG r) RNG_CFG_class)

/-- The fault of a block whose misuse list names a FILL on a submit function or ring and a submit opcode on a receive
function (R275, R294, R323, R349, R371, R385, R445). -/
def wayMisuse (tgt : Nat) : Option Fault :=
  if tgt = 0x07 ∨ tgt = 0x08 then some .sensingMisuse
  else if tgt = 0x09 then some .settingLoopMisuse
  else if tgt = 0x0A then some .visionMisuse
  else if tgt = 0x0B then some .gnssMisuse
  else if tgt = 0x0C then some .canMisuse
  else if tgt = 0x0D then some .netMisuse
  else if tgt = 0x10 ∨ tgt = 0x11 then some .recorderMisuse
  else none

/-- Is function `func` of block `tgt` a submit function of a block with such a list? -/
def isSubmit (tgt func : Nat) : Bool :=
  (tgt == 0x08 && func == 1) || ((tgt == 0x09 || tgt == 0x0A || tgt == 0x0B || tgt == 0x11) && func == 0)
    || (tgt == 0x0C && decide (8 ≤ func)) || (tgt == 0x0D && (func == 0 || func == 2))

/-- An opcode that the misuse lists forbid on a function of a block or on a ring of its direction: opcode 1 is FILL where
the ring receives, and a submit opcode where it does not (R275, R294, R323, R349, R371, R385, R445, R471). -/
def opMisuse (tgt func dir op : Nat) : Option Fault :=
  if op = 1 ∧ (if dir = 1 then isSubmit tgt func else isRecv tgt func) = true then wayMisuse tgt
  else if tgt = 0x08 ∧ ((func = 1 ∧ op = 1) ∨ (op = 0x10 ∧ (func ≠ 1 ∨ dir = 1))) then some .sensingMisuse
  else if tgt = 0x09 ∧ func = 1 ∧ 2 ≤ op ∧ op ≤ 4 then some .settingLoopMisuse
  else if tgt = 0x0A ∧ 1 ≤ func ∧ func ≤ 6 ∧ 2 ≤ op ∧ op ≤ 7 then some .visionMisuse
  else if tgt = 0x0B ∧ (func = 1 ∨ func = 2) ∧ op = 2 then some .gnssMisuse
  else if tgt = 0x0D ∧ ((func = 2 ∧ op = 1) ∨ (func = 1 ∧ 0x10 ≤ op ∧ op ≤ 0x12)) then some .netMisuse
  else if tgt = 0x10 ∧ func = 0 ∧ 2 ≤ op ∧ op ≤ 6 then some .recorderMisuse
  else if tgt = 0x13 ∧ func = 0 ∧ ((op = 2 ∧ dir = 1) ∨ (op = 7 ∧ dir = 0)) then some .updateMisuse
  else none

/-- DESCRIPTOR_ARRIVAL (R94, R95, R98): the next announced descriptor is taken. Over Ethernet its words are those in
module memory; a poisoned one completes ABORTED (R32). -/
def execDescriptorArrival (t : Nat) (r : Fin 64) (ws : List Word) (s : State) : Out :=
  let s := s.at t
  if s.ringState r ≠ rsRunning ∨ s.ringAwait r = 0 ∨ s.ringStalled r then .next s
  else
    let x := s.ring r
    let i := (s.ringHead r + x.descs.length) % 2 ^ s.ringLog r
    let a := s.ringDesc r + 64 * i
    let d := if s.ringEth r then s.memWords a 16 else (List.range 16).map (wAt ws)
    let slot := i + 2 ^ 16 * x.epoch
    if s.ringEth r && s.poisoned a 64 then
      .next (((s.setRing r { x with descs := x.descs ++ [⟨slot, d, .ended stAborted 0 0, false⟩] }).poisonEnds a 64).settleRing r)
    else if descBad d then .fault .ringMisuse
    else
      let z : RDesc := ⟨slot, d, .read, false⟩
      let y : RDesc := { z with late := s.dueLate z }
      match opMisuse (s.ringTgt r) (s.ringFunc r) (s.rd (RNG_CFG r) RNG_CFG_dir) y.op with
      | some f => .fault f
      | none => .next ((s.setRing r { x with descs := x.descs ++ [y] }).settleRing r)

/-- NOP (R96). -/
def execNop (t : Nat) (r : Fin 64) (s : State) : Out :=
  let s := s.at t
  s.ringOp r (s.ringTgt r) (s.ringFunc r) 0 fun s d => .next (s.endOp r d.slot stDone 0 0)

/-! Completions. -/

/-- The four words of a completion entry at pointer `p` (R99). -/
def cqEntry (r n p : Nat) (d : RDesc) : List Word :=
  match d.st with
  | .ended st len res =>
    [wAt d.ws 1, packW [(1 - p / 2 ^ n % 2, 31), (len % 2 ^ 24, 0)],
      packW [(st, 24), (r, 16), (p % 2 ^ n, 0)], word res]
  | _ => []

/-- Has the descriptor ended? -/
def RDesc.done (d : RDesc) : Bool := match d.st with
  | .ended _ _ _ => true
  | _ => false

/-- The completion doorbell word (R100). -/
def State.cdbWord (s : State) (r : Nat) : Word :=
  packW [(s.ringState r, 17), (s.ringHead r / 2 ^ s.ringLog r % 2, 16), (s.ringHead r % 2 ^ s.ringLog r, 0)]

/-- Write the completion doorbell word: to host memory, or to module memory over Ethernet (R100, R109). -/
def State.writeCdb (s : State) (r : Nat) : State :=
  if s.ringEth r then s.memStore (s.ringCdb r) (wordBytes (s.cdbWord r))
  else s.emit (.hostWrite (s.ringCdb r) [s.cdbWord r])

/-- Write the entry of the first descriptor and move head past it (R99). -/
def State.writeEntry (s : State) (r : Nat) (d : RDesc) : State :=
  let n := s.ringLog r
  let p := s.ringHead r
  let e := cqEntry r n p d
  let x := s.ring r
  let s1 :=
    if s.ringEth r then
      (s.memStore (s.ringCq r + 16 * (p % 2 ^ n)) (wordsBytes e)).setRing r
        { x with descs := x.descs.drop 1, cqPend := x.cqPend ++ [(s.cyc, e)] }
    else (s.emit (.hostWrite (s.ringCq r + 16 * (p % 2 ^ n)) e)).setRing r { x with descs := x.descs.drop 1 }
  s1.setPtr (RNG_HEAD r) n ((p + 1) % 2 ^ (n + 1))

/-- irq_holdoff in cycles (R100). -/
def State.holdoff (s : State) (r : Nat) : Nat := us (min 1000 (s.rd (RNG_POLL r) RNG_POLL_irq_holdoff))

/-- A ring's interrupt falls due: it is sent, or merged while the holdoff runs (R100).
(DESIGN CHOICE, log entry 21) -/
def State.ringIrq (s : State) (r : Nat) : State :=
  if s.cyc < (s.ring r).irqFree then s.setRing r { s.ring r with irqDue := true }
  else
    (s.emit (.msix (s.rd (RNG_POLL r) RNG_POLL_vector))).setRing r
      { s.ring r with irqDue := false, irqFree := s.cyc + s.holdoff r }

/-- COMPLETION_WRITE (R99, R100): the entries of the ended descriptors at the ring's front, the doorbell word, the
interrupt. -/
def execCompletionWrite (t : Nat) (r : Fin 64) (s : State) : Out :=
  let s := (s.at t).settleRing r
  let l := (s.ring r).descs.takeWhile RDesc.done
  if l.isEmpty || s.ringStalled r || !(s.ringState r == rsRunning || s.ringState r == rsDraining) then .next s
  else
    let s1 := (l.foldl (fun s d => s.writeEntry r d) s).writeCdb r
    let s2 := if l.any RDesc.irq && s.bit (RNG_POLL r) RNG_POLL_irq_en then s1.ringIrq r else s1
    .next (s2.settleRing r)

/-- IRQ_HOLDOFF_END (R100); a HALTED ring writes nothing to the host (R101). (DESIGN CHOICE, log entry 21) -/
def execIrqHoldoffEnd (t : Nat) (r : Fin 64) (s : State) : Out :=
  let s := s.at t
  if (s.ring r).irqDue && decide ((s.ring r).irqFree ≤ s.cyc) && s.ringState r != rsHalted then .next (s.ringIrq r) else .next s

/-! Ring states. -/

/-- A write of RNG_CTLn before stage 8 is ignored and noted (R80). -/
def State.ctlUnready (s : State) (r : Nat) : Bool := !s.readyReg (RNG_CTL r)

/-- Would ring `r` start with memory that overlaps that of a ring with the same carriage, or a doorbell line (R111)? -/
def State.ringClash (s : State) (r : Nat) : Bool :=
  let rs := (List.range 64).filter fun q => q == r || (s.ringState q != rsOff && s.ringEth q == s.ringEth r)
  let ms := (List.range 4).filter fun m => rs.any fun q => s.rd (RNG_CFG q) RNG_CFG_line == m
  areasClash (rs.flatMap s.ringMem ++ ms.map fun m => (s.dbl m, 64))

/-- Would it start with memory, over Ethernet, that overlaps a camera's display buffers (R323)? -/
def State.ringOnDisplay (s : State) (r : Nat) : Bool :=
  s.ringEth r && areasMeet (s.ringMem r) (((List.range 12).filter s.dispOn).map s.dispArea)

/-- Buffers started on ring `q` complete WRONG_STATE, with what they hold, once a lower-numbered ring of the channel runs
(R369). (DEDUCED, log entry 80) -/
def State.fillsBehind (s : State) (q : Nat) : State :=
  if s.behindRing q then
    s.setRing q { s.ring q with descs := (s.ring q).descs.map fun d => match d.st with
      | .started len recs _ => { d with st := .ended stWrongState len recs }
      | _ => d }
  else s

/-- RING_START (R90, R102, R111). Interrupts and completion entries that still wait for their sending stay. -/
def execRingStart (t : Nat) (r : Fin 64) (s : State) : Out :=
  let s := s.at t
  if s.ctlUnready r then .next (s.ignored (RNG_CTL r))
  else if s.ringState r ≠ rsOff then .next (s.bump (RNG_CNT r) RNG_CNT_ign_cnt)
  else if s.ringLog r < 4 ∨ 16 < s.ringLog r ∨ s.rd (RNG_CFG r) RNG_CFG_class = 3 then .fault .ringMisuse
  else if (List.range 64).any (fun q => q != r.val && s.ringState q != rsOff
      && s.rd (RNG_CFG q) RNG_CFG_line == s.rd (RNG_CFG r) RNG_CFG_line
      && s.rd (RNG_CFG q) RNG_CFG_slot == s.rd (RNG_CFG r) RNG_CFG_slot) then .fault .ringMisuse
  else if s.ringClash r then .fault .ringMisuse
  else if s.ringOnDisplay r then .fault .visionMisuse
  else
    let s1 := ((s.setReg (RNG_HEAD r) 0#32).setReg (RNG_TAIL r) 0#32).wr (RNG_CFG r) RNG_CFG_state rsRunning
    let s2 := s1.setRing r { s.ring r with descs := [], epoch := (s.ring r).epoch + 1 }
    .next ((List.range 64).foldl State.fillsBehind s2).guarPoll

/-- Descriptors read and not started complete ABORTED (R103). -/
def State.abortUnstarted (s : State) (r : Nat) : State :=
  let x := s.ring r
  s.setRing r { x with descs := x.descs.map fun d => if d.st = .read then { d with st := .ended stAborted 0 0 } else d }

/-- A stop leaves descriptor reads under way: they end, or fail, within 50 ms (R106). -/
def State.readsLeft (s : State) (r : Nat) : State :=
  if s.ringEth r || s.ringAwait r == 0 then s else s.setRing r { s.ring r with readTill := s.cyc + ms 50 }

/-- From HALTED a stop goes straight to OFF and writes nothing (R102). -/
def State.haltedOff (s : State) (r : Nat) : State :=
  let s1 := (s.readsLeft r).wr (RNG_CFG r) RNG_CFG_state rsOff
  (s1.setRing r { s1.ring r with descs := [] }).guarPoll

/-- RING_STOP (R102, R103). -/
def execRingStop (t : Nat) (r : Fin 64) (s : State) : Out :=
  let s := s.at t
  if s.ctlUnready r then .next (s.ignored (RNG_CTL r))
  else if s.ringState r = rsOff ∨ s.ringState r = rsDraining then .next (s.bump (RNG_CNT r) RNG_CNT_ign_cnt)
  else if s.ringState r = rsHalted then .next (s.haltedOff r)
  else .next ((((s.readsLeft r).wr (RNG_CFG r) RNG_CFG_state rsDraining).abortUnstarted r).guarPoll)

/-- Started FILL buffers of a receive ring complete ABORTED with the whole records they hold (R103).
(DEDUCED, log entry 17) -/
def State.abortFills (s : State) (r : Nat) : State :=
  if isRecv (s.ringTgt r) (s.ringFunc r) then
    let x := s.ring r
    s.setRing r { x with descs := x.descs.map fun d => match d.st with
      | .started len recs _ => if d.op = 1 then { d with st := .ended stAborted len recs } else d
      | _ => d }
  else s

/-- RING_DRAIN_END (R101): the last started descriptor has completed and its entry is written. -/
def execRingDrainEnd (t : Nat) (r : Fin 64) (s : State) : Out :=
  let s := s.at t
  if s.ringState r = rsDraining ∧ (s.ring r).descs = [] then
    .next (((s.wr (RNG_CFG r) RNG_CFG_state rsOff).writeCdb r).guarPoll)
  else .next s

/-- HALTED: no reads, no writes to host memory (R101). -/
def State.haltRing (s : State) (r : Nat) : State :=
  if s.ringState r = rsOff then s else s.wr (RNG_CFG r) RNG_CFG_state rsHalted

/-- An F2 fault of block RNG whose code the spec does not state. Its clearing condition is not stated either, so its
window closes when its reaction has been carried out (R426). (DESIGN CHOICE, log entry 23) -/
def State.ringFault (s : State) : State :=
  let c := 0x0100 + Config.freeNat s.free % 0x100
  ((s.freeNext).raise2 c 0).clear2 c

/-- Is a descriptor read of ring `r` under way: of announced descriptors, or left by a stop? -/
def State.descReads (s : State) (r : Nat) : Bool :=
  !s.ringEth r && ((s.ringState r != rsOff && s.ringAwait r != 0) || decide (s.cyc ≤ (s.ring r).readTill))

/-- HOST_READ_FAILURE (R106): of a read that is under way. A failed buffer read raises the fault alone; its operation goes
on as its own command says, and the ring stays. (DESIGN CHOICE, log entry 96) -/
def execHostReadFailure (t : Nat) (what : HostRead) (s : State) : Out :=
  let s := s.at t
  match what with
  | .line m =>
    if s.lineOut m = 0 then .next s
    else
      let l := (List.range 64).filter fun r => s.ringState r != rsOff && s.rd (RNG_CFG r) RNG_CFG_line == m.val
      .next ((l.foldl (fun s r => s.haltRing r) (s.setLineOut m (s.lineOut m - 1))).guarPoll.ringFault)
  | .desc r =>
    if s.descReads r then .next ((s.haltRing r).guarPoll.ringFault) else .next s
  | .buffer => .next s.ringFault

/-! Ethernet carriage (R108, R109). -/

/-- The kind a frame's header names, and its payload bytes. -/
def frameKind (x : FrameSource) : Nat := bits x.w0 31 28
def frameBytes (x : FrameSource) : Nat := bits x.w1 15 0

/-- A frame of kind `kind` with `n` payload bytes arrives: one of another EtherType or kind is no such frame, one from
elsewhere or with a payload outside R108's `ok` is dropped and noted, a reserved field that is not 0 is misuse (R111), as
is a length beyond what came (R12). (DEDUCED, log entry 22) -/
def State.ringFrame (s : State) (src : FrameSource) (kind n : Nat) (ok : Bool) (k : Out) : Out :=
  if src.ethertype ≠ s.rd RNG_ETH_CFG RNG_ETH_CFG_ethertype ∨ frameKind src ≠ kind then .next s
  else if !s.frameOk src.port src.mac then .next s.frameDropped
  else if bits src.w1 31 16 ≠ 0 then .fault .ringMisuse
  else if n < frameBytes src then .fault .oversizeLength
  else if !ok then .next s.frameDropped
  else k

/-- The `n` bytes of a number, the highest first. -/
def netBytes (n v : Nat) : List Byte := (List.range n).map fun i => BitVec.ofNat 8 (v / 256 ^ (n - 1 - i))

/-- A frame of the module for the host, two header words and a payload: it is handed to the switch, which it enters at P7
(R376). The module's own address is not stated. (DESIGN CHOICE, log entry 135) -/
def State.sendFrame (s : State) (w0 : Word) (ws : List Word) : State :=
  let mac := s.rd RNG_ETH_MAC_HI RNG_ETH_MAC_HI_mac * 2 ^ 32 + (s.reg RNG_ETH_MAC_LO).toNat
  let ty := s.rd RNG_ETH_CFG RNG_ETH_CFG_ethertype
  let s1 := s.emit (.ringFrame mac ty (w0 :: ws))
  if s.passed 12 then s1.ingress 7 (netBytes 6 mac ++ netBytes 6 Config.moduleMac ++ netBytes 2 ty ++ wordsBytes (w0 :: ws)) else s1

/-- ETH_DOORBELL_FRAME (R109): the line number word and the line's image. (DEDUCED, log entry 22) -/
def execEthDoorbellFrame (t : Nat) (src : FrameSource) (m : Fin 4) (image : List Word) (s : State) : Out :=
  let s := s.at t
  let ws := (List.range 16).map (wAt image)
  s.ringFrame src 1 68 (frameBytes src == 68) ((s.memStore (s.dbl m) (wordsBytes ws)).evalLine m true ws)

/-- ETH_WRITE_FRAME (R108, R111). A write to memory that the module owns is misuse (R111). -/
def execEthWriteFrame (t : Nat) (src : FrameSource) (addr : Nat) (bs : List Byte) (s : State) : Out :=
  let s := s.at t
  let n := frameBytes src - 8
  s.ringFrame src 2 (8 + bs.length) (decide (1 ≤ n) && decide (n ≤ 1024))
    (if sharedTop < addr + n ∨ s.moduleAreas.any (fun x => decide (addr < x.1 + x.2) && decide (x.1 < addr + n)) then
      .fault .ringMisuse
    else .next (((s.memStore addr (bs.take n))).poisonEnds addr n))

/-- ETH_READ_FRAME (R108): READ_DATA goes back with the host's sequence number; poisoned data is not sent (R32). -/
def execEthReadFrame (t : Nat) (src : FrameSource) (lo hi : Word) (len : Nat) (s : State) : Out :=
  let s := s.at t
  let addr := u64 lo hi
  s.ringFrame src 3 12 (frameBytes src == 12 && decide (1 ≤ len) && decide (len ≤ 1024))
    (if sharedTop < addr + len then .fault .ringMisuse
    else if s.mirrorHit addr len then .fault .recorderMisuse
    else if s.poisoned addr len then .next (s.poisonEnds addr len)
    else .next (s.sendFrame (packW [(4, 28), (bits src.w0 15 0, 0)]) (packW [(len, 0)] :: bytesWords (s.memBytes addr len))))

/-- COMPLETION_FRAME_SEND (R109): 32 entries pend, or the holdoff has run since the first of them was written. -/
def execCompletionFrameSend (t : Nat) (r : Fin 64) (s : State) : Out :=
  let s := s.at t
  let x := s.ring r
  let l := (x.cqPend.take 32).map Prod.snd
  let due := match x.cqPend.head? with
    | some e => decide (32 ≤ x.cqPend.length) || decide (e.1 + s.holdoff r ≤ s.cyc)
    | none => false
  if !due || s.ringState r == rsHalted then .next s
  else
    let s1 := s.sendFrame (packW [(5, 28), (r.val, 22), (l.length, 16), (s.rng.frameSeq, 0)])
      (packW [(4 + 16 * l.length, 0)] :: s.cdbWord r :: l.flatten)
    let s2 := { s1 with rng := { s1.rng with frameSeq := (s1.rng.frameSeq + 1) % 2 ^ 16 } }
    .next (s2.setRing r { x with cqPend := x.cqPend.drop 32 })

end Sys2Proof.Machine
end

