-- ==== Sys2Proof/Machine/Pixels.lean ====
section
/-! DEFINITION. The image pipeline (R303, R304): the stages as functions of a frame, a list of rows from the top, and the
statistics taken at stages 2 and 7 (R306, R312). -/

namespace Sys2Proof.Machine

/-- Rows of samples, and rows of linear R, G, B. -/
abbrev Rows := List (List Nat)
abbrev RgbRows := List (List (Nat × Nat × Nat))

def Rows.px (f : Rows) (x y : Nat) : Nat := (f.getD y []).getD x 0

/-- The frame whose pixel (x, y) is `g x y`. -/
def ofPixels (w h : Nat) (g : Nat → Nat → Nat) : Rows := (List.range h).map fun y => (List.range w).map fun x => g x y

/-- Halfword `i` of a parameter block from word `base`, [31:16] of a word first. -/
def half (p : Cells Word) (base i : Nat) : Nat :=
  let w := cellGet (fun _ => 0#32) p (base + i / 2)
  if i % 2 = 0 then bits w 31 16 else bits w 15 0

/-- The CFA position of a pixel; every pixel of a mono sensor has position 0. -/
def cfaPos (cfa x y : Nat) : Nat := if cfa = 4 then 0 else y % 2 * 2 + x % 2

def sat16 (x : Int) : Nat := (clampI 0 65535 x).toNat

/-- n / d rounded to nearest, halves upward. -/
def rdiv (n d : Nat) : Nat := (2 * n + d) / (2 * d)

/-- Stage 1 of one line of `w` samples at `shift`: padded with `fill` or truncated; a lost line is all `fill` (R300). -/
def unpackLine (w shift fill : Nat) : Option (List Nat) → List Nat
  | none => List.replicate w fill
  | some l => (List.range w).map fun i => if i < l.length then l.getD i 0 * 2 ^ shift % 65536 else fill

/-- Stage 1 of a frame: missing lines are added. -/
def unpackRows (w h shift fill : Nat) (l : List (Option (List Nat))) : Rows :=
  (List.range h).map fun y => unpackLine w shift fill (l.getD y none)

/-- Stage 2. (DESIGN CHOICE, log entry 75) -/
def blackLevel (p : Cells Word) (cfa w h : Nat) (f : Rows) : Rows :=
  ofPixels w h fun x y => f.px x y - half p 0 (cfaPos cfa x y)

/-- The static part of stage 3: the listed pixels, from their neighbours of one colour left and right. Which pixels a
count above the 1,024 listed ones adds, the spec does not state.
(DESIGN CHOICE, log entry 75) -/
def staticDefects (p : Cells Word) (cfa w h : Nat) (f : Rows) : Rows :=
  let step := if cfa = 4 then 1 else 2
  let n := bits (cellGet (fun _ => 0#32) p 2) 10 0
  let l := ((List.range (min 1024 n)).map fun i => (half p 16 (2 * i), half p 16 (2 * i + 1)))
    ++ (if 1024 < n then Config.moreDefects n else [])
  ofPixels w h fun x y =>
    if l.contains (x, y) then
      if x < step then f.px (x + step) y
      else if w ≤ x + step then f.px (x - step) y
      else rdiv (f.px (x - step) y + f.px (x + step) y) 2
    else f.px x y

/-- Insert into a rising list. -/
def insertNat (a : Nat) : List Nat → List Nat
  | [] => [a]
  | b :: t => if a ≤ b then a :: b :: t else b :: insertNat a t

def sortNat (l : List Nat) : List Nat := l.foldr insertNat []

/-- Is pixel (x, y) green? -/
def cfaGreen (cfa x y : Nat) : Bool := if cfa = 0 ∨ cfa = 3 then (x + y) % 2 == 1 else (cfa == 1 || cfa == 2) && (x + y) % 2 == 0

/-- The eight same-colour neighbours of a pixel: one step away for mono, two for red and blue.
(DESIGN CHOICE, log entry 75) -/
def sameColour (cfa w h x y : Nat) : List (Nat × Nat) :=
  let d := if cfa = 4 then 1 else 2
  if cfaGreen cfa x y || decide (x < d) || decide (y < d) || decide (w ≤ x + d) || decide (h ≤ y + d) then
    Config.sameColour cfa w h x y
  else [(x - d, y - d), (x, y - d), (x + d, y - d), (x - d, y), (x + d, y), (x - d, y + d), (x, y + d), (x + d, y + d)]

/-- The dynamic part of stage 3, off with dpc_thr 0. (DESIGN CHOICE, log entry 75) -/
def dynamicDefects (p : Cells Word) (cfa w h : Nat) (f : Rows) : Rows :=
  let thr := half p 2 0
  if thr = 0 then f
  else
    ofPixels w h fun x y =>
      let v := f.px x y
      let l := sortNat ((sameColour cfa w h x y).map fun q => f.px q.1 q.2)
      let top := l.getLastD v
      let low := l.headD v
      if top + thr < v ∨ v + thr < low then rdiv (l.getD (l.length / 2 - 1) 0 + l.getD (l.length / 2) 0) 2 else v

/-- Stage 4: a gain interpolated bilinearly between nodes w / 32 and h / 24 apart. -/
def lensShading (p : Cells Word) (cfa w h : Nat) (f : Rows) : Rows :=
  ofPixels w h fun x y =>
    let i := x * 32 / w
    let j := y * 24 / h
    let u := x * 32 % w
    let v := y * 24 % h
    let g := fun a b => half p 1040 (825 * cfaPos cfa x y + 33 * b + a)
    let n := (g i j * (w - u) + g (i + 1) j * u) * (h - v) + (g i (j + 1) * (w - u) + g (i + 1) (j + 1) * u) * v
    min 65535 (rdiv (f.px x y * n) (4096 * w * h))

/-- Stage 5. -/
def whiteBalance (p : Cells Word) (cfa w h : Nat) (f : Rows) : Rows :=
  ofPixels w h fun x y => min 65535 (rdiv (f.px x y * half p 3 (cfaPos cfa x y)) 4096)

/-- Stage 6. -/
def toRgb (cfa : Nat) (f : Rows) : RgbRows :=
  if cfa = 4 then f.map fun r => r.map fun v => (v, v, v) else Config.demosaic cfa f

/-- Stage 7. -/
def colourMatrix (p : Cells Word) (f : RgbRows) : RgbRows :=
  let c := fun i => sBits 16 (half p 5 i)
  let o := fun i => sBits 16 (half p 10 i)
  let row := fun (k : Nat) (v : Nat × Nat × Nat) =>
    sat16 ((2 * (c (3 * k) * v.1 + c (3 * k + 1) * v.2.1 + c (3 * k + 2) * v.2.2) + 4096) / 8192 + o k)
  f.map fun r => r.map fun v => (row 0 v, row 1 v, row 2 v)

/-- A frame after stages 2, 3 to 5 and 7. -/
structure Corrected where
  dark : Rows
  rgb : RgbRows
deriving DecidableEq, Repr

/-- DESIGN CHOICE, log entry 75. -/
def correct (p : Cells Word) (cfa w h : Nat) (f : Rows) : Corrected :=
  let dark := blackLevel p cfa w h f
  let a := dynamicDefects p cfa w h (staticDefects p cfa w h dark)
  let b := whiteBalance p cfa w h (lensShading p cfa w h a)
  ⟨dark, colourMatrix p (toRgb cfa b)⟩

/-- The tone curve's entries. -/
def toneCurve (p : Cells Word) : List Nat := (List.range 1024).map fun i => half p 2690 i

/-- Stage 8 of one sample: entries 64 apart, interpolated linearly. (DESIGN CHOICE, log entry 75) -/
def toneOf (l : List Nat) (v : Nat) : Nat :=
  let i := v / 64
  let u := v % 64
  if i < 1023 then rdiv (l.getD i 0 * (64 - u) + l.getD (i + 1) 0 * u) 64
  else if u = 0 then l.getD 1023 0
  else Config.curveEnd l v

/-- Stage 8. -/
def toned (p : Cells Word) (f : RgbRows) : RgbRows :=
  let l := toneCurve p
  f.map fun r => r.map fun v => (toneOf l v.1, toneOf l v.2.1, toneOf l v.2.2)

/-- `n` / `d` rounded to nearest, halves upward, within 0 to 255. -/
def sat8 (n d : Int) : Nat := (clampI 0 255 ((2 * n + d) / (2 * d))).toNat

/-- Y, Cb and Cr of ITU-R BT.709 in its limited range (stage 9): luma weights 0.2126, 0.7152 and 0.0722.
(PRESUMED, log entry 127) -/
def ycc (v : Nat × Nat × Nat) : Nat × Nat × Nat :=
  let y : Int := 2126 * v.1 + 7152 * v.2.1 + 722 * v.2.2
  (sat8 (16 * 655350000 + 219 * y) 655350000,
   sat8 (128 * (655350000 * 18556) + 2240000 * (10000 * v.2.2 - y)) (655350000 * 18556),
   sat8 (128 * (655350000 * 15748) + 2240000 * (10000 * v.1 - y)) (655350000 * 15748))

/-- A plane at w × h; a plane of that size already is unchanged. -/
def planeAt (f : Rows) (w h : Nat) : Rows :=
  if f.length = h ∧ (f.getD 0 []).length = w then f else Config.scalePlane f w h

/-- Stages 8 and 9 and the scaling to w × h of R305, as NV12: the Y plane, then Cb and Cr interleaved. -/
def nv12 (p : Cells Word) (f : RgbRows) (w h : Nat) : List Byte :=
  let c := (toned p f).map fun r => r.map ycc
  let luma := planeAt (c.map fun r => r.map fun v => v.1) w h
  let cb := planeAt (Config.halvePlane (c.map fun r => r.map fun v => v.2.1)) (w / 2) (h / 2)
  let cr := planeAt (Config.halvePlane (c.map fun r => r.map fun v => v.2.2)) (w / 2) (h / 2)
  (luma.flatMap fun r => r.map byte)
    ++ (cb.zip cr).flatMap fun r => (r.1.zip r.2).flatMap fun v => [byte v.1, byte v.2]

/-! Tensors (R317, R318). -/

/-- The part of sample `j` of `n` in output `i` of `m`, in units of 1 / m of a sample. -/
def overlap (n m i j : Nat) : Nat := min (n * (i + 1)) (m * (j + 1)) - max (n * i) (m * j)

/-- One line scaled: the weight of each of its samples in output `i`, and their sum. -/
def lineWeights (n m i : Nat) : List Nat × Nat :=
  if m ≤ n then ((List.range n).map fun j => overlap n m i j, n)
  else
    let q := Config.enlargeAt n m i
    let a := min q.1 (n - 1)
    let u := q.2 % 65536
    ((List.range n).map fun j => (if j = a then 65536 - u else 0) + (if j = min (a + 1) (n - 1) then u else 0), 65536)

/-- A plane scaled to w × h: by area averaging when reducing, bilinearly when enlarging.
(DESIGN CHOICE, log entry 75) -/
def scaled (f : Rows) (w h : Nat) : Rows :=
  let a := (f.getD 0 []).length
  let b := f.length
  if (a < w ∧ h < b) ∨ (w < a ∧ b < h) then Config.scaleMixed f w h
  else
    (List.range h).map fun y =>
      let wy := lineWeights b h y
      (List.range w).map fun x =>
        let wx := lineWeights a w x
        rdiv ((f.zip wy.1).map fun r => r.2 * ((r.1.zip wx.1).map fun v => v.1 * v.2).sum).sum (wy.2 * wx.2)

/-- The channels of a frame: R, G and B, or (R + 2G + B) / 4. -/
def channels (n : Nat) (f : RgbRows) : List Rows :=
  if n = 1 then [f.map fun r => r.map fun v => min 65535 (rdiv (v.1 + 2 * v.2.1 + v.2.2) 4)]
  else [f.map fun r => r.map fun v => v.1, f.map fun r => r.map fun v => v.2.1, f.map fun r => r.map fun v => v.2.2]

/-- An element from a 16-bit value, the scale in Q8.24 and the zero point. -/
def quantize (v : Nat) (scale zp : Int) : Byte := BitVec.ofInt 8 (clampI (-128) 127 ((v * scale + 2 ^ 39) / 2 ^ 40 + zp))

/-- The input tensor of a model from the frame at its tap: planes one after another in NCHW, interleaved in NHWC. -/
def tensorOf (nchw : Bool) (w h : Nat) (ks : List (Int × Int)) (f : RgbRows) : List Byte :=
  let qs := ((channels ks.length f).zip ks).map fun c =>
    (scaled c.1 w h).map fun r => r.map fun v => quantize v c.2.1 c.2.2
  if nchw then qs.flatten.flatten
  else (List.range h).flatMap fun y => (List.range w).flatMap fun x => qs.map fun q => (q.getD y []).getD x 0#8

/-! Statistics (R306). -/

/-- The 64-bin histogram of (R + 2G + B) / 4 by its top 6 bits. -/
def histogram (f : RgbRows) : List Word :=
  let vs := f.flatMap fun r => r.map fun v => min 65535 (rdiv (v.1 + 2 * v.2.1 + v.2.2) 4) / 1024
  (List.range 64).map fun i => word (vs.count i)

/-- The 256 bands of rows of a frame of stage 2: the sum of the samples of each and their count (R312). -/
def rowBands (f : Rows) : List (Nat × Nat) :=
  (List.range 256).map fun b =>
    let l := ((f.take ((b + 1) * f.length / 256)).drop (b * f.length / 256)).flatten
    (l.sum, l.length)

/-- The mean of a list, rounded. -/
def meanNat (l : List Nat) : Nat := if l = [] then 0 else rdiv l.sum l.length

/-- The 16 × 8 zone means, row by row. -/
def zones (w h : Nat) (f : RgbRows) : List Word :=
  (List.range 128).map fun k =>
    let x0 := k % 16 * w / 16
    let x1 := (k % 16 + 1) * w / 16
    let rows := (f.take ((k / 16 + 1) * h / 8)).drop (k / 16 * h / 8)
    let px := rows.flatMap fun r => (r.take x1).drop x0
    packW [(meanNat (px.map fun v => v.1) / 64, 20), (meanNat (px.map fun v => v.2.1) / 64, 10),
      (meanNat (px.map fun v => v.2.2) / 64, 0)]

end Sys2Proof.Machine
end

