-- ==== Sys2Proof/Machine/Vision.lean ====
section
/-! DEFINITION. Cameras, links, frames, parameters and encoders (R295 to R314), and their commands. -/

namespace Sys2Proof.Machine

def State.visRuns (s : State) : Bool := s.ready 0x0A && !s.fenced 8 && s.pow.holdUp.isNone

def State.enc (s : State) (e : Nat) : Enc := cellGet (fun _ => Enc.init) s.vis.encs e

def State.setEnc (s : State) (e : Nat) (x : Enc) : State :=
  { s with vis := { s.vis with encs := cellSet (fun _ => Enc.init) s.vis.encs e x } }

def State.camW (s : State) (c : Nat) : Nat := s.rd (VIS_CAM_GEO c) VIS_CAM_GEO_width
def State.camH (s : State) (c : Nat) : Nat := s.rd (VIS_CAM_GEO c) VIS_CAM_GEO_height
def State.camRate (s : State) (c : Nat) : Nat := s.rd (VIS_CAM_CFG c) VIS_CAM_CFG_rate_cap
/-- Pixels per second of camera `c` at a rate. -/
def State.camLoad (s : State) (c rate : Nat) : Nat := s.camW c * s.camH c * rate
def State.camCfa (s : State) (c : Nat) : Nat := s.rd (VIS_CAM_CFG c) VIS_CAM_CFG_cfa

/-! Records (R306). -/

abbrev ffGap : Nat := 1
abbrev ffShort : Nat := 2
abbrev ffLong : Nat := 4
abbrev ffLen : Nat := 8
abbrev ffCrc : Nat := 16
abbrev ffDrop : Nat := 32
abbrev ffSkip : Nat := 64
abbrev ffLock : Nat := 128
abbrev ffStatInv : Nat := 256
abbrev ffInfer : Nat := 512
abbrev ffStats : Nat := 1024

/-- What a frame record says beside its trigger. -/
structure RecordOf where
  flags : Nat
  token : Nat
  fnum : Nat
  lines : Nat
  fs : Nat
  close : Nat
  ho : Word
  stats : List Word
deriving DecidableEq, Repr

/-- Issue a frame record of camera `c` when its rec bit is set. -/
def State.frameRecord (s : State) (c : Nat) (x : VTrig) (r : RecordOf) : State :=
  if !s.bit (VIS_CAM_CFG c) VIS_CAM_CFG_rec then s
  else
    let lat : Int := 1000 * s.rd (VIS_CAM_WIN c) VIS_CAM_WIN_trig_lat
    let a := s.deliver 0xA1 ([lo32 x.texp, hi32 x.texp, word x.idx, packW [(c, 28), (r.flags, 0)],
      packW [(r.token, 16), (r.fnum % 2 ^ 16, 0)], packW [(min 0xFFFF r.lines, 16)], lo32 r.fs, hi32 r.fs, lo32 r.close,
      hi32 r.close, r.ho, wInt (x.delay - lat), 0#32, 0#32, 0#32, 0#32] ++ r.stats)
    if a.2 then a.1.bump VIS_STAT VIS_STAT_drop_cnt else a.1

/-- A VISION unit takes this camera and index as a gap (R301). -/
def State.visionGap (s : State) (c rel : Nat) : State := s.sampleIn ⟨0x60 + c, rel, [], [], true⟩ false 0 0#32

/-- A picture for every enabled encoder of camera `c` (R301, R305). -/
def State.toEncoders (s : State) (c : Nat) (i : VItem) : State :=
  (List.range 4).foldl (fun s e =>
    if s.bit (VIS_ENC_CFG e) VIS_ENC_CFG_en && s.rd (VIS_ENC_CFG e) VIS_ENC_CFG_cam == c then
      s.setEnc e { s.enc e with q := (s.enc e).q ++ [i] }
    else s) s

/-- Index `x` becomes a gap of camera `c` (R298, R299, R301). The spec gives a gap's record no token. -/
def State.issueGap (s : State) (c : Nat) (x : VTrig) (skip : Bool) : State :=
  let s1 := s.bump (VIS_CAM_CNT0 c) VIS_CAM_CNT0_gap_cnt
  let s2 := s1.frameRecord c x
    { flags := ffGap + ffSkip * b2n skip + ffLock * b2n x.lockErr, token := Config.freeNat s.free % 2 ^ 16
      fnum := Config.freeNat (s.free + 1) % 2 ^ 16, lines := 0, fs := 0, close := s.mtime, ho := s.reg (VIS_CAM_SEQ c)
      stats := [] }
  let s3 := if s.bit (VIS_CAM_CFG c) VIS_CAM_CFG_code then
      s2.toEncoders c ⟨x.texp, x.idx, x.rel, c, Config.freeNat s.free % 2 ^ 16, false, x.lockErr, true, []⟩
    else s2
  (s3.freeAdd 2).visionGap c x.rel

/-! Triggers (R297, R298). -/

/-- A CAMERA release with a mask and a trigger index (R130, R297). -/
def State.cameraTrigger (s : State) (mask idx : Nat) : State :=
  ((List.range 12).filter fun c => s.visRuns && mask / 2 ^ c % 2 == 1 && s.camEn c).foldl (fun s c =>
    s.setCam c { s.cam c with trigs := (s.cam c).trigs ++ [s.trigOf c idx s.mtime] }) s

/-- Does t_exp of a trigger fall less than 1 / rate_cap after the last of its camera (R298)? -/
def State.camEarly (s : State) (c : Nat) (x : VTrig) : Bool :=
  (s.cam c).lastExp.any fun a => decide ((x.at_ - a) * s.camRate c < 1000000000)

/-- Does its window overlap that of the last trigger (R323)? -/
def State.winClash (s : State) (c : Nat) (x : VTrig) : Bool :=
  (s.cam c).lastExp.any fun a => decide (s.winLo c x < a + 100000 * s.rd (VIS_CAM_WIN c) VIS_CAM_WIN_win_hi)

/-- TRIGGER_MESSAGE_SEND (R297, R298): at t_exp - trig_lat, unless the trigger is not to be sent and its index becomes a
gap. No message leaves a link that is down. (DESIGN CHOICE, log entry 74) -/
def execTriggerMessageSend (t : Nat) (c : Fin 12) (s : State) : Out :=
  let s := s.at t
  let k := s.cam c
  match k.trigs.findIdx? fun x => !x.sent with
  | none => .next s
  | some i =>
    match k.trigs[i]? with
    | none => .next s
    | some x =>
      if !s.visRuns || decide (s.ns + 1000 * s.rd (VIS_CAM_WIN c) VIS_CAM_WIN_trig_lat < x.at_) then .next s
      else if s.camEarly c x then .next ((s.setCam c { k with trigs := k.trigs.eraseIdx i }).issueGap c x true)
      else if s.winClash c x then .fault .visionMisuse
      else
        let s1 := s.setCam c { k with trigs := modAt (fun y => { y with sent := true }) i k.trigs, lastExp := some x.at_ }
        .next (if s.bit (VIS_LINK (c / 4)) VIS_LINK_lock then s1.emit (.cameraTrigger c) else s1)

/-- PAIRING_WINDOW_CLOSE (R299). -/
def execPairingWindowClose (t : Nat) (c : Fin 12) (s : State) : Out :=
  let s := s.at t
  let k := s.cam c
  match k.trigs with
  | [] => .next s
  | x :: rest =>
    if !s.visRuns || !x.sent || decide (s.ns < s.winHi c x) then .next s
    else .next ((s.setCam c { k with trigs := rest }).issueGap c x false)

/-! The model header (R317) and the tensor of its slot. -/

def State.slot (s : State) (m : Nat) : Slot := cellGet (fun _ => Slot.init) s.vis.slots m

def mdW (h : List Word) : Nat := bits (wAt h 1) 31 16
def mdH (h : List Word) : Nat := bits (wAt h 1) 15 0
def mdChans (h : List Word) : Nat := bits (wAt h 2) 31 30
/-- The tap: false for L, stage 7, and true for T, stage 8. -/
def mdTap (h : List Word) : Bool := bits (wAt h 2) 29 29 == 1
/-- The layout: false for NHWC, true for NCHW. -/
def mdNchw (h : List Word) : Bool := bits (wAt h 2) 28 28 == 1
/-- scale and zp of a channel. -/
def mdScale (h : List Word) (k : Nat) : Int := sInt (wAt h (3 + k))
def mdZp (h : List Word) (k : Nat) : Int := sBits 8 (bits (wAt h 6) (31 - 8 * k) (24 - 8 * k))

/-- The input tensor that a frame after stage 7 forms for the model with header `h` (R318). -/
def modelTensor (h : List Word) (p : Cells Word) (f : RgbRows) : List Byte :=
  tensorOf (mdNchw h) (mdW h) (mdH h) ((List.range (mdChans h)).map fun k => (mdScale h k, mdZp h k))
    (if mdTap h then toned p f else f)

/-! Parameters (R304). -/

/-- A parameter word with a bit that R304 reserves set (R323). A defect count above 1,024 is none of the cases of R323, and
runs. (DESIGN CHOICE, log entry 56) -/
def paramBad (i : Nat) (w : Word) : Bool :=
  if i = 2 then bits w 15 11 != 0
  else if i = 9 ∨ i = 11 then bits w 15 0 != 0
  else if 12 ≤ i ∧ i < 16 then w != 0#32
  else decide (3202 ≤ i) && w != 0#32

/-! Tokens (R308). -/

/-- A paired Frame Start: tokens accepted in earlier cycles come one Frame Start nearer, and the last that applies now
takes over. -/
def State.tokenStep (s : State) (c : Nat) : State :=
  let k := s.cam c
  let l := k.toks.map fun x => if x.cyc < s.cyc then { x with seen := x.seen + 1 } else x
  let now := l.filter fun x => decide (2 ≤ x.seen)
  let k1 := { k with toks := l.filter fun x => decide (x.seen < 2) }
  match now.getLast? with
  | none => s.setCam c k1
  | some x => (s.setCam c { k1 with token := x.token, exp := x.exp }).bumpBy (VIS_CAM_CNT1 c) VIS_CAM_CNT1_tok_sup (now.length - 1)

/-! Frames (R299 to R301, R305). -/

/-- The lamp a flicker frequency, in 0.1 Hz, matches within 1 %: the first reported channel. -/
def State.lampMatch (s : State) (f : Nat) : Option Nat :=
  (List.range 64).find? fun n =>
    let p := (s.lamp n).period
    s.lampSeen n && p != 0 && f != 0 && decide (99 * 10000000 ≤ 100 * f * p) && decide (100 * f * p ≤ 101 * 10000000)

/-- The statistics of a corrected frame with `lines` lines from `fs` to `close` (R306, R312). -/
def State.frameStats (s : State) (x : Corrected) (w h lines fs close : Nat) : List Word :=
  let line := if lines = 0 then Config.freeNat s.free % 2 ^ 32 else (close - fs) / lines
  let f := Config.flicker (rowBands x.dark) line x.dark.length
  let found := decide (1024 ≤ f.2) && decide (500 ≤ f.1) && decide (f.1 ≤ 20000)
  let m := if found then s.lampMatch f.1 else none
  histogram x.rgb ++ zones w h x.rgb ++
    [if found then packW [(f.1, 16), (min 0xFFFF f.2, 0)] else 0#32,
      packW [(m.getD 0, 26), (b2n m.isSome, 25)], word line, 0#32]

/-- Count a frame that is short or long, or damaged in a line (R300). -/
def State.countFrame (s : State) (c : Nat) (short long line : Bool) : State :=
  let s1 := if short then s.bump (VIS_CAM_CNT1 c) VIS_CAM_CNT1_short_cnt else s
  let s2 := if long then s1.bump (VIS_CAM_CNT1 c) VIS_CAM_CNT1_long_cnt else s1
  if line then s2.bump (VIS_CAM_CNT1 c) VIS_CAM_CNT1_dmg_cnt else s2

/-- What follows the record of a closed frame: the encoders, the gap of a frame without inference, the ECC fault. -/
def State.afterFrame (s : State) (c : Nat) (bad infer : Bool) (item : VItem) : State :=
  let s1 := if !bad && s.bit (VIS_CAM_CFG c) VIS_CAM_CFG_code then s.toEncoders c item else s
  let s2 := if infer then s1 else s1.visionGap c item.rel
  (if bad then (s2.raise2 0x0A40 0).clear2 0x0A40 else s2).freeNext

/-- Close the frame in progress on camera `c`; `bad` says an uncorrectable error in SRAM was found in it (R300).
(DESIGN CHOICE, log entry 74) -/
def State.closeFrame (s : State) (c : Nat) (bad : Bool) : State :=
  let k := s.cam c
  match k.frame with
  | none => s
  | some f =>
    let w := s.camW c
    let h := s.camH c
    let x := f.trig
    let short := decide (f.got < h)
    let long := decide (h < f.got)
    let len := f.lines.any fun l => match l with
      | some q => q.length != w
      | none => false
    let crc := f.lines.any fun l => l.isNone
    let dmg := short || long || len || crc
    let lock := x.lockErr || (match x.used with
      | some u => u.1 != f.token
      | none => false)
    let slot := s.rd (VIS_CAM_CFG c) VIS_CAM_CFG_model
    let infer := !bad && s.bit (VIS_CAM_CFG c) VIS_CAM_CFG_tens && (!dmg || s.bit (VIS_CAM_CFG c) VIS_CAM_CFG_tens_bad)
      && (s.slot slot).model.isSome
    let cor := correct k.act (s.camCfa c) w h
      (unpackRows w h (if s.bit (VIS_CAM_CFG c) VIS_CAM_CFG_bpp then 4 else 6) (s.rd (VIS_CAM_FILL c) VIS_CAM_FILL_fill) f.lines)
    let stats := s.bit (VIS_CAM_CFG c) VIS_CAM_CFG_stats && !bad
    let flags := ffShort * b2n short + ffLong * b2n long + ffLen * b2n len + ffCrc * b2n crc + ffDrop * b2n bad
      + ffLock * b2n lock + ffStatInv * b2n dmg + ffInfer * b2n infer + ffStats * b2n stats
    let bytes := nv12 k.act cor.rgb (s.rd (VIS_CAM_DISP c) VIS_CAM_DISP_w16 * 16) (s.rd (VIS_CAM_DISP c) VIS_CAM_DISP_h16 * 16)
    let item : VItem := ⟨x.texp, x.idx, x.rel, c, f.token, dmg, lock, false, nv12 k.act cor.rgb w h⟩
    let s1 := (s.countFrame c short long (len || crc)).setCam c { k with
      frame := none
      disp := if s.bit (VIS_CAM_CFG c) VIS_CAM_CFG_disp && !bad then
          k.disp ++ [(List.range (s.dispSize c)).map fun i => bytes.getD i 0#8] else k.disp
      tens := if infer then
          k.tens ++ [(slot, { item with data := modelTensor ((s.slot slot).model.getD []) k.act cor.rgb })]
        else k.tens }
    (s1.frameRecord c x
      { flags := flags, token := f.token, fnum := f.fnum, lines := f.got, fs := f.fs, close := s.mtime, ho := f.ho
        stats := if stats then s.frameStats cor w h f.got f.fs s.mtime else [] }).afterFrame c bad infer item

/-- The errors found in vision or inference SRAM, among those a command carries (R32). -/
def sramHits (l : List EccHit) : List EccHit := l.filter fun h => eccRegion h == 4

/-- Close the frame in progress; an uncorrectable error that its reads of SRAM found drops it (R32, R300). -/
def State.closeRead (s : State) (c : Nat) (ecc : List EccHit) : State :=
  if (s.cam c).frame.isSome then (s.closeFrame c (eccBad (sramHits ecc))).eccDone (sramHits ecc) else s

/-- Do the enabled cameras of link `n` send more than its gear carries (R323)? -/
def State.linkOver (s : State) (n : Nat) : Bool :=
  decide (Config.gearBits (s.rd (VIS_LINK n) VIS_LINK_gear) <
    ((List.range 4).map fun i => if s.camEn (4 * n + i) then s.camLoad (4 * n + i) (s.camRate (4 * n + i))
      * (if s.bit (VIS_CAM_CFG (4 * n + i)) VIS_CAM_CFG_bpp then 12 else 10) else 0).sum)

/-- FRAME_START (R299, R300, R304, R308): a frame in progress closes, then the Frame Start pairs or is stray.
(DESIGN CHOICE, log entry 74) -/
def execFrameStart (t : Nat) (c : Fin 12) (h : FrameHead) (s : State) : Out :=
  let s := (s.at t).camsNow
  if !s.visRuns || !s.camEn c || !s.bit (VIS_LINK (c / 4)) VIS_LINK_lock then .next s
  else if s.linkOver (c / 4) then .fault .visionMisuse
  else
    let s1 := s.closeRead c h.ecc
    match (s1.cam c).trigs.findIdx? fun x => s1.winOpen c x with
    | none => .next ((s1.bump (VIS_CAM_CNT0 c) VIS_CAM_CNT0_stray_cnt).noteSlow (0x0A10 + c) 0)
    | some i =>
      match (s1.cam c).trigs[i]? with
      | none => .next s1
      | some x =>
        let s2 := (if (s1.cam c).due s1.cyc then s1.camCopy c else s1).tokenStep c
        let k := s2.cam c
        let f : VFrame := ⟨{ x with exp := k.exp }, s2.cyc, s2.mtime, h.fnum, k.token, [], 0, s2.reg (VIS_CAM_SEQ c)⟩
        .next ((s2.setCam c { k with trigs := k.trigs.eraseIdx i, frame := some f }).wr (VIS_CAM_TOK c)
          VIS_CAM_TOK_tok_frame k.token)

/-- LINE_RECEIVED (R300): a long packet of the configured type; `crc` says its payload CRC failed.
(DESIGN CHOICE, log entry 74) -/
def execLineReceived (t : Nat) (c : Fin 12) (px : List Nat) (crc : Bool) (s : State) : Out :=
  let s := s.at t
  if !s.visRuns || !s.camEn c then .next s
  else
    let s1 := if crc then s.bump (VIS_LINK (c / 4)) VIS_LINK_crc_cnt else s
    let k := s1.cam c
    match k.frame with
    | none => .next s1
    | some f =>
      let l := if f.got < s.camH c then f.lines ++ [if crc then none else some px] else f.lines
      .next (s1.setCam c { k with frame := some { f with lines := l, got := f.got + 1 } })

/-- FRAME_END (R300). -/
def execFrameEnd (t : Nat) (c : Fin 12) (ecc : List EccHit) (s : State) : Out :=
  let s := s.at t
  if !s.visRuns then .next s else .next (s.closeRead c ecc)

/-- FRAME_CLOSE_TIMEOUT (R300): 1 / rate_cap after the Frame Start. -/
def execFrameCloseTimeout (t : Nat) (x : FrameCut) (s : State) : Out :=
  let s := s.at t
  let c := x.cam
  match (s.cam c).frame with
  | none => .next s
  | some f =>
    if !s.visRuns || decide ((s.cyc - f.fsCyc) * s.camRate c < sec 1) then .next s else .next (s.closeRead c x.ecc)

/-- DISPLAY_BUFFER_READY (R305): the frame goes into a buffer that is neither the latest ready nor held. -/
def execDisplayBufferReady (t : Nat) (c : Fin 12) (s : State) : Out :=
  let s := s.at t
  let k := s.cam c
  match k.disp with
  | [] => .next s
  | bs :: rest =>
    let free := fun i => k.ready != some i && k.held != some i
    let i := if free 0 then 0 else if free 1 then 1 else 2
    let a := s.rd (VIS_CAM_DISP c) VIS_CAM_DISP_base * 0x200000 + i * bs.length
    if !s.visRuns then .next s
    else if decide (sharedTop < a + bs.length) || areasMeet [(a, bs.length)] s.ethMem then .fault .visionMisuse
    else .next ((s.memStore a bs).setCam c { k with disp := rest, ready := some i })

/-! Links (R81, R296). -/

def State.alink (s : State) (n : Nat) : ALink := cellGet (fun _ => ALink.init) s.vis.links n

def State.setAlink (s : State) (n : Nat) (x : ALink) : State :=
  { s with vis := { s.vis with links := cellSet (fun _ => ALink.init) s.vis.links n x } }

/-- A bit of a field of SYS_LINK that has one for each link. -/
def State.linkBit (s : State) (f : Fld) (n : Nat) (v : Bool) : State := s.bitTo SYS_LINK f n v

/-- Link `n` has no lock. -/
def State.linkDown (s : State) (n : Nat) : State :=
  ((s.wr (VIS_LINK n) VIS_LINK_lock 0).wr (VIS_LINK n) VIS_LINK_gear 0).linkBit SYS_LINK_aphy_up n false

/-- The coax supply goes on and the link starts, up to the gear_max of now (R322). -/
def State.linkStart (s : State) (n : Nat) : State :=
  if s.bit (VIS_LINK n) VIS_LINK_sup_en then
    s.setAlink n { s.alink n with st := 1, since := s.cyc, retryAt := none, gmax := s.rd (VIS_LINK n) VIS_LINK_gear_max }
  else s.setAlink n { s.alink n with st := 0, since := s.cyc, retryAt := none }

/-- A failed start: the supply is off and the start is retried, from the end of the failed start (R81).
(DESIGN CHOICE, log entry 122) -/
def State.linkFailed (s : State) (n : Nat) : State :=
  let x := s.alink n
  let f := x.fails + 1
  let s1 := s.setAlink n { x with st := 0, since := s.cyc, fails := f, retryAt := some (s.cyc + (if 3 ≤ f then sec 5 else ms 200)) }
  if f = 3 then (s1.linkBit SYS_LINK_aphy_fail n true).raise2 (0x0A08 + n) 0 else s1

/-- APHY_LOCK: the link trains to the highest gear both ends support, up to gear_max. -/
def execAphyLock (t : Nat) (n : Fin 3) (gear : Nat) (s : State) : Out :=
  let s := s.at t
  if !s.visRuns || (s.alink n).st != 1 then .next s
  else
    let g := min gear (s.alink n).gmax
    let s1 := ((s.wr (VIS_LINK n) VIS_LINK_lock 1).wr (VIS_LINK n) VIS_LINK_gear g).linkBit SYS_LINK_aphy_up n true
    .next (((s1.setAlink n { s.alink n with st := 2, since := s.cyc, fails := 0, retryAt := none }).clear2 (0x0A04 + n)).clear2 (0x0A08 + n))

/-- APHY_LOCK_TIMEOUT: no lock within 300 ms. -/
def execAphyLockTimeout (t : Nat) (n : Fin 3) (s : State) : Out :=
  let s := s.at t
  let x := s.alink n
  if !s.visRuns || x.st != 1 || decide (s.cyc < x.since + ms 300) then .next s else .next (s.linkFailed n)

/-- APHY_RETRY. -/
def execAphyRetry (t : Nat) (n : Fin 3) (s : State) : Out :=
  let s := s.at t
  match (s.alink n).retryAt with
  | none => .next s
  | some c => if !s.visRuns || decide (s.cyc < c) then .next s else .next (s.linkStart n)

/-- APHY_LOCK_LOSS (R296): loss of lock while running; the link restarts as at start. -/
def execAphyLockLoss (t : Nat) (n : Fin 3) (s : State) : Out :=
  let s := s.at t
  if !s.visRuns || (s.alink n).st != 2 then .next s
  else .next (((s.linkDown n).raise2 (0x0A04 + n) 0).linkStart n)

/-- APHY_OVERCURRENT (R296). -/
def execAphyOvercurrent (t : Nat) (n : Fin 3) (s : State) : Out :=
  let s := s.at t
  if !s.visRuns || (s.alink n).st == 0 then .next s
  else .next (((s.linkDown n).wr (VIS_LINK n) VIS_LINK_ocp 1).linkFailed n)

/-- A write of VIS_LINKn: sup_en 0 turns the supply off at once, and allowing it again starts the link (R322), not in a
hold-up, which keeps the supplies off (R60). -/
def State.linkWrite (s : State) (n : Nat) (v : Word) : State :=
  let was := s.bit (VIS_LINK n) VIS_LINK_sup_en
  let s1 := s.store (VIS_LINK n) v
  if was && !s1.bit (VIS_LINK n) VIS_LINK_sup_en then (s1.linkDown n).setAlink n { s1.alink n with st := 0, since := s.cyc, retryAt := none }
  else if !was && s1.bit (VIS_LINK n) VIS_LINK_sup_en && s.pow.holdUp.isNone then s1.linkStart n
  else s1

/-! Enabling (R302). -/

/-- The configured sum, and its reading in VIS_STAT. -/
def State.camSum (s : State) : Nat :=
  ((List.range 12).map fun c => if s.camEn c then s.camLoad c (s.camRate c) else 0).sum

def State.mpix (s : State) : State := s.wr VIS_STAT VIS_STAT_mpix ((s.camSum + 999999) / 1000000)

/-- A camera set-up R323 forbids. -/
def State.camBad (s : State) (c : Nat) (v : Word) : Bool :=
  let w := s.camW c
  let h := s.camH c
  let r := VIS_CAM_CFG_rate_cap.get v
  decide (5 ≤ VIS_CAM_CFG_cfa.get v) || decide (w < 64) || decide (3840 < w) || w % 16 != 0 || decide (h < 64)
    || decide (2160 < h) || h % 2 != 0 || r == 0 || decide (60 < r)
    || decide (s.rd (VIS_CAM_WIN c) VIS_CAM_WIN_win_hi ≤ s.rd (VIS_CAM_WIN c) VIS_CAM_WIN_win_lo)
    || (VIS_CAM_CFG_disp.get v == 1 &&
      (let a := s.rd (VIS_CAM_DISP c) VIS_CAM_DISP_w16
       let b := s.rd (VIS_CAM_DISP c) VIS_CAM_DISP_h16
       a == 0 || decide (240 < a) || b == 0 || decide (135 < b)
         || decide (sharedTop < s.rd (VIS_CAM_DISP c) VIS_CAM_DISP_base * 0x200000 + 3 * s.dispSize c)
         || areasMeet [s.dispArea c] (s.ethMem ++ ((List.range 12).filter fun k => k != c && s.dispOn k).map s.dispArea)))

/-- A write enabling something beyond the capacity is ignored. -/
def State.capReject (s : State) : State := (s.wr VIS_STAT VIS_STAT_cap_rej 1).note 0x0A30 0

/-- CAMERA_ENABLE: a write that sets en; frames carry token 0 from here until a token applies, one accepted before
included (R308). -/
def execCameraEnable (t : Nat) (c : Fin 12) (v : Word) (s : State) : Out :=
  let s := (s.at t).camsNow
  s.hostWrite (VIS_CAM_CFG c) v (s.camEn c) fun s =>
    if VIS_CAM_CFG_en.get v = 0 then .next s
    else if s.camBad c v then .fault .visionMisuse
    else
      let n := s.camLoad c (VIS_CAM_CFG_rate_cap.get v)
      if 248832000 < n ∨ 1500000000 < s.camSum + n then .next s.capReject
      else
        let k := s.cam c
        .next (((s.store (VIS_CAM_CFG c) v).setCam c { k with
          trigs := [], lastExp := none, frame := none, token := 0, exp := 0 }).mpix)

/-- A write that takes en from 1 to 0: its frames and triggers end, and a pending block is handed over in the next cycle. -/
def State.camDisable (s : State) (c : Nat) (v : Word) : State :=
  let s := s.camsNow
  let k := s.cam c
  ((s.store (VIS_CAM_CFG c) v).setCam c { k with trigs := [], frame := none, lastExp := none, pendAt := s.cyc }).mpix

/-- An encoder set-up R323 forbids. -/
def State.encBad (s : State) (e : Nat) (v : Word) : Bool :=
  let r := s.rd (VIS_ENC_RATE e) VIS_ENC_RATE_rate
  VIS_ENC_CFG_rc.get v == 3 || VIS_ENC_CFG_idr_int.get v == 0
    || decide (51 < VIS_ENC_CFG_qp.get v) || decide (r < 10) || decide (10000 < r)
    || decide (s.rd (VIS_ENC_RATE e) VIS_ENC_RATE_peak < r)

/-- The pixels per second of the camera an encoder names; of a number that no camera has, 12 to 15, none: such an encoder
gets no picture. (DESIGN CHOICE, log entry 121) -/
def State.encLoad (s : State) (c : Nat) : Nat := if c < 12 then s.camLoad c (s.camRate c) else 0

/-- ENCODER_ENABLE. -/
def execEncoderEnable (t : Nat) (e : Fin 4) (v : Word) (s : State) : Out :=
  let s := s.at t
  s.hostWrite (VIS_ENC_CFG e) v (s.bit (VIS_ENC_CFG e) VIS_ENC_CFG_en) fun s =>
    let c := VIS_ENC_CFG_cam.get v
    if VIS_ENC_CFG_en.get v = 0 then .next s
    else if s.encBad e v then .fault .visionMisuse
    else if 248832000 < s.encLoad c then .next s.capReject
    else .next ((s.store (VIS_ENC_CFG e) v).setEnc e Enc.init)

/-! Coding (R313, R314). -/

/-- A NAL unit in an Annex B byte stream. -/
def annexB (nal : List Byte) : List Byte := [0#8, 0#8, 0#8, 1#8] ++ nal

/-- The levels of ITU-T H.265 up to 5.1, with the largest luma picture and the largest luma sample rate of each: ten times
the level, samples, samples per second. (PRESUMED, log entry 130) -/
def hevcLevels : List (Nat × Nat × Nat) :=
  [(10, 36864, 552960), (20, 122880, 3686400), (21, 245760, 7372800), (30, 552960, 16588800), (31, 983040, 33177600),
    (40, 2228224, 66846720), (41, 2228224, 133693440), (50, 8912896, 267386880), (51, 8912896, 534773760)]

/-- The lowest level that admits a size and a rate (R313); where none does, the highest. No side may be longer than the
square root of eight pictures of the largest size. (PRESUMED, log entry 130) -/
def hevcLevel (w h rate : Nat) : Nat :=
  match hevcLevels.find? fun l =>
      decide (w * h ≤ l.2.1) && decide (w * w ≤ 8 * l.2.1) && decide (h * h ≤ 8 * l.2.1) && decide (w * h * rate ≤ l.2.2) with
  | some l => l.1
  | none => 51

/-- What encoder `e` codes camera `c` to (R313). -/
def State.hevcOf (s : State) (e c : Nat) : Config.Hevc :=
  { level := hevcLevel (s.camW c) (s.camH c) (s.camRate c), width := s.camW c, height := s.camH c, rate := s.camRate c
    ctb := 64, slices := 1, refs := 1, deblock := true, sao := true
    rc := s.rd (VIS_ENC_CFG e) VIS_ENC_CFG_rc, qp := s.rd (VIS_ENC_CFG e) VIS_ENC_CFG_qp
    target := s.rd (VIS_ENC_RATE e) VIS_ENC_RATE_rate, peak := s.rd (VIS_ENC_RATE e) VIS_ENC_RATE_peak }

/-- Does a start code stand in these bytes? -/
def startCode : List Byte → Bool
  | a :: b :: c :: t => (a == 0#8 && b == 0#8 && c == 1#8) || startCode (b :: c :: t)
  | _ => false

/-- Is `nal` one slice NAL unit of an IDR picture, type 19 or 20, or of another picture that others may refer to, type 1
(R313)? (PRESUMED, log entry 130) -/
def sliceNal (idr : Bool) (nal : List Byte) : Bool :=
  match nal with
  | [] => false
  | a :: _ =>
    let ty := a.toNat / 2 % 64
    decide (2 < nal.length) && !startCode nal && (if idr then ty == 19 || ty == 20 else ty == 1)

/-- The access unit of a coded picture: VPS, SPS and PPS stand before every IDR (R313). -/
def State.accessUnit (s : State) (e c : Nat) (idr : Bool) (nal : List Byte) : List Byte :=
  let p := Config.hevcSets (s.hevcOf e c)
  (if idr then annexB p.1 ++ annexB p.2.1 ++ annexB p.2.2 else []) ++ annexB nal

/-- Is the next picture of encoder `e` coded as an IDR (R313)? -/
def State.nextIdr (s : State) (e : Nat) (i : VItem) : Bool :=
  let x := s.enc e
  !i.gap && (x.force || x.resync || x.since.isNone
    || decide (s.rd (VIS_ENC_CFG e) VIS_ENC_CFG_idr_int ≤ x.since.getD 0))

/-- ACCESS_UNIT_DONE: encoder `e` has coded its next picture into the one slice NAL unit `nal`. A gap is coded as an
all-skip P picture; before the first IDR the spec gives such a picture no order count. (DESIGN CHOICE, log entry 77) -/
def execAccessUnitDone (t : Nat) (e : Fin 4) (nal : List Byte) (s : State) : Out :=
  let s := s.at t
  let x := s.enc e
  match x.q with
  | [] => .next s
  | i :: rest =>
    let idr := s.nextIdr e i
    if !s.visRuns || !s.bit (VIS_ENC_CFG e) VIS_ENC_CFG_en || !sliceNal idr nal then .next s
    else
      let n := x.since.getD (Config.freeNat s.free)
      let ty := if i.gap then 2 else if idr then 0 else 1
      let poc := if idr then 0 else n
      let bs := s.accessUnit e i.cam idr nal
      let pad := List.replicate ((16 - bs.length % 16) % 16) 0#8
      let ws := [lo32 i.texp, hi32 i.texp, word i.idx,
        packW [(i.cam, 28), (ty, 26), (b2n (idr && x.resync), 25), (b2n i.bad, 24), (bs.length % 2 ^ 24, 0)],
        packW [(i.token, 16), (poc % 2 ^ 16, 0)], 0#32, 0#32, 0#32] ++ bytesWords (bs ++ pad)
      let a := s.freeNext.deliver (0xA3 + e) ws
      let s1 := if i.gap then a.1.bump (VIS_ENC_STAT e) VIS_ENC_STAT_skip_cnt else a.1
      let since := if idr then some 1 else x.since.map (· + 1)
      if a.2 then
        .next (((s1.bump (VIS_ENC_STAT e) VIS_ENC_STAT_drop_cnt).noteSlow (0x0A20 + e) 0).setEnc e
          { x with q := rest, since := since, resync := true })
      else
        .next (s1.setEnc e { q := rest, since := since, force := x.force && !idr, resync := x.resync && !idr })

/-- FORCE_IDR. -/
def execForceIdr (t : Nat) (r : Fin 64) (s : State) : Out :=
  (s.at t).ringOp r 0x0A 0 7 fun s d =>
    let e := bits (d.par 8) 1 0
    if s.bit (VIS_ENC_CFG e) VIS_ENC_CFG_en then
      .next ((s.setEnc e { s.enc e with force := true }).endOp r d.slot stDone 0 0)
    else .next (s.endOp r d.slot stWrongState 0 0)

/-! Ring operations on cameras (R307, R321). -/

/-- An operation that names a camera that does not exist, 12 to 15, touches none; the spec gives it no status.
(DESIGN CHOICE, log entry 121) -/
def State.noCamera (s : State) (r slot : Nat) : State :=
  (s.endOp r slot (freeStatus s) 0 (Config.freeNat (s.free + 1))).freeAdd 2

/-- SET_EXPOSURE: the items wait for the blanking. -/
def execSetExposure (t : Nat) (x : RingWords) (s : State) : Out :=
  let r := x.ring
  let buf := x.buf
  (s.at t).ringOp r 0x0A 0 1 fun s d =>
    let c := bits (d.par 8) 3 0
    if d.len % 4 ≠ 0 then .fault .visionMisuse
    else if d.len = 0 then .next (s.endOp r d.slot stDone 0 0)
    else if 12 ≤ c then .next (s.noCamera r d.slot)
    else if 128 < d.len then .next (s.endOp r d.slot stBadParam 0 0)
    else if !s.camEn c then .next (s.endOp r d.slot stWrongState 0 0)
    else
      s.takesBuf r d (4 * buf.length) (.next ((s.startOp r d.slot).setCam c { s.cam c with
        exps := (s.cam c).exps ++ [⟨(r, d.slot), bits (d.par 8) 31 16, (d.par 9).toNat, s.bufWords r d buf⟩] }))

/-- Items go to the sensor of camera `c` up to the one it refuses (R307). -/
def State.sendItems (s : State) (c : Nat) (ws : List Word) (nack : Option Nat) : State :=
  s.emit (.sensorItems c (match nack with
    | some i => ws.take (i + 1)
    | none => ws) nack.isSome)

/-- EXPOSURE_ACCEPTED (R307): all items of the next operation acknowledged, or item `nack` refused. A release of this
cycle takes the token into account (R311). -/
def execExposureAccepted (t : Nat) (c : Fin 12) (nack : Option Nat) (s : State) : Out :=
  let s := s.at t
  let k := s.cam c
  match k.exps with
  | [] => .next s
  | x :: rest =>
    if !s.visRuns || k.frame.isSome then .next s
    else
      let s := s.sendItems c x.items nack
      match nack with
      | some i => .next (((s.setCam c { k with exps := rest }).endRunning x.op false stAborted 0 i).settleRing x.op.1)
      | none =>
        let s1 := (s.setCam c { k with exps := rest, toks := k.toks ++ [⟨x.token, x.exp, s.cyc, 0⟩] }).relock c
        let s2 := s1.wr (VIS_CAM_TOK c) VIS_CAM_TOK_tok_acc x.token
        .next ((s2.endRunning x.op false stDone (4 * x.items.length) (s.mtime % 2 ^ 32)).settleRing x.op.1)

/-- What SENSOR_XFER does with the items `ws`. -/
def State.sensorXfer (s : State) (r : Nat) (d : RDesc) (c : Nat) (ws : List Word) (reads : List Byte) (nack : Option Nat) :
    State :=
  let stop := nack.getD ws.length
  let isRead := fun (i : Nat) => decide (i < stop) && bits (wAt ws i) 31 31 == 1
  let s1 := (List.range ws.length).foldl (fun s i =>
    if isRead i then s.bufOut r d (4 * i) [packW [(bits (wAt ws i) 31 8, 8), ((reads.getD i 0#8).toNat, 0)]] else s)
    (s.sendItems c ws nack)
  match nack with
  | some i => s1.endOp r d.slot stAborted 0 i
  | none => s1.endOp r d.slot stDone d.len 0

/-- SENSOR_XFER: `reads` is what the sensor returns for each item, `nack` the item it refuses. In the hold-up the cameras
are off, and it does not start (R60). (DESIGN CHOICE, log entry 77) -/
def execSensorXfer (t : Nat) (r : Fin 64) (buf : List Word) (reads : List Byte) (nack : Option Nat) (s : State) : Out :=
  if s.pow.holdUp.isSome then .next (s.at t)
  else (s.at t).ringOp r 0x0A 0 2 fun s d =>
    let c := bits (d.par 8) 3 0
    if d.len % 4 ≠ 0 then .fault .visionMisuse
    else if d.len = 0 then .next (s.endOp r d.slot stDone 0 0)
    else if 12 ≤ c then .next (s.noCamera r d.slot)
    else if 128 < d.len then .next (s.endOp r d.slot stBadParam 0 0)
    else s.takesBuf r d (4 * buf.length) (.next (s.sensorXfer r d c (s.bufWords r d buf) reads nack))

/-- Words go into the shadow of camera `c`, with a commit if `commit`. -/
def State.camWrite (s : State) (c : Nat) (l : List (Word × Nat)) (commit : Bool) : State :=
  let k := s.cam c
  let k1 := { k with
    sh := l.foldl (fun m p => cellSet (fun _ => 0#32) m p.2 p.1) k.sh, wroteAt := s.cyc
    prevSh := if k.wroteAt = s.cyc then k.prevSh else k.sh }
  let k2 := if commit then { k1 with
      pending := true, pendAt := s.cyc, prevPend := if k.pendAt = s.cyc then k.prevPend else k.pending }
    else k1
  (s.setCam c k2).setReg (VIS_CAM_WSEQ c) (s.reg VIS_HO_SEQ)

/-- PARAM_WRITE. -/
def execParamWrite (t : Nat) (r : Fin 64) (buf : List Word) (s : State) : Out :=
  (s.at t).camsNow.ringOp r 0x0A 0 3 fun s d =>
    let c := bits (d.par 8) 3 0
    let first := bits (d.par 8) 27 16
    let seq := (s.reg VIS_HO_SEQ).toNat
    if d.len % 4 ≠ 0 then .fault .visionMisuse
    else if d.len = 0 then .next (s.endOp r d.slot stDone 0 seq)
    else if 12 ≤ c then .next (s.noCamera r d.slot)
    else if 4096 < first + d.len / 4 then .next (s.endOp r d.slot stBadParam 0 seq)
    else
      let l := (s.bufWords r d buf).zipIdx first
      s.takesBuf r d (4 * buf.length)
        (if l.any fun p => paramBad p.2 p.1 then .fault .visionMisuse
        else .next ((s.camWrite c l (bits (d.par 8) 31 31 == 1)).endSeq 0x0A r d.slot d.len seq))

/-- PARAM_READ. -/
def execParamRead (t : Nat) (r : Fin 64) (s : State) : Out :=
  (s.at t).camsNow.ringOp r 0x0A 0 4 fun s d =>
    let c := bits (d.par 8) 3 0
    let first := bits (d.par 8) 27 16
    if d.len % 4 ≠ 0 then .fault .visionMisuse
    else if d.len = 0 then .next (s.endOp r d.slot stDone 0 0)
    else if 12 ≤ c then .next (s.noCamera r d.slot)
    else if 4096 < first + d.len / 4 then .next (s.endOp r d.slot stBadParam 0 0)
    else
      let m := if bits (d.par 8) 30 30 = 1 then (s.cam c).act else (s.cam c).sh
      s.givesBuf r d
        (.next ((s.bufOut r d 0 ((List.range (d.len / 4)).map fun i => cellGet (fun _ => 0#32) m (first + i))).endOp r d.slot
          stDone d.len 0))

end Sys2Proof.Machine
end

