-- ==== Sys2Proof/Machine/Cle.lean ====
section
/-! DEFINITION. The commands of the control engine (spec/06): evaluations, hand-overs, its ring operations and its
register window, and the load window (R18). The capture trigger is in Sensors.lean. -/

namespace Sys2Proof.Machine

/-- LOAD_WINDOW_END (R18, R19). (DESIGN CHOICE, log entry 104) -/
def execLoadWindowEnd (t : Nat) (s : State) : Out :=
  let s := s.at t
  if !s.ready 3 || decide (s.cyc < s.cle.winFrom + ms 1) then .next s
  else
    let n := s.cle.evals
    let s1 := (s.wr CLE_LOAD CLE_LOAD_last (min 0xFFFF n)).wrMax CLE_LOAD CLE_LOAD_peak n
    let s2 := { s1 with cle := { s1.cle with evals := 0, winFrom := s.cyc } }
    .next (s2.guarSet SYS_GUAR_load_over SYS_GUAR_load_seen (decide (1280 < n)))

/-- Does the engine run loop `n` (R77, R148)? -/
def State.loopRuns (s : State) (n : Nat) : Bool := s.ready 3 && !s.fenced 4 && lpEn (s.loop n).act

/-- Loop `n` moves to the catch-up lane (R148). -/
def State.toLane (s : State) (n : Nat) : State := s.setLoop n { s.loop n with cu := true }

/-- The slot start of loop `n`, in the cycle in which MTIME reaches it (R147, R148). -/
def State.slotStart (s : State) (n : Nat) : Out :=
  let l := s.loop n
  let g := l.nom + 24000
  if l.cu || decide (s.mtime < g) then .next s
  else
    match l.sample with
    | some raw => if s.mtime < g + 5 ∧ l.trig = l.nom then s.evaluate n raw l.trig g true else .next (s.toLane n)
    | none => .next (s.toLane n)

/-- LOOP_EVALUATION (R147, R148, R158): at the loop's slot start. A loop whose sample is not held then moves to the
catch-up lane. No evaluation acts on poisoned data of the Class A island, the only memory it reads (R13, R32). -/
def execLoopEvaluation (t : Nat) (n : Fin 64) (ecc : List EccHit) (s : State) : Out :=
  let hits := ecc.filter fun h => h.region.val == 0
  let s := (s.at t).eccAll hits
  let l := s.loop n
  if !s.loopRuns n || eccBad hits then .next s
  else
    match l.flight with
    | none => s.slotStart n
    | some f =>
      if f.lane || decide (s.cyc < f.start) then s.slotStart n
      else
        match f.sample with
        | some raw =>
          if s.cyc = f.start then (s.setLoop n { l with flight := none }).evaluate n raw f.trig s.mtime false
          else .next (s.setLoop n { l with flight := some { f with lane := true } })
        | none => .next (s.setLoop n { l with flight := some { f with lane := true } })

/-- The evaluation of loop `n` that competes for the catch-up lane, its sample held: its trigger instant, the sample, and
whether it is one of the present grid (R148, R149). -/
def State.laneJob (s : State) (n : Nat) : Option (Nat × Int × Bool) :=
  let l := s.loop n
  let own := if s.onLane n then l.sample.map fun x => (l.trig, x, true) else none
  match l.flight with
  | none => own
  | some f =>
    match f.sample with
    | some x => if f.onLane s.cyc then some (f.trig, x, false) else own
    | none => own

/-- Does another evaluation come before one of loop `n` triggered at `trig` (R148)? (DEDUCED, log entry 51) -/
def State.laneAhead (s : State) (n trig : Nat) : Bool :=
  (List.range 64).any fun m =>
    m != n && lpEn (s.loop m).act
      && (s.laneJob m).any fun j => decide (j.1 < trig) || (j.1 == trig && decide (m < n))

/-- CATCHUP_EVALUATION (R148, R166). (DEDUCED, log entry 51) -/
def execCatchupEvaluation (t : Nat) (n : Fin 64) (s : State) : Out :=
  let s := s.at t
  if !s.loopRuns n || decide (s.cyc < s.cle.laneFree) then .next s
  else
    match s.laneJob n with
    | none => .next s
    | some (trig, raw, own) =>
      if s.laneAhead n trig then .next s
      else
        let s1 := { s with cle := { s.cle with laneFree := s.cyc + 625 } }
        (if own then s1 else s1.setLoop n { s1.loop n with flight := none }).evaluate n raw trig s.mtime own

/-- LOOP_HANDOVER (R169): of a loop whose active half has en 0, in the next cycle. -/
def execLoopHandover (t : Nat) (n : Fin 64) (s : State) : Out :=
  let s := s.at t
  let l := s.loop n
  if !l.due s.cyc || lpEn l.act then .next s
  else if s.outBad n (l.source s.cyc) then .fault .controlEngineMisuse
  else .next (s.loopCopy n)

/-! Ring function 0 (R172). -/

/-- Does a loop take host targets? -/
def State.hostLoop (s : State) (n : Nat) : Bool := lpEn (s.loop n).act && lpTsrc (s.loop n).act == 0

/-- SET_TARGET. -/
def execSetTarget (t : Nat) (r : Fin 64) (s : State) : Out :=
  (s.at t).ringOp r 0x03 0 1 fun s d =>
    let n := bits (d.par 8) 5 0
    if s.hostLoop n then .next ((s.startOp r d.slot).writeTarget n 0 (sInt (d.par 9)) (some (r, d.slot)))
    else .next ((s.countIgn n).endOp r d.slot stWrongState 0 0)

/-- SET_TARGETS. (DESIGN CHOICE, log entry 55) -/
def execSetTargets (t : Nat) (r : Fin 64) (buf : List Word) (s : State) : Out :=
  (s.at t).ringOp r 0x03 0 2 fun s d =>
    if d.len % 8 ≠ 0 then .fault .controlEngineMisuse
    else if d.len = 0 then .next (s.endOp r d.slot stDone 0 0)
    else s.takesBuf r d (4 * buf.length) <|
      let ws := s.bufWords r d buf
      let pairs := (List.range (d.len / 8)).map fun i => (bits (wAt ws (2 * i)) 5 0, sInt (wAt ws (2 * i + 1)))
      if pairs.all fun p => s.hostLoop p.1 then
        let s1 := s.startOp r d.slot
        let x : TgtsOp := ⟨(r, d.slot), (pairs.map Prod.fst).dedup, pairs.length, false⟩
        let s2 := { s1 with cle := { s1.cle with tgts := s1.cle.tgts ++ [x] } }
        .next (pairs.foldl (fun s p =>
          let l := s.loop p.1
          let s0 := s.setLoop p.1 { l with tgtOps := l.tgtOps.filter fun o => o.1 != (r.val, d.slot) }
          s0.writeTarget p.1 0 p.2 (some (r, d.slot))) s2)
      else .next ((pairs.foldl (fun s p => s.countIgn p.1) s).endOp r d.slot stWrongState 0 0)

/-! Ring function 1 (R173). -/

/-- The result word of a configuration operation. -/
def State.hoCle (s : State) : Nat := (s.reg CLE_HO_SEQ).toNat

/-- `n` consecutive items of `k` words. (DESIGN CHOICE, log entry 100) -/
def itemsOf (buf : List Word) (k n : Nat) : List (List Word) :=
  (List.range n).map fun i => (List.range k).map fun j => wAt buf (k * i + j)

/-- CLE_WRITE. -/
def execCleWrite (t : Nat) (r : Fin 64) (buf : List Word) (s : State) : Out :=
  (s.at t).ringOp r 0x03 1 0x10 fun s d =>
    let first := bits (d.par 8) 5 0
    let mode := bits (d.par 8) 17 16
    let n := d.len / 128
    if 64 < first + (d.len + 127) / 128 ∨ 2 ≤ mode then .next (s.endOp r d.slot stBadParam 0 s.hoCle)
    else if d.len % 128 ≠ 0 then .fault .controlEngineMisuse
    else s.takesBuf r d (4 * buf.length) <|
      let hs := (itemsOf (s.bufWords r d buf) 32 n).zipIdx first
      if hs.any fun p => lpBad p.2 p.1 then .fault .controlEngineMisuse
      else
        let s1 := hs.foldl (fun s p => if mode = 1 then (s.loopWrite p.2 p.1).loopCommit p.2 else s.loopWrite p.2 p.1) s
        .next (s1.endSeq 3 r d.slot d.len s1.hoCle)

/-- CLE_COMMIT. -/
def execCleCommit (t : Nat) (r : Fin 64) (s : State) : Out :=
  (s.at t).ringOp r 0x03 1 0x11 fun s d =>
    let first := bits (d.par 8) 5 0
    let n := bits (d.par 9) 6 0
    if 64 < first + n then .next (s.endOp r d.slot stBadParam 0 s.hoCle)
    else .next (((List.range n).foldl (fun s k => s.loopCommit (first + k)) s).endSeq 3 r d.slot 0 s.hoCle)

/-- CLE_READ. -/
def execCleRead (t : Nat) (r : Fin 64) (s : State) : Out :=
  (s.at t).ringOp r 0x03 1 0x12 fun s d =>
    let first := bits (d.par 8) 5 0
    let item := bits (d.par 8) 17 16
    let n := d.len / 128
    if 64 < first + (d.len + 127) / 128 ∨ item = 3 then .next (s.endOp r d.slot stBadParam 0 s.hoCle)
    else if d.len % 128 ≠ 0 then .fault .controlEngineMisuse
    else s.givesBuf r d <|
      let ws := (List.range n).flatMap fun k => s.loopItem (first + k) item
      .next ((s.bufOut r d 0 ws).endSeq 3 r d.slot d.len s.hoCle)

/-- Loop `n` clears its state at its next evaluation. -/
def State.loopClear (s : State) (n : Nat) : State := s.setLoop n { s.loop n with clear := true }

/-- CLEAR_STATE. -/
def execClearState (t : Nat) (r : Fin 64) (s : State) : Out :=
  (s.at t).ringOp r 0x03 1 0x13 fun s d =>
    let first := bits (d.par 8) 5 0
    let n := bits (d.par 9) 6 0
    if 64 < first + n then .next (s.endOp r d.slot stBadParam 0 s.hoCle)
    else .next (((List.range n).foldl (fun s k => s.loopClear (first + k)) s).endSeq 3 r d.slot 0 s.hoCle)

/-- POOL_WRITE. -/
def execPoolWrite (t : Nat) (r : Fin 64) (buf : List Word) (s : State) : Out :=
  (s.at t).ringOp r 0x03 1 0x14 fun s d =>
    let first := bits (d.par 8) 12 0
    if 8192 < first + (d.len + 3) / 4 then .next (s.endOp r d.slot stBadParam 0 s.hoCle)
    else if d.len % 4 ≠ 0 then .fault .controlEngineMisuse
    else s.takesBuf r d (4 * buf.length) <|
      .next ((((s.bufWords r d buf).zipIdx first).foldl (fun s p => s.setPool p.2 p.1) s).endSeq 3 r d.slot d.len s.hoCle)

/-- POOL_READ. -/
def execPoolRead (t : Nat) (r : Fin 64) (s : State) : Out :=
  (s.at t).ringOp r 0x03 1 0x15 fun s d =>
    let first := bits (d.par 8) 12 0
    if 8192 < first + (d.len + 3) / 4 then .next (s.endOp r d.slot stBadParam 0 s.hoCle)
    else if d.len % 4 ≠ 0 then .fault .controlEngineMisuse
    else s.givesBuf r d <|
      let ws := (List.range (d.len / 4)).map fun k => s.poolAt (first + k)
      .next ((s.bufOut r d 0 ws).endSeq 3 r d.slot d.len s.hoCle)

/-! The register window (R174). -/

/-- A window command on the selected loop; CLE_HO_SEQ is latched. -/
def State.winCmd (s : State) (k : State → Nat → Out) : Out :=
  if !s.readyReg CLE_WIN_CMD then .next (s.ignored CLE_WIN_CMD)
  else
    match k s (s.rd CLE_WIN_IDX CLE_WIN_IDX_loop) with
    | .next s1 => .next ((s1.setReg CLE_WIN_SEQ (s1.reg CLE_HO_SEQ)).hoNote 3 (.reg CLE_WIN_SEQ))
    | .fault f => .fault f
    | .refused f => .refused f

def State.winData (s : State) : List Word := (List.range 32).map fun j => s.reg (CLE_WIN_DATA j)

def State.setWinData (s : State) (ws : List Word) : State :=
  (List.range 32).foldl (fun s j => s.setReg (CLE_WIN_DATA j) (wAt ws j)) s

def State.winWrite (s : State) (commit : Bool) : Out :=
  s.winCmd fun s n =>
    if lpBad n s.winData then .fault .controlEngineMisuse
    else .next (if commit then (s.loopWrite n s.winData).loopCommit n else s.loopWrite n s.winData)

def State.winRead (s : State) (item : Nat) : Out := s.winCmd fun s n => .next (s.setWinData (s.loopItem n item))

def execWinWriteShadow (t : Nat) (s : State) : Out := (s.at t).winWrite false
def execWinWriteCommit (t : Nat) (s : State) : Out := (s.at t).winWrite true
def execWinReadShadow (t : Nat) (s : State) : Out := (s.at t).winRead 0
def execWinReadActive (t : Nat) (s : State) : Out := (s.at t).winRead 1
def execWinReadRunState (t : Nat) (s : State) : Out := (s.at t).winRead 2
def execWinClearState (t : Nat) (s : State) : Out := (s.at t).winCmd fun s n => .next (s.loopClear n)

/-- POOL_DATA_ACCESS (R174): a read, or a write of `v`; the index advances with autoinc. -/
def execPoolDataAccess (t : Nat) (v : Option Word) (s : State) : Out :=
  let s := s.at t
  if !s.readyReg CLE_POOL_DATA then
    (match v with
      | some _ => .next (s.ignored CLE_POOL_DATA)
      | none => .next s)
  else
    let i := s.rd CLE_POOL_IDX CLE_POOL_IDX_index
    let s1 := match v with
      | some w => s.setPool i w
      | none => s
    .next (if s.bit CLE_POOL_IDX CLE_POOL_IDX_autoinc then s1.wr CLE_POOL_IDX CLE_POOL_IDX_index ((i + 1) % 8192) else s1)

end Sys2Proof.Machine
end

