-- ==== Sys2Proof/Machine/Shafts.lean ====
section
/-! DEFINITION. The SHAFT schedule domains (R115 to R123): enabling, edges, index pulses, stalls. -/

namespace Sys2Proof.Machine

abbrev syUnsync : Nat := 0
abbrev sySeek : Nat := 1
abbrev sySync : Nat := 2
abbrev syLost : Nat := 3

/-- What NYM_SHAFT_CFGk and GEOk say of a shaft (R115, R116). -/
structure ShaftCfg where
  mode : Nat
  teeth : Nat
  missing : Nat
  secIn : Nat
  idxIn : Nat
  dirMode : Nat
  offset : Nat
deriving DecidableEq, Repr

/-- Decode a value of NYM_SHAFT_CFGk. -/
def shaftCfgOf (v : Word) (offset : Nat) : ShaftCfg :=
  { mode := NYM_SHAFT_CFG_mode.get v, teeth := NYM_SHAFT_CFG_teeth.get v, missing := NYM_SHAFT_CFG_missing.get v
    secIn := NYM_SHAFT_CFG_sec_in.get v, idxIn := NYM_SHAFT_CFG_idx_in.get v
    dirMode := NYM_SHAFT_CFG_dir_mode.get v, offset := offset }

def State.shaftCfg (s : State) (k : Nat) : ShaftCfg :=
  shaftCfgOf (s.reg (NYM_SHAFT_CFG k)) (s.rd (NYM_SHAFT_GEO k) NYM_SHAFT_GEO_offset)

def State.shaftSync (s : State) (k : Nat) : Nat := s.rd (NYM_SHAFT_STAT k) NYM_SHAFT_STAT_sync
def State.shaftEn (s : State) (k : Nat) : Bool := s.bit (NYM_SHAFT_CFG k) NYM_SHAFT_CFG_en

/-- Edge positions per revolution, E (R115). -/
def ShaftCfg.edges (c : ShaftCfg) : Nat := if c.mode = 2 then 4 * c.teeth else c.teeth

/-- The angle of edge `e`, not reduced (R116). -/
def ShaftCfg.angle (c : ShaftCfg) (e : Nat) : Int :=
  ((c.offset + (2 * e * 2 ^ 24 + c.edges) / (2 * c.edges) : Nat) : Int)

/-- The number of edges that come in a revolution: the missing teeth of GAP mode give none. -/
def ShaftCfg.live (c : ShaftCfg) : Nat := if c.mode = 0 then c.teeth - c.missing else c.edges

/-- The edge after or before `e`, and the whole revolutions passed on the way, in turn units. -/
def ShaftCfg.step (c : ShaftCfg) (e : Nat) (fwd : Bool) : Nat × Int :=
  if fwd then (if e + 1 < c.live then (e + 1, 0) else (0, 2 ^ 24))
  else if e = 0 then (c.live - 1, -(2 ^ 24)) else (e - 1, 0)

/-- The inputs a configuration reads beside its primary input. -/
def ShaftCfg.inputs (c : ShaftCfg) : List Nat :=
  (if c.mode = 2 ∨ c.dirMode = 2 then [c.secIn] else []) ++ (if c.mode = 1 ∨ c.mode = 2 then [c.idxIn] else [])

/-- An input code the spec forbids (R144). -/
def badInput (i : Nat) : Bool := decide (0x18 ≤ i) && decide (i ≤ 0x1E)

/-- Does GROUND, enabled, read the primary input of shaft `k` (R144)? -/
def State.gndReads (s : State) (k : Nat) : Bool :=
  s.bit NYM_GND_CFG NYM_GND_CFG_en && (s.rd NYM_GND_CFG NYM_GND_CFG_wheel_in == k || s.rd NYM_GND_CFG NYM_GND_CFG_dir_in == k)

/-- A shaft configuration R144 forbids, for shaft `k` among the enabled ones of `s`. -/
def State.shaftBad (s : State) (k : Nat) (c : ShaftCfg) : Bool :=
  decide (3 ≤ c.mode) || c.teeth == 0 || decide (1024 < c.teeth)
    || (if c.mode = 0 then !(c.missing == 1 || c.missing == 2) || decide (c.teeth < c.missing + 2) else c.missing != 0)
    || badInput c.secIn || badInput c.idxIn
    || c.inputs.any (fun i => decide (i < 8) && (i == k || s.shaftEn i))
    || s.gndReads k
    || (List.range 8).any fun q => q != k && s.shaftEn q && (s.shaftCfg q).inputs.contains k

/-- The stall time in cycles (R120). -/
def State.stallTime (s : State) (k : Nat) : Nat :=
  let c := s.shaftCfg k
  let v := s.rd (NYM_SHAFT_GEO k) NYM_SHAFT_GEO_stall
  if v ≠ 0 then ms (20 * v)
  else if c.mode = 0 then sec (24 * (c.missing + 1)) / c.teeth
  else if c.mode = 1 then sec 24 / c.teeth
  else sec 6 / c.teeth

/-- In K12 mode the K12 engine holds the configuration of SHAFT0 (R143). -/
def State.shaftK12 (s : State) (k : Nat) : Bool := s.isK12 && k == 0

/-- The domain is enabled and seeks synchronisation (R117). -/
def State.shaftSeek (s : State) (k : Nat) : State :=
  let s1 := s.setReg (NYM_SHAFT_STAT k) (packW [(sySeek, 30), (s.rd (NYM_SHAFT_STAT k) NYM_SHAFT_STAT_ovs, 27),
    (s.rd (NYM_SHAFT_STAT k) NYM_SHAFT_STAT_lost_seen, 26)])
  s1.course (2 + k) fun s =>
    s.setShaft k { Shaft.init with anchor := s.cyc, stallFrom := s.cyc, jumps := (s.shaft k).jumps }

/-- SHAFT_ENABLE: a write that sets en (R123). -/
def execShaftEnable (t : Nat) (k : Fin 8) (v : Word) (s : State) : Out :=
  let s := s.at t
  s.hostWrite (NYM_SHAFT_CFG k) v (s.shaftEn k || s.shaftK12 k) fun s =>
    if NYM_SHAFT_CFG_en.get v = 0 then .next s
    else if s.shaftBad k (shaftCfgOf v (s.rd (NYM_SHAFT_GEO k) NYM_SHAFT_GEO_offset)) then .fault .nymgorMisuse
    else .next ((s.store (NYM_SHAFT_CFG k) v).shaftSeek k)

/-- UNSYNC: the position holds, entries are held, the LOST fault clears (R123). -/
def State.shaftUnsync (s : State) (k : Nat) : State :=
  let s1 := s.course (2 + k) fun s => s.setShaft k ((s.shaft k).hold s.cyc)
  ((s1.wr (NYM_SHAFT_STAT k) NYM_SHAFT_STAT_sync syUnsync).wr (NYM_SHAFT_STAT k) NYM_SHAFT_STAT_stalled 0).clear2 (0x0210 + k)

/-- SHAFT_DISABLE: a write that changes en from 1 to 0 (R123). -/
def execShaftDisable (t : Nat) (k : Fin 8) (v : Word) (s : State) : Out :=
  let s := s.at t
  s.hostWrite (NYM_SHAFT_CFG k) v (s.shaftK12 k) fun s =>
    if NYM_SHAFT_CFG_en.get v = 1 ∨ !s.shaftEn k then .next s
    else .next ((s.store (NYM_SHAFT_CFG k) v).shaftUnsync k)

/-! Edges. -/

/-- Is an edge one of forward travel (R119)? -/
def State.edgeFwd (s : State) (c : ShaftCfg) (x : ShaftEdge) : Bool :=
  if c.dirMode = 1 ∧ c.mode = 2 then x.quadFwd
  else if c.dirMode = 2 ∧ c.secIn ≠ 0x1F then !s.inLevel c.secIn
  else if c.dirMode = 3 ∧ c.mode ≠ 2 then decide (x.width < 60000)
  else true

/-- A stall or a change of direction: no rate and no qualifying period is known (R117, R118), and speed reads 0 until the
second edge after it. (DESIGN CHOICE, log entry 109) -/
def Shaft.fresh (h : Shaft) : Shaft := { h with tEdge := none, per := [], rPrev := 0, rNew := 0 }

/-- What the synchronisation check of an edge finds. -/
inductive EdgeFinding where
  | none
  | advance
  /-- First synchronisation at an edge position. -/
  | first (e : Nat)
  /-- Return from LOST at an edge position. -/
  | back (e : Nat)
  | fail
deriving DecidableEq, Repr

/-- Is a gap recognised at this edge? None while three qualifying periods are not known (R117). -/
def gapSeen (m : Nat) (per : List Nat) : Option Bool :=
  match per with
  | d :: b :: a :: _ => some (decide ((2 + m) * a < 2 * b) && decide ((2 + m) * d < 2 * b))
  | _ => none

/-- The check of GAP mode; `h` has this edge in its periods and counts. In reverse the gap is recognised one position
past the last tooth. (DESIGN CHOICE, log entry 108) -/
def gapCheck (c : ShaftCfg) (sync : Nat) (h : Shaft) : EdgeFinding × Shaft :=
  let gap := gapSeen c.missing h.per
  let exp := if h.fwd then 1 else c.teeth - c.missing - 2
  if sync = sySeek then
    if gap = some true then
      (if h.seen && h.cnt.natAbs == c.teeth - c.missing then .first exp else .none, { h with seen := true, cnt := 0 })
    else (.none, h)
  else if sync = sySync then
    (match gap with
      | some g => if g == ((c.step h.edge h.fwd).1 == exp) then .advance else .fail
      | none => .advance, h)
  else (if gap = some true then .back exp else .none, h)

/-- The check of INDEX and QUAD mode at the first edge after an index pulse; in reverse that edge is the last of the
revolution. (DESIGN CHOICE, log entry 108) -/
def indexCheck (c : ShaftCfg) (sync : Nat) (h : Shaft) : EdgeFinding × Shaft :=
  let h1 := { h with idx := none, seen := h.seen || h.idx.isSome }
  let e := if h.fwd then 0 else c.edges - 1
  match h.idx with
  | none => (if sync = sySync then .advance else .none, h1)
  | some n =>
    if sync = sySeek then (if h.seen && n.natAbs == c.edges then .first e else .none, h1)
    else if sync = sySync then (if n.natAbs = c.edges then .advance else .fail, h1)
    else (.back e, h1)

/-- Snap to edge `e` with revolution base `base`, and find the new rate from the period `p` (R118). The last edge's
r_new stands as r_prev across LOST. (DESIGN CHOICE, log entry 109) -/
def Shaft.snap (h : Shaft) (c : ShaftCfg) (e : Nat) (base : Int) (p : Option Nat) (cyc : Nat) : Shaft :=
  let prev := c.step e (!h.fwd)
  let next := c.step e h.fwd
  let pos := base + c.angle e
  let span := (c.angle e - (c.angle prev.1 + prev.2)).natAbs
  let lim := base + next.2 + c.angle next.1 - dirSign h.fwd
  let h1 := { h with posF := pos * 2 ^ 24, anchor := cyc, revBase := base, edge := e, limit := lim }
  match p with
  | none => { h1 with rate := 0 }
  | some n =>
    let rn := span * 2 ^ 24 / n
    let rate := if h.rPrev = 0 then rn else max (rn / 2) (min (2 * rn) (rn * rn / h.rPrev))
    { h1 with rate := rate, rPrev := rn, rNew := rn }

/-- NYM_SHAFT_STATk.speed in 0.25 rpm, from a rate (R118). -/
def speedOf (rNew : Nat) : Nat := min 0xFFFF (rNew * 240 * 200000000 / 2 ^ 48)

/-- Report an edge: direction, edge position, speed, and over-speed as the speed rises past 12,000 rpm (R121).
(DESIGN CHOICE, log entry 110) -/
def State.shaftReport (s : State) (k : Nat) (c : ShaftCfg) : State :=
  let h := s.shaft k
  let quick := decide (2 ^ 48 < h.rNew * 1000000)
  let s1 := (((s.wr (NYM_SHAFT_STAT k) NYM_SHAFT_STAT_rev (b2n !h.fwd)).wr (NYM_SHAFT_STAT k) NYM_SHAFT_STAT_stalled 0).wr
    (NYM_SHAFT_STAT k) NYM_SHAFT_STAT_edge_pos (if c.mode = 2 then h.edge / 4 else h.edge)).wr
      (NYM_SHAFT_STAT k) NYM_SHAFT_STAT_speed (speedOf h.rNew)
  let s2 := s1.setShaft k { h with fast := quick }
  if quick && !h.fast then (s2.wr (NYM_SHAFT_STAT k) NYM_SHAFT_STAT_ovs 1).note (0x0218 + k) 0 else s2

/-- The revolution base that puts edge `e` within half a revolution of the held position (R122). -/
def nearBase (c : ShaftCfg) (e : Nat) (held : Int) : Int := (held - c.angle e + 2 ^ 23) / 2 ^ 24 * 2 ^ 24

/-- What an edge finding does to shaft `k`, whose record is `h`. On LOST the position holds at its value of the cycle
before (R117). -/
def State.shaftFound (s : State) (k : Nat) (c : ShaftCfg) (f : EdgeFinding) (h : Shaft) (p : Option Nat) : State :=
  let held := (s.shaft k).units (s.cyc - 1)
  match f with
  | .none => s.setShaft k h
  | .advance =>
    let n := c.step h.edge h.fwd
    s.course (2 + k) fun s => s.setShaft k (h.snap c n.1 (h.revBase + n.2) p s.cyc)
  | .first e =>
    let s1 := s.setShaft k { h.snap c e (-(c.angle e / 2 ^ 24 * 2 ^ 24)) p s.cyc with syncAt := s.cyc }
    (s1.wr (NYM_SHAFT_STAT k) NYM_SHAFT_STAT_sync sySync).firstSync (2 + k)
  | .back e =>
    let base := nearBase c e held
    s.course (2 + k) fun s =>
      let s1 := s.setShaft k { h.snap c e base p s.cyc with syncAt := s.cyc }
      let s2 := ((s1.wr (NYM_SHAFT_STAT k) NYM_SHAFT_STAT_sync sySync).bump (NYM_SHAFT_CNT k)
        NYM_SHAFT_CNT_resync_cnt).clear2 (0x0210 + k)
      s2.jump (2 + k) held (base + c.angle e - held)
  | .fail =>
    let s1 := s.course (2 + k) fun s =>
      s.setShaft k { h with posF := (s.shaft k).posAt (s.cyc - 1), anchor := s.cyc, rate := 0, idx := none }
    (((s1.wr (NYM_SHAFT_STAT k) NYM_SHAFT_STAT_sync syLost).wr (NYM_SHAFT_STAT k) NYM_SHAFT_STAT_lost_seen 1).bump
      (NYM_SHAFT_CNT k) NYM_SHAFT_CNT_err_cnt).raise2 (0x0210 + k) 0

/-- SHAFT_EDGE (R117, R118, R122). The first edge after a change of direction counts one position back; edges between two
index pulses or gaps count by their direction. (DESIGN CHOICE, log entry 109) -/
def execShaftEdge (t : Nat) (k : Fin 8) (edge : ShaftEdge) (s : State) : Out :=
  let s := s.at t
  if !s.shaftEn k then .next s
  else
    let c := s.shaftCfg k
    let h0 := s.shaft k
    let fwd := s.edgeFwd c edge
    let h1 := if s.bit (NYM_SHAFT_STAT k) NYM_SHAFT_STAT_stalled || fwd != h0.fwd then h0.fresh else h0
    let p := h1.tEdge.map fun a => s.cyc - a
    let p1 := if p = some 0 then none else p
    let h2 := { h1 with
      fwd := fwd, tEdge := some s.cyc, stallFrom := s.cyc, cnt := h1.cnt + dirSign fwd
      per := match p1 with
        | some n => n :: h1.per.take 2
        | none => h1.per }
    let r := if c.mode = 0 then gapCheck c (s.shaftSync k) h2 else indexCheck c (s.shaftSync k) h2
    .next ((s.shaftFound k c r.1 r.2 p1).shaftReport k c)

/-- SHAFT_INDEX_PULSE (R117): the pulse closes the count of edges since the last one. -/
def execShaftIndexPulse (t : Nat) (k : Fin 8) (s : State) : Out :=
  let s := s.at t
  if !s.shaftEn k || (s.shaftCfg k).mode == 0 then .next s
  else .next (s.setShaft k { s.shaft k with idx := some (s.shaft k).cnt, cnt := 0 })

/-- SHAFT_STALL (R120): no edge within the stall time. -/
def execShaftStall (t : Nat) (k : Fin 8) (s : State) : Out :=
  let s := s.at t
  if !s.shaftEn k || s.bit (NYM_SHAFT_STAT k) NYM_SHAFT_STAT_stalled
      || decide (s.cyc < (s.shaft k).stallFrom + s.stallTime k) then .next s
  else
    let s1 := s.course (2 + k) fun s => s.setShaft k ((s.shaft k).hold s.cyc).fresh
    .next ((s1.wr (NYM_SHAFT_STAT k) NYM_SHAFT_STAT_stalled 1).wr (NYM_SHAFT_STAT k) NYM_SHAFT_STAT_speed 0)

end Sys2Proof.Machine
end

