-- ==== Sys2Proof/Machine/Sensors.lean ====
section
/-! DEFINITION. The sensor front ends (R242 to R252): analog, frequency and digital inputs, the capture trigger of a
control loop (R151), loss channels, impacts and hit maps. -/

namespace Sys2Proof.Machine

def State.ain (s : State) (n : Nat) : Ain := cellGet (fun _ => Ain.init) s.sns.ain n

def State.setAin (s : State) (n : Nat) (a : Ain) : State :=
  { s with sns := { s.sns with ain := cellSet (fun _ => Ain.init) s.sns.ain n a } }

def State.setFin (s : State) (n : Nat) (f : FreqIn) : State :=
  { s with sns := { s.sns with fin := cellSet (fun _ => FreqIn.init) s.sns.fin n f } }

def State.ainEn (s : State) (n : Nat) : Bool := s.bit (SNS_AIN_CFG n) SNS_AIN_CFG_en
def State.finEn (s : State) (n : Nat) : Bool := s.bit (SNS_FIN_CFG n) SNS_FIN_CFG_en

/-- Inputs the K12 engine configures and triggers in K12 mode (R274). -/
def State.ainK12 (s : State) (n : Nat) : Bool := s.isK12 && decide (n < 16)
def State.finK12 (s : State) (n : Nat) : Bool := s.isK12 && decide (n < 4)

/-! Raw values of the inputs that are latched (R150). -/

/-- Shaft speed in krpm, Q8.24, negative in reverse. -/
def State.shaftRaw (s : State) (k : Nat) : Int :=
  let h := s.shaft k
  let v := rnd 24 ((h.rNew : Int) * 12000000)
  sat32 (if h.fwd then v else -v)

/-- Ground speed in m/s, Q8.24, negative in reverse. -/
def State.gndRaw (s : State) : Int :=
  let v : Int := rndDiv ((s.rd NYM_GND_STAT NYM_GND_STAT_speed : Int) * 2 ^ 24) 1000
  sat32 (if s.bit NYM_GND_STAT NYM_GND_STAT_rev then -v else v)

def State.shaftSpeeds (s : State) : List Int := (List.range 8).map s.shaftRaw

/-! Analog inputs (R244, R245). -/

/-- A conversion of input `n` starts. -/
def State.ainStart (s : State) (n : Nat) (loops : List Nat) (defer : Bool) : State :=
  let a := s.ain n
  let s1 := s.setAin n { last := some s.cyc, wait := none, conv := a.conv ++ [⟨s.cyc, s.mtime, defer, loops, s.shaftSpeeds⟩] }
  if s.k12Runs && decide (n < 16) then
    s1.k12Phase (min (s.mtime % 1000000) (1000000 - s.mtime % 1000000)) false
  else s1

/-- A deferred conversion of input `n` falls away with its enable: the loops that wait for it have not been served, and
trigger again once it is enabled (R151). -/
def State.ainForget (s : State) (n : Nat) : State :=
  match (s.ain n).wait with
  | none => s
  | some w =>
    w.foldl (fun s m => s.setLoop m { s.loop m with trigged := false }) (s.setAin n { s.ain n with wait := none })

/-- A trigger reaches input `n`, for the loops named: in the cycle of a start it joins that conversion, less than 100 µs
after it a deferred one (R243, R245). (DESIGN CHOICE, log entry 65) -/
def State.ainTrigger (s : State) (n : Nat) (loops : List Nat) : State :=
  let a := s.ain n
  if !s.snsRuns || !s.ainEn n then s
  else
    match a.last, a.wait with
    | some c, none =>
      if c = s.cyc then
        s.setAin n { a with conv := a.conv.map fun v => if v.start = s.cyc then { v with loops := v.loops ++ loops } else v }
      else if s.cyc < c + us 100 then s.setAin n { a with wait := some loops }
      else s.ainStart n loops false
    | _, some w => s.setAin n { a with wait := some (w ++ loops) }
    | none, none => s.ainStart n loops false

/-- AIN_PERIODIC_TRIGGER (R245): at each MTIME that is a multiple of the interval. -/
def execAinPeriodicTrigger (t : Nat) (n : Fin 64) (s : State) : Out :=
  let s := s.at t
  let i := 1000 * s.rd (SNS_AIN_CFG n) SNS_AIN_CFG_interval
  if !s.bit (SNS_AIN_CFG n) SNS_AIN_CFG_periodic || i == 0 || decide (5 ≤ s.mtime % i) then .next s
  else .next (s.ainTrigger n [])

/-- AIN_DEFERRED_CONVERSION (R245). -/
def execAinDeferredConversion (t : Nat) (n : Fin 64) (s : State) : Out :=
  let s := s.at t
  let a := s.ain n
  match a.last, a.wait with
  | some c, some w =>
    if s.cyc < c + us 100 then .next s
    else if s.snsRuns && s.ainEn n then .next (s.ainStart n w true)
    else .next (s.ainForget n)
  | _, _ => .next s

/-- A sample for loop `m`, which has issued its trigger and holds none; an evaluation under way since a step of MTIME has
triggered first. -/
def State.loopSample (s : State) (raw : Int) (m : Nat) : State :=
  let l := s.loop m
  let own := if l.trigged && l.sample.isNone then s.setLoop m { l with sample := some raw } else s
  match l.flight with
  | some f => if f.sample.isNone then s.setLoop m { l with flight := some { f with sample := some raw } } else own
  | none => own

/-- Loops that wait for a sample of an input: kind 1 AIN, 2 FIN. -/
def State.loopsOn (s : State) (kind n : Nat) : List Nat :=
  (List.range 64).filter fun m => lpEn (s.loop m).act && lpInKind (s.loop m).act == kind && lpInNum (s.loop m).act == n

/-- Full scale of input `n` in nV: 10.0 V, or the voltage `ref` of the reference that feeds SS5_0 to SS5_3 (R244). -/
def State.ainFull (s : State) (n ref : Nat) : Nat := if s.bit (SNS_AIN_CFG n) SNS_AIN_CFG_ratio then ref else 10000000000

/-- The code of `nv` nV at full scale `full`, in units of full scale / 65,536: the nearer end beyond the range. The spec
does not state the rounding of a value between two codes. (DESIGN CHOICE, log entry 117) -/
def ainCode (nv : Int) (full : Nat) : Nat :=
  if nv ≤ 0 then 0
  else if (full : Int) ≤ nv then 65535
  else (clampI 0 65535 (nv * 65536 / full + (if nv * 65536 % full ≠ 0 ∧ Config.roundUp (nv * 65536) then 1 else 0))).toNat

/-- AIN_CONVERSION_DONE (R244): the sampling edge came `edge` ns after the start and found `nv` nV, with the reference at
`ref` nV. A K12 input's sample goes to every loop that waits. (DESIGN CHOICE, log entry 117) -/
def execAinConversionDone (t : Nat) (n : Fin 64) (edge : Fin 201) (y : AinLevel) (s : State) : Out :=
  let s := s.at t
  let a := s.ain n
  match a.conv with
  | [] => .next s
  | v :: rest =>
    let full := s.ainFull n y.ref
    let x := ainCode y.nv full
    let sat := decide (y.nv < 0) || decide ((full : Int) < y.nv)
    let s1 := (s.setAin n { a with conv := rest }).wr (SNS_AIN_DATA n) SNS_AIN_DATA_value x
    let s2 := if sat then s1.wr (SNS_AIN_DATA n) SNS_AIN_DATA_sat 1 else s1
    let s3 := (if v.defer then s2.wr (SNS_AIN_DATA n) SNS_AIN_DATA_defer_seen 1 else s2).headerSeen
    let raw : Int := (x : Int) * 2 ^ 8
    let s4 := (if s.ainK12 n then s.loopsOn 1 n else v.loops).foldl (fun s m => s.loopSample raw m) s3
    .next (s4.sampleIn ⟨n, (v.stamp + edge) % 2 ^ 64, [raw], v.speeds, false⟩ (s.bit (SNS_AIN_CFG n) SNS_AIN_CFG_raw)
      ((if v.defer then rfDefer else 0) ||| (if sat then rfSat else 0)) (word x))

/-! Frequency inputs (R246). -/

/-- The period that gives the frequency at cycle `c`, in cycles; none while it is 0. -/
def FreqIn.cycles (f : FreqIn) (c : Nat) : Option Nat :=
  match f.rise with
  | none => none
  | some r => if f.per = 0 ∨ sec 2 < c - r then none else some (max f.per (c - r))

/-- Frequency in mHz, and in kHz as Q8.24; both 0 with en 0. -/
def State.finMilli (s : State) (n : Nat) : Nat :=
  match (s.fin n).cycles s.cyc with
  | some c => if s.finEn n then min 0xFFFFFFFF (rndDiv 200000000000 c).toNat else 0
  | none => 0

def State.finRaw (s : State) (n : Nat) : Int :=
  match (s.fin n).cycles s.cyc with
  | some c => if s.finEn n then sat32 (rndDiv (200000 * 2 ^ 24) c) else 0
  | none => 0

/-- Twice the threshold of input `n` in mV: thr, or with vr 1 half the peak of the previous cycle if that is more. -/
def State.finThr (s : State) (n peak : Nat) : Nat :=
  let thr := 2 * s.rd (SNS_FIN_CFG n) SNS_FIN_CFG_thr
  if s.bit (SNS_FIN_CFG n) SNS_FIN_CFG_vr then max thr peak else thr

/-- FIN_EDGE (R246): the input has stood on one side of its threshold, at `mv` mV, since it crossed it at cycle `since`;
`peak` is the peak of the previous cycle in mV. A new level is accepted, and its edge dated, glitch µs after the crossing.
(DESIGN CHOICE, log entry 58) -/
def execFinEdge (t : Nat) (n : Fin 24) (x : FinCross) (s : State) : Out :=
  let s := s.at t
  let f := s.fin n
  let level := decide ((s.finThr n x.peak : Int) ≤ 2 * x.mv)
  if level == f.level || s.cyc != x.since + us (s.rd (SNS_FIN_CFG n) SNS_FIN_CFG_glitch) then .next s
  else
    let s1 := (s.setFin n { f with level := level }).gndFin n
    if !s1.snsRuns || !level then .next s1
    else
      .next (s1.setFin n { s1.fin n with
        rise := some s.cyc
        per := match f.rise with
          | some r => s.cyc - r
          | none => 0 })

/-- FIN_DATA_UPDATE (R246), every 10 µs. -/
def execFinDataUpdate (t : Nat) (n : Fin 24) (s : State) : Out :=
  let s := s.at t
  if !s.snsRuns then .next s else .next (s.setReg (SNS_FIN_DATA n) (word (s.finMilli n)))

/-- A latch of input `n` in this cycle; `give` hands its value to the loops that asked for it. -/
def State.finLatchNew (s : State) (n : Nat) (give : State → Int → State) : State :=
  let raw := s.finRaw n
  let s1 := give (s.setFin n { s.fin n with latch := some (s.cyc, raw, s.finMilli n) }) raw
  s1.sampleIn ⟨0x40 + n, s.mtime, [raw], s.shaftSpeeds, false⟩ (s.bit (SNS_FIN_CFG n) SNS_FIN_CFG_raw) 0
    (word (s.finMilli n))

/-- A trigger latches the frequency of input `n` in its cycle, for the loops named; triggers of one cycle share one latch
(R243, R246). -/
def State.finLatch (s : State) (n : Nat) (loops : List Nat) : State :=
  let f := s.fin n
  let give := fun (s : State) (raw : Int) => loops.foldl (fun s m => s.loopSample raw m) s
  if !s.snsRuns || !s.finEn n then s
  else
    match f.latch with
    | some (c, raw, _) => if c = s.cyc then give s raw else s.finLatchNew n give
    | none => s.finLatchNew n give

/-! Digital inputs (R247). -/

/-- A word from its bits. -/
def ofBits (f : Nat → Bool) : Word := word ((List.range 32).foldl (fun a i => a + b2n (f i) * 2 ^ i) 0)

/-- DIN_SAMPLE (R247): the inputs below 2.0 V and those above 4.0 V; the others read as in the sample before. -/
def execDinSample (t : Nat) (lo hi : Word) (s : State) : Out :=
  let s := s.at t
  if !s.snsRuns then .next s
  else
    let x := ofBits fun i => bitAt hi i || (bitAt s.sns.din i && !bitAt lo i)
    let run := fun i => if bitAt x i == bitAt s.sns.din i then min 255 (cellGet (fun _ => 0) s.sns.run i + 1) else 1
    let lim := s.rd SNS_CFG SNS_CFG_din_filt
    let old := s.reg SNS_DIN_STATE
    let lev := ofBits fun i => if lim ≤ run i then bitAt x i else bitAt old i
    let runs := (List.range 32).foldl (fun c i => cellSet (fun _ => 0) c i (run i)) s.sns.run
    .next (({ s with sns := { s.sns with din := x, run := runs } }).setReg SNS_DIN_STATE lev).gndTurn.headerSeen

/-! Triggers. -/

/-- A SAMPLE release with trigger number `m` (R243). A DIN snapshot covers all sources 0x90 to 0xAF; the spec does not
say which code its record carries. -/
def State.sampleTrigger (s : State) (m : Nat) : State :=
  let a := (s.reg (SNS_TRG_LO m)).toNat + (s.reg (SNS_TRG_HI m)).toNat * 2 ^ 32
  let f := s.rd (SNS_TRG_X m) SNS_TRG_X_fin
  let s1 := ((List.range 64).filter fun n => a / 2 ^ n % 2 == 1 && !s.ainK12 n).foldl (fun s n => s.ainTrigger n []) s
  let s2 := ((List.range 24).filter fun n => f / 2 ^ n % 2 == 1 && !s.finK12 n).foldl (fun s n => s.finLatch n []) s1
  if s.snsRuns && s.bit (SNS_TRG_X m) SNS_TRG_X_din then
    (s2.rawRec s.mtime (Config.freeNat s2.free % 2 ^ 8) 0 (s.reg SNS_DIN_STATE)).freeNext
  else s2

/-- The latched value of kinds 3 to 6 (R150, R151). -/
def State.latchOf (s : State) (kind num : Nat) : Int :=
  if kind = 3 then s.shaftRaw num
  else if kind = 4 then sBits 32 ((s.pos (2 + num)) % 2 ^ 32).toNat
  else if kind = 5 then s.gndRaw
  else if kind = 6 then sInt (s.reg (CLE_ULIM num))
  else 0

/-- Loops whose trigger found input `n` of kind `kind` with en 0 are served as it is enabled (R151).
(DEDUCED, log entry 54) -/
def State.serveWaiting (s : State) (kind n : Nat) : State :=
  let ms := (s.loopsOn kind n).filter fun m =>
    s.loopRuns m && !(s.loop m).trigged && decide ((s.loop m).trig ≤ s.mtime)
  let s1 := ms.foldl (fun s m => s.setLoop m { s.loop m with trigged := true, sample := none }) s
  if ms.isEmpty then s else if kind = 1 then s1.ainTrigger n ms else s1.finLatch n ms

/-- LOOP_TRIGGER (R151): a trigger on an input with en 0 is not served, and can come again once it is enabled. A K12
input is not converted; the loop takes the sample the K12 engine takes. (DEDUCED, log entry 54) -/
def execLoopTrigger (t : Nat) (n : Fin 64) (s : State) : Out :=
  let s := s.at t
  let l := s.loop n
  let kind := lpInKind l.act
  let num := lpInNum l.act
  if !s.loopRuns n || l.trigged || decide (s.mtime < l.trig) then .next s
  else if (kind = 1 ∧ !s.ainEn num) ∨ (kind = 2 ∧ !s.finEn num) then .next s
  else
    let s1 := s.setLoop n { l with trigged := true, sample := none }
    if kind = 1 then .next (if s.ainK12 num then s1 else s1.ainTrigger num [n])
    else if kind = 2 then .next (if s.finK12 num then s1 else s1.finLatch num [n])
    else
      let v := s.latchOf kind num
      let s2 := s1.setLoop n { s1.loop n with sample := some v }
      if kind = 3 then .next (s2.sampleIn ⟨0x58 + num, s.mtime, [v], s.shaftSpeeds, false⟩ false 0 0#32)
      else if kind = 5 then .next (s2.sampleIn ⟨0x70, s.mtime, [v], s.shaftSpeeds, false⟩ false 0 0#32)
      else .next s2

/-! Loss channels (R248, R249). -/

def State.lossEn (s : State) (n : Nat) : Bool := s.bit (SNS_LOSS_CFG n) SNS_LOSS_CFG_en
def State.lossSched (s : State) (n : Nat) : Nat := s.rd (SNS_LOSS_CFG n) SNS_LOSS_CFG_sched
def State.lossMask (s : State) (n : Nat) : Nat := s.rd (SNS_LOSS_CFG n) SNS_LOSS_CFG_smask

/-- The last instant of the converter grid at or before MTIME `m`. -/
def lossGrid (m : Nat) : Nat :=
  let b := m / 15625 * 15625
  if m - b < 5210 then b else if m - b < 10420 then b + 5210 else b + 10420

/-- The position and rate of a shaft let an impact be tagged (R250)? -/
def State.tagged (s : State) (k : Nat) : Bool :=
  s.shaftSync k == sySync && !s.bit (NYM_SHAFT_STAT k) NYM_SHAFT_STAT_stalled && (s.shaft k).fwd

/-- The tag angle of an impact on shaft `k` (R250). -/
def State.tagAngle (s : State) (n k tImp : Nat) : Nat :=
  let c := (s.mtime - tImp) / 5 + s.rd (SNS_LOSS_TIM n) SNS_LOSS_TIM_lead * 200
  let shift : Int := ((s.shaft k).rate * c / 2 ^ 24 : Nat)
  ((s.pos (2 + k) - shift) % 2 ^ 24).toNat

/-- Bin one tag of an impact in the accumulating bank (R250). -/
def Bank.add (b : Bank) (peak : Nat) (tag : Option Nat) : Bank :=
  match tag with
  | none => { b with nosync := b.nosync + 1 }
  | some a =>
    let x := cellGet (fun _ => (0, 0)) b.bins (a / 2 ^ 15)
    let c := x.1 + 1
    let m := x.2 + peak / 2 ^ 8
    { b with
      bins := cellSet (fun _ => (0, 0)) b.bins (a / 2 ^ 15) (min c 65535, min m 65535), total := b.total + 1
      sat := b.sat || decide (65535 < c) || decide (65535 < m) }

def State.binImpact (s : State) (n : Nat) (x : Impact) : State :=
  x.tags.foldl (fun s p =>
    let m := s.hitMap n p.1
    s.setMap n p.1 { m with acc := m.acc.add x.peak p.2 }) s

/-- An impact goes to the bank whose interval holds it, or is held for the swap (R251). -/
def State.placeImpact (s : State) (n : Nat) (x : Impact) : State :=
  match (s.lossCh n).swaps with
  | [] => s.binImpact n x
  | w :: _ => if x.t ≤ w.at_ then s.binImpact n x else s.setLoss n { s.lossCh n with held := (s.lossCh n).held ++ [x] }

/-- Emit an impact (R249, R250). -/
def State.emitImpact (s : State) (n tImp peak : Nat) : State :=
  let ks := (List.range 8).filter fun k => s.lossMask n / 2 ^ k % 2 == 1
  let tags := ks.map fun k => (k, if s.tagged k then some (s.tagAngle n k tImp) else none)
  let bad := (tags.filter fun p => p.2.isNone).length
  let s1 := (s.bump (SNS_LOSS_CNT n) SNS_LOSS_CNT_imp_cnt).bumpBy (SNS_LOSS_CNT n) SNS_LOSS_CNT_nosync_cnt bad
  let s2 := if s.fusRuns then s1.placeImpact n ⟨tImp, peak, tags⟩ else s1
  if s.rd (SNS_LOSS_CFG n) SNS_LOSS_CFG_raw = 1 then
    let a := match tags.head? with
      | some (_, some a) => a
      | _ => Config.freeNat s.free % 2 ^ 24
    (s2.rawRec tImp (0x80 + n) rfImpact (packW [(peak / 2 ^ 8, 24), (a, 0)])).freeNext
  else s2

/-- The coefficient hp_k of a channel; an hp below 10 acts as 10. -/
def State.hpOf (s : State) (n : Nat) : Nat := Config.hpCoef (max 10 (s.rd (SNS_LOSS_CFG n) SNS_LOSS_CFG_hp))

/-- LOSS_SAMPLE (R248, R249): 24-bit sample `x`, captured 80 µs ago on the converter grid.
(DESIGN CHOICE, log entry 66) -/
def execLossSample (t : Nat) (n : Fin 16) (x : Int) (s : State) : Out :=
  let s := s.at t
  if !s.snsRuns || !s.lossEn n then .next s
  else
    let cap := lossGrid (s.mtime - 80000)
    let c := s.lossCh n
    let h := x - c.xPrev + c.h * s.hpOf n / 2 ^ 16
    let e := max (h.natAbs / 2 ^ 8) (c.env * 65280 / 2 ^ 16)
    let env := if e < 2 ^ 16 then e else Config.freeNat s.free % 2 ^ 16
    let c1 := { c with h := h, xPrev := x, env := env }
    let on := s.rd (SNS_LOSS_THR n) SNS_LOSS_THR_thr_on
    let off := s.rd (SNS_LOSS_THR n) SNS_LOSS_THR_thr_off
    let dead := s.rd (SNS_LOSS_TIM n) SNS_LOSS_TIM_dead
    let pk := max c.peak env
    let s0 := s.freeNext
    let s1 :=
      if c.st = 0 then
        if on ≤ env then s0.setLoss n { c1 with tImp := cap, peak := env, k := 0, st := 1 } else s0.setLoss n c1
      else if c.st = 1 then
        if c.k + 1 = dead then (s0.setLoss n { c1 with peak := pk, k := c.k + 1, st := 2 }).emitImpact n c.tImp pk
        else s0.setLoss n { c1 with peak := pk, k := c.k + 1 }
      else s0.setLoss n { c1 with st := if env < off then 0 else 2 }
    .next (if s.rd (SNS_LOSS_CFG n) SNS_LOSS_CFG_raw = 2 then s1.rawRec cap (0x80 + n) 0 (wInt x) else s1)

/-- LOSS_EXC_FAULT (R248): an excited input out of 2 to 22 V for 100 ms. -/
def execLossExcFault (t : Nat) (n : Fin 16) (s : State) : Out :=
  let s := s.at t
  if !s.snsRuns || !s.bit (SNS_LOSS_CFG n) SNS_LOSS_CFG_exc then .next s
  else
    let s1 := (s.wr (SNS_LOSS_CFG n) SNS_LOSS_CFG_excf 1).note (0x0740 + n) 0
    .next (s1.setLoss n { s1.lossCh n with excs := (s1.lossCh n).excs + 1 })

/-- A channel is enabled: its detector and the first interval of its maps start (R251). -/
def State.lossEnable (s : State) (n : Nat) : State :=
  let s1 := s.setLoss n { LossCh.init with excs := (s.lossCh n).excs }
  (List.range 8).foldl (fun s k =>
    s.setMap n k { s.hitMap n k with
      acc := { Bank.init with pos := s.pos (2 + k), jumps := (s.shaft k).jumps, excs := (s.lossCh n).excs } }) s1

/-! Hit maps (R251, R252). -/

/-- The bank change of schedule `k` at an instant: every enabled channel on it. -/
def State.mapInstant (s : State) (k seq : Nat) : State :=
  ((List.range 16).filter fun n => s.lossEn n && s.lossSched n == k).foldl (fun s n =>
    let c := s.lossCh n
    let w : Swap := ⟨s.mtime, s.cyc, seq, (List.range 8).map fun j => s.pos (2 + j),
      (List.range 8).map fun j => (s.shaft j).jumps, c.excs⟩
    s.setLoss n { c with swaps := c.swaps ++ [w] }) s

/-- The largest dead time among the enabled channels of schedule `k`, in samples. -/
def State.schedDead (s : State) (k : Nat) : Nat :=
  ((List.range 16).filter fun n => s.lossEn n && s.lossSched n == k).foldl
    (fun a n => max a (s.rd (SNS_LOSS_TIM n) SNS_LOSS_TIM_dead)) 0

/-- Has I + S come for a bank change of schedule `k`? -/
def State.swapDue (s : State) (k : Nat) (w : Swap) : Bool :=
  decide (3 * 90000 + s.schedDead k * 15625 ≤ 15 * (s.cyc - w.cyc))

/-- One bank change of a map. -/
def HitMap.swap (m : HitMap) (k : Nat) (w : Swap) (out c : Nat) : HitMap :=
  let p := w.pos.getD k 0
  let j := w.jumps.getD k 0
  { acc := { Bank.init with pos := p, jumps := j, excs := w.excs }, fill := m.acc, out := out, seq := w.seq
    travel := p - m.acc.pos, jump := j != m.acc.jumps, exc := w.excs != m.acc.excs, swapAt := some c }

/-- The banks of channel `n` swap, and the held impacts of the new interval are binned. -/
def State.swapChannel (s : State) (n : Nat) (w : Swap) (rest : List Swap) : State :=
  let s1 := (List.range 8).foldl (fun s k => s.setMap n k ((s.hitMap n k).swap k w s.mtime s.cyc)) s
  let c := s1.lossCh n
  let s2 := s1.setLoss n { c with swaps := rest, held := [] }
  c.held.foldl (fun s x => s.placeImpact n x) s2

/-- MAP_BANK_SWAP (R251) of the channels of schedule `k`. -/
def execMapBankSwap (t : Nat) (k : Fin 16) (s : State) : Out :=
  let s := s.at t
  if !s.fusRuns then .next s
  else
    .next (((List.range 16).filter fun n => s.lossSched n == k.val).foldl (fun s n =>
      match (s.lossCh n).swaps with
      | w :: rest => if s.swapDue k w then s.swapChannel n w rest else s
      | [] => s) s)

/-- The 520 words of a map as read (R252). -/
def State.mapWords (s : State) (n k : Nat) : List Word :=
  let m := s.hitMap n k
  let flags := b2n m.fill.sat + 2 * b2n (m.fill.nosync != 0) + 4 * b2n m.jump + 8 * b2n m.exc
  [lo32 m.out, hi32 m.out, packW [(n, 28), (k, 24), (m.seq % 2 ^ 24, 0)], word m.fill.total, word m.fill.nosync,
    lo32 (pos64 m.travel), hi32 (pos64 m.travel), word flags]
    ++ (List.range 512).map fun i =>
        let x := cellGet (fun _ => (0, 0)) m.fill.bins i
        packW [(x.2, 16), (x.1, 0)]

/-- READ_MAP (R272), at the end of a copy that took `took` cycles: a swap of the map within them ends it ABORTED.
(DESIGN CHOICE, log entry 118) -/
def execReadMap (t : Nat) (x : MapCopy) (s : State) : Out :=
  let r := x.ring
  (s.at t).ringOp r 0x08 1 0x10 fun s d =>
    s.givesBuf r d <|
    if d.len < 2080 then .next (s.endOp r d.slot stBadParam 0 0)
    else
      let n := bits (d.par 8) 3 0
      let k := bits (d.par 8) 6 4
      let m := s.hitMap n k
      let fell := match m.swapAt with
        | some c => decide (s.cyc ≤ c + x.took)
        | none => false
      if fell then .next (s.endOp r d.slot stAborted 0 0)
      else .next ((s.bufOut r d 0 (s.mapWords n k)).endOp r d.slot stDone 2080 (m.seq % 2 ^ 24))

end Sys2Proof.Machine
end

