-- ==== Sys2Proof/Machine/Yield.lean ====
section
/-! DEFINITION. Header and section state, the position history, yield attribution, yield records and their store, the
transport delay (R264 to R270). -/

namespace Sys2Proof.Machine

/-! Header and sections (R265). -/

/-- Is section `k`'s source active? By a source of another type than R265 takes the spec does not say.
(DESIGN CHOICE, log entry 131) -/
def State.sectionSrc (s : State) (k : Nat) : Bool :=
  let src := s.rd (FUS_YLD_SEC k) FUS_YLD_SEC_src
  if 0xC0 ≤ src then
    let w := s.switch (src - 0xC0)
    w.actMode == 1 || (w.actMode == 2 && w.actDuty != 0)
  else if src = 0xB0 then bitAt (s.reg FUS_YLD_HSEC) k
  else if srcDin src then bitAt (s.reg SNS_DIN_STATE) (src - 0x90)
  else Config.sectionBy src s.cyc

/-- The active sections. -/
def State.sectionMask (s : State) : Nat :=
  if s.headerDown then
    ((List.range 16).map fun k => b2n (s.bit (FUS_YLD_SEC k) FUS_YLD_SEC_en && s.sectionSrc k) * 2 ^ k).sum
  else 0

/-- The width of a section mask in mm. -/
def State.maskWidth (s : State) (mask : Nat) : Nat :=
  ((List.range 16).map fun k => mask / 2 ^ k % 2 * s.rd (FUS_YLD_SEC k) FUS_YLD_SEC_width).sum

/-! The position history (R266). -/

def State.fixNow (s : State) : Nat := bits (wAt s.gns.pvt 11) 31 28

/-- The entry that would be written now. -/
def State.histNow (s : State) : Hist :=
  ⟨s.mtime, s.pos 10, wAt s.gns.pvt 2, wAt s.gns.pvt 3, s.fixNow, s.sectionMask, s.headerDown⟩

/-- The newest entry at or before MTIME `t`, and the one after it. -/
def histFind (t : Int) : Hist → List Hist → Option (Hist × Hist)
  | _, [] => none
  | next, e :: rest => if (e.t : Int) ≤ t then some (e, next) else histFind t e rest

/-- DESIGN CHOICE, log entry 70. -/
def State.histAtTime (s : State) (t : Int) : Option (Hist × Hist) := histFind t s.histNow s.fus.hist

/-- GROUND at a time between two entries, interpolated linearly. -/
def groundAt (t : Int) (p : Hist × Hist) : Int :=
  if p.2.t ≤ p.1.t then p.1.g else p.1.g + rndDiv ((p.2.g - p.1.g) * (t - p.1.t)) ((p.2.t - p.1.t : Nat) : Int)

/-- Does GROUND cross position `c` between an entry and the next? -/
def crosses (c : Int) (e next : Hist) : Bool :=
  (decide (e.g ≤ c) && decide (c < next.g)) || (decide (next.g < c) && decide (c ≤ e.g))

/-- The bins whose centres GROUND crosses between an entry and the next. -/
def crossedBins (e next : Hist) : List Int :=
  let lo := min e.g next.g / 10000
  ((List.range (max e.g next.g / 10000 - lo + 1).toNat).map fun i => lo + (i : Int)).filter fun b =>
    crosses (b * 10000 + 5000) e next

/-- The entries about the earliest crossing of GROUND position `c` that the history holds. -/
def crossing (c : Int) : Hist → List Hist → Option (Hist × Hist)
  | _, [] => none
  | next, e :: rest =>
    match crossing c e rest with
    | some x => some x
    | none => if crosses c e next then some (e, next) else none

/-- A coordinate at the crossing of GROUND position `c` between two entries: linear between their fixes, where the later
has one. (DESIGN CHOICE, log entry 71) -/
def coordAt (c : Int) (x : Hist × Hist) (f : Hist → Word) : Word :=
  if x.2.fix = 0 then f x.1
  else wInt (sInt (f x.1) + rndDiv ((sInt (f x.2) - sInt (f x.1)) * (c - x.1.g)) (x.2.g - x.1.g))

/-- The oldest entry leaves the history: the crossings it is part of are kept for the bins not yet closed (R268). -/
def State.keepCrossed (s : State) : State :=
  let y := s.fus.yld
  match s.fus.hist.drop 4095 with
  | [] => s
  | e :: _ =>
    match s.fus.hist.drop 4094 with
    | [] => s
    | next :: _ =>
      let new := (crossedBins e next).filter fun b => y.closed.all (fun c => decide (c < b)) && !y.crossed.any fun x => x.1 == b
      s.setYld { y with crossed := y.crossed ++ new.map fun b => (b, e, next) }

/-- HISTORY_ENTRY, every 10 ms. -/
def execHistoryEntry (t : Nat) (s : State) : Out :=
  let s := s.at t
  if !s.fusRuns || decide (s.cyc < s.fus.histAt + ms 10) then .next s
  else
    let s0 := s.keepCrossed
    let s1 := { s0 with fus := { s0.fus with hist := (s.histNow :: s.fus.hist).take 4096, histAt := s.cyc } }
    .next s1.headerSeen

/-! The transport delay (R270). -/

def State.delayNs (s : State) : Int := (s.rd FUS_YLD_DLY FUS_YLD_DLY_delay : Int) * 1000000

/-- The measurement is rejected. -/
def State.delayReject (s : State) : State :=
  ((s.setYld { s.fus.yld with meas := none }).bump FUS_YLD_STAT FUS_YLD_STAT_reject_cnt).note 0x0831 0

/-- The measurement ends with `dm` ns. -/
def State.delayMeasured (s : State) (dm : Int) : State :=
  if 100000000 * (s.rd FUS_YLD_DLY FUS_YLD_DLY_dmin : Int) ≤ dm ∧ dm ≤ 100000000 * (s.rd FUS_YLD_DLY FUS_YLD_DLY_dmax : Int) then
    let d := rndDiv (3 * s.delayNs + dm) 4000000
    ((s.wr FUS_YLD_DLY FUS_YLD_DLY_delay (clampI 0 32767 d).toNat).bump FUS_YLD_STAT FUS_YLD_STAT_adapt_cnt).setYld
      { s.fus.yld with meas := none, adapted := true }
  else s.delayReject

/-- HEADER_LIFT (R270): the header goes from down to up. (DESIGN CHOICE, log entry 72) -/
def execHeaderLift (t : Nat) (s : State) : Out :=
  let s := s.at t
  let y := s.fus.yld
  if !s.fusRuns || s.headerDown || !y.down then .next s
  else
    let s1 := s.setYld { y with down := false }
    let fl := y.flows.filter fun f => decide (s.mtime < f.1 + 5000000000)
    let old := match s.fus.hist.getLast? with
      | some e => decide (e.t + 5000000000 ≤ s.mtime)
      | none => false
    let mean := meanI (fl.map Prod.snd)
    if !s.bit FUS_YLD_DLY FUS_YLD_DLY_adapt || fl == [] || !old
        || decide (10 * mean < (s.rd FUS_YLD_HDR FUS_YLD_HDR_fmin : Int) * 2 ^ 24) then .next s1
    else .next (s1.setYld { s1.fus.yld with meas := some (s.mtime, mean) })

/-- DELAY_MEASUREMENT_END (R270): the header is down again, or tL + dmax has passed with no such commit.
(DESIGN CHOICE, log entry 72) -/
def execDelayMeasurementEnd (t : Nat) (s : State) : Out :=
  let s := s.at t
  match s.fus.yld.meas with
  | none => .next s
  | some m =>
    if s.headerDown || decide (m.1 + 100000000 * s.rd FUS_YLD_DLY FUS_YLD_DLY_dmax ≤ s.mtime) then .next s.delayReject
    else .next s

/-- A commit of the yield unit with flow `flow` for the instant at MTIME `i` is looked at for the measurement. -/
def State.delayCommit (s : State) (i : Nat) (flow : Int) : State :=
  let y := s.fus.yld
  let s1 := s.setYld { y with flows := ((i, flow) :: y.flows).filter fun f => decide (s.mtime < f.1 + 6000000000) }
  match y.meas with
  | none => s1
  | some m =>
    if s.headerDown then s1.delayReject
    else if 10 * flow < m.2 then s1.delayMeasured ((i : Int) - m.1)
    else s1

/-! Yield records (R267 to R269). -/

/-- Yield records in the store go to the ring's buffers in store order; the rest stay undelivered (R269, R272). -/
def State.yieldPump (s : State) : State :=
  let s1 := ({ s.setStaged 0x82 s.kept.yields with kept := { s.kept with yields := [] } }).pumpAll 0x82
  { s1.setStaged 0x82 [] with kept := { s1.kept with yields := s1.staged 0x82 } }

/-- The record of bin `b`, crossed between the history entries `x` if that is known (R268). The mass and the orphan mass are in kg
with 48 fraction bits. (DESIGN CHOICE, log entry 71) -/
def State.yieldWords (s : State) (b : YBin) (x : Option (Hist × Hist)) (part : Bool) : List Word :=
  let y := s.fus.yld
  let free := fun i => Config.freeWord (s.free + i)
  let nopos := match x with
    | some e => e.1.fix == 0
    | none => false
  let flags := b2n (y.orphan != 0) + 2 * b2n y.back + 4 * b2n nopos + 8 * b2n part + 16 * b2n y.adapted
  let moist :=
    if !s.bit FUS_YLD_CFG FUS_YLD_CFG_m_en then 0xFFFF
    else if b.mwMass = 0 then (free 0).toNat % 2 ^ 16
    else (clampI 0 0xFFFF (rndDiv (100 * b.mw) b.mwMass)).toNat
  let mass := (clampI 0 0xFFFFFFFF (rndDiv ((b.mass + y.orphan) * 1000) (2 ^ 48))).toNat
  let pos := match x with
    | some e =>
      if e.1.fix = 0 then [0x80000000#32, 0x80000000#32]
      else [coordAt (b.b * 10000 + 5000) e Hist.lat, coordAt (b.b * 10000 + 5000) e Hist.lon]
    | none => [free 1, free 2]
  let place := match x with
    | some e => (min 0xFFFF (s.maskWidth e.1.mask / 10), e.1.mask, e.1.fix)
    | none => ((free 3).toNat % 2 ^ 16, (free 4).toNat % 2 ^ 16, (free 5).toNat % 16)
  [lo32 s.mtime, hi32 s.mtime, wInt b.b] ++ pos ++ [word mass, packW [(moist, 16), (place.1, 0)],
    packW [(place.2.1, 16), (place.2.2, 12), (flags, 0)]]

def State.yieldRecord (s : State) (b : YBin) (x : Option (Hist × Hist)) (part : Bool) : State :=
  let y := s.fus.yld
  let w := s.yieldWords b x part
  (s.setYld { y with
    orphan := 0, back := false, adapted := false, wait := y.wait ++ [w]
    waitAt := if y.wait = [] then s.cyc else y.waitAt }).freeAdd 6

/-- The entries about the crossing of the centre of bin `b`: one that has left the history, or the earliest it holds. -/
def State.crossingOf (s : State) (b : Int) : Option (Hist × Hist) :=
  match s.fus.yld.crossed.find? fun x => x.1 == b with
  | some x => some x.2
  | none => crossing (b * 10000 + 5000) s.histNow s.fus.hist

/-- A bin the attribution has passed is written, or its mass is orphaned when its centre was crossed with the header up
(R267, R268). -/
def State.closeBin (s : State) (b : YBin) : State :=
  match s.crossingOf b.b with
  | some e =>
    if e.1.down then s.yieldRecord b (some e) false
    else s.setYld { s.fus.yld with orphan := s.fus.yld.orphan + b.mass }
  | none => s.setYld { s.fus.yld with orphan := s.fus.yld.orphan + b.mass }

/-- Add mass to an open bin, and its moisture where that is known. (DESIGN CHOICE, log entry 71) -/
def addBin (b m : Int) (w : Option Int) : List YBin → List YBin
  | [] => [⟨b, m, match w with
    | some q => rnd 24 (m * q)
    | none => 0, if w.isSome then m else 0⟩]
  | x :: rest =>
    if x.b = b then
      { x with
        mass := x.mass + m
        mw := x.mw + (match w with
          | some q => rnd 24 (m * q)
          | none => 0)
        mwMass := x.mwMass + (if w.isSome then m else 0) } :: rest
    else x :: addBin b m w rest

/-- Attribute mass `m` (48 fraction bits) over GROUND positions `a` to `g` (R266). (DESIGN CHOICE, log entry 71) -/
def spread (a g m : Int) (w : Option Int) (l : List YBin) : List YBin :=
  if a = g then addBin (g / 10000) m w l
  else
    (List.range (g / 10000 - a / 10000 + 1).toNat).foldl (fun l i =>
      let b := a / 10000 + i
      let ov := min g ((b + 1) * 10000) - max a (b * 10000)
      addBin b (rndDiv (m * ov) (g - a)) w l) l

/-- Yield attribution at a commit of the mass-flow unit for the interval from MTIME `i0` to `i1`: mass in kg and
moisture in %, Q8.24 (R266, R267). A closed bin is not opened again by the 0.1 mm between its last position and the next
bin: that mass goes to the next record. (DESIGN CHOICE, log entry 71) -/
def State.yieldCommit (s : State) (i0 i1 : Nat) (m : Int) (w : Option Int) : State :=
  let y := s.fus.yld
  let m48 := m * 2 ^ 24
  let tc : Int := ((i0 : Int) + i1) / 2 - s.delayNs
  match s.histAtTime tc with
  | none => s.setYld { y with orphan := y.orphan + m48 }
  | some p =>
    if !p.1.down then s.setYld { y with orphan := y.orphan + m48 }
    else
      let g0 := groundAt tc p
      let a := if y.first then g0 else y.gLast
      let back := decide (g0 < a)
      let g := if back then a else g0
      let s1 := if back then s.bump FUS_YLD_STAT FUS_YLD_STAT_back_cnt else s
      let all := spread a g m48 w y.bins
      let again := fun (b : YBin) => y.closed.any fun c => decide (b.b ≤ c)
      let bins := all.filter fun b => !again b
      let done := bins.filter fun b => decide ((b.b + 1) * 10000 - 1 ≤ g)
      let closed := done.foldl (fun c b => some (match c with
        | some k => max k b.b
        | none => b.b)) y.closed
      let s2 := s1.setYld { y with
        first := false, gLast := g, back := y.back || back, closed := closed
        orphan := y.orphan + ((all.filter again).map fun b => b.mass).sum
        bins := bins.filter fun b => decide (g < (b.b + 1) * 10000 - 1) }
      let s3 := done.foldl State.closeBin s2
      s3.setYld { s3.fus.yld with crossed := s3.fus.yld.crossed.filter fun x => closed.all fun c => decide (c < x.1) }

/-- At an orderly stop the open bin is written with PARTIAL, unless its centre was crossed with the header up (R268). -/
def State.yieldStop (s : State) : State :=
  s.fus.yld.bins.foldl (fun s b =>
    let x := s.crossingOf b.b
    match x with
    | some e =>
      if e.1.down then s.yieldRecord b x true else s.setYld { s.fus.yld with orphan := s.fus.yld.orphan + b.mass }
    | none => s.yieldRecord b x true) (s.setYld { s.fus.yld with bins := [] })

/-- The records the yield store holds: 8 GiB of 32 bytes. -/
def yieldCap : Nat := 2 ^ 28

/-- Put the waiting records into flash; each overwrite of a record not yet delivered is noted (R269). -/
def State.yieldStore (s : State) : State :=
  let y := s.fus.yld
  let l := s.kept.yields ++ y.wait
  let extra := l.length - yieldCap
  let s1 := { s.setYld { y with wait := [] } with kept := { s.kept with yields := l.drop extra } }
  (List.range extra).foldl (fun s _ => s.note 0x0832 0) s1

/-- The same, and the records in the store go on to the ring. -/
def State.yieldFlush (s : State) : State := s.yieldStore.yieldPump

/-- YIELD_FLASH_WRITE (R269). -/
def execYieldFlashWrite (t : Nat) (s : State) : Out :=
  let s := s.at t
  if s.fus.yld.wait == [] then .next s else .next s.yieldFlush

/-- YIELD_FILL (R272). -/
def execYieldFill (t : Nat) (r : Fin 64) (s : State) : Out :=
  match (s.at t).fill r 2 8 32 with
  | .next s1 => .next s1.yieldPump
  | o => o

/-- RECEIVE_BUFFER_TIMEOUT (R271 and its like): the receive ring's completion time has passed since the first record. -/
def execReceiveBufferTimeout (t : Nat) (r : Fin 64) (s : State) : Out :=
  let s := s.at t
  let key := s.ringTgt r * 16 + s.ringFunc r
  match s.filling r with
  | some d =>
    (match d.st with
    | .started len recs since =>
      if isRecv (s.ringTgt r) (s.ringFunc r) ∧ recs ≠ 0 ∧ since + (s.recvInfo key).time ≤ s.cyc then
        let s1 := ((s.endOp r d.slot stDone len recs).pumpAll key).settleRing r
        .next (if key = 0x82 then s1.yieldPump else s1)
      else .next s
    | _ => .next s)
  | none => .next s

end Sys2Proof.Machine
end

