-- ==== Sys2Proof/Machine/PowerCore.lean ====
section
/-! DEFINITION. The rails, the orderly stop (R83 to R86, R496) and the hold-up (R59 to R62), as the commands and the
register writes that cause them use them. -/

namespace Sys2Proof.Machine

def State.setPow (s : State) (p : Power) : State := { s with pow := p }

/-- The identifier of the settings item that holds the value stored under a register: its block number in the high byte.
(DESIGN CHOICE, log entry 33) -/
def itemOf (off : Nat) : Nat := 256 * (off / 0x10000 % 256) + Config.itemLow off % 256

/-- The item of a register is in the store: if it was not, at the version and the default of the booted image. -/
def State.ensureItem (s : State) (off : Nat) : State :=
  if s.kept.items.any fun i => i.id == itemOf off then s
  else
    let pay := (s.img s.actSlot 1 0).pay
    let v := match (Config.itemsKnown pay).find? fun k => k.1 == itemOf off with
      | some k => k.2
      | none => 0
    { s with kept := { s.kept with items := s.kept.items ++ [⟨itemOf off, v, Config.itemDefault pay (itemOf off)⟩] } }

/-- Keep a register in the settings store (R76, R83, R124, R270, R455). (DEDUCED, log entry 34) -/
def State.keepReg (s : State) (off : Nat) (w : Word) : State :=
  let s1 := s.ensureItem off
  { s1 with kept := { s1.kept with setRegs := cellSet (fun _ => none) s1.kept.setRegs off (some w) } }

/-! The rails. -/

/-- The rails go off. What flash and the always-on domain keep stays; everything else is lost.
(DESIGN CHOICE, log entry 5, DESIGN CHOICE, log entry 11) -/
def State.railsOff (s : State) (wait : StartWait) : State :=
  let p := { Power.init with
    wake := s.pow.wake, wakeSince := s.pow.wakeSince, svc := s.pow.svc, perst := s.pow.perst, railsOffAt := s.cyc, wait := wait }
  let r := { Recorder.init with
    store := s.recr.store, nextSeq := s.recr.nextSeq, full := s.recr.full, lost := s.recr.lost, marker := s.recr.marker
    clean := s.recr.clean }
  let off := { State.reset with
    pending := s.pending, cyc := s.cyc, mtOff := s.mtOff, free := s.free, out := s.out, kept := s.kept, pow := p, recr := r
    thm := { Thm.init with shut := s.thm.shut, coolAt := s.cyc } }
  ((off.wr THM_CNT THM_CNT_ord_cnt (s.rd THM_CNT THM_CNT_ord_cnt)).wr THM_CNT THM_CNT_hw_cnt
    (s.rd THM_CNT THM_CNT_hw_cnt)).wr UPD_SLOT UPD_SLOT_bfail (s.rd UPD_SLOT UPD_SLOT_bfail)

/-- The always-on seconds count is set from MTIME (R337). -/
def State.keepSecs (s : State) : State :=
  { s with kept := { s.kept with secs := some (s.mtime / 1000000000, s.cyc) } }

/-- The scale of GROUND and the transport delay go into the settings store (R124, R270). (DEDUCED, log entry 34) -/
def State.keepLearned (s : State) : State :=
  let s1 := if s.passed 13 then { s with kept := { s.kept with eph := s.gns.eph, lastPos := s.gns.lastPos } } else s
  if s.passed 10 then
    (s1.keepReg NYM_GND_STAT (word s.nym.gnd.scale)).keepReg FUS_YLD_DLY (word (s.rd FUS_YLD_DLY FUS_YLD_DLY_delay))
  else s1

/-! The orderly stop. -/

/-- A write of pers_sel that waits gets into the settings store (R76). (DEDUCED, log entry 34) -/
def State.persStore (s : State) : State :=
  match s.pow.persWrite with
  | none => s
  | some v =>
    let s0 := s.keepReg SYS_PERSONALITY (word v)
    let s1 := { s0 with kept := { s0.kept with pers := v }, pow := { s0.pow with persHost := s.passed 9 } }
    let s2 := if s.passed 9 then s1.wr SYS_PERSONALITY SYS_PERSONALITY_pers_sel v else s1
    s2.setPow { s2.pow with persWrite := none }

/-- The STOP entry of the recorder (R432). -/
def State.stopEntry (s : State) (cause : Nat) : State :=
  if s.passed 10 then (s.addEntry s.mtime 4 [lo32 cause, 0#32, 0#32, 0#32]).1 else s

/-- Every lease is released and every group takes its safe state (R84). (DESIGN CHOICE, log entry 35) -/
def State.releaseAll (s : State) : State :=
  (List.range 32).foldl (fun x g =>
    if x.limpHeld g then (x.wr (TRI_GRP g) TRI_GRP_limp 0).applySafe g
    else if x.holder g ≠ 0 then x.leaseRelease g
    else x) s

/-- What an orderly thermal stop adds at its start (R453). -/
def State.thermalStop (s : State) : State :=
  (((s.raise2 0x1220 0).wr THM_STAT THM_STAT_ord_run 1).bump THM_CNT THM_CNT_ord_cnt).stopEntry 3

/-- ts of an orderly stop (R84, R496), one of the causes of a flush (R435). Every channel goes off with its group's safe state.
(DESIGN CHOICE, log entry 35) -/
def State.stopBegin (s : State) (kind : StopKind) : State :=
  let x : StopRun :=
    { ts := s.cyc, kind := kind, began := kind, wakeAgain := false, wakeSeenOff := !s.pow.wake
      told := kind == .thermal, flushed := false }
  let s1 := if kind = .thermal then s.thermalStop else s
  let s2 := (s1.setPow { s1.pow with stop := some x, wakeOffAt := none }).wr SYS_IRQ SYS_IRQ_stop 1
  let s3 := if s2.bit SYS_IRQ SYS_IRQ_en then s2.emit (.msix (s2.rd SYS_IRQ SYS_IRQ_vector)) else s2
  let s4 := if s3.passed 10 then s3.setRecr { s3.recr with flushDue := true } else s3
  ((s4.releaseAll.killAll).sessClose).flyB

/-- SYS_STOP_CFG.delay in cycles; above 6,000 it acts as 6,000. -/
def State.stopDelay (s : State) : Nat := ms (100 * min 6000 (s.rd SYS_STOP_CFG SYS_STOP_CFG_delay))

/-- May a stop begin: the module runs and none runs, nor a hold-up? In axolotl none does (R467).
(DEDUCED, log entry 36) -/
def State.mayStop (s : State) : Bool := s.pow.on && !s.pow.axo && s.pow.stop.isNone && s.pow.holdUp.isNone

/-- Has the stop delay ended (R83)? -/
def State.stopDue (s : State) : Bool :=
  s.mayStop && (match s.pow.wakeOffAt with
    | none => false
    | some c => decide (c + sec 3600 ≤ s.cyc)
        || (!s.bit SYS_STOP_CFG SYS_STOP_CFG_hold && decide (c + s.stopDelay ≤ s.cyc)))

/-- An accepted write of SYS_STOP_CFG: it applies to a delay that runs, and delay is stored (R83). -/
def State.stopCfg (s : State) (v : Word) : State :=
  let s1 := (s.store SYS_STOP_CFG v).keepReg SYS_STOP_CFG (SYS_STOP_CFG_hold.put v 0)
  if s1.stopDue then s1.stopBegin .wake else s1

/-- A write of SYS_RESTART (R86). (DESIGN CHOICE, log entry 35) -/
def State.sysRestart (s : State) (v : Word) : State :=
  let kind := if SYS_RESTART_off.get v = 1 then StopKind.off else StopKind.restart
  if SYS_RESTART_key.get v ≠ 0xA5C3 ∨ s.pow.axo then s.ignored SYS_RESTART
  else if s.pow.holdUp.isSome then s
  else
    match s.pow.stop with
    | none => s.stopBegin kind
    | some x =>
      if x.began = .thermal ∨ x.began = .upd then s.ignored SYS_RESTART
      else s.setPow { s.pow with stop := some { x with kind := kind, wakeSeenOff := !s.pow.wake } }

/-- A write of UPD_REQ (R467, R470). -/
def State.updReq (s : State) (v : Word) : State :=
  if UPD_REQ_key.get v ≠ 0xC35A ∨ !s.mayStop then s.ignored UPD_REQ else s.stopBegin .upd

/-- The STOP entry, once (R437). Of a stop through UPD_REQ the spec names no cause. (DESIGN CHOICE, log entry 35) -/
def State.stopTold (s : State) (x : StopRun) : State :=
  if x.told then s
  else
    let s1 := s.setPow { s.pow with stop := some { x with told := true } }
    match x.began with
    | .thermal => s1.stopEntry 3
    | .wake => s1.stopEntry 0
    | .restart => s1.stopEntry 1
    | .off => s1.stopEntry 2
    | .upd => (s1.freeNext).stopEntry (Config.freeNat s1.free)

/-- RECORDER_FLUSH_START: a flush that has fallen due begins when none runs; in an orderly stop the STOP entry comes before
it. -/
def execRecorderFlushStart (t : Nat) (s : State) : Out :=
  let s := s.at t
  if s.recr.flushDue && s.recr.flush.isNone && s.passed 10 then
    .next (match s.pow.stop with
      | some x => (s.stopTold x).flushBegin
      | none => s.flushBegin)
  else .next s

/-- STOP_FLUSH_DONE: yield records, the recorder and the settings are in flash; the STOP entry precedes the last flush
(R84, R437). -/
def State.stopFlush (s : State) (x : StopRun) : State :=
  let s1 := s.yieldStop.yieldFlush
  let s2 := s1.stopTold x
  let s3 := if s.passed 10 then (s2.flushFinish.flushBegin).flushFinish else s2
  let s4 := if s.passed 10 then s3.setRecr { s3.recr with clean := true, marker := none } else s3
  let s5 := if s.passed 7 then s4.canSave else s4
  let s6 := s5.persStore.keepLearned.keepSecs
  s6.setPow { s6.pow with stop := some { x with told := true, flushed := true } }

/-- What follows a stop (R85, R86, R454, R467). (DEDUCED, log entry 36) -/
def StopRun.next (x : StopRun) : StartWait :=
  match x.kind with
  | .wake => if x.wakeAgain then .after 3 else .powerOn
  | .restart => .after 2
  | .off => .wakeCycle x.wakeSeenOff
  | .thermal => .cooling
  | .upd => .after 7

/-! The hold-up. -/

/-- Units that stop within 1 ms of the warning (R60). -/
def State.shedLoads (s : State) : State :=
  let s1 := (List.range 3).foldl (fun x n => (x.linkDown n).setAlink n ALink.init) s
  let s2 := (List.range 7).foldl (fun x k => if x.bit (NET_PSTAT k) NET_PSTAT_link then x.netLink k false else x) s1
  let s3 := (s2.antOff 0).antOff 1
  let s4 := s3.setPow { s3.pow with supRetry := [] }
  if s4.passed 13 then s4.gnsStop else s4

/-- The hold-up marker: the newest seq in the buffer, and the MTIME of the warning (R437). -/
def State.holdMark (s : State) : State :=
  if s.passed 10 then
    let q := match s.recr.buf.getLast? with
      | some e => e.seq
      | none => (s.recr.nextSeq + 2 ^ 32 - 1) % 2 ^ 32
    s.setRecr { s.recr with marker := some (q, s.mtime), clean := false, flushDue := true }
  else s

/-- t0 of the power-fail warning (R59, R60, R462); `draw` and `low` are what port B's decision rests on.
(DEDUCED, log entry 27, DESIGN CHOICE, log entry 37) -/
def State.powerFail (s : State) (draw : Nat) (low : Bool) : State :=
  let s1 := (s.wr THM_SUPPLY THM_SUPPLY_pfw 1).wr THM_STAT THM_STAT_ord_run 0
  let s2 := (s1.setPow { s1.pow with holdUp := some s.cyc, stop := none, wakeOffAt := none, bankLow := low }).raise0 0x1200 0 0
  let s3 := (s2.killAll.revokeAll).sessClose
  (((s3.dpyPowerFail draw low).shedLoads).keepLearned).holdMark

/-- How many entries of the buffer the flush of the warning writes: those up to the marker's, or those of the flush that
runs (R435, R437). -/
def Recorder.atWarning (r : Recorder) : Nat :=
  max (r.flush.getD 0) (match r.marker with
    | some (q, _) => match r.buf.findIdx? fun e => e.seq == q with
      | some i => i + 1
      | none => 0
    | none => 0)

/-- The recorder's flush of the hold-up, the waiting yield records first: everything the warning found, or with a low bank
the first `stored` records and entries (R60, R61, R269). (DESIGN CHOICE, log entry 37) -/
def State.holdFlush (s : State) (stored : Nat) : State :=
  if s.passed 10 then
    let y := s.fus.yld.wait
    let k := s.recr.atWarning
    let n := if s.pow.bankLow then stored else y.length + k
    let s1 := (s.setYld { s.fus.yld with wait := y.take n }).yieldStore
    let m := min k (n - y.length)
    (s1.setRecr { s1.recr with buf := s1.recr.buf.drop m }).storeEntries (s1.recr.buf.take m)
  else s

/-! The host link. -/

/-- Loss of the host link, or PERST# (R82, R107). Line reads under way come back no more, and raise no fault of R106.
(DESIGN CHOICE, log entry 99) -/
def State.hostLost (s : State) : State :=
  let l := (List.range 64).filter fun r => s.ringState r != rsOff && !s.ringEth r
  let s1 := l.foldl (fun x r => x.haltRing r)
    (if (List.range 64).any fun r => s.ringState r != rsOff then s.wr RNG_STATUS RNG_STATUS_link_lost 1 else s)
  let s2 := (s1.wr SYS_LINK SYS_LINK_pcie_gen 0).wr SYS_LINK SYS_LINK_pcie_width 0
  (({ s2 with rng := { s2.rng with lines := [] } }).setPow { s2.pow with linkUp := false }).guarPoll

end Sys2Proof.Machine
end

