-- ==== Sys2Proof/Machine/Axolotl.lean ====
section
/-! DEFINITION. Axolotl, the recovery mode: its commands on the three paths (R468, R469). -/

namespace Sys2Proof.Machine

def State.setUpd (s : State) (x : Upd) : State := { s with upd := x }

/-- Does axolotl take commands on a path? PCIe needs its registers; the other paths are started with the module. -/
def State.axoRuns (s : State) (p : Nat) : Bool :=
  s.pow.on && s.pow.axo && (if p = 0 then s.passed 8 else s.passed 3)

/-- A reply: over PCIe it is UPD_AXO_STAT, elsewhere a frame; on Ethernet the path that holds the session keeps it. -/
def State.axoReply (s : State) (via : AxoVia) (status result : Nat) (ws : List Word) : State :=
  if via.path = 0 then
    ((s.wr UPD_AXO_STAT UPD_AXO_STAT_status status).wr UPD_AXO_STAT UPD_AXO_STAT_result result).wr UPD_AXO_STAT
      UPD_AXO_STAT_busy 0
  else
    let s1 := s.emit (.axoReply via.path via.src via.seq status ws)
    if via.path = 1 ∧ s1.upd.path = some 1 then
      s1.setUpd { s1.upd with lastSeq := some via.seq, lastReply := word status :: ws }
    else if via.path = 2 ∧ s1.upd.path = some 2 then s1.setUpd { s1.upd with canData := 0, canAt := none }
    else s1

/-- A command of the path that holds the session: an Ethernet seq seen last is answered again and not acted on; on CAN0
a seq out of order is answered with BAD_PARAM and the seq expected. -/
def State.axoHeld (s : State) (via : AxoVia) (k : State → Out) : Out :=
  if via.path = 1 ∧ s.upd.lastSeq = some via.seq then
    .next (s.emit (.axoReply 1 via.src via.seq (wAt s.upd.lastReply 0).toNat (s.upd.lastReply.drop 1)))
  else if via.path = 2 then
    if via.seq % 256 ≠ s.upd.canSeq then .next (s.axoReply via stBadParam 0 [word s.upd.canSeq])
    else k (s.setUpd { s.upd with canSeq := (via.seq + 1) % 256 })
  else k s

/-- A command other than HELLO; before any HELLO none is acted on. (DEDUCED, log entry 90) -/
def State.axoCmd (s : State) (via : AxoVia) (k : State → Out) : Out :=
  if !s.axoRuns via.path then .next s
  else
    match s.upd.path with
    | none => .next (s.axoReply via stWrongState 0 [])
    | some p => if p = via.path then s.axoHeld via k else .next (s.axoReply via stBusy 0 [])

/-- AXO_HELLO: the first path that delivers one holds the session. On CAN0 it sets the seq and the frame format. -/
def execAxoHello (t : Nat) (via : AxoVia) (s : State) : Out :=
  let s := s.at t
  let ws := [s.reg SYS_ID, word (s.rd UPD_AXO_STAT UPD_AXO_STAT_reason), s.reg UPD_SLOT]
  if !s.axoRuns via.path then .next s
  else if s.upd.path.any fun p => p != via.path.val then .next (s.axoReply via stBusy 0 [])
  else if via.path = 2 then
    .next ((s.setUpd { s.upd with path := some 2, canSeq := (via.seq + 1) % 256, canFd := via.fd }).axoReply via stDone 0 ws)
  else (s.setUpd { s.upd with path := some via.path.val }).axoHeld via fun s => .next (s.axoReply via stDone 0 ws)

/-- The argument of a command: over PCIe that of UPD_AXO_ARG0. -/
def State.axoArg (s : State) (via : AxoVia) (arg : Word) : Word := if via.path = 0 then s.reg (UPD_AXO_ARG 0) else arg

/-- AXO_BEGIN. -/
def execAxoBegin (t : Nat) (via : AxoVia) (arg : Word) (s : State) : Out :=
  (s.at t).axoCmd via fun s =>
    let a := s.axoArg via arg
    let ty := bits a 7 0
    if ty = 0 ∨ 9 < ty then .next (s.axoReply via stBadParam 0 [])
    else if s.upd.sess.isSome then .next (s.axoReply via stWrongState 0 [])
    else .next ((s.sessOpen ty (bits a 11 9) (bits a 8 8)).axoReply via stDone 0 [])

/-- The reply to a DATA frame: on CAN0 one that is taken is answered with the 16th, or after a silence. -/
def State.axoDataReply (s : State) (via : AxoVia) (status : Nat) : State :=
  if via.path = 2 ∧ status = stDone ∧ s.upd.canData + 1 < 16 then
    s.setUpd { s.upd with canData := s.upd.canData + 1, canAt := some s.cyc }
  else s.axoReply via status 0 []

/-- AXO_DATA: over PCIe the bytes stand from module address 0 up, with offset and count in the argument registers; on
CAN0 the offset follows from the frames before. (DEDUCED, log entry 90) -/
def execAxoData (t : Nat) (via : AxoVia) (off : Nat) (bs : List Byte) (s : State) : Out :=
  (s.at t).axoCmd via fun s =>
    let n := (s.reg (UPD_AXO_ARG 1)).toNat
    if via.path = 0 then
      if n = 0 ∨ 2 ^ 24 ≤ n then .next (s.axoReply via stBadParam 0 [])
      else
        let a := s.sessWrite (s.reg (UPD_AXO_ARG 0)).toNat (s.memBytes 0 n)
        .next (a.1.axoReply via a.2 0 [])
    else if via.path = 1 ∧ 1024 < bs.length then .next (s.axoReply via stBadParam 0 [])
    else
      let a := s.sessWrite (if via.path = 2 then (s.reg UPD_SESS_CNT).toNat else off) bs
      .next (a.1.axoDataReply via a.2)

/-- AXO_FINISH: `sig` is what the check of the signature finds. -/
def execAxoFinish (t : Nat) (via : AxoVia) (sig : Bool) (s : State) : Out :=
  (s.at t).axoCmd via fun s =>
    match s.upd.sess with
    | none => .next (s.axoReply via stWrongState 0 [])
    | some y => .next ((s.sessFinish y sig).1.axoReply via stDone (s.sessFinish y sig).2 [word (s.sessFinish y sig).2])

/-- AXO_ACTIVATE: next is set; a trial follows where the slot is not act. -/
def execAxoActivate (t : Nat) (via : AxoVia) (arg : Word) (s : State) : Out :=
  (s.at t).axoCmd via fun s =>
    let k := bits (s.axoArg via arg) 0 0
    let b := s.kept.boot
    if !s.slotReady k then .next (s.axoReply via stWrongState 0 [])
    else .next ((s.setBoot { b with next := k, trial := decide (k ≠ b.act), trying := false }).axoReply via stDone 0 [])

/-- AXO_BOOT: rails off for 100 ms, then a start with cause 5. -/
def execAxoBoot (t : Nat) (via : AxoVia) (s : State) : Out :=
  (s.at t).axoCmd via fun s => .next ((s.axoReply via stDone 0 []).railsOff (.after 5))

/-- AXO_CAN_SILENCE_REPLY: 20 ms without a frame after DATA frames not yet answered. -/
def execAxoCanSilenceReply (t : Nat) (s : State) : Out :=
  let s := s.at t
  match s.upd.canAt with
  | none => .next s
  | some c =>
    if s.cyc < c + ms 20 then .next s
    else .next (s.axoReply ⟨2, (s.upd.canSeq + 255) % 256, s.upd.canFd, 0#48⟩ stDone 0 [])

end Sys2Proof.Machine
end

