-- ==== Sys2Proof/Machine/Dma.lean ====
section
/-! DEFINITION. The DMA engine (spec/16). Bytes are moved when the command that reports them written happens. -/

namespace Sys2Proof.Machine

/-- A descriptor R398 forbids. -/
def dBad (ws : List Word) : Bool :=
  let n := dLen ws
  let ss := dSpan ws (dBit ws dFixSrc)
  let ds := dSpan ws (dBit ws dFixDst)
  ((ws.drop 8).take 6).any (fun w => w != 0#32) || (!dBit ws dEnd && dNext ws % 64 != 0)
    || (!dBit ws dEnd && !dBit ws dNxtHost && decide (sharedTop < dNext ws + 64))
    || (!dBit ws dSrcHost && decide (sharedTop < dSrc ws + max 1 ss))
    || (!dBit ws dDstHost && decide (sharedTop < dDst ws + max 1 ds))
    || (dBit ws dSrcHost == dBit ws dDstHost && decide (dSrc ws < dDst ws + ds) && decide (dDst ws < dSrc ws + ss))
    || (dBit ws dFixSrc && (dSrc ws % 32 != 0 || n % 32 != 0))
    || (dBit ws dFixDst && (dDst ws % 32 != 0 || n % 32 != 0))

/-! Moving bytes (R391, R396). -/

/-- A burst in bytes: 0 acts as 16 units of 32 (R396). -/
def State.dmaBurst (s : State) (n : Nat) : Nat :=
  let b := s.rd (DMA_CH_CFG n) DMA_CH_CFG_burst
  32 * (if b = 0 then 16 else b)

/-- The accesses that move `n` bytes from address `a` on: whole beats, and before and after them the largest aligned narrow
access that fits (R391). -/
def dmaSplit : Nat → Nat → Nat → List (Nat × Nat)
  | 0, _, _ => []
  | f + 1, a, n =>
    let fits := fun k => a % k == 0 && decide (k ≤ n)
    let k := if fits 32 then 32 else if fits 16 then 16 else if fits 8 then 8 else if fits 4 then 4 else if fits 2 then 2 else 1
    if n = 0 then [] else (a, k) :: dmaSplit f (a + k) (n - k)

/-- The same for one side of a descriptor from byte `i` on; with a fixed address every beat is at the same place. -/
def dmaAccesses (a : Nat) (fix : Bool) (i n : Nat) : List (Nat × Nat) :=
  if fix then (List.range ((n + 31) / 32)).map fun k => (a, min 32 (n - 32 * k)) else dmaSplit (n + 1) (a + i) n

/-- Host reads are issued up to byte `upto` of the descriptor in progress. -/
def State.dmaAsk (s : State) (n upto : Nat) : State :=
  let x := s.dch n
  match x.desc with
  | none => s
  | some ws =>
    let p := max x.got (min upto (dLen ws))
    let s1 := if dBit ws dSrcHost then
        (dmaAccesses (dSrc ws) (dBit ws dFixSrc) x.got (p - x.got)).foldl (fun s e => s.emit (.hostRead e.1 e.2)) s
      else s
    s1.setDch n { x with got := p }

/-- A running channel reads up to 512 bytes ahead of its writes, a paced one while its line is asserted (R391, R396). -/
def State.dmaReadOn (s : State) (n : Nat) : State :=
  if s.dmaState n = dmaRun ∧ s.dmaActive n then s.dmaAsk n ((s.dch n).put + 512) else s

/-- The next `k` bytes of what the recorder offers through its mirror; with the last of the block its line falls (R439). -/
def State.mirrorTake (s : State) (k : Nat) : State × List Byte :=
  let all := s.recr.mirror.flatMap fun e => wordsBytes e.ws
  let bs := (all.drop s.recr.mirrorOff).take k
  let off := s.recr.mirrorOff + bs.length
  let r := s.recr.mirror.foldl (fun (a : List RecEntry × Nat) e =>
    if a.1.isEmpty ∧ 4 * e.ws.length ≤ a.2 then ([], a.2 - 4 * e.ws.length) else (a.1 ++ [e], a.2)) ([], off)
  let s1 := { s with recr := { s.recr with mirror := r.1, mirrorOff := r.2 } }
  (if r.1.isEmpty then s1.lineDrop 3 else s1, bs)

/-- Does a fixed address name the intake or mirror codeword that register `o` places (R401, R439, R462)? -/
def State.atPort (s : State) (o a : Nat) : Bool := s.bitThen o REC_MIRROR_en && a == 32 * s.rdThen o REC_MIRROR_addr

/-- How many bytes of a descriptor can be read before the first in a poisoned codeword (R32). -/
def State.dmaClean (s : State) (ws : List Word) : Nat :=
  if dBit ws dSrcHost then dLen ws
  else if dBit ws dFixSrc then (if s.poisoned (dSrc ws) 32 then 0 else dLen ws)
  else s.poison.foldl (fun k w => if dSrc ws < 32 * w + 32 then min k (32 * w - dSrc ws) else k) (dLen ws)

/-- The source bytes from `i` to `j`: the peripheral's, the host's `bs`, or module memory's. -/
def State.dmaRead (s : State) (n : Nat) (ws : List Word) (i j : Nat) (bs : List Byte) : State × List Byte :=
  if s.dmaReq n = 3 ∧ dBit ws dFixSrc ∧ s.atPort REC_MIRROR (dSrc ws) then s.mirrorTake (j - i)
  else if dBit ws dSrcHost then (s, bs.take (j - i))
  else (s, (List.range (j - i)).map fun k => s.memRd (dAddr (dSrc ws) (dBit ws dFixSrc) (i + k)))

/-- What an intake codeword holds after use is not defined (R401). -/
def State.portUsed (s : State) (a : Nat) : State :=
  ((List.range 32).foldl (fun x i => x.memWr (a + i) (Config.freeByte (64 * s.free + i))) s).freeNext

/-- Store bytes from byte `i` of the destination on; a paced channel feeds its peripheral's intake.
(DESIGN CHOICE, log entry 83) -/
def State.dmaWrite (s : State) (n : Nat) (ws : List Word) (i : Nat) (bs : List Byte) : State :=
  let q := s.dmaReq n
  let fix := dBit ws dFixDst
  if fix ∧ (q = 1 ∨ q = 2) ∧ s.atPort (DPY_INTAKE (q - 1)) (dDst ws) then (s.dpyIntake (q - 1) bs).portUsed (dDst ws)
  else if fix ∧ q = 4 ∧ s.atPort UPD_INTAKE (dDst ws) then (s.updIntake bs).portUsed (dDst ws)
  else if dBit ws dDstHost then
    ((dmaAccesses (dDst ws) fix i bs.length).foldl (fun (x : State × List Byte) e =>
      (x.1.emit (.hostBytes e.1 (x.2.take e.2)), x.2.drop e.2)) (s, bs)).1
  else (bs.zipIdx i).foldl (fun x e => x.memWr (dAddr (dDst ws) fix e.2) e.1) s

/-- The descriptor in progress of channel `n` has its first `put` bytes written; CUR_SRC, CUR_DST and REM say so.
(DESIGN CHOICE, log entry 83) -/
def State.dmaMove (s : State) (n put : Nat) (bs : List Byte) : State :=
  let x := s.dch n
  match x.desc with
  | none => s
  | some ws =>
    let p := max x.put (min put (s.dmaClean ws))
    let s0 := s.dmaAsk n p
    let a := s0.dmaRead n ws x.put p bs
    let s1 := (a.1.dmaWrite n ws x.put a.2).setDch n { s0.dch n with put := p }
    let src := if dBit ws dFixSrc then dSrc ws else dSrc ws + p
    let dst := if dBit ws dFixDst then dDst ws else dDst ws + p
    ((((s1.setReg (DMA_CH_CUR_SRC_LO n) (lo32 src)).setReg (DMA_CH_CUR_SRC_HI n) (hi32 src)).setReg (DMA_CH_CUR_DST_LO n)
      (lo32 dst)).setReg (DMA_CH_CUR_DST_HI n) (hi32 dst)).wr (DMA_CH_REM n) DMA_CH_REM_rem (dLen ws - p)

/-! Ends (R389, R392 to R395). -/

/-- Write back words 14 and 15, then the interrupt (R392). -/
def State.dmaBack (s : State) (n status done : Nat) (irq : Bool) : State :=
  let a := s.dmaDescAddr n + 56
  let ws := [packW [(status, 24), (done, 0)], lo32 s.mtime]
  let s1 := if (s.dch n).host then s.emit (.hostWrite a ws) else s.memStore a (wordsBytes ws)
  if irq && s.bit (DMA_CH_CFG n) DMA_CH_CFG_irq_en then s1.emit (.msix (s.rd (DMA_CH_CFG n) DMA_CH_CFG_vector)) else s1

/-- The channel goes to IDLE with NEXT taken from a descriptor, valid unless its end bit is 1. -/
def State.dmaRest (s : State) (n : Nat) (ws : List Word) : State :=
  let a := dNext ws
  let s1 := (s.setReg (DMA_CH_NEXT_LO n) (packW [(a / 64 % 2 ^ 26, 6), (b2n (dBit ws dNxtHost), 0)])).setReg (DMA_CH_NEXT_HI n) (hi32 a)
  let s2 := s1.wr (DMA_CH_STAT n) DMA_CH_STAT_nv (b2n !dBit ws dEnd)
  (s2.setDmaState n dmaIdle).setDch n DChan.init

/-- The words of a descriptor that is aborted before it has arrived: those in module memory, or free ones, since what a
host read would have returned is discarded and poisoned words are not acted on. (DESIGN CHOICE, log entry 83) -/
def State.dmaUnread (s : State) (n : Nat) (lost : Bool) : List Word :=
  if (s.dch n).host || lost || s.poisoned (s.dmaDescAddr n) 64 then s.freeWords 16 else s.memWords (s.dmaDescAddr n) 16

/-- The descriptor in progress is aborted as a stop aborts it: its write-back, no pending kicks, IDLE. `lost` says that the
descriptor itself could not be read. -/
def State.dmaAbort (s : State) (n put : Nat) (bs : List Byte) (lost : Bool) : State :=
  let s0 := s.wr (DMA_CH_STAT n) DMA_CH_STAT_pend 0
  match (s.dch n).desc with
  | some ws =>
    let s1 := s0.dmaMove n put bs
    (s1.dmaBack n stAborted (s1.dch n).put (dBit ws dIrq)).dmaRest n ws
  | none =>
    let ws := s.dmaUnread n lost
    ((s0.freeAdd 16).dmaBack n stAborted 0 (dBit ws dIrq)).dmaRest n ws

/-- The descriptor meets an error (R395). -/
def State.dmaErr (s : State) (n : Nat) : State := s.wr (DMA_CH_STAT n) DMA_CH_STAT_err_seen 1

/-- Does a transfer to `ws` write bytes that another channel's descriptor writes too (R398)? -/
def State.dmaClash (s : State) (n : Nat) (ws : List Word) : Bool :=
  (List.range 32).any fun m => m != n && (match (s.dch m).desc with
    | some x => dBit x dDstHost == dBit ws dDstHost && (dstArea x).any fun p => (dstArea ws).any fun q =>
        decide (p.1 < q.1 + q.2) && decide (q.1 < p.1 + p.2)
    | none => false)

/-- Does a descriptor write the recorder's mirror codeword, or read it other than as its channel does (R445)? -/
def State.mirrorMisused (s : State) (n : Nat) (ws : List Word) : Bool :=
  (!dBit ws dDstHost && s.mirrorHit (dDst ws) (dSpan ws (dBit ws dFixDst)))
    || (!dBit ws dSrcHost && s.mirrorHit (dSrc ws) (dSpan ws (dBit ws dFixSrc))
      && !(s.dmaReq n == 3 && dBit ws dFixSrc && s.atPort REC_MIRROR (dSrc ws)))

/-- Would channel `n`, moving data up to byte `put`, feed bytes through the intake into a session that WRITE has filled
(R471)? -/
def State.dmaOverfeeds (s : State) (n put : Nat) : Bool :=
  s.sessWritten && s.dmaReq n == 4 && decide ((s.dch n).put < put)
    && (s.dch n).desc.any fun ws => dBit ws dFixDst && s.atPort UPD_INTAKE (dDst ws)

/-- Channel `n` moves data up to byte `put`; such bytes are misuse (R471). -/
def State.dmaFeeds (s : State) (n put : Nat) (k : Out) : Out :=
  if s.dmaOverfeeds n put then .fault .updateMisuse else k

/-! Commands. -/

/-- DMA_KICK: a host write of 1 to kick; `beaten` are the channels displaced from a port at the next beat. -/
def execDmaKick (t : Nat) (n : Fin 32) (beaten : List (Fin 32)) (s : State) : Out :=
  let s := s.at t
  if !s.readyReg (DMA_CH_CTL n) then .next (s.ignored (DMA_CH_CTL n))
  else
    let s1 := s.dmaKick n (beaten.map Fin.val)
    if s1.dmaShared n then .fault .dmaMisuse else .next s1

/-- DMA_NEXT_WRITE (R397, R398). -/
def execDmaNextWrite (t : Nat) (n : Fin 32) (v : Word) (s : State) : Out :=
  (s.at t).hostWrite (DMA_CH_NEXT_LO n) v ((s.at t).dmaState n != dmaIdle) fun s =>
    .next (((s.store (DMA_CH_NEXT_LO n) v).wr (DMA_CH_STAT n) DMA_CH_STAT_nv 1).dmaPend n)

/-- Does TST_BP stall channel `n`, so that it issues no beat (R491)? (DESIGN CHOICE, log entry 50) -/
def State.dmaStalled (s : State) (n : Nat) : Bool := s.stalled (29 - s.rd (DMA_CH_CFG n) DMA_CH_CFG_class)

/-- DMA_DESCRIPTOR_ARRIVAL: `ws` is what a host read returned. -/
def execDmaDescriptorArrival (t : Nat) (n : Fin 32) (ws : List Word) (beaten : List (Fin 32)) (ecc : List EccHit) (s : State) : Out :=
  let s := s.at t
  let x := s.dch n
  if !x.fetch || s.dmaState n == dmaIdle || s.dmaStalled n then .next s
  else
    let a := s.dmaDescAddr n
    let d := if x.host then (List.range 16).map (wAt ws) else s.memWords a 16
    let s1 := s.eccAll ecc
    if !x.host && decide (sharedTop < a + 64) then .fault .dmaMisuse
    else if eccBad ecc || (!x.host && s.poisoned a 64) then
      .next (((ecc.foldl State.eccEnd ((s1.dmaErr n).dmaAbort n 0 [] true)).poisonEnds a 64).wr (DMA_CH_STAT n) DMA_CH_STAT_nv 0)
    else
      let y := { x with
        fetch := false, desc := some d, put := 0, got := 0, owned := x.owned ++ descAreas a x.host d
        past := x.past ++ [(a, x.host)] }
      let s2 := s1.setDch n y
      if dBad d || s2.dmaShared n || s.dmaClash n d then .fault .dmaMisuse
      else if s.mirrorMisused n d then .fault .recorderMisuse
      else .next (((s2.dmaMove n 0 []).dmaReadOn n).dmaLeap n false (beaten.map Fin.val))

/-- After a descriptor: IDLE, the next one, or PAUSED before it (R387, R393). -/
def State.dmaGoOn (s : State) (n : Nat) (ws : List Word) : State :=
  if dBit ws dEnd || dBit ws dStop then (s.dmaRest n ws).dmaPend n
  else if s.dmaPause n then
    (((s.setReg (DMA_CH_CUR_DESC_LO n) (lo32 (dNext ws))).setReg (DMA_CH_CUR_DESC_HI n) (hi32 (dNext ws))).setDmaState n
      dmaPaused).setDch n { s.dch n with host := dBit ws dNxtHost, desc := none, put := 0, got := 0 }
  else s.dmaFetch n (dNext ws) (dBit ws dNxtHost)

/-- DMA_DESCRIPTOR_END: every byte is written; with poisoned data the descriptor is aborted with `put` bytes written.
`bs` is what host reads returned since the last report. -/
def execDmaDescriptorEnd (t : Nat) (n : Fin 32) (put : Nat) (bs : List Byte) (ecc : List EccHit) (s : State) : Out :=
  let s := s.at t
  match (s.dch n).desc with
  | none => .next s
  | some ws =>
    let left := dLen ws - (s.dch n).put
    let q := s.dmaReq n
    if s.dmaState n == dmaIdle || s.dmaState n == dmaPaused || s.dmaStalled n || (q != 0 && left != 0 && !s.dmaLineOn q) then .next s
    else if eccBad ecc || decide (s.dmaClean ws < dLen ws) then
      s.dmaFeeds n put <| .next ((ecc.foldl State.eccEnd (((s.eccAll ecc).dmaErr n).dmaAbort n put bs false)).poisonEnds
        (dSrc ws) (dSpan ws (dBit ws dFixSrc)))
    else
      let s1 := (s.eccAll ecc).dmaMove n (dLen ws) bs
      s.dmaFeeds n (dLen ws) <| .next ((s1.dmaBack n stDone (dLen ws) (dBit ws dIrq)).dmaGoOn n ws)

/-- Pause is set (R393). -/
def State.dmaPauseSet (s : State) (n : Nat) : State :=
  let s1 := s.wr (DMA_CH_CTL n) DMA_CH_CTL_pause 1
  if s.dmaState n = dmaRun then s1.setDmaState n dmaPausing else s1

/-- Pause is cleared: the channel goes on from where it stands. -/
def State.dmaPauseClear (s : State) (n : Nat) : State :=
  let s1 := s.wr (DMA_CH_CTL n) DMA_CH_CTL_pause 0
  if s.dmaState n = dmaIdle then s1.dmaPend n
  else
    let s2 := s1.setDmaState n dmaRun
    let s3 := if s.dmaState n = dmaPaused then s2.dmaLeap n true [] else s2
    if (s3.dch n).desc.isNone && !(s3.dch n).fetch then s3.dmaFetch n (s3.dmaDescAddr n) (s3.dch n).host else s3.dmaReadOn n

/-- DMA_PAUSE. -/
def execDmaPause (t : Nat) (n : Fin 32) (s : State) : Out :=
  let s := s.at t
  if !s.readyReg (DMA_CH_CTL n) then .next (s.ignored (DMA_CH_CTL n)) else .next (s.dmaPauseSet n)

/-- DMA_PAUSED: staging is empty with `put` bytes of the descriptor written. -/
def execDmaPaused (t : Nat) (n : Fin 32) (put : Nat) (bs : List Byte) (s : State) : Out :=
  let s := s.at t
  if s.dmaState n ≠ dmaPausing then .next s 
  else s.dmaFeeds n put <| .next ((s.dmaMove n put bs).setDmaState n dmaPaused)

/-- DMA_RESUME. -/
def execDmaResume (t : Nat) (n : Fin 32) (s : State) : Out :=
  let s := s.at t
  if !s.readyReg (DMA_CH_CTL n) then .next (s.ignored (DMA_CH_CTL n)) else .next (s.dmaPauseClear n)

/-- A stop with `put` bytes written (R394). -/
def State.dmaStop (s : State) (n put : Nat) (bs : List Byte) : State :=
  if s.dmaState n = dmaIdle then s.wr (DMA_CH_STAT n) DMA_CH_STAT_pend 0 else s.dmaAbort n put bs false

/-- DMA_STOP. -/
def execDmaStop (t : Nat) (n : Fin 32) (put : Nat) (bs : List Byte) (s : State) : Out :=
  let s := s.at t
  if !s.readyReg (DMA_CH_CTL n) then .next (s.ignored (DMA_CH_CTL n))
  else s.dmaFeeds n put <| .next (s.dmaStop n put bs)

/-- A write of DMA_CHn_CTL; a stop and a pause act as a stop (R394). -/
def State.dmaCtl (s : State) (n : Nat) (v : Word) : State :=
  if DMA_CH_CTL_stop.get v = 1 then (s.dmaStop n 0 []).wr (DMA_CH_CTL n) DMA_CH_CTL_pause 0
  else
    let s1 := if DMA_CH_CTL_pause.get v = 1 then s.dmaPauseSet n else if s.dmaPause n then s.dmaPauseClear n else s
    if DMA_CH_CTL_kick.get v = 1 then s1.dmaKick n [] else s1

/-- DMA_READ_ERROR (R395): the fault clears once the descriptor has been aborted. -/
def execDmaReadError (t : Nat) (n : Fin 32) (put : Nat) (bs : List Byte) (s : State) : Out :=
  let s := s.at t
  if s.dmaState n = dmaIdle then .next s
  else
    let s1 := ((s.dmaErr n).raise2 (0x0E00 + n) 0).dmaAbort n put bs true
    s.dmaFeeds n put <| .next (s1.clear2 (0x0E00 + n))

/-- Does the peripheral of request line `q` have a burst to take or to give (R401, R439, R462)? -/
def State.lineAsks (s : State) (q : Nat) : Bool :=
  if q = 1 ∨ q = 2 then s.dpyWants (q - 1)
  else if q = 3 then s.bitThen REC_CFG REC_CFG_mirror && s.bitThen REC_MIRROR REC_MIRROR_en && !s.recr.mirror.isEmpty
  else s.bit UPD_INTAKE UPD_INTAKE_en && s.upd.sess.isSome

/-- DMA_REQUEST_ASSERT: line `q` + 1, while its peripheral asks; the channels it paces become ready (R390, R396). -/
def execDmaRequestAssert (t : Nat) (q : Fin 4) (s : State) : Out :=
  let s := s.at t
  if s.dmaLineOn (q + 1) || !s.lineAsks (q + 1) then .next s
  else
    let mine := (List.range 32).filter fun n => s.dmaReq n == q + 1 && s.dmaState n == dmaRun
    .next (mine.foldl (fun x n => (x.dmaReadOn n).dmaLeap n true []) { s with dmaLine := cellSet (fun _ => false) s.dmaLine (q + 1) true })

/-- Bytes of a descriptor at the end of the burst that byte `put` lies in; the last burst may be shorter (R396). -/
def State.burstEnd (s : State) (n put : Nat) : Nat := (put + s.dmaBurst n - 1) / s.dmaBurst n * s.dmaBurst n

/-- DMA_REQUEST_WITHDRAW: `done` gives, for channels the line paces, the bytes written once the burst that runs has
completed. -/
def execDmaRequestWithdraw (t : Nat) (q : Fin 4) (done : List (Nat × Nat × List Byte)) (s : State) : Out :=
  let s := s.at t
  if !s.dmaLineOn (q + 1) then .next s
  else
    let mine := (List.range 32).filter fun n => s.dmaReq n == q + 1 && s.bit (DMA_CH_CFG n) DMA_CH_CFG_en
    let s1 := done.foldl (fun x e => if mine.contains e.1 && x.dmaState e.1 != dmaIdle then x.dmaMove e.1 (x.burstEnd e.1 e.2.1) e.2.2 else x) s
    if q.val = 3 ∧ s.sessWritten ∧ done.any (fun e => decide ((s.dch e.1).put < s.burstEnd e.1 e.2.1)) then .fault .updateMisuse
    else .next (s1.lineDrop (q + 1))

/-- A write of DMA_CHn_CFG that R398 forbids. -/
def dmaCfgBad (v : Word) : Bool :=
  let c := DMA_CH_CFG_class.get v
  c == 0 || c == 3 || decide (5 ≤ DMA_CH_CFG_req.get v)

end Sys2Proof.Machine
end

