-- ==== Sys2Proof/Machine/EventTable.lean ====
section
/-! DEFINITION. Reaching the event table (R138 to R143): the ring operations and the register window of NYM, and the
hand-over of a pending commit. Releases are in Release.lean. -/

namespace Sys2Proof.Machine

/-- EVENT_HANDOVER (R138): a commit now, or a commit at arm on an entry with no armed occurrence. -/
def execEventHandover (t : Nat) (i : Fin 16384) (s : State) : Out :=
  let s := s.at t
  let e := s.evNow i
  let due := e.due s.cyc
  if due = 2 ∨ (due = 1 ∧ !e.armed) then .next (s.evCopy i false) else .next s

/-- Does an operation of the native host touch an entry of the K12 engine (R143)? -/
def State.evK12 (s : State) (first n : Nat) : Bool := s.isK12 && decide (0 < n) && decide (first < 3000)

/-- The result word of a NYM operation. One that made no access to the table has NYM_HO_SEQ as it ends, and 0 where an
entry of the K12 engine refused it. (DESIGN CHOICE, log entry 129) -/
def State.hoNym (s : State) : Nat := (s.reg NYM_HO_SEQ).toNat

/-- `n` consecutive items of eight words. -/
def halves (buf : List Word) (n : Nat) : List (List Word) :=
  (List.range n).map fun k => (List.range 8).map fun j => wAt buf (8 * k + j)

/-- NYM_WRITE (R141). (DESIGN CHOICE, log entry 129) -/
def execNymWrite (t : Nat) (r : Fin 64) (buf : List Word) (s : State) : Out :=
  (s.at t).ringOp r 0x02 0 1 fun s d =>
    let first := bits (d.par 8) 13 0
    let mode := bits (d.par 8) 17 16
    let n := d.len / 32
    if 16384 < first + (d.len + 31) / 32 ∨ mode = 3 then .next (s.endOp r d.slot stBadParam 0 s.hoNym)
    else if d.len = 0 then .next (s.endOp r d.slot stDone 0 s.hoNym)
    else if s.evK12 first n then .next (s.endOp r d.slot stWrongState 0 0)
    else if d.len % 32 ≠ 0 then .fault .nymgorMisuse
    else s.takesBuf r d (4 * buf.length) <|
      let hs := halves (s.bufWords r d buf) n
      if hs.any evBad then .fault .nymgorMisuse
      else
        let s1 := (hs.zipIdx first).foldl (fun s p =>
          let s1 := s.evWrite p.2 p.1
          if mode = 0 then s1 else s1.evCommit p.2 mode) s
        .next (s1.endSeq 2 r d.slot d.len s1.hoNym)

/-- NYM_COMMIT (R141). -/
def execNymCommit (t : Nat) (r : Fin 64) (s : State) : Out :=
  (s.at t).ringOp r 0x02 0 2 fun s d =>
    let first := bits (d.par 8) 13 0
    let n := bits (d.par 9) 14 0
    let mode := bits (d.par 9) 17 16
    if 16384 < first + n ∨ mode = 0 ∨ mode = 3 then .next (s.endOp r d.slot stBadParam 0 s.hoNym)
    else if s.evK12 first n then .next (s.endOp r d.slot stWrongState 0 0)
    else
      let s1 := (List.range n).foldl (fun s k => s.evCommit (first + k) mode) s
      .next (s1.endSeq 2 r d.slot 0 s1.hoNym)

/-- NYM_READ (R141). -/
def execNymRead (t : Nat) (r : Fin 64) (s : State) : Out :=
  (s.at t).ringOp r 0x02 0 3 fun s d =>
    let first := bits (d.par 8) 13 0
    let item := bits (d.par 8) 17 16
    let n := d.len / 32
    if 16384 < first + (d.len + 31) / 32 ∨ item = 3 then .next (s.endOp r d.slot stBadParam 0 s.hoNym)
    else if d.len = 0 then .next (s.endOp r d.slot stDone 0 s.hoNym)
    else if s.evK12 first n then .next (s.endOp r d.slot stWrongState 0 0)
    else if d.len % 32 ≠ 0 then .fault .nymgorMisuse
    else s.givesBuf r d <|
      let ws := (List.range n).flatMap fun k => s.evItem (first + k) item
      .next ((s.bufOut r d 0 ws).endSeq 2 r d.slot d.len s.hoNym)

/-- NYM_DISARM (R141). -/
def execNymDisarm (t : Nat) (r : Fin 64) (s : State) : Out :=
  (s.at t).ringOp r 0x02 0 4 fun s d =>
    let first := bits (d.par 8) 13 0
    let n := bits (d.par 9) 14 0
    if 16384 < first + n then .next (s.endOp r d.slot stBadParam 0 s.hoNym)
    else if s.evK12 first n then .next (s.endOp r d.slot stWrongState 0 0)
    else
      let s1 := (List.range n).foldl (fun s k => s.evDisarm (first + k)) s
      .next (s1.endSeq 2 r d.slot 0 s1.hoNym)

/-! The register window (R142). -/

/-- A window command: `k` acts on the selected entry, then NYM_HO_SEQ is latched. -/
def State.tblCmd (s : State) (k : State → Nat → Out) : Out :=
  let i := s.rd NYM_TBL_IDX NYM_TBL_IDX_index
  if !s.readyReg NYM_TBL_CMD || s.evK12 i 1 then .next (s.ignored NYM_TBL_CMD)
  else
    match k s i with
    | .next s1 => .next ((s1.setReg NYM_TBL_SEQ (s1.reg NYM_HO_SEQ)).hoNote 2 (.reg NYM_TBL_SEQ))
    | .fault f => .fault f
    | .refused f => .refused f

def State.tblData (s : State) : List Word := (List.range 8).map fun j => s.reg (NYM_TBL_DATA j)

def State.setTblData (s : State) (ws : List Word) : State :=
  (List.range 8).foldl (fun s j => s.setReg (NYM_TBL_DATA j) (wAt ws j)) s

/-- Write the selected entry's shadow and commit it with `mode`, 0 for none. -/
def State.tblWrite (s : State) (mode : Nat) : Out :=
  s.tblCmd fun s i =>
    if evBad s.tblData then .fault .nymgorMisuse
    else if mode = 0 then .next (s.evWrite i s.tblData)
    else .next ((s.evWrite i s.tblData).evCommit i mode)

/-- Read an item of the selected entry. -/
def State.tblRead (s : State) (item : Nat) : Out := s.tblCmd fun s i => .next (s.setTblData (s.evItem i item))

def execTblWriteShadow (t : Nat) (s : State) : Out := (s.at t).tblWrite 0
def execTblWriteCommitArm (t : Nat) (s : State) : Out := (s.at t).tblWrite 1
def execTblWriteCommitNow (t : Nat) (s : State) : Out := (s.at t).tblWrite 2
def execTblReadShadow (t : Nat) (s : State) : Out := (s.at t).tblRead 0
def execTblReadActive (t : Nat) (s : State) : Out := (s.at t).tblRead 1
def execTblReadRunState (t : Nat) (s : State) : Out := (s.at t).tblRead 2
def execTblDisarm (t : Nat) (s : State) : Out := (s.at t).tblCmd fun s i => .next (s.evDisarm i)

end Sys2Proof.Machine
end

