-- ==== Sys2Proof/Machine/Fusion.lean ====
section
/-! DEFINITION. The collector (R259 to R264): ports, instants, commits, the fused record; the rings of SNS and FUS. -/

namespace Sys2Proof.Machine

/-! Ports (R259). -/

/-- The control-engine cycle at which a port starts to move result `r`. -/
def CPort.start (p : CPort) (r : FRes) : Nat :=
  let t := max p.free r.issued
  t + (r.unit / 4 + 4 - (p.pos + (t - p.free)) % 4) % 4

/-- The result a port moves next. (DESIGN CHOICE, log entry 69) -/
def CPort.pick (p : CPort) : List FRes → Option FRes
  | [] => none
  | r :: rest =>
    match p.pick rest with
    | none => some r
    | some q => if p.start r ≤ p.start q then some r else some q

/-- Move results over port `k` whose last word is taken by control-engine cycle `c`: each takes 4 cycles.
(DESIGN CHOICE, log entry 69) -/
def portRun (k c : Nat) : Nat → CPort → List FRes → CPort × List FRes
  | 0, p, _ => (p, [])
  | n + 1, p, l =>
    match p.pick (l.filter fun r => r.unit % 4 == k) with
    | none => (p, [])
    | some r =>
      if p.start r + 4 ≤ c then
        let q := portRun k c n ⟨(r.unit / 4 + 1) % 4, p.start r + 4⟩ (l.erase r)
        (q.1, r :: q.2)
      else (p, [])

/-- A result taken: one whose instant has been committed is discarded (R260). -/
def State.takeRes (s : State) (r : FRes) : State :=
  let c := s.sched r.sched
  match c.inst with
  | some i => if i.seq = r.seq then s.setSched r.sched { c with inst := some { i with taken := i.taken ++ [r] } } else s
  | none => s

/-- The collector has taken what has arrived by this cycle. -/
def State.collect (s : State) : State :=
  (List.range 4).foldl (fun s k =>
    let q := portRun k (2 * s.cyc + 1) s.fus.wait.length (cellGet (fun _ => CPort.init) s.fus.ports k) s.fus.wait
    let s1 := { s with fus := { s.fus with
      wait := s.fus.wait.filter fun r => !q.2.contains r
      ports := cellSet (fun _ => CPort.init) s.fus.ports k q.1 } }
    q.2.foldl State.takeRes s1) s

/-! The record (R261 to R264). -/

/-- Value `i` of a result. -/
def FRes.val (r : FRes) (i : Nat) : Int := sInt (wAt r.ws (1 + i))

/-- Flag `i` of a result, from SAT up. -/
def FRes.flag (r : FRes) (i : Nat) : Bool := bits (wAt r.ws 0) (16 + i) (16 + i) == 1

/-- The observation vector (R263): each entry's value and whether it is valid. -/
def State.obsOf (s : State) (l : List FRes) : List (Int × Bool) :=
  (List.range 24).map fun i =>
    match l.find? fun r => r.unit == s.rd (FUS_OBS i) FUS_OBS_unit with
    | some r =>
      if s.bit (FUS_OBS i) FUS_OBS_en && !r.flag 2 then (r.val (s.rd (FUS_OBS i) FUS_OBS_val), true) else (0, false)
    | none => (0, false)

/-- A mask of unit numbers. -/
def maskOf (l : List Nat) : Nat := (l.map fun u => 2 ^ u).sum

/-- The yield unit's result among those committed, while attribution is on. -/
def State.yldRes (s : State) (l : List FRes) : Option FRes :=
  if s.bit FUS_YLD_CFG FUS_YLD_CFG_en then l.find? fun r => r.unit == s.rd FUS_YLD_CFG FUS_YLD_CFG_unit else none

def State.moistRes (s : State) (l : List FRes) : Option FRes :=
  if s.bit FUS_YLD_CFG FUS_YLD_CFG_m_en then l.find? fun r => r.unit == s.rd FUS_YLD_CFG FUS_YLD_CFG_munit else none

/-- The latest usable fix carried forward along its heading by the GROUND distance since it (R264, R330).
(DESIGN CHOICE, log entry 70) -/
def State.posNow (s : State) : Int × Int :=
  match s.gns.useful with
  | some (e, ws) =>
    let g := match s.histAtTime e with
      | some p => groundAt e p
      | none => s.pos 10
    carryOn (fineOf ws 2 31 24) (fineOf ws 3 23 16) (bits (wAt ws 8) 31 16) (s.pos 10 - g)
  | none => (Config.freeInt s.free, Config.freeInt (s.free + 1))

/-- Heading and fix type of that fix; without one the spec states no heading. -/
def State.headNow (s : State) : Nat × Nat :=
  match s.gns.useful with
  | some (_, ws) => (bits (wAt ws 8) 31 16, bits (wAt ws 11) 31 28)
  | none => (Config.freeNat (s.free + 2) % 36000, 0)

/-- The state block (R264). -/
def State.stateBlock (s : State) (l : List FRes) : List Word :=
  let p := s.posNow
  let flow := match s.yldRes l with
    | some r => r.val 0
    | none => 0
  let moist := match s.moistRes l with
    | some r => r.val 0
    | none => 0
  let cut := s.histAtTime ((s.mtime : Int) - s.delayNs)
  let width := match cut with
    | some q => s.maskWidth q.1.mask
    | none => 0
  let yld := match cut with
    | some q =>
      let dg : Int := (q.2.g - q.1.g).natAbs
      if dg = 0 ∨ width = 0 then 0 else sat32 (rndDiv (flow * ((q.2.t - q.1.t : Nat) : Int)) (10 * dg * width))
    | none => 0
  [wInt p.1, wInt p.2, packW [(s.headNow.1, 16), (s.headNow.2, 0)],
    packW [(s.rd NYM_GND_STAT NYM_GND_STAT_speed, 16), (min 0xFFFF (width / 10), 0)], wInt flow, wInt yld, wInt moist]
    ++ List.replicate 9 0#32

/-- The fused record of an instant of schedule `k` (R261). -/
def State.fusedRecord (s : State) (k : Nat) (i : OpenInst) : List Word :=
  let l := (List.range 16).filterMap fun u => i.taken.find? fun r => r.unit == u
  let present := l.map fun r => r.unit
  let missing := i.expected.filter fun u => !present.contains u
  let st := s.bit (FUS_SCHED k) FUS_SCHED_state
  let obs := s.obsOf l
  let tail := (if st then s.stateBlock l else []) ++ l.flatMap fun r => r.ws
  [lo32 s.mtime, hi32 s.mtime, packW [(k, 28), (b2n st, 27), (i.seq % 2 ^ 24, 0)],
    packW [(maskOf present, 16), (maskOf missing, 0)],
    packW [(maskOf ((l.filter fun r => r.flag 1 || r.flag 3).map fun r => r.unit), 16),
      (maskOf ((l.filter fun r => r.flag 2).map fun r => r.unit), 0)],
    packW [(32 + tail.length, 16), (min 0xFFFF (s.sched k).lateN, 0)],
    word ((obs.zipIdx.map fun p => b2n p.1.2 * 2 ^ p.2).sum), 0#32] ++ obs.map (fun p => wInt p.1) ++ tail

/-- Commit the open instant of schedule `k` (R260). -/
def State.commitSched (s : State) (k : Nat) : State :=
  match (s.sched k).inst with
  | none => s
  | some i =>
    let ws := s.fusedRecord k i
    let missing := i.expected.filter fun u => !i.taken.any fun r => r.unit == u
    let s1 := missing.foldl (fun s u => s.bump (FUS_FU_STAT u) FUS_FU_STAT_miss_cnt) s
    let s2 := (s1.bumpBy (FUS_SCHSTAT k) FUS_SCHSTAT_miss_cnt missing.length).wr (FUS_SCHSTAT k) FUS_SCHSTAT_seq
      (i.seq % 2 ^ 16)
    let s3 := if missing = [] then s2 else s2.noteSlow (0x0800 + k) 0
    let c := s3.sched k
    let fr : FRec := ⟨s.mtime, s.cyc, (wAt ws 6).toNat, (List.range 24).map fun q => sInt (wAt ws (8 + q))⟩
    let s4 := (s3.setSched k { c with inst := none, lateN := 0, last := some fr, before := c.last }).freeAdd 3
    let a := if s.rd FUS_STAT FUS_STAT_ring_mask / 2 ^ k % 2 = 1 then s4.deliver 0x80 ws else (s4, false)
    let s5 := if a.2 then (a.1.bump FUS_STAT FUS_STAT_drop_cnt).noteSlow 0x0820 0 else a.1
    match s.yldRes i.taken with
    | some r =>
      let w := match s.moistRes i.taken with
        | some q => some (q.val 0)
        | none => none
      (s5.yieldCommit r.from_ r.at_ (r.val 1) w).delayCommit r.at_ (r.val 0)
    | none => s5

/-- Have all expected results been taken, or has the window closed? -/
def State.commitDue (s : State) (k : Nat) (i : OpenInst) : Bool :=
  (i.expected != [] && i.expected.all fun u => i.taken.any fun r => r.unit == u)
    || decide (i.cyc + us (s.rd (FUS_SCHED k) FUS_SCHED_window) ≤ s.cyc)

/-- COLLECTOR_COMMIT (R260). -/
def execCollectorCommit (t : Nat) (k : Fin 16) (s : State) : Out :=
  let s := s.at t
  if !s.fusRuns then .next s
  else
    let s1 := s.collect
    match (s1.sched k).inst with
    | none => .next s1
    | some i => if s1.commitDue k i then .next (s1.commitSched k) else .next s1

/-! Instants (R251, R255, R260). -/

/-- The shaft a unit's sources name, when it has one (R258). -/
def State.fuShaft (s : State) (u : Nat) : Option Nat :=
  if (s.fuKind u = 2 ∨ s.fuKind u = 5) ∧ srcShaft (s.fuSrc2 u) then some (s.fuSrc2 u - 0x58) else none

/-- A FUSION release of schedule `k`: the old instant is committed, the units and maps of the schedule close their
intervals. -/
def State.fusionInstant (s : State) (k : Nat) : State :=
  if !s.fusRuns || !s.bit (FUS_SCHED k) FUS_SCHED_en then s
  else
    let s1 := (s.collect).commitSched k
    let q := ((s1.sched k).count + 1) % 2 ^ 24
    let units := (List.range 16).filter fun u => s1.fuEn u && s1.fuSched u == k
    let s2 := (units.filter fun u => s1.fuKind u != 0).foldl (fun s u =>
      let f := s.fu u
      let bad := match s.fuShaft u with
        | some j => s.shaftSync j != sySync || decide (f.lastCyc < (s.shaft j).syncAt)
        | none => false
      s.setFu u { f with pend := f.pend ++ [⟨s.mtime, s.cyc, q, s.pos 10, bad⟩], lastCyc := s.cyc }) s1
    (s2.setSched k { s2.sched k with
      count := q, inst := some ⟨s.mtime, s.cyc, q, units, []⟩ }).mapInstant k q

/-! Rings (R271, R272). -/

/-- RAW_FILL. -/
def execRawFill (t : Nat) (r : Fin 64) (s : State) : Out := (s.at t).fill r 0 7 16

/-- FUSED_FILL. -/
def execFusedFill (t : Nat) (r : Fin 64) (s : State) : Out := (s.at t).fill r 0 8 1

end Sys2Proof.Machine
end

