-- ==== Sys2Proof/Machine/HeatNet.lean ====
section
/-! DEFINITION. The thermal network of R446: its nodes, how they are joined, and one step of every estimate. -/

namespace Sys2Proof.Machine

def State.setThm (s : State) (x : Thm) : State := { s with thm := x }

/-- The nodes of the network that are estimated: all but the base, which is measured. -/
def modelNodes : List Nat :=
  (List.range 48).map nodeValve ++ (List.range 64).map nodeSwitch ++ (List.range 12).map (128 + ·)
    ++ (List.range 16).map (144 + ·) ++ (List.range 4).map (160 + ·)

/-- The nodes a node is joined to: a junction to its case, a case to its four junctions and the base, a die to the base. -/
def joinedTo (i : Nat) : List Nat :=
  if i < 48 then [128 + i / 4]
  else if i < 128 then [144 + (i - 64) / 4]
  else if i < 140 then 168 :: (List.range 4).map fun j => nodeValve (4 * (i - 128) + j)
  else if i < 160 then 168 :: (List.range 4).map fun j => nodeSwitch (4 * (i - 144) + j)
  else [168]

/-- The heat put into a node since the last update, in nJ: what was measured, and the clamp energy of a valve (R200). -/
def State.heatOf (s : State) (heat : List (Nat × Nat)) (i : Nat) : Nat :=
  ((heat.filter fun x => x.1 == i).map Prod.snd).sum + (if i < 48 then (s.valve i).clamp else 0)

/-- One step of node `i`, from the estimates before it. (DESIGN CHOICE, log entry 125) -/
def State.nodeStep (s : State) (heat : List (Nat × Nat)) (i : Nat) : Int :=
  let at_ := cellGet (fun _ => 0) s.thm.temps
  Config.thermalStep i (at_ i) ((joinedTo i).map at_) (s.heatOf heat i)

/-- Every node moves by one step of the network. -/
def State.network (s : State) (heat : List (Nat × Nat)) : Cells Int :=
  modelNodes.foldl (fun m i => cellSet (fun _ => 0) m i (s.nodeStep heat i)) s.thm.temps

/-- The estimates of an update that has left the network at `m` (R497). -/
def State.estimates (s : State) (m : Cells Int) : Cells Int :=
  (168 :: modelNodes).foldl (fun e i => cellSet (fun _ => 0) e i (s.withOffset i (cellGet (fun _ => 0) m i))) s.thm.est

/-- The heat of a MODEL_UPDATE of this cycle that still waits. (DESIGN CHOICE, log entry 7) -/
def State.updateAhead (s : State) : Option (List (Nat × Nat)) :=
  s.pending.findSome? fun c =>
    match c with
    | .modelUpdate t heat => if t ≤ s.cyc then some heat else none
    | _ => none

/-- Does switch `n` enter its thermal latch at an update of this cycle that still waits (R233)? -/
def State.hotAhead (s : State) (n : Nat) : Bool :=
  match s.updateAhead with
  | none => false
  | some heat =>
    s.passed 10 && decide (s.thm.modelAt + us 50 ≤ s.cyc) && !(s.switch n).therm
      && decide (16 * (LSW_TCFG_tshut.get (s.reg LSW_TCFG) : Nat) ≤ s.withOffset (nodeSwitch n) (s.nodeStep heat (nodeSwitch n)))

end Sys2Proof.Machine
end

