-- ==== Sys2Proof/Machine/Switches.lean ====
section
/-! DEFINITION. The protected load switches (R220 to R241): period ends with hand-over, disabling, inrush windows, trips,
retries and latches, protected phases, open load. Thermal latches and throttling are in Thermal.lean. -/

namespace Sys2Proof.Machine

/-! The period grid (R222, R223). -/

def State.switchPeriod (s : State) (n : Nat) : Nat := s.rd (LSW_CFG n) LSW_CFG_period

/-- The offset of the grid in ns. -/
def State.switchOffset (s : State) (n : Nat) : Nat := s.rd (LSW_CFG n) LSW_CFG_phase * s.switchPeriod n * 1000 / 256

/-- Does a period of switch `n` end and the next start in this cycle? After a step of MTIME no grid instant counts for
1 µs. -/
def State.switchEnds (s : State) (n : Nat) : Bool :=
  let p := 1000 * s.switchPeriod n
  s.switchEn n && p != 0 && decide ((s.mtime + p - s.switchOffset n % p) % p < 5)
    && (s.stepAt == 0 || decide (s.stepAt + us 1 ≤ s.cyc))

/-! Hand-over (R225, R226). -/

/-- The value a hand-over in this cycle would carry. -/
def Switch.carried (w : Switch) (c : Nat) : Option (Nat × Nat) :=
  if w.wrote then (if w.wroteAt = c then w.prev else some (w.shMode, w.shDuty)) else none

/-- Does a mode and duty let the channel conduct? -/
def conducts (mode duty : Nat) : Bool := mode == 1 || (mode == 2 && duty != 0)

/-- The active duty as reported; 0xFFFF for mode on. -/
def activeDuty (mode duty : Nat) : Nat := if mode = 1 then 0xFFFF else if mode = 2 then duty else 0

/-- Report a hand-over to the camera pipeline, if LSW_VIS has the channel: a write of it applies from here (R226, R240). -/
def State.lampReport (s : State) (n mode duty : Nat) : State :=
  let x := if s.visBit n then ⟨s.switchPeriod n, s.switchOffset n, activeDuty mode duty, s.mtime⟩ else Lamp.init
  let s1 := { s with lamps := cellSet (fun _ => Lamp.init) s.lamps n x }
  if s.visBit n || s.lampSeen n then s1.lampMoved n else s1

/-- The last hand-over of switch `n` moves one number up: one of a lower channel falls in its cycle (R225). -/
def State.switchShift (s : State) (n : Nat) : State :=
  let s1 := s.incReg (LSW_SEQ n)
  if (s.switch n).wrote && (s.switch n).wroteAt == s.cyc then s1.incReg (LSW_WSEQ n) else s1

/-- The hand-over of mode `m` and duty `d`; those of one cycle are numbered in channel order. -/
def State.switchCarry (s : State) (n m d : Nat) : State :=
  let w := s.switch n
  let late := w.wroteAt == s.cyc
  let above := s.handedAbove 6 n
  let s1 := (above.foldl State.switchShift (s.incReg LSW_HO_SEQ)).handNote 6 n
  let q := word (seqBack (s1.reg LSW_HO_SEQ).toNat above.length)
  let s2 := s1.setReg (LSW_SEQ n) q
  let s3 := if late then s2.setReg (LSW_WSEQ n) q else s2
  let w1 := { w with wrote := late, prev := none, actMode := m, actDuty := d }
  let s4 := s3.lampReport n m d
  if conducts m d then (s4.setSwitch n w1).switchTurnOn n false
  else
    s4.setSwitch n { w1 with
      on := false, inrushEnd := none, restartAt := none, throttled := w.throttled && !w.thrInrush, thrInrush := false }

def State.switchHand (s : State) (n : Nat) : State :=
  match (s.switch n).carried s.cyc with
  | none => s
  | some x => s.switchCarry n x.1 x.2

/-- The start of the period that ends in this cycle: one P ago, or where a step of MTIME fell in it, its own (R223). -/
def State.periodFrom (s : State) (n : Nat) : Nat :=
  match (s.switch n).periodAt with
  | some c => if c < s.stepAt then c else s.cyc - 200 * s.switchPeriod n
  | none => s.cyc - 200 * s.switchPeriod n

/-- How long the period that ends in this cycle has lasted, and the part of it that was its on-phase, in ns: an on-phase
that has not ended is cut here (R222, R223). -/
def State.periodLen (s : State) (n : Nat) : Nat := 5 * (s.cyc - s.periodFrom n)

def State.onPast (s : State) (n : Nat) : Nat :=
  let w := s.switch n
  if w.actMode = 1 then s.periodLen n else min (s.periodLen n) ((onTime w.actDuty (s.switchPeriod n)).getD 0)

/-- The open-load count over the period that ended, of average current `cur` in 10 mA: its on-phase counts from 50 µs
after the on-edge and outside the inrush window (R237). The current of the on-phase is taken as the average over the
on-time. (DESIGN CHOICE, log entry 116) -/
def State.openCount (s : State) (n cur : Nat) : State :=
  let w := s.switch n
  let on := s.onPast n
  match w.calmAt with
  | none => s
  | some calm =>
    let start := s.periodFrom n
    let begins := max start (max calm (w.edgeAt + us 50))
    let counted := 5 * start + on - 5 * begins
    if counted = 0 then s
    else if cur * 10 * s.periodLen n * 256 < s.rd (LSW_PROT n) LSW_PROT_ol * ratingOf n * on then
      s.setSwitch n { w with olAcc := w.olAcc + counted }
    else s.setSwitch n { w with olAcc := 0, olTold := false }

/-- A period begins: its on-phase has its on-edge here, unless the channel conducts without a break, `full`. -/
def State.edgeMark (s : State) (n : Nat) (full : Bool) : State :=
  let w := s.switch n
  s.setSwitch n { w with periodAt := some s.cyc, edgeAt := if w.on && !full then s.cyc else w.edgeAt }

/-- LSW_PERIOD_END (R222, R225): `cur` is the current averaged over the period, in 10 mA. -/
def execLswPeriodEnd (t : Nat) (n : Fin 64) (cur : Nat) (s : State) : Out :=
  let s := s.at t
  if !s.switchEnds n then .next s
  else
    let full := (s.switch n).on && decide (s.periodLen n ≤ s.onPast n)
    .next ((((s.wr (LSW_MEAS n) LSW_MEAS_cur (min 0xFFFF cur)).openCount n cur).switchHand n).edgeMark n full)

/-! Enabling and disabling (R227, R239, R240). -/

/-- Does the K12 engine own switch `n`'s registers? -/
def State.switchK12 (s : State) (n : Nat) : Bool := s.isK12 && decide (16 ≤ n) && decide (n < 40)

/-- A period outside its class range (R220, R241). -/
def switchCfgBad (n : Nat) (v : Word) : Bool :=
  decide (LSW_CFG_period.get v < (if n < 16 then 50 else 500)) || decide (10000 < LSW_CFG_period.get v)

/-- en goes to 1: a kept active value turns the channel on. -/
def State.switchEnable (s : State) (n : Nat) (v : Word) : State :=
  let s1 := s.store (LSW_CFG n) v
  (s1.setSwitch n { s1.switch n with periodAt := none }).switchTurnOn n false

/-- en goes to 0: the channel turns off at once, shadow and active value kept. -/
def State.switchDisable (s : State) (n : Nat) (v : Word) : State :=
  let s1 := (s.switchOff n).store (LSW_CFG n) v
  s1.setSwitch n (s1.switch n)

/-- LSW_DISABLE. -/
def execLswDisable (t : Nat) (n : Fin 64) (v : Word) (s : State) : Out :=
  let s := s.at t
  s.hostWrite (LSW_CFG n) v (s.switchK12 n) fun s =>
    if LSW_CFG_en.get v = 1 ∨ !s.switchEn n then .next s
    else if switchCfgBad n v then .fault .loadSwitchMisuse
    else .next (s.switchDisable n v)

/-! Inrush, trips and retries (R228 to R231, R233). -/

/-- INRUSH_END (R228, R235). -/
def execInrushEnd (t : Nat) (n : Fin 64) (s : State) : Out :=
  let s := s.at t
  let w := s.switch n
  match w.inrushEnd with
  | none => .next s
  | some c =>
    if s.cyc < c then .next s
    else
      .next (s.setSwitch n { w with
        inrushEnd := none, throttled := w.throttled && !w.thrInrush, thrInrush := false })

/-- A trip: its flag and its fault; the count and what follows, unless the thermal latch is entered in this cycle (R233).
(DEDUCED, log entry 63) -/
def State.switchTrip (s : State) (n : Nat) (flag : Fld) : State :=
  let w := s.switch n
  let again := match w.restartAt with
    | some c => decide (s.cyc < c + ms 100)
    | none => false
  let s1 := ((s.switchOff n).wr (LSW_STAT n) flag 1).raise2 (0x0600 + n) 0
  let w1 := { s1.switch n with
    tripped := true, tripAt := s.cyc, cntWas := s.rd (LSW_STAT n) LSW_STAT_retry_cnt, latchWas := w.latched }
  if w.therm || s.hotAhead n then s1.setSwitch n w1
  else
    let s2 := if again then s1.bump (LSW_STAT n) LSW_STAT_retry_cnt else s1
    if s2.rd (LSW_PROT n) LSW_PROT_rmax ≤ s2.rd (LSW_STAT n) LSW_STAT_retry_cnt then
      (s2.setSwitch n { w1 with latched := true }).raise2 (0x0640 + n) 0
    else s2.setSwitch n { w1 with retryAt := some (s.cyc + ms (max 1 (s.rd (LSW_PROT n) LSW_PROT_retry))) }

/-- Short blanking in cycles: tsb of 0 acts as 1, above 8 as 8 (R229). -/
def State.tsb (s : State) (n : Nat) : Nat := us (max 1 (min 8 (s.rd (LSW_PROT n) LSW_PROT_tsb)))

/-- Can a short be found: the channel has been in an on-phase for tsb (R229)? -/
def State.shortCan (s : State) (n : Nat) : Bool :=
  (s.switch n).on && decide ((s.switch n).edgeAt + s.tsb n ≤ s.cyc)

/-- Can an overload be found: 1 ms outside the inrush window, throttled and derated time apart (R230, R451)? -/
def State.ovlCan (s : State) (n : Nat) : Bool :=
  match (s.switch n).ovlRun with
  | none => false
  | some r => (s.switch n).on && decide (ms 1 ≤ (s.switch n).ovlAcc + (s.cyc - r))

/-- The thermal latch of switch `n` was entered in this very cycle. (DEDUCED, log entry 63) -/
def State.hotNow (s : State) (n : Nat) : Bool := (s.switch n).therm && (s.switch n).thermAt == s.cyc

/-- LSW_SHORT_TRIP (R229). -/
def execLswShortTrip (t : Nat) (n : Fin 64) (s : State) : Out :=
  let s := s.at t
  if s.shortCan n || s.hotNow n && (s.switch n).shortOk then .next (s.switchTrip n LSW_STAT_short) else .next s

/-- LSW_OVERLOAD_TRIP (R230): not in the inrush window, not while throttled or derated (R451). -/
def execLswOverloadTrip (t : Nat) (n : Fin 64) (s : State) : Out :=
  let s := s.at t
  if s.ovlCan n || s.hotNow n && (s.switch n).ovlOk then .next (s.switchTrip n LSW_STAT_ovl) else .next s

/-- LSW_RETRY_END. -/
def execLswRetryEnd (t : Nat) (n : Fin 64) (s : State) : Out :=
  let s := s.at t
  let w := s.switch n
  match w.retryAt with
  | none => .next s
  | some c =>
    if s.cyc < c ∨ w.therm then .next s
    else .next ((s.setSwitch n { w with retryAt := none }).switchTurnOn n true)

/-- LSW_RESTART_OK: 100 ms without a trip. -/
def execLswRestartOk (t : Nat) (n : Fin 64) (s : State) : Out :=
  let s := s.at t
  let w := s.switch n
  match w.restartAt with
  | none => .next s
  | some c =>
    if s.cyc < c + ms 100 ∨ !w.on then .next s
    else
      .next (((s.setSwitch n { w with restartAt := none, tripped := false }).wr (LSW_STAT n) LSW_STAT_retry_cnt 0).clear2
        (0x0600 + n))

/-- LATCH is cleared: the channel restarts as after a retry wait, with retry_cnt 0. -/
def State.switchUnlatch (s : State) (n : Nat) : State :=
  (((s.wr (LSW_STAT n) LSW_STAT_retry_cnt 0).setSwitch n { s.switch n with latched := false, clrPending := false }).clear2
    (0x0640 + n)).switchTurnOn n true

/-- clr_latch: at once, or when the thermal latch clears (R233). -/
def State.switchClear (s : State) (n : Nat) : State :=
  let w := s.switch n
  if !w.latched then s
  else if w.therm then s.setSwitch n { w with clrPending := true }
  else s.switchUnlatch n

/-- The thermal latch clears: a suspended retry resumes, or the channel turns on again (R232, R233). -/
def State.switchCool (s : State) (n : Nat) : State :=
  let w := s.switch n
  let s1 := (s.setSwitch n { w with
    therm := false, retryAt := w.retryLeft.map (s.cyc + ·), retryLeft := none }).clear2 (0x0680 + n)
  if w.latched && w.clrPending then s1.switchUnlatch n else s1.switchTurnOn n true

/-- The threshold under which a thermal latch clears, tshut - hyst, in 1/16 °C. -/
def State.coolTemp (s : State) : Int :=
  ((LSW_TCFG_tshut.get s.thm.tcfg : Nat) - (LSW_TCFG_hyst.get s.thm.tcfg : Nat) : Int) * 16

/-- clr_therm acts on a LATCH-mode thermal latch once Tj is low enough; at a higher Tj it is ignored and noted. -/
def State.switchClrTherm (s : State) (n : Nat) : State :=
  if !(s.switch n).therm || !s.bit (LSW_CFG n) LSW_CFG_tmode then s
  else if s.nodeTemp (nodeSwitch n) < s.coolTemp then s.switchCool n
  else s.ignored (LSW_STAT n)

/-- A write of `v` to LSW_STATn. -/
def State.switchStatWrite (s : State) (n : Nat) (v : Word) : State :=
  let s1 := s.store (LSW_STAT n) v
  let s2 := if bits v 20 20 = 1 then s1.switchClear n else s1
  if bits v 19 19 = 1 then s2.switchClrTherm n else s2

/-- LSW_CLR_LATCH (R231): a write of `v` to LSW_STATn with clr_latch 1. -/
def execLswClrLatch (t : Nat) (n : Fin 64) (v : Word) (s : State) : Out :=
  let s := s.at t
  s.hostWrite (LSW_STAT n) v (s.switchK12 n) fun s => .next (s.switchStatWrite n v)

/-- LSW_CLR_THERM (R232): a write of `v` to LSW_STATn with clr_therm 1. -/
def execLswClrTherm (t : Nat) (n : Fin 64) (v : Word) (s : State) : Out :=
  let s := s.at t
  s.hostWrite (LSW_STAT n) v (s.switchK12 n) fun s => .next (s.switchStatWrite n v)

/-! Protected phases and open load. -/

/-- PROTECTED_PHASE_END (R234). -/
def execProtectedPhaseEnd (t : Nat) (n : Fin 64) (s : State) : Out :=
  let s := s.at t
  let w := s.switch n
  match w.protEnd with
  | none => .next s
  | some c => if s.cyc < c then .next s else .next (s.setSwitch n { w with protEnd := none })

/-- LSW_OPEN_LOAD (R237): 10 ms of on-time below the threshold, told once. -/
def execLswOpenLoad (t : Nat) (n : Fin 64) (s : State) : Out :=
  let s := s.at t
  let w := s.switch n
  if w.on && w.inrushEnd.isNone && decide (10000000 ≤ w.olAcc) && !w.olTold then
    .next (((s.setSwitch n { w with olTold := true }).wr (LSW_STAT n) LSW_STAT_open 1).note (0x06C0 + n) 0)
  else .next s

end Sys2Proof.Machine
end

