-- ==== Sys2Proof/Machine/Valves.lean ====
section
/-! DEFINITION. The proportional valve drive (R197 to R219): period ends with hand-over, regulator, ramp and dither;
enabling; trips, retries and latches; the open-load and headroom checks. -/

namespace Sys2Proof.Machine

/-! The period grid (R205, R214). -/

/-- The channel whose period, dither and hand-over instants valve `n` runs on. -/
def State.valveBase (s : State) (n : Nat) : Nat := if s.paired n then n - n % 2 else n

/-- The period in counts of 10 ns. -/
def State.valvePeriod (s : State) (n : Nat) : Nat := s.rd (VDR_CFGn (s.valveBase n)) VDR_CFGn_period

/-- The first period start, at E + (n mod 8) × P / 8. -/
def State.valveFirst (s : State) (n : Nat) : Nat :=
  (s.valve (s.valveBase n)).since + 2 * (s.valveBase n % 8 * s.valvePeriod n / 8)

/-- Does a period of valve `n` end on its grid in this cycle? -/
def State.valveGrid (s : State) (n : Nat) : Bool :=
  let p := 2 * s.valvePeriod n
  decide (s.valveFirst n + p ≤ s.cyc) && (s.cyc - s.valveFirst n) % p == 0

/-- Does a PWM period of valve `n` end in this cycle? -/
def State.valveEnds (s : State) (n : Nat) : Bool := s.valveEn (s.valveBase n) && s.valveGrid n

/-! Hand-over (R204 to R208, R215, R216). -/

/-- The code a hand-over in this cycle would carry. -/
def Valve.carried (v : Valve) (c : Nat) : Option Nat :=
  if v.wrote then (if v.wroteAt = c then v.prev else some v.shadow) else none

/-- The last hand-over of valve `n` moves one number up: one of a lower channel falls in its cycle (R205). -/
def State.valveShift (s : State) (n : Nat) : State :=
  let s1 := s.incReg (VDR_SEQ n)
  if (s.valve n).wrote && (s.valve n).wroteAt == s.cyc then s1.incReg (VDR_WSEQ n) else s1

/-- The hand-over of code `c`; those of one cycle are numbered in channel order. -/
def State.valveCarry (s : State) (n c : Nat) : State :=
  let s0 := s.deferEnd n
  let v := s0.valve n
  let old := s0.valveActive n
  let late := v.wroteAt == s.cyc
  let above := s0.handedAbove 5 n
  let s1 := (above.foldl State.valveShift (s0.incReg VDR_HO_SEQ)).handNote 5 n
  let q := word (seqBack (s1.reg VDR_HO_SEQ).toNat above.length)
  let s2 := (s1.setReg (VDR_SEQ n) q).valveSetActive n c
  let s3 := if late then s2.setReg (VDR_WSEQ n) q else s2
  let v1 := { v with wrote := late, prev := none, waitOff := false }
  if c = 0 then
    s3.setValve n { v1 with
      down := false, ramp := 0, duty := 0, dither := 0, restartAt := none, lowAt := none, headAt := none, aim := 0
      integ := 0
      decay := if old ≠ 0 ∧ !v.down then some 0 else v.decay
      offEnd := if old ≠ 0 then s.valveOffEnd n else v.offEnd }
  else if old = 0 then s3.setValve n (if v1.heldOff then { v1 with down := true } else v1.begin s.cyc)
  else s3.setValve n v1

/-- A code that may not start yet waits: for the channel's own off-time, or for its partner. -/
def State.valveWait (s : State) (n : Nat) : State :=
  let v := s.valve n
  if s.cyc < v.offEnd then s.setValve n { v with waitOff := true }
  else if v.deferAt.isSome then s
  else
    let s1 := ((s.wr (VDR_STAT n) VDR_STAT_defer_seen 1).bump (VDR_PAIRSTAT (n / 2)) VDR_PAIRSTAT_defer_cnt).setValve n
      { v with waitOff := false, deferAt := some s.cyc }
    if s.k12Runs && decide (n < 16) then s1.k12Flag 0x0800 else s1

/-- The distance in ns of a hand-over of a K12 valve from its documented phase (R480, R481). -/
def State.valveErr (s : State) (n : Nat) : Nat :=
  let m := (s.mtime + 250000 - n / 2 % 4 * 62500) % 250000
  min m (250000 - m)

/-- The hand-over at a period end. -/
def State.valveHand (s : State) (n : Nat) : State :=
  match (s.valve n).carried s.cyc with
  | none => s
  | some c =>
    if c = 0 ∨ s.valveActive n ≠ 0 ∨ ((s.valve n).offEnd ≤ s.cyc ∧ s.pairFree n) then
      let s1 := s.valveCarry n c
      if s.k12Runs && decide (n < 16) then s1.k12Phase (s.valveErr n) (s.k12.stale.contains (n / 2)) else s1
    else s.valveWait n

/-! Ramp, dither and duty (R198 to R203). -/

/-- 98 % duty in units of 1/65,536. -/
def dutyTop : Nat := 64225

/-- A duty within R197's limits: at most 98 %, and an on-time above 0 at least 200 ns of a period of `p` counts.
(DESIGN CHOICE, log entry 61) -/
def dutyIn (p duty : Nat) : Nat :=
  if duty = 0 then 0 else min dutyTop (max duty ((20 * 65536 + p - 1) / max 1 p))

/-- The ramped target after one period of `p` counts (R201); duty mode has no ramp. -/
def State.rampNext (s : State) (n p : Nat) : Nat :=
  let goal := s.valveActive n * 2 ^ 16
  let now := (s.valve n).ramp
  let step := fun f => s.rd (VDR_RAMP n) f * 4096 * p * 65536 / 100000000
  if s.bit (VDR_CFGn n) VDR_CFGn_mode then goal
  else if now ≤ goal then
    (if s.rd (VDR_RAMP n) VDR_RAMP_up = 0 then goal else min goal (now + step VDR_RAMP_up))
  else if s.rd (VDR_RAMP n) VDR_RAMP_dn = 0 then goal else max goal (now - step VDR_RAMP_dn)

/-- The dither limit of the present band, in 0.1 % (R203). -/
def State.dithLimit (s : State) : Nat :=
  let b := s.rd THM_STAT THM_STAT_band
  min 250 (if b < 4 then (s.reg VDR_DLIM_LO).toNat / 2 ^ (8 * b) % 256 else (s.reg VDR_DLIM_HI).toNat / 2 ^ (8 * (b - 4)) % 256)

/-- Whole PWM periods in a dither period, to the nearest (R202). -/
def dithLen (p dfreq : Nat) : Nat := if p * dfreq = 0 then 1 else max 1 ((200000000 + p * dfreq) / (2 * p * dfreq))

/-- The dither wave at period `i` of `n`, in units of 1/`n`: triangle or square, from 0 and rising. -/
def dithWave (square : Bool) (i n : Nat) : Int :=
  if square then (if 2 * i < n then (n : Int) else -(n : Int))
  else if 4 * i ≤ n then 4 * i
  else if 4 * i ≤ 3 * n then 2 * n - 4 * i
  else 4 * (i : Int) - 4 * n

/-- A dither period starts: its amplitude and length are taken. -/
def State.dithStart (s : State) (n : Nat) : State :=
  let b := s.valveBase n
  let amp := s.rd (VDR_DITH b) VDR_DITH_damp
  let s1 := if s.dithLimit < amp then s.wr (VDR_STAT n) VDR_STAT_dlim 1 else s
  s1.setValve n { s1.valve n with
    dAmp := min amp s.dithLimit, dLen := dithLen (s.valvePeriod n) (s.rd (VDR_DITH b) VDR_DITH_dfreq) }

/-- The regulated value with 16 fraction bits: the ramped target, derated and dithered (R202, R451). -/
def State.valveValue (s : State) (n : Nat) : Nat :=
  let v := s.valve n
  let eff := if s.bit (VDR_CFGn n) VDR_CFGn_mode then v.ramp else v.ramp * s.derate (nodeValve n) / 1280
  let w := dithWave (s.bit (VDR_CFGn (s.valveBase n)) VDR_CFGn_dwave) v.dither v.dLen
  (clampI 0 (16383 * 2 ^ 16) ((eff : Int) + (eff : Int) * w * v.dAmp / (1000 * v.dLen))).toNat

/-- The duty, in units of 2^-32 of the period, that drives `i`, a current in codes with 16 fraction bits, through the
estimated resistance at a feed of `mv` mV (R199). -/
def Valve.dutyFor (v : Valve) (i : Int) (mv : Nat) : Int := i * v.rEst * 16 / mv

/-- The regulator's duty for the next period: feed-forward and integral correction, within its limits (R197, R199). -/
def Valve.regDuty (v : Valve) (aim p mv : Nat) : Nat :=
  if mv = 0 then dutyTop
  else dutyIn p (clampI 0 dutyTop ((v.dutyFor aim mv + v.integ + 32768) / 65536)).toNat

/-- The next PWM period of a channel that is on: ramp, dither and duty; `fell` is the ramped target before a hand-over of
this period end. A target that falls by more than 1,024 codes begins a fast decay, with the high side off until it ends
(R200). (DESIGN CHOICE, log entry 61) -/
def State.valveTick (s : State) (n mv : Nat) (fell : Option Nat) : State :=
  if !s.valveOn n then s
  else
    let p := s.valvePeriod n
    let s1 := s.setValve n { s.valve n with ramp := s.rampNext n p }
    let s2 := if (s1.valve n).dither = 0 then s1.dithStart n else s1
    let v := s2.valve n
    let aim := s2.valveValue n
    let next := (v.dither + 1) % v.dLen
    if s2.bit (VDR_CFGn n) VDR_CFGn_mode then
      s2.setValve n { v with aim := aim, duty := dutyIn p (min dutyTop (aim / 2 ^ 14)), dither := next }
    else
      let falls := match fell with
        | some r => decide (v.ramp + 1024 * 65536 < r)
        | none => false
      let goal := v.ramp / 65536
      let dec := if (falls || v.decay.isSome) && decide (goal < s2.rd (VDR_MEAS n) VDR_MEAS_cur) then some goal else none
      s2.setValve n { v with
        aim := aim, decay := dec, duty := if dec.isSome then 0 else v.regDuty aim p mv, dither := next }

/-! What a period measured (R211, R212). -/

/-- The target the checks use: the ramped target, derated, in whole codes. -/
def State.valveTarget (s : State) (n : Nat) : Nat := (s.valve n).ramp * s.derate (nodeValve n) / 1280 / 2 ^ 16

/-- Since when a condition holds that the period just ended meets or does not. -/
def heldSince (old : Option Nat) (now : Bool) (from' : Nat) : Option Nat :=
  if now then some (old.getD from') else none

/-- What the regulator learns from a period of duty `v.duty` and current `cur` at a feed of `mv` mV: the resistance,
filtered over 64 periods, and the integral correction, which takes away 1 − 2^(−1/4) of the error a period, so that it
halves every 4; at a limit of the duty it stands (R199). (DESIGN CHOICE, log entry 61) -/
def Valve.learn (v : Valve) (cur mv : Nat) : Valve :=
  if v.decay.isSome ∨ mv = 0 then v
  else
    let r := if cur = 0 ∨ v.duty = 0 then v.rEst
      else (v.rEst * 63 + v.duty * mv / (16 * cur)) / 64
    let err : Int := (v.aim : Int) - cur * 65536
    let stands := (v.duty = dutyTop ∧ 0 < err) ∨ (v.duty = 0 ∧ err < 0)
    { v with rEst := r, integ := if stands then v.integ else v.integ + v.dutyFor err mv * 10427 / 65536 }

/-- A fast decay ends once the current has reached the target; its clamp energy is counted at 45 V (R200). A period is `p`
counts of 10 ns. (DESIGN CHOICE, log entry 61) -/
def Valve.decayed (v : Valve) (cur p : Nat) : Valve :=
  match v.decay with
  | none => v
  | some c => { v with clamp := v.clamp + 1800 * cur * p / 16384, decay := if cur ≤ c then none else v.decay }

/-- Report the period that ended: current in codes and duty in 1/65,536. -/
def State.valveMeasure (s : State) (n cur mv : Nat) : State :=
  let v := s.valve n
  let mode := s.bit (VDR_CFGn n) VDR_CFGn_mode
  let on := s.valveOn n
  let d := match v.ran with
    | some (c, d) => if c = s.cyc then d else if on then v.duty else 0
    | none => if on then v.duty else 0
  let s1 := (s.wr (VDR_MEAS n) VDR_MEAS_cur (min 16383 cur)).wr (VDR_MEAS n) VDR_MEAS_duty d
  let full := on && !mode && d == dutyTop
  let tgt := s.valveTarget n
  let low := full && decide (4096 ≤ 10 * tgt) && decide (5 * cur < tgt)
  let head := full && decide (100 * cur < 95 * tgt)
  let from' := s.cyc - 2 * s.valvePeriod n
  let v1 := if on && !mode then v.learn (min 16383 cur) mv else v
  s1.setValve n { v1.decayed (min 16383 cur) (s.valvePeriod n) with
    lowAt := heldSince v.lowAt low from', headAt := heldSince v.headAt head from'
    lowTold := v.lowTold && low, headTold := v.headTold && head }

/-- The ramped target before a hand-over of a code that a channel which is on takes in this cycle. -/
def State.valveFell (s0 s1 : State) (n : Nat) : Option Nat :=
  if s0.valveOn n && s1.valveActive n != s0.valveActive n then some (s0.valve n).ramp else none

/-- One channel at its period end. -/
def State.valvePeriodEnd (s : State) (n cur mv : Nat) : State :=
  let s0 := s.valveMeasure n cur mv
  let s1 := s0.valveHand n
  s1.valveTick n mv (State.valveFell s0 s1 n)

/-- Would valve `n` start at a hand-over in this cycle, but for its partner? -/
def State.valveAsks (s : State) (n : Nat) : Bool :=
  match (s.valve n).carried s.cyc with
  | none => false
  | some c => c != 0 && s.valveActive n == 0 && !(s.valve n).heldOff && decide ((s.valve n).offEnd ≤ s.cyc) && s.pairFree n

/-- The partner's code 0 is handed over at this end of the pair's period; its own period end still reports the period that
ended. -/
def State.partnerHand (s : State) (m : Nat) : State :=
  (s.setValve m { s.valve m with ran := some (s.cyc, if s.valveOn m then (s.valve m).duty else 0) }).valveHand m

/-- The period end of one channel of a pair. A partner that ends at this hand-over with no off-time ends first; when both
ask, V(2p) starts (R215). (DESIGN CHOICE, log entry 60) -/
def State.pairPeriodEnd (s : State) (n cur mv : Nat) : State :=
  let m := partner n
  let s0 := (s.valveMeasure n cur mv).valveRestart n
  let s1 := if (s0.valve m).carried s0.cyc = some 0 ∧ s0.rd (VDR_SAFE m) VDR_SAFE_toff = 0 then s0.partnerHand m else s0
  let s2 := if n % 2 = 1 ∧ s1.valveAsks m ∧ s1.valveAsks n then s1.valveWait n else s1.valveHand n
  s2.valveTick n mv (State.valveFell s1 s2 n)

/-- The end of a period of a channel that is no longer enabled: the clamp energy of a decay that still runs (R200). -/
def State.valveFades (s : State) (n cur : Nat) : State :=
  if !s.valveEn (s.valveBase n) && (s.valve n).decay.isSome && s.valveGrid n then
    s.setValve n ((s.valve n).decayed (min 16383 cur) (s.valvePeriod n))
  else s

/-- VALVE_PERIOD_END (R199, R205): `cur` is the current measured over the period, in codes, `mv` the feed voltage in mV.
Both channels of a pair end their periods with V(2p)'s (R214). (DESIGN CHOICE, log entry 61) -/
def execValvePeriodEnd (t : Nat) (n : Fin 48) (cur mv : Nat) (s : State) : Out :=
  let s := s.at t
  if !s.valveEnds n then .next (s.valveFades n cur)
  else if s.paired n then .next (s.pairPeriodEnd n cur mv)
  else .next (s.valvePeriodEnd n cur mv)

/-! Enabling and disabling (R205, R207, R217, R218). -/

/-- Does the K12 engine own valve `n`'s registers? -/
def State.valveK12 (s : State) (n : Nat) : Bool := s.isK12 && decide (n < 16)

/-- A configuration R219 forbids. -/
def valveCfgBad (v : Word) : Bool := decide (VDR_CFGn_period.get v < 5000) || decide (50000 < VDR_CFGn_period.get v)

/-- en goes to 1: E of R205; a kept active code drives again after its off-time. -/
def State.valveEnable (s : State) (n : Nat) (v : Word) : State :=
  let s1 := s.store (VDR_CFGn n) v
  let x := s1.valve n
  (s1.setValve n { x with since := s.cyc, down := x.down || s.valveActive n != 0 }).valveRestart n

/-- VALVE_ENABLE. -/
def execValveEnable (t : Nat) (n : Fin 48) (v : Word) (s : State) : Out :=
  let s := s.at t
  s.hostWrite (VDR_CFGn n) v (s.valveEn n || s.valveK12 n) fun s =>
    if valveCfgBad v then .fault .valveMisuse
    else if VDR_CFGn_en.get v = 0 then .next s
    else .next (s.valveEnable n v)

/-- en goes to 0: the channel turns off at once, shadow and active code kept. -/
def State.valveDisable (s : State) (n : Nat) (v : Word) : State :=
  let s1 := (s.valveOff n).store (VDR_CFGn n) v
  s1.setValve n (s1.valve n)

/-- VALVE_DISABLE. -/
def execValveDisable (t : Nat) (n : Fin 48) (v : Word) (s : State) : Out :=
  let s := s.at t
  s.hostWrite (VDR_CFGn n) v (s.valveK12 n) fun s =>
    if VDR_CFGn_en.get v = 1 ∨ !s.valveEn n then .next s
    else if valveCfgBad v then .fault .valveMisuse
    else .next (s.valveDisable n v)

/-- VALVE_OFFTIME_END (R208): a kept active code restarts; a waiting code hands over at the next period end. -/
def execValveOfftimeEnd (t : Nat) (n : Fin 48) (s : State) : Out :=
  let s := s.at t
  if s.cyc < (s.valve n).offEnd then .next s else .next (s.valveRestart n)

/-! Trips (R209, R210). -/

/-- VDR_CFG.retry in cycles and rmax; 0 acts as 1. -/
def State.valveRetry (s : State) : Nat := ms (max 1 (s.rd VDR_CFG VDR_CFG_retry))
def State.valveRmax (s : State) : Nat := max 1 (s.rd VDR_CFG VDR_CFG_rmax)

/-- VALVE_TRIP: on the OUT side, or with `rtn` on the RTN side. -/
def execValveTrip (t : Nat) (n : Fin 48) (rtn : Bool) (s : State) : Out :=
  let s := s.at t
  if !s.valveOn n then .next s
  else
    let again := match (s.valve n).restartAt with
      | some c => decide (s.cyc < c + ms 100)
      | none => false
    let s1 := ((s.valveOff n).wr (VDR_STAT n) VDR_STAT_short 1).raise2 ((if rtn then 0x0530 else 0x0500) + n) 0
    let s2 := if again then s1.bump (VDR_STAT n) VDR_STAT_retry_cnt else s1
    let v := { s2.valve n with tripped := if rtn then 2 else 1 }
    if again && decide (s.valveRmax ≤ s2.rd (VDR_STAT n) VDR_STAT_retry_cnt) then
      .next ((s2.setValve n { v with latched := true }).raise2 (0x0560 + n) 0)
    else .next (s2.setValve n { v with retryAt := some (s.cyc + s.valveRetry) })

/-- VALVE_RETRY_END: the channel restarts from its active code after the off-time. -/
def execValveRetryEnd (t : Nat) (n : Fin 48) (s : State) : Out :=
  let s := s.at t
  match (s.valve n).retryAt with
  | none => .next s
  | some c =>
    if s.cyc < c ∨ (s.valve n).therm then .next s
    else .next ((s.setValve n { s.valve n with retryAt := none }).valveRestart n)

/-- VALVE_RESTART_OK: 100 ms without a trip. -/
def execValveRestartOk (t : Nat) (n : Fin 48) (s : State) : Out :=
  let s := s.at t
  match (s.valve n).restartAt with
  | none => .next s
  | some c =>
    if s.cyc < c + ms 100 ∨ !s.valveOn n then .next s
    else
      let s1 := s.setValve n { s.valve n with restartAt := none, tripped := 0 }
      .next (((s1.wr (VDR_STAT n) VDR_STAT_retry_cnt 0).clear2 (0x0500 + n)).clear2 (0x0530 + n))

/-- LATCH is cleared: the channel restarts as after a retry wait, with retry_cnt 0. -/
def State.valveUnlatch (s : State) (n : Nat) : State :=
  (((s.wr (VDR_STAT n) VDR_STAT_retry_cnt 0).setValve n { s.valve n with latched := false, clrPending := false }).clear2
    (0x0560 + n)).valveRestart n

/-- clr_latch acts on a channel in LATCH: at once, or when its thermal latch clears (R210).
(DESIGN CHOICE, log entry 115) -/
def State.valveClear (s : State) (n : Nat) : State :=
  let v := s.valve n
  if !v.latched then s
  else if v.therm then s.setValve n { v with clrPending := true }
  else s.valveUnlatch n

/-- Bit clr_latch of VDR_STATn and LSW_STATn, and bit clr_therm of the latter. -/
def clrLatch (v : Word) : Bool := bits v 22 22 == 1

/-- VALVE_CLR_LATCH: a write of `v` to VDR_STATn with clr_latch 1. -/
def execValveClrLatch (t : Nat) (n : Fin 48) (v : Word) (s : State) : Out :=
  let s := s.at t
  s.hostWrite (VDR_STAT n) v (s.valveK12 n) fun s =>
    let s1 := s.store (VDR_STAT n) v
    if clrLatch v then .next (s1.valveClear n) else .next s1

/-! Diagnostics. -/

/-- VALVE_OPEN_LOAD (R211). -/
def execValveOpenLoad (t : Nat) (n : Fin 48) (s : State) : Out :=
  let s := s.at t
  match (s.valve n).lowAt with
  | none => .next s
  | some c =>
    if s.cyc < c + ms 10 ∨ (s.valve n).lowTold then .next s
    else .next (((s.setValve n { s.valve n with lowTold := true }).wr (VDR_STAT n) VDR_STAT_open 1).note (0x0590 + n) 0)

/-- VALVE_HEADROOM (R212). -/
def execValveHeadroom (t : Nat) (n : Fin 48) (s : State) : Out :=
  let s := s.at t
  match (s.valve n).headAt with
  | none => .next s
  | some c =>
    if s.cyc < c + ms 20 ∨ (s.valve n).headTold then .next s
    else .next (((s.setValve n { s.valve n with headTold := true }).wr (VDR_STAT n) VDR_STAT_head 1).note (0x05C0 + n) 0)

end Sys2Proof.Machine
end

