-- ==== Sys2Proof/Machine/Thermal.lean ====
section
/-! DEFINITION. The thermal model's updates (R221, R232 to R235, R446, R450 to R452): latches, throttling, derating. -/

namespace Sys2Proof.Machine

/-! Thermal latches. -/

/-- A valve enters the thermal latch (R210, R452). -/
def State.valveHot (s : State) (n : Nat) : State :=
  let s1 := s.valveOff n
  let v := s1.valve n
  (s1.setValve n { v with therm := true, retryLeft := v.retryAt.map (· - s.cyc), retryAt := none }).raise2 (0x1240 + n) 0

/-- A valve leaves it: a suspended retry resumes, or the channel restarts. -/
def State.valveCool (s : State) (n : Nat) : State :=
  let v := s.valve n
  let s1 := (s.setValve n { v with therm := false, retryAt := v.retryLeft.map (s.cyc + ·), retryLeft := none }).clear2
    (0x1240 + n)
  if v.latched && v.clrPending then s1.valveUnlatch n else s1.valveRestart n

/-- THM_CFG as it applies (R455). -/
def State.vshut (s : State) : Int := 16 * (THM_CFG_vshut.get s.thm.cfg : Nat)
def State.tder (s : State) : Int := 16 * (THM_CFG_tder.get s.thm.cfg : Nat)

/-- The thermal latch of valve `n` at a model update. -/
def State.valveTherm (s : State) (n : Nat) : State :=
  let t := s.nodeTemp (nodeValve n)
  if (s.valve n).therm then (if t < s.vshut - 240 then s.valveCool n else s)
  else if s.vshut ≤ t then s.valveHot n
  else s

/-- A trip found earlier in the cycle in which the thermal latch is entered does not count: retry_cnt and LATCH go back,
and no retry wait is left (R233). -/
def State.uncount (s : State) (n : Nat) : State :=
  let w := s.switch n
  if w.tripped && w.tripAt == s.cyc then
    let s1 := (s.wr (LSW_STAT n) LSW_STAT_retry_cnt w.cntWas).setSwitch n { w with
      retryAt := none, latched := w.latchWas }
    if w.latched && !w.latchWas then s1.clear2 (0x0640 + n) else s1
  else s

/-- A switch enters the thermal latch (R232, R233). -/
def State.switchHot (s : State) (n : Nat) : State :=
  let s1 := (s.uncount n).switchOff n
  let w := s1.switch n
  ((s1.setSwitch n { w with
    therm := true, thermAt := s.cyc, shortOk := s.shortCan n, ovlOk := s.ovlCan n
    retryLeft := w.retryAt.map (· - s.cyc), retryAt := none }).wr (LSW_STAT n)
      LSW_STAT_therm_seen 1).raise2 (0x0680 + n) 0

/-- The thermal latch of switch `n` at a model update; with tmode LATCH only the host clears it.
(DESIGN CHOICE, log entry 64) -/
def State.switchTherm (s : State) (n : Nat) : State :=
  let t := s.nodeTemp (nodeSwitch n)
  if (s.switch n).therm then
    (if t < s.coolTemp ∧ !s.bit (LSW_CFG n) LSW_CFG_tmode then s.switchCool n else s)
  else if 16 * (LSW_TCFG_tshut.get s.thm.tcfg : Nat) ≤ t then s.switchHot n
  else s

/-! Channel-to-case limiting (R221, R235). -/

/-- The cluster difference ΔT_c in 1/16 K. -/
def State.clusterDt (s : State) (c : Nat) : Int :=
  (List.range 4).foldl (fun a i => max a (s.nodeTemp (nodeSwitch (4 * c + i)) - s.nodeTemp (144 + c)))
    (s.nodeTemp (nodeSwitch (4 * c)) - s.nodeTemp (144 + c))

/-- Throttling of switch `n` of cluster `c` begins or ends. (DESIGN CHOICE, log entry 64) -/
def State.throttle (s : State) (c n : Nat) (dt lim : Int) : State :=
  let w := s.switch n
  if lim ≤ dt ∧ !w.throttled ∧ (s.protected n ∨ w.inrushEnd.isSome) then
    ((s.setSwitch n { w with throttled := true, thrInrush := !s.protected n }).wr (LSW_STAT n) LSW_STAT_thr_seen 1).bump
      (LSW_CLST c) LSW_CLST_thr_cnt
  else if dt < lim - 80 ∧ w.throttled then s.setSwitch n { w with throttled := false, thrInrush := false }
  else s

/-- One cluster at a model update. (DESIGN CHOICE, log entry 64) -/
def State.cluster (s : State) (c : Nat) : State :=
  let dt := s.clusterDt c
  let lim : Int := 16 * (LSW_TCFG_dtlim.get s.thm.tcfg : Nat)
  let s1 := (s.wr (LSW_CLST c) LSW_CLST_dt (min 255 (dt / 16).toNat)).wr (LSW_CLST c) LSW_CLST_at_lim (b2n (decide (lim ≤ dt)))
  (List.range 4).foldl (fun s i => s.throttle c (4 * c + i) dt lim) s1

/-- The clamp energy counted so far is in the update that runs. -/
def State.clampTaken (s : State) (n : Nat) : State :=
  if (s.valve n).clamp = 0 then s else s.setValve n { s.valve n with clamp := 0 }

/-- MODEL_UPDATE (R446): `heat` holds the energy in nJ measured into junction and die nodes since the last update. A write
of LSW_TCFG applies from here (R240). -/
def execModelUpdate (t : Nat) (heat : List (Nat × Nat)) (s : State) : Out :=
  let s := s.at t
  if !s.passed 10 || decide (s.cyc < s.thm.modelAt + us 50) then .next s
  else
    let m := s.network heat
    let s0 := s.setThm { s.thm with temps := m, est := s.estimates m, modelAt := s.cyc, tcfg := s.reg LSW_TCFG }
    let s1 := (List.range 48).foldl State.clampTaken s0
    let s2 := (List.range 48).foldl State.valveTherm s1
    let s3 := (List.range 64).foldl State.switchTherm s2
    .next ((List.range 16).foldl State.cluster s3)

/-! Derating (R450, R451), in 1/1280. -/

/-- The junction's factor: 1 − 0.75 × (Tj − tder) / 20 K, within 0.25 to 1. -/
def derateJunction (tj tder : Int) : Nat := (clampI 320 1280 (1280 - 3 * (tj - tder))).toNat

/-- The band cap. -/
def derateBand (band : Nat) : Nat := if band = 6 then 1152 else if band = 7 then 960 else 1280

/-- The feed of a channel, by junction node (R41). -/
def nodeFeed (node : Nat) : Nat :=
  if node < 24 then 0 else if node < 64 then 1
  else if node < 72 then 2 else if node < 80 then 3 else if node < 104 then 4 else 5

/-- The factor of a channel. -/
def State.derateOf (s : State) (node : Nat) : Nat :=
  min (derateJunction (s.nodeTemp node) s.tder)
    (min (derateBand (s.rd THM_STAT THM_STAT_band)) (if s.thm.feedCap.contains (nodeFeed node) then 960 else 1280))

/-- Set the factor of one channel; a change from 1 to below 1 is counted. -/
def State.derateSet (s : State) (node : Nat) : State :=
  let k := s.derateOf node
  let s1 := if k < 1280 ∧ s.derate node = 1280 then s.bump THM_CNT THM_CNT_der_cnt else s
  let s2 := s1.setThm { s1.thm with k := cellSet (fun _ => 1280) s1.thm.k node k }
  if 64 ≤ node then s2.setSwitch (node - 64) (s2.switch (node - 64)) else s2

/-- DERATING_UPDATE (R450). -/
def execDeratingUpdate (t : Nat) (s : State) : Out :=
  let s := s.at t
  if !s.passed 10 || decide (s.cyc < s.thm.derAt + ms 1) then .next s
  else
    let s1 := s.setThm { s.thm with derAt := s.cyc }
    .next (((List.range 48).map nodeValve ++ (List.range 64).map nodeSwitch).foldl State.derateSet s1)

end Sys2Proof.Machine
end

