-- ==== Sys2Proof/Machine/Housekeeping.lean ====
section
/-! DEFINITION. A housekeeping round: the supply and feed registers (R47, R63), the thermistors (R447), the band (R448)
and the orderly thermal shutdown (R453). -/

namespace Sys2Proof.Machine

def State.feed (s : State) (n : Nat) : Feed := cellGet (fun _ => Feed.init) s.pow.feeds n

def State.setFeed (s : State) (n : Nat) (f : Feed) : State :=
  s.setPow { s.pow with feeds := cellSet (fun _ => Feed.init) s.pow.feeds n f }

/-! Supply and feeds. -/

/-- THM_SUPPLY at a round; pfw and strap_low are not measured. -/
def State.supplyRound (s : State) (x : Round) : State :=
  (((((s.wr THM_SUPPLY THM_SUPPLY_wake (b2n s.pow.wake)).wr THM_SUPPLY THM_SUPPLY_bank_ok
    (b2n (decide (90 ≤ x.bank)))).wr THM_SUPPLY THM_SUPPLY_lf_x1 (b2n x.x1)).wr THM_SUPPLY THM_SUPPLY_lf_x3
    (b2n x.x3)).wr THM_SUPPLY THM_SUPPLY_bank_e (min 0x3FF x.bank)).wr THM_SUPPLY THM_SUPPLY_lf_mv (min 0xFFFF x.lf)

/-- The limit of a feed's 1 s average in 0.1 A: 60 A, or 40 A through X1 or X2 (R41, R42). (PRESUMED, log entry 40) -/
def feedLimit (n : Nat) : Nat := if (n = 0 ∨ n = 4) ∧ Config.feedViaK12 n then 400 else 600

/-- The 1 s average of a feed against its limit: the note is made once for each excursion. -/
def State.feedLoad (s : State) (n avg : Nat) : State :=
  let f := s.feed n
  if feedLimit n < avg then
    let s1 := s.wr (THM_FEED n) THM_FEED_ovl 1
    if f.ovlNoted then s1 else (s1.setFeed n { f with ovlNoted := true }).note (0x1210 + n) 0
  else s.setFeed n { f with ovlNoted := false }

/-- The 100 ms average against 90 A and 80 A: the fault and the feed cap of R450. -/
def State.feedHigh (s : State) (n cur : Nat) : State :=
  let f := s.feed n
  if 900 < cur then
    let s1 := s.wr (THM_FEED n) THM_FEED_ovl_hi 1
    if f.hiOpen then s1
    else
      ((s1.setFeed n { f with hiOpen := true }).setThm
        { s1.thm with feedCap := n :: s1.thm.feedCap.filter (· != n) }).raise2 (0x1218 + n) 0
  else if cur < 800 ∧ f.hiOpen then
    ((s.setFeed n { f with hiOpen := false }).setThm { s.thm with feedCap := s.thm.feedCap.filter (· != n) }).clear2
      (0x1218 + n)
  else s

/-- The readings of one feed: voltage in mV, 100 ms and 1 s average current in 0.1 A.
(DESIGN CHOICE, log entry 39, DESIGN CHOICE, log entry 41) -/
def State.feedRound (s : State) (n : Nat) (m : Nat × Nat × Nat) : State :=
  let f := s.feed n
  (((s.wr (THM_FEED n) THM_FEED_mv (min 0xFFFF m.1)).wr (THM_FEED n) THM_FEED_cur (min 0xFFF m.2.1)).wr
    (THM_FEED n) THM_FEED_uv (b2n (f.out && f.under))).wr (THM_FEED n) THM_FEED_ov (b2n (f.out && !f.under))

/-- The sum of the six 1 s averages against 300 A. -/
def State.feedSum (s : State) (sum : Nat) : State :=
  if 3000 < sum then
    (if s.pow.sumNoted then s else (s.setPow { s.pow with sumNoted := true }).note 0x121E 0)
  else s.setPow { s.pow with sumNoted := false }

/-- The feeds: all notes of one feed code come before those of the next (R425). -/
def State.feedsRound (s : State) (x : Round) : State :=
  let m := fun n => x.feeds.getD n (0, 0, 0)
  let s1 := (List.range 6).foldl (fun s n => s.feedRound n (m n)) s
  let s2 := (List.range 6).foldl (fun s n => s.feedLoad n (m n).2.2) s1
  let s3 := (List.range 6).foldl (fun s n => s.feedHigh n (m n).2.1) s2
  s3.feedSum ((x.feeds.take 6).foldl (fun a m => a + m.2.2) 0)

/-! Thermistors, in 1/16 °C. -/

/-- Does a base thermistor read within −50 to +150 °C? -/
def tempFits (v : Int) : Bool := decide (-800 ≤ v) && decide (v ≤ 2400)

/-- One base thermistor is excluded, or back in range. Each has a window of its own, so one closes as one returns. -/
def State.baseSensor (s : State) (i : Nat) (v : Int) : State :=
  if tempFits v then
    (if s.thm.excl.contains i then (s.setThm { s.thm with excl := s.thm.excl.filter (· != i) }).fltPut 0x1202 2 0 1 false
     else s)
  else if s.thm.excl.contains i then s
  else (s.setThm { s.thm with excl := i :: s.thm.excl }).raise2 0x1202 0

/-- Tb: the mean of the base thermistors in range, or the highest power-area reading (R447). -/
def baseTemp (base areas : List Int) : Int :=
  let l := base.filter tempFits
  if l.isEmpty then (match areas with
    | [] => 0
    | a :: t => t.foldl max a)
  else l.foldl (· + ·) 0 / (l.length : Int)

/-- The case node nearest to power-area thermistor `i`: one of the twelve of the valve clusters or the sixteen of the
load-switch clusters (R447, R497). -/
def nearCase (i : Nat) : Nat :=
  let k := Config.nearCase i % 28
  if k < 12 then 128 + k else 132 + k

/-- The difference of a power-area thermistor from the estimate of its case node, without the divergence, in 1/16 K. -/
def State.areaDiff (s : State) (i : Nat) (v : Int) : Int :=
  v - (cellGet (fun _ => 0) s.thm.temps (nearCase i) / 2 ^ 20 + cellGet (fun _ => 0) s.thm.offs (nearCase i) / 64)

/-- One sixty-fourth of the difference goes to the node's offset; since when a difference is above 10 K is kept. -/
def State.areaCorrect (s : State) (i : Nat) (d : Int) : State :=
  let k := nearCase i
  let since := if 160 < d.natAbs then some ((cellGet (fun _ => none) s.thm.divFrom i).getD s.cyc) else none
  s.setThm { s.thm with
    offs := cellSet (fun _ => 0) s.thm.offs k (cellGet (fun _ => 0) s.thm.offs k + d)
    divFrom := cellSet (fun _ => none) s.thm.divFrom i since }

/-- Has a difference lasted 1 s? -/
def State.diverges (s : State) : Bool :=
  (List.range 4).any fun i => match cellGet (fun _ => none) s.thm.divFrom i with
    | some c => decide (c + sec 1 ≤ s.cyc)
    | none => false

/-- Divergence: fault 0x1201 and what it adds to every junction and case node. (DESIGN CHOICE, log entry 41) -/
def State.divergence (s : State) (ds : List Int) : State :=
  let top := ds.foldl (fun a d => if a.natAbs < d.natAbs then d else a) 0
  let calm := if ds.all fun d => decide (d.natAbs < 80) then some (s.thm.calmFrom.getD s.cyc) else none
  let s1 := s.setThm { s.thm with calmFrom := calm }
  if s1.isOpen 0x1201 then
    (match calm with
     | some c => if c + sec 1 ≤ s1.cyc then
         ((s1.setThm { s1.thm with diverg := 0 }).wr THM_STAT THM_STAT_model_err 0).clear2 0x1201
       else s1.setThm { s1.thm with diverg := (top.natAbs : Int) }
     | none => s1.setThm { s1.thm with diverg := (top.natAbs : Int) })
  else if s1.diverges then
    ((s1.setThm { s1.thm with diverg := (top.natAbs : Int) }).wr THM_STAT THM_STAT_model_err 1).raise2 0x1201 0
  else s1

/-- The power-area thermistors correct the model, once it runs. (DESIGN CHOICE, log entry 41) -/
def State.areasRound (s : State) (areas : List Int) : State :=
  if s.passed 10 then
    let ds := (List.range 4).map fun i => s.areaDiff i (areas.getD i 0)
    ((List.range 4).foldl (fun s i => s.areaCorrect i (ds.getD i 0)) s).divergence ds
  else s

/-- The base node, the band, tbase, the dissipation, and the settings as they apply from this round on (R448, R455). -/
def State.bandRound (s : State) (tb : Int) (pwr : Nat) : State :=
  let s1 := s.setThm { s.thm with
    cfg := s.reg THM_CFG, shut := s.reg THM_SHUT, temps := cellSet (fun _ => 0) s.thm.temps 168 (tb * 2 ^ 20) }
  ((s1.wr THM_STAT THM_STAT_band (bandStep (s1.rd THM_STAT THM_STAT_band) tb)).wr THM_STAT THM_STAT_tbase
    ((tb / 16) % 256).toNat).wr THM_STAT THM_STAT_pwr (min 0xFFFF pwr)

/-! Orderly thermal shutdown. -/

/-- Does the orderly stop of R453 begin at a round with base temperature `tb`? With both shutdowns enabled the prediction
must be 4 s or more: (t_hw − Tb) × n rounds × 10 ms ≥ 4 s × the rise over them. (DESIGN CHOICE, log entry 41) -/
def Thm.orderly (x : Thm) (tb : Int) : Bool :=
  let hw : Int := 16 * (THM_SHUT_t_hw.get x.shut : Nat)
  let ord : Int := 16 * (THM_SHUT_t_ord.get x.shut : Nat)
  let mode := THM_SHUT_mode.get x.shut
  let n : Int := (x.tbs.length : Nat)
  let rise := tb - x.tbs.getLastD tb
  decide (ord ≤ tb) && (mode == 1 || (mode == 3 && (decide (rise ≤ 0) || decide (400 * rise ≤ (hw - tb) * n))))

def State.orderlyRound (s : State) (tb : Int) : State :=
  let go := s.mayStop && s.passed 10 && s.thm.orderly tb
  let s1 := s.setThm { s.thm with tbs := (tb :: s.thm.tbs).take 100 }
  if go then s1.stopBegin .thermal else s1

/-- A housekeeping round; its faults come in order of code (R425). (DEDUCED, log entry 42) -/
def State.round (s : State) (x : Round) : State :=
  let tb := baseTemp x.base x.areas
  let s1 := ((s.supplyRound x).bandRound tb x.pwr).areasRound x.areas
  let s2 := (List.range 4).foldl (fun s i => s.baseSensor i (x.base.getD i 0)) s1
  let s3 := s2.feedsRound x
  let s4 := s3.setThm { s3.thm with roundAt := s3.cyc, rounds := true }
  s4.orderlyRound tb

/-- HOUSEKEEPING_ROUND: every 10 ms from the first. -/
def execHousekeepingRound (t : Nat) (x : Round) (s : State) : Out :=
  let s := s.at t
  if s.passed 3 && decide (s.thm.roundAt + ms 10 ≤ s.cyc) then .next (s.round x) else .next s

end Sys2Proof.Machine
end

