-- ==== Sys2Proof/Machine/Hsl.lean ====
section
/-! DEFINITION. The harvest setting loop (spec/11): its problem, its step, its trigger, its rings. -/

namespace Sys2Proof.Machine

def State.setHsl (s : State) (h : Hsl) : State := { s with hsl := h }

def State.hslRuns (s : State) : Bool := s.ready 9 && !s.fenced 11

/-! The problem image (R278). -/

def prob (c : Cells Word) (i : Nat) : Word := cellGet (fun _ => 0#32) c i

abbrev probSize : Nat := 1064

def pbSched (c : Cells Word) : Nat := bits (prob c 0) 3 0
def pbAlpha (c : Cells Word) : Int := sInt (prob c 1)
def pbAge (c : Cells Word) : Nat := (prob c 2).toNat
def pbEn (c : Cells Word) (k : Nat) : Bool := bits (prob c (8 + 8 * k)) 31 31 == 1
def pbLoop (c : Cells Word) (k : Nat) : Nat := bits (prob c (8 + 8 * k)) 5 0
def pbLo (c : Cells Word) (k : Nat) : Int := sInt (prob c (9 + 8 * k))
def pbHi (c : Cells Word) (k : Nat) : Int := sInt (prob c (10 + 8 * k))
def pbRate (c : Cells Word) (k : Nat) : Int := sInt (prob c (11 + 8 * k))
def pbDamp (c : Cells Word) (k : Nat) : Int := sInt (prob c (12 + 8 * k))
def pbObsEn (c : Cells Word) (q : Nat) : Bool := bits (prob c (248 + 4 * q)) 31 31 == 1
def pbObsMode (c : Cells Word) (q : Nat) : Nat := bits (prob c (248 + 4 * q)) 29 28
def pbT (c : Cells Word) (q : Nat) : Int := sInt (prob c (249 + 4 * q))
def pbW (c : Cells Word) (q : Nat) : Int := sInt (prob c (250 + 4 * q))
def pbM (c : Cells Word) (q k : Nat) : Int := sInt (prob c (344 + 30 * q + k))

/-- Is word `i` with value `w` misused: a reserved bit, or observation mode 3 (R294)? (DESIGN CHOICE, log entry 56) -/
def probBad (i : Nat) (w : Word) : Bool :=
  if i = 0 then bits w 31 4 != 0
  else if i < 3 then false
  else if i < 8 then w != 0#32
  else if i < 248 then
    (if i % 8 = 0 then bits w 30 6 != 0 else decide (5 ≤ i % 8) && w != 0#32)
  else if i < 344 then
    (if i % 4 = 0 then bits w 30 30 != 0 || bits w 27 0 != 0 || bits w 29 28 == 3 else i % 4 == 3 && w != 0#32)
  else false

/-- A problem R294 forbids, as it becomes active. -/
def problemBad (c : Cells Word) : Bool :=
  let on := (List.range 30).filter fun k => pbEn c k
  decide (pbAlpha c < 0)
    || on.any (fun k => decide (pbRate c k < 0) || decide (pbDamp c k < 0) || decide (pbHi c k < pbLo c k))
    || (List.range 24).any (fun q => pbObsEn c q && decide (pbW c q < 0))
    || !decide (on.map fun k => pbLoop c k).Nodup

/-- Does a commit wait that did not land in this cycle? -/
def State.hslDue (s : State) : Bool := if s.hsl.pendAt = s.cyc then s.hsl.prevPend else s.hsl.pending

/-- The half a hand-over in this cycle copies. -/
def State.hslSource (s : State) : Cells Word := if s.hsl.wroteAt = s.cyc then s.hsl.prevSh else s.hsl.sh

/-- A hand-over of half `src`; a commit of this cycle stays pending when `again` is set (R279). -/
def State.hslCopy (s : State) (src : Cells Word) (again : Bool) : State :=
  let s1 := if again then (s.incReg HSL_HO_SEQ).hoMend 9 else s.incReg HSL_HO_SEQ
  let s2 := s1.setReg HSL_PHO (s1.reg HSL_HO_SEQ)
  let s3 := if again && s.hsl.wroteAt == s.cyc then s2.setReg HSL_WSEQ (s1.reg HSL_HO_SEQ) else s2
  s3.setHsl { s.hsl with act := src, pending := again && s.hsl.pending && s.hsl.pendAt == s.cyc, prevPend := false }

/-- With the setting loop off, a pending commit is handed over in the next control-engine cycle (R279). -/
def State.hslHandOff (s : State) : Out :=
  if s.hsl.pending && s.hsl.mode == 0 && s.hsl.run.isNone then
    if problemBad s.hsl.sh then .fault .settingLoopMisuse else .next (s.hslCopy s.hsl.sh false)
  else .next s

/-- Write words into the shadow from word `first` up. -/
def State.hslWords (s : State) (l : List (Nat × Word)) : State :=
  let h := s.hsl
  let new := l.foldl (fun c p => cellSet (fun _ => 0#32) c p.1 p.2) h.sh
  (s.setReg HSL_WSEQ (s.reg HSL_HO_SEQ)).setHsl { h with
    sh := new, wroteAt := s.cyc, prevSh := if h.wroteAt = s.cyc then h.prevSh else h.sh }

def State.hslCommit (s : State) : State :=
  let h := s.hsl
  s.setHsl { h with
    pending := true, pendAt := s.cyc, prevPend := if h.pendAt = s.cyc then h.prevPend else h.pending }

/-! The step (R277, R280). -/

/-- A sum in 40 bits, saturating at each addition, and whether it saturated. -/
def sum40 (l : List Int) : Int × Bool :=
  l.foldl (fun a x => (sat40 (a.1 + x), a.2 || sat40 (a.1 + x) != a.1 + x)) (0, false)

/-- A value written to Q8.24, and whether that or an earlier part saturated. -/
def fin32 (x : Int) (b : Bool) : Int × Bool := (sat32 x, b || sat32 x != x)

def oneSided (mode : Nat) (r : Int) : Int := if mode = 1 then max r 0 else if mode = 2 then min r 0 else r

/-- A setting as the step finds it. -/
structure HslSet where
  k : Nat
  active : Bool
  loop : Nat
  x : Int
  loD : Int
  hiD : Int
  outbox : Bool
deriving DecidableEq, Repr

/-- The settings at a step start (R281). -/
def State.hslSetting (s : State) (byp : Word) (k : Nat) : HslSet :=
  let c := s.hsl.act
  let n := pbLoop c k
  let l := s.loop n
  if pbEn c k && !bitAt byp k && lpEn l.act && lpTsrc l.act == 2 then
    let x := s.tgtOf n
    let rate := pbRate c k
    if x < pbLo c k - rate then ⟨k, true, n, x, rate, rate, true⟩
    else if pbHi c k + rate < x then ⟨k, true, n, x, -rate, -rate, true⟩
    else ⟨k, true, n, x, max (pbLo c k - x) (-rate), min (pbHi c k - x) rate, false⟩
  else ⟨k, false, n, 0, 0, 0, false⟩

/-- The residuals of the rows used at adjustment `d`, and whether RES saturated. -/
def residuals (c : Cells Word) (e : List Int) (use : List Bool) (d : List Int) : List Int × Bool :=
  let rs := (List.range 24).map fun q =>
    if use.getD q false then
      let a := sum40 ((List.range 30).map fun k => mulQ (pbM c q k) (d.getD k 0))
      let b := fin32 (sat40 (e.getD q 0 + a.1)) (a.2 || sat40 (e.getD q 0 + a.1) != e.getD q 0 + a.1)
      (oneSided (pbObsMode c q) b.1, b.2)
    else (0, false)
  (rs.map Prod.fst, rs.any Prod.snd)

/-- The gradients at residuals `r`, and whether GRAD saturated. -/
def gradients (c : Cells Word) (r d : List Int) : List Int × Bool :=
  let gs := (List.range 30).map fun k =>
    let ts := (List.range 24).map fun q =>
      let a := mulQ (pbW c q) (pbM c q k)
      let b := mulQ (sat40 a) (r.getD q 0)
      (sat40 b, sat40 a != a || sat40 b != b)
    let a := sum40 (ts.map Prod.fst ++ [mulQ (pbDamp c k) (d.getD k 0)])
    fin32 a.1 (a.2 || ts.any Prod.snd)
  (gs.map Prod.fst, gs.any Prod.snd)

/-- One iteration: the new adjustments and the saturations RES, GRAD, STEP as a mask. -/
def iterate (c : Cells Word) (sets : List HslSet) (e : List Int) (use : List Bool) (d : List Int) : List Int × Nat :=
  let r := residuals c e use d
  let g := gradients c r.1 d
  let ds := sets.map fun x =>
    let a := fin32 (d.getD x.k 0 - mulQ (pbAlpha c) (g.1.getD x.k 0)) false
    (clampI x.loD x.hiD a.1, a.2)
  (ds.map Prod.fst, b2n r.2 ||| 2 * b2n g.2 ||| 4 * b2n (ds.any Prod.snd))

def iterations (c : Cells Word) (sets : List HslSet) (e : List Int) (use : List Bool) : Nat → List Int × Nat → List Int × Nat
  | 0, a => a
  | n + 1, a =>
    let b := iterate c sets e use a.1
    iterations c sets e use n (b.1, a.2 ||| b.2)

/-- The objective at residuals `r` and adjustments `d`, Q8.24 saturating (R277). -/
def objective (c : Cells Word) (r d : List Int) : Int :=
  let w := ((List.range 24).map fun q => 2 * pbW c q * r.getD q 0 * r.getD q 0).sum
  let v := ((List.range 30).map fun k => pbDamp c k * d.getD k 0 * d.getD k 0).sum
  sat32 (rnd 49 (w + v))

abbrev hfLate : Nat := 1
abbrev hfStale : Nat := 2
abbrev hfNoRec : Nat := 4
abbrev hfSat : Nat := 8
abbrev hfOutbox : Nat := 16
abbrev hfNoLoop : Nat := 32
abbrev hfNotHarv : Nat := 64
abbrev hfShort : Nat := 128

/-- Start a step: it reads its record and its targets and its outcome is settled (R280, R281, R285).
(DESIGN CHOICE, log entry 73) -/
def State.hslStart (s : State) (mode : Nat) (byp : Word) : State :=
  let c := s.hsl.act
  let q := s.sched (pbSched c)
  let fr := match q.last with
    | some x => if x.cyc < s.cyc then some x else q.before
    | none => none
  let age := pbAge c
  let stale := match fr with
    | some x => age != 0 && decide (x.out + 1000 * age < s.mtime)
    | none => false
  let rows := match fr with
    | some x => if stale then none else some x
    | none => none
  let use := (List.range 24).map fun i => match rows with
    | some x => pbObsEn c i && x.valid / 2 ^ i % 2 == 1
    | none => false
  let e := (List.range 24).map fun i => match rows with
    | some x => if use.getD i false then sat32 (x.obs.getD i 0 - pbT c i) else 0
    | none => 0
  let sets := (List.range 30).map fun k => s.hslSetting byp k
  let noloop := (List.range 30).filter fun k => pbEn c k && !bitAt byp k && !(sets.any fun x => x.k == k && x.active)
  let d0 := sets.map fun x => clampI x.loD x.hiD 0
  let a := iterations c sets e use 32 (d0, 0)
  let news := (sets.filter fun x => x.active).map fun x => (x.k, x.loop, fin32 (x.x + a.1.getD x.k 0) false)
  let sat := a.2 ||| 8 * b2n (news.any fun n => n.2.2.2)
  let r := residuals c e use a.1
  let zero := List.replicate 30 (0 : Int)
  let flags := hfStale * b2n stale + hfNoRec * b2n fr.isNone + hfSat * b2n (sat != 0)
    + hfOutbox * b2n (sets.any fun x => x.outbox) + hfNoLoop * b2n (noloop != [])
  let s1 := if stale then s.bump HSL_NCNT HSL_NCNT_stale_cnt else s
  let s2 := s1.bumpBy HSL_NCNT HSL_NCNT_noloop_cnt noloop.length
  let s3 := s2.orBits HSL_STAT HSL_STAT_sat sat
  let run : HslRun :=
    { start := s.mtime, cyc := s.cyc, run := mode == 1
      recOut := match fr with
        | some x => x.out
        | none => 0
      flags := flags, seq := s.reg HSL_SEQ, pho := s.reg HSL_PHO, sched := pbSched c
      set := news.map fun n => (n.1, n.2.1, n.2.2.1)
      used := ((List.range 24).map fun i => b2n (use.getD i false) * 2 ^ i).sum
      d := a.1, r := r.1, j0 := objective c (residuals c e use zero).1 zero, j1 := objective c r.1 a.1
      dom := s.hslDom, nom := s.hsl.nom, per := s.hslPeriod, dlp := s.hslPeriod * s.rd HSL_TRG HSL_TRG_dl / 256 }
  s3.setHsl { s.hsl with run := some run, rearmed := false }

/-! Triggering (R282 to R288). -/

/-- HSL_CFG and HSL_BYP as a release in this cycle sees them (R287). -/
def State.hslCfgNow (s : State) : Word := if s.hsl.cfgAt = s.cyc then s.hsl.cfgPrev else s.reg HSL_CFG
def State.hslBypNow (s : State) : Word := if s.hsl.bypAt = s.cyc then s.hsl.bypPrev else s.reg HSL_BYP

/-- Has the trigger been reached, its domain not held and its shaft not in reverse? -/
def State.hslReached (s : State) : Bool :=
  s.hsl.armed && !s.domHeld s.hslDom && s.reached s.hslDom true s.hsl.arm
    && !(decide (2 ≤ s.hslDom) && !(s.shaft (s.hslDom - 2)).fwd)

/-- HSL_CFG was set to OFF in the cycle of a release that runs no step: the trigger is disarmed (R287). -/
def State.hslOffAfter (s : State) : Out :=
  if s.rd HSL_CFG HSL_CFG_mode = 0 then (s.setHsl { s.hsl with mode := 0, armed := false }).hslHandOff else .next s

/-- HSL_TRIGGER_RELEASE (R282, R284): the hand-over, then a step, or under FREEZE the next trigger. -/
def execHslTriggerRelease (t : Nat) (s : State) : Out :=
  let s := s.at t
  let m := HSL_CFG_mode.get s.hslCfgNow
  let mode := if s.hslFrozen then 3 else m
  if !s.hslRuns || m == 0 || s.hsl.run.isSome || !s.hslReached then .next s
  else if s.hslDue && problemBad s.hslSource then .fault .settingLoopMisuse
  else
    let s1 := s.incReg HSL_SEQ
    let s2 := if s.hslDue then s1.hslCopy s.hslSource true else s1
    if mode = 3 then
      (s2.setHsl { s2.hsl with
        mode := m, nom := s2.hsl.nom + s.hslPeriod, arm := s2.hsl.nom + s.hslPeriod }).hslOffAfter
    else .next ((s2.setHsl { s2.hsl with mode := m }).hslStart mode s.hslBypNow)

/-- Lag, catch-up and the next trigger at the end of step `x` (R283, R284): the state, the lag, and whether a shortened
period was armed. A trigger armed afresh during the step stays. (DESIGN CHOICE, log entry 73) -/
def State.hslNext (s : State) (x : HslRun) : State × Nat × Bool :=
  let f := min 128 (s.rd HSL_CFG HSL_CFG_catchup)
  let p := s.pos x.dom
  let lag := (p - (x.nom + x.dlp)).toNat
  let s1 := if 0 < lag then (s.bump HSL_CNT HSL_CNT_late_cnt).wrMax HSL_LAG HSL_LAG_max_lag lag else s
  let nom : Int := x.nom + (x.per : Int)
  let cand : Int := p - (x.dlp : Int) + (x.per : Int) - ((x.per * f / 256 : Nat) : Int)
  if s.hsl.rearmed then (s1, lag, false)
  else if nom < cand then
    ((s1.bump HSL_CNT HSL_CNT_short_cnt).setHsl { s1.hsl with nom := nom, arm := cand }, lag, true)
  else (s1.setHsl { s1.hsl with nom := nom, arm := nom }, lag, false)

/-- Write the new targets (R286); answers the settings written. -/
def State.hslWrite (s : State) (l : List (Nat × Nat × Int)) : State × List Nat :=
  l.foldl (fun a n =>
    let ws := (a.1.loop n.2.1).act
    (a.1.writeTarget n.2.1 2 n.2.2 none, if lpEn ws && lpTsrc ws == 2 then a.2 ++ [n.1] else a.2)) (s, [])

/-- The step report (R289). -/
def HslRun.report (x : HslRun) (endAt flags lag applied : Nat) : List Word :=
  [lo32 x.start, hi32 x.start, lo32 endAt, hi32 endAt, lo32 x.recOut, hi32 x.recOut, x.seq,
    packW [(if x.run then 1 else 2, 28), (x.sched, 24), (flags, 16)], x.pho, word (min 0xFFFFFFFF lag), word applied,
    word x.used] ++ (List.range 30).map (fun k => wInt (x.d.getD k 0))
    ++ (List.range 24).map (fun q => wInt (x.r.getD q 0)) ++ [wInt x.j0, wInt x.j1]

/-- The end of step `x`: in HARVEST a RUN step writes its targets; then the lag, the next trigger and the report. -/
def State.hslStepped (s : State) (x : HslRun) : State :=
  let harv := s.rd TRI_STAT TRI_STAT_mstate == 4
  let a := if x.run && harv then s.hslWrite x.set else (s, [])
  let n := (a.1.setHsl { a.1.hsl with run := none }).hslNext x
  let flags := x.flags + hfLate * b2n (n.2.1 != 0) + hfNotHarv * b2n (x.run && !harv) + hfShort * b2n n.2.2
  let b := n.1.deliver 0x91 (x.report s.mtime flags n.2.1 (maskOf a.2))
  if b.2 then (b.1.bump HSL_NCNT HSL_NCNT_drop_cnt).noteSlow 0x0920 0 else b.1

/-- HSL_STEP_END (R280, R283, R286, R289): not before the 16 µs of the iterations. (DESIGN CHOICE, log entry 73) -/
def execHslStepEnd (t : Nat) (s : State) : Out :=
  let s := s.at t
  match s.hsl.run with
  | none => .next s
  | some x =>
    if !s.hslRuns || decide (s.cyc < x.cyc + us 16) then .next s
    else
      let s3 := s.hslStepped x
      if s3.rd HSL_CFG HSL_CFG_mode = 0 then (s3.setHsl { s3.hsl with mode := 0, armed := false }).hslHandOff else .next s3

/-- A trigger set-up R294 forbids. -/
def State.hslTrgBad (s : State) : Bool :=
  let d := s.hslDom
  let per := s.rd HSL_TRG HSL_TRG_per
  d == 0 || decide (10 ≤ d) || per == 0 || (d != 1 && decide (64 < per)) || s.rd HSL_TRG HSL_TRG_dl == 0
    || decide (s.hslPeriod ≤ s.hslPhase)

/-- HSL_MODE_WRITE: a write of HSL_CFG (R287). -/
def execHslModeWrite (t : Nat) (v : Word) (s : State) : Out :=
  let s := s.at t
  s.hostWrite HSL_CFG v false fun s =>
    let old := s.rd HSL_CFG HSL_CFG_mode
    let new := HSL_CFG_mode.get v
    let h := s.hsl
    let s1 := (s.store HSL_CFG v).setHsl { h with
      cfgAt := s.cyc, cfgPrev := if h.cfgAt = s.cyc then h.cfgPrev else s.reg HSL_CFG }
    if old = 0 ∧ new ≠ 0 then
      if s.hslTrgBad then .fault .settingLoopMisuse
      else if h.run.isSome then .next s1.hslArm
      else .next ((s1.setHsl { s1.hsl with mode := new }).hslArm)
    else if new = 0 ∧ h.run.isNone then (s1.setHsl { s1.hsl with mode := 0 }).hslHandOff
    else .next s1

/-- HSL_BYP applies from the next release (R287). -/
def State.hslByp (s : State) (v : Word) : State :=
  let h := s.hsl
  (s.store HSL_BYP v).setHsl { h with
    bypAt := s.cyc, bypPrev := if h.bypAt = s.cyc then h.bypPrev else s.reg HSL_BYP }

/-! Rings (R290, R291). -/

def State.hoHsl (s : State) : Nat := (s.reg HSL_HO_SEQ).toNat

/-- After an operation that commits, the hand-over of a setting loop that is off. -/
def State.hslAfter (s : State) (commit : Bool) : Out := if commit then s.hslCommit.hslHandOff else .next s

/-- End an operation with the result word, then let its commit act. -/
def State.hslEnd (s : State) (r slot len : Nat) (commit : Bool) : Out :=
  (s.endSeq 9 r slot len s.hoHsl).hslAfter commit

/-- HSL_WRITE. -/
def execHslWrite (t : Nat) (r : Fin 64) (buf : List Word) (s : State) : Out :=
  (s.at t).ringOp r 0x09 0 1 fun s d =>
    let first := bits (d.par 8) 10 0
    let mode := bits (d.par 8) 17 16
    if probSize < first + (d.len + 3) / 4 ∨ 2 ≤ mode then .next (s.endOp r d.slot stBadParam 0 s.hoHsl)
    else if d.len = 0 then .next (s.endOp r d.slot stDone 0 s.hoHsl)
    else if d.len % 4 ≠ 0 then .fault .settingLoopMisuse
    else s.takesBuf r d (4 * buf.length) <|
      let l := ((s.bufWords r d buf).zipIdx first).map fun p => (p.2, p.1)
      if l.any fun p => probBad p.1 p.2 then .fault .settingLoopMisuse
      else (s.hslWords l).hslEnd r d.slot d.len (mode == 1)

/-- HSL_COMMIT. -/
def execHslCommit (t : Nat) (r : Fin 64) (s : State) : Out :=
  (s.at t).ringOp r 0x09 0 2 fun s d => s.hslEnd r d.slot 0 true

/-- HSL_READ. (DESIGN CHOICE, log entry 100) -/
def execHslRead (t : Nat) (r : Fin 64) (s : State) : Out :=
  (s.at t).ringOp r 0x09 0 3 fun s d =>
    let first := bits (d.par 8) 10 0
    let half := bits (d.par 8) 17 16
    if probSize < first + (d.len + 3) / 4 ∨ 2 ≤ half then .next (s.endOp r d.slot stBadParam 0 s.hoHsl)
    else if d.len % 4 ≠ 0 then .fault .settingLoopMisuse
    else s.givesBuf r d <|
      let c := if half = 0 then s.hsl.sh else s.hsl.act
      (s.bufOut r d 0 ((List.range (d.len / 4)).map fun i => prob c (first + i))).hslEnd r d.slot d.len false

/-- SET_OBJ. -/
def execSetObj (t : Nat) (r : Fin 64) (buf : List Word) (s : State) : Out :=
  (s.at t).ringOp r 0x09 0 4 fun s d =>
    if d.len % 8 ≠ 0 then .fault .settingLoopMisuse
    else if d.len = 0 then .next (s.endOp r d.slot stDone 0 s.hoHsl)
    else s.takesBuf r d (4 * buf.length) <|
      let ws := s.bufWords r d buf
      let l := (List.range (d.len / 8)).map fun i => (bits (wAt ws (2 * i)) 4 0, wAt ws (2 * i + 1))
      if l.any fun p => decide (24 ≤ p.1) then .next (s.endOp r d.slot stBadParam 0 s.hoHsl)
      else (s.hslWords (l.map fun p => (249 + 4 * p.1, p.2))).hslEnd r d.slot d.len true

/-- REPORT_FILL. -/
def execReportFill (t : Nat) (r : Fin 64) (s : State) : Out := (s.at t).fill r 1 9 272

end Sys2Proof.Machine
end

