-- ==== Sys2Proof/Machine/Infer.lean ====
section
/-! DEFINITION. The inference engine and its models (R315 to R320), and the receive rings of VIS (R321). -/

namespace Sys2Proof.Machine

def State.setSlot (s : State) (m : Nat) (x : Slot) : State :=
  { s with vis := { s.vis with slots := cellSet (fun _ => Slot.init) s.vis.slots m x } }

def State.inferRuns (s : State) : Bool := s.visRuns && !s.fenced 9

/-! The model header (R317). -/

def mdId (h : List Word) : Nat := bits (wAt h 0) 31 16
def mdScalars (h : List Word) : Nat := bits (wAt h 7) 31 24
def mdBlobMax (h : List Word) : Nat := bits (wAt h 7) 23 0
def mdMaxUs (h : List Word) : Nat := (wAt h 8).toNat
def mdMem (h : List Word) : Nat := bits (wAt h 9) 31 16
def mdWork (h : List Word) : Nat := bits (wAt h 9) 15 0

/-- A field outside its range, or a reserved one that is not 0. -/
def mdBad (h : List Word) : Bool :=
  let side := fun n => decide (n < 16) || decide (1024 < n)
  bits (wAt h 0) 15 0 != 0 || side (mdW h) || side (mdH h) || !(mdChans h == 1 || mdChans h == 3)
    || bits (wAt h 2) 27 0 != 0 || bits (wAt h 6) 7 0 != 0
    || decide (32 < mdScalars h) || decide (65536 < mdBlobMax h) || mdMaxUs h == 0 || decide (1000000 < mdMaxUs h)
    || decide (8192 < mdWork h) || (List.range 6).any fun i => wAt h (10 + i) != 0#32

/-! Results (R320). -/

abbrev ifDrop : Nat := 1
abbrev ifTimeout : Nat := 2

/-- Issue one result: it goes to the ring and, in the same cycle, to the feature units (R319). -/
def State.inferResult (s : State) (m : Nat) (h : List Word) (i : VItem) (flags runUs : Nat) (scal : List Word)
    (blob : List Byte) : State :=
  let ok := flags == 0
  let sc := (List.range 32).map fun k => if ok && decide (k < mdScalars h) then wAt scal k else 0#32
  let bl := if ok && s.bit (VIS_MOD_CFG m) VIS_MOD_CFG_blob then blob.take (mdBlobMax h) else []
  let pad := List.replicate ((16 - bl.length % 16) % 16) 0#8
  let a := s.deliver 0xA2 ([lo32 i.texp, hi32 i.texp, word i.idx,
    packW [(i.cam, 28), (m, 24), (flags + 4 * b2n i.bad + 8 * b2n i.lockErr, 0)], packW [(i.token, 16), (mdId h, 0)],
    word runUs, lo32 s.mtime, hi32 s.mtime, word bl.length] ++ List.replicate 7 0#32 ++ sc ++ bytesWords (bl ++ pad))
  let s1 := if a.2 then a.1.bump VIS_STAT VIS_STAT_drop_cnt else a.1
  if ok then
    let x : Arrival := ⟨0x60 + i.cam, i.rel, sc.map sInt, [], false⟩
    let first := match s1.lateUnits x with
      | u :: _ => bits (s1.reg (FUS_FU_P1 u)) 3 0
      | [] => 0
    s1.sampleIn x false 0 (wAt sc first)
  else s1.visionGap i.cam i.rel

/-- The waiting tensor with the earliest t_exp, then the lowest camera (R315). (DESIGN CHOICE, log entry 76) -/
def State.inferPick (s : State) : Option (Nat × VItem) :=
  ((List.range 8).flatMap fun m => if (s.slot m).model.isSome then (s.slot m).q.map fun i => (m, i) else []).foldl
    (fun a x => match a with
      | none => some x
      | some y => if x.2.texp < y.2.texp ∨ (x.2.texp = y.2.texp ∧ x.2.cam < y.2.cam) then some x else some y) none

/-- An idle engine takes the next tensor. -/
def State.inferStart (s : State) : State :=
  if s.vis.run.isSome || !s.inferRuns then s
  else
    match s.inferPick with
    | none => s
    | some (m, i) =>
      match (s.slot m).model with
      | none => s
      | some h =>
        let s1 := s.setSlot m { s.slot m with q := (s.slot m).q.erase i }
        { s1 with vis := { s1.vis with run := some (m, h, i, s.cyc) } }

/-- A waiting tensor of slot `m` is dropped. (DESIGN CHOICE, log entry 76) -/
def State.inferDrop (s : State) (m : Nat) (i : VItem) : State :=
  (s.bump (VIS_MOD_CNT m) VIS_MOD_CNT_drop_cnt).inferResult m ((s.slot m).model.getD []) i ifDrop 0 [] []

/-- TENSOR_READY (R315): at a full queue the oldest waiting tensor of the slot is dropped. -/
def execTensorReady (t : Nat) (c : Fin 12) (s : State) : Out :=
  let s := s.at t
  let k := s.cam c
  match k.tens with
  | [] => .next s
  | (m, i) :: rest =>
    if !s.inferRuns then .next s
    else
      let s1 := s.setCam c { k with tens := rest }
      let x := s1.slot m
      match x.q with
      | o :: q =>
        if 4 ≤ x.q.length then .next (((s1.setSlot m { x with q := q ++ [i] }).inferDrop m o).inferStart)
        else .next ((s1.setSlot m { x with q := x.q ++ [i] }).inferStart)
      | [] => .next ((s1.setSlot m { x with q := [i] }).inferStart)

/-- INFERENCE_RUN_DONE: the model's scalars and blob are the model's own. A run whose reads of SRAM found an
uncorrectable error is dropped and flagged (R32). (DESIGN CHOICE, log entry 76) -/
def execInferenceRunDone (t : Nat) (res : InferResult) (ecc : List EccHit) (s : State) : Out :=
  let s := s.at t
  match s.vis.run with
  | none => .next s
  | some (m, h, i, c) =>
    if !s.inferRuns || decide (us (2 * mdMaxUs h) < s.cyc - c) then .next s
    else
      let n := (s.cyc - c) / 200
      let s1 := ({ s with vis := { s.vis with run := none } }).wr (VIS_MOD_STAT m) VIS_MOD_STAT_last_us (min 0xFFFFFF n)
      if eccBad (sramHits ecc) then
        .next ((((s1.bump (VIS_MOD_CNT m) VIS_MOD_CNT_drop_cnt).inferResult m h i ifDrop n [] []).eccDone (sramHits ecc)).inferStart)
      else .next ((((s1.eccAll (sramHits ecc)).inferResult m h i 0 n res.scal res.blob).clear2 (0x0A28 + m)).inferStart)

/-- INFERENCE_TIMEOUT (R319). -/
def execInferenceTimeout (t : Nat) (s : State) : Out :=
  let s := s.at t
  match s.vis.run with
  | none => .next s
  | some (m, h, i, c) =>
    if !s.inferRuns || decide (s.cyc - c ≤ us (2 * mdMaxUs h)) then .next s
    else
      let n := (s.cyc - c) / 200
      let s1 := ({ s with vis := { s.vis with run := none } }).bump (VIS_MOD_CNT m) VIS_MOD_CNT_tmo_cnt
      .next (((s1.inferResult m h i ifTimeout n [] []).raise2 (0x0A28 + m) 0).inferStart)

/-! Models (R316). -/

/-- Does a model with header `h` fit in slot `m` beside the others: 2 GiB in all? -/
def State.modelFits (s : State) (m : Nat) (h : List Word) : Bool :=
  decide (((List.range 8).map fun q => if q = m then mdMem h else match (s.slot q).model with
    | some x => mdMem x
    | none => 0).sum ≤ 2048)

/-- Is the container header of a model valid (R457, R458)? -/
def containerOk (ws : List Word) (type len : Nat) : Bool :=
  wAt ws 0 == 0x56524843#32 && bits (wAt ws 1) 31 24 == type && decide (bits (wAt ws 1) 23 20 < 2)
    && bits (wAt ws 1) 15 0 == 1 && 64 + (wAt ws 2).toNat + 96 == len

/-- The model loaded in slot `m`. -/
def State.putModel (s : State) (m : Nat) (h : Option (List Word)) : State :=
  (s.setSlot m { s.slot m with model := h }).wr (VIS_MOD_STAT m) VIS_MOD_STAT_loaded (b2n h.isSome)

/-- LOAD_MODEL: `sig` is what the check of the signature finds; the header follows the 64 bytes of the container's. -/
def execLoadModel (t : Nat) (r : Fin 64) (buf : List Word) (sig : Bool) (s : State) : Out :=
  (s.at t).ringOp r 0x0A 0 5 fun s d =>
    let m := bits (d.par 8) 2 0
    let ws := s.bufWords r d buf
    let h := (List.range 16).map fun i => wAt ws (16 + i)
    if d.len = 0 then .next (s.endOp r d.slot stDone 0 0)
    else if s.slotBound m then .next (s.endOp r d.slot stWrongState 0 0)
    else
      s.takesBuf r d (4 * buf.length)
        (if !sig then .next (s.endOp r d.slot stBadParam 0 1)
        else if !containerOk ws 0x08 d.len || mdBad h then .next (s.endOp r d.slot stBadParam 0 2)
        else if !s.modelFits m h then .next (s.endOp r d.slot stBadParam 0 3)
        else .next (((s.putModel m (some h)).inferStart).endOp r d.slot stDone d.len 0))

/-- UNLOAD_MODEL: tensors that wait in the slot are dropped. -/
def execUnloadModel (t : Nat) (r : Fin 64) (s : State) : Out :=
  (s.at t).ringOp r 0x0A 0 6 fun s d =>
    let m := bits (d.par 8) 2 0
    if s.slotBound m then .next (s.endOp r d.slot stWrongState 0 0)
    else
      let l := (s.slot m).q
      let s1 := l.foldl (fun s i => s.inferDrop m i) (s.setSlot m { s.slot m with q := [] })
      .next ((s1.putModel m none).endOp r d.slot stDone 0 0)

/-! Receive rings. -/

/-- FRAME_RECORD_FILL. -/
def execFrameRecordFill (t : Nat) (r : Fin 64) (s : State) : Out := (s.at t).fill r 1 0x0A 1

/-- INFERENCE_FILL. -/
def execInferenceFill (t : Nat) (r : Fin 64) (s : State) : Out := (s.at t).fill r 2 0x0A 1

/-- ACCESS_UNIT_FILL of encoder `e`. -/
def execAccessUnitFill (t : Nat) (r : Fin 64) (e : Fin 4) (s : State) : Out := (s.at t).fill r (3 + e) 0x0A 1

end Sys2Proof.Machine
end

