-- ==== Sys2Proof/Machine/K12Core.lean ====
section
/-! DEFINITION. The K12 engine (spec/21): its channels and their set-up, the conversions between K12 values and the
module's, its event entries, and what a write to its map does. The port and the cycle are in K12.lean. -/

namespace Sys2Proof.Machine

def State.setK12 (s : State) (x : K12) : State := { s with k12 := x }

/-! Conversions (R483). -/

/-- A current in mA as a code. -/
def k12Code (ma : Nat) : Nat := (min ma 3000 * 4096 + 500) / 1000

/-- A code as a current in mA. -/
def k12Milli (code : Nat) : Nat := (code * 1000 + 2048) / 4096

/-- Does channel OUT(i + 1) run as a PWM output? -/
def State.k12Pwm (s : State) (i : Nat) : Bool := s.k12.opwm / 2 ^ i % 2 == 1

/-- An OUTn value as mode and duty. A duty above 1,000 acts as 1,000. -/
def k12Out (pwm : Bool) (v : Nat) : Nat × Nat :=
  let d := v % 1024
  if v / 2 ^ 15 = 0 then (0, 0)
  else if v / 2 ^ 14 % 2 = 0 ∨ !pwm ∨ 1000 ≤ d then (1, 0)
  else (2, (d * 65536 + 500) / 1000)

/-- Mode and duty as an OUTn value. -/
def k12OutVal (mode duty : Nat) : Nat :=
  if mode = 0 then 0 else if mode = 1 then 0x8000 else 0xC000 + (duty * 1000 + 32768) / 65536

/-! The channels. -/

/-- The cycle of the first cycle start of R479 that has not passed. -/
def State.k12NextStart (s : State) : Nat := s.cyc + (1000000 - s.mtime % 1000000) % 1000000 / 5

/-- OPWM as the map holds it. -/
def State.k12OpwmSet (s : State) : Nat := s.k12Get 0x070 + s.k12Get 0x071 * 65536

/-- A change of OPWM applies to each channel that is off: its period and its phase (R480, R486). -/
def State.k12Opwm (s : State) : State :=
  (List.range 24).foldl (fun s i =>
    let new := s.k12OpwmSet / 2 ^ i % 2 == 1
    if (s.switch (16 + i)).on || new == s.k12Pwm i then s
    else
      let s1 := s.setK12 { s.k12 with opwm := if new then s.k12.opwm + 2 ^ i else s.k12.opwm - 2 ^ i }
      (s1.wr (LSW_CFG (16 + i)) LSW_CFG_period (if new then 2000 else 1000)).wr (LSW_CFG (16 + i)) LSW_CFG_phase
        (if new then 64 else 128)) s

/-- Write field `f` of a register of every K12 valve. -/
def State.k12Valves (s : State) (reg : Nat → Nat) (f : Fld) (v : Nat) : State :=
  (List.range 16).foldl (fun s n => s.wr (reg n) f v) s

def State.k12Switches (s : State) (reg : Nat → Nat) (f : Fld) (v : Nat) : State :=
  (List.range 24).foldl (fun s i => s.wr (reg (16 + i)) f v) s

/-- VDITH, VRAMP, VTOFF, ORETRY, DIPULL, EV_LATE and the shaft's offset reach the registers they stand for. -/
def State.k12Spread (s : State) (a v : Nat) : State :=
  if a = 0x038 then (s.k12Valves VDR_DITH VDR_DITH_dfreq (v / 256)).k12Valves VDR_DITH VDR_DITH_damp (v % 256)
  else if a = 0x039 then (s.k12Valves VDR_RAMP VDR_RAMP_up v).k12Valves VDR_RAMP VDR_RAMP_dn v
  else if a = 0x03A then s.k12Valves VDR_SAFE VDR_SAFE_toff (10 * v)
  else if a = 0x072 then
    (s.k12Switches LSW_PROT LSW_PROT_retry (v / 256)).k12Switches LSW_PROT LSW_PROT_rmax (v % 16)
  else if a = 0x091 then s.wr SNS_DIN_PULL SNS_DIN_PULL_pull (s.rd SNS_DIN_PULL SNS_DIN_PULL_pull / 65536 * 65536 + v)
  else if a = 0x0A1 then s.wr (NYM_SHAFT_GEO 0) NYM_SHAFT_GEO_offset (256 * v)
  else if a = 0x0A6 then (s.wr (NYM_DOM_CFG 1) NYM_DOM_CFG_catchup (min 255 v)).wr (NYM_DOM_CFG 2) NYM_DOM_CFG_catchup (min 255 v)
  else s

/-- The configuration of SHAFT0 from SH_CFG: GAP mode, no second input, dir_mode 0 (R487). -/
def State.k12ShaftCfg (s : State) : Word :=
  let v := s.k12Get 0x0A0
  packW [(1, 31), (v / 64, 17), (v / 16 % 4, 15), (0x1F, 9), (0x1F, 3), (v % 2, 0)]

/-- CTRL.run enables and disables SHAFT0. A set-up that R144 forbids enables nothing. (DEDUCED, log entry 94) -/
def State.k12Run (s : State) (run : Bool) : State :=
  if run == s.shaftEn 0 then s
  else if !run then (s.wr (NYM_SHAFT_CFG 0) NYM_SHAFT_CFG_en 0).shaftUnsync 0
  else if s.shaftBad 0 (shaftCfgOf s.k12ShaftCfg (s.rd (NYM_SHAFT_GEO 0) NYM_SHAFT_GEO_offset)) then s
  else (s.setReg (NYM_SHAFT_CFG 0) s.k12ShaftCfg).shaftSeek 0

/-- In K12 mode the channels of the engine are its own, whether or not it runs: pair mode, groups 30 and 31 and who may
hold them (R5, R195, R218, R473). -/
def State.k12Claim (s : State) : State :=
  let items := (List.range 16).map (fun n => (itemValve n, 31)) ++ (List.range 24).map fun i => (itemSwitch (16 + i), 30)
  let gmap := items.foldl (fun c p => cellSet (fun _ => 1) c p.1 p.2) s.tri.gmap
  let s1 := ({ s with tri := { s.tri with gmap := gmap } }).setReg VDR_PAIR 0xFF#32
  [30, 31].foldl (fun s g => ((s.wr (TRI_GRP g) TRI_GRP_allow 2).wr (TRI_GRP g) TRI_GRP_safe 0).wr (TRI_GRP g)
    TRI_GRP_life 4) s1

/-- The engine sets up its channels, at stage 10 (R367, R480). Valves are enabled at the next cycle start.
(DEDUCED, log entry 94) -/
def State.k12Setup (s : State) : State :=
  let s3 := (s.k12Valves VDR_CFGn VDR_CFGn_period 25000).k12Valves VDR_CFGn VDR_CFGn_en 1
  let s4 := (List.range 16).foldl (fun s n => s.setValve n { s.valve n with since := s.k12NextStart }) s3
  let s5 := ((s4.k12Switches LSW_CFG LSW_CFG_period 1000).k12Switches LSW_CFG LSW_CFG_phase 128).k12Switches LSW_CFG
    LSW_CFG_en 1
  let s6 := [0x038, 0x039, 0x03A, 0x072, 0x091, 0x0A1, 0x0A6].foldl (fun s a => s.k12Spread a (s.k12Get a)) s5
  let s7 := (List.range 16).foldl (fun s n =>
    ((s.wr (SNS_AIN_CFG n) SNS_AIN_CFG_en 1).wr (SNS_AIN_CFG n) SNS_AIN_CFG_periodic 1).wr (SNS_AIN_CFG n)
      SNS_AIN_CFG_interval 1000) s6
  let s8 := (List.range 4).foldl (fun s n => s.wr (SNS_FIN_CFG n) SNS_FIN_CFG_en 1) s7
  [0, 1].foldl (fun s n =>
    (((s.setReg (CAN_NBT n) (regReset (CAN_NBT n))).setReg (CAN_DBT n) (regReset (CAN_DBT n))).setReg (CAN_QCFG n)
      (regReset (CAN_QCFG n))).setReg (CAN_CFG n) (CAN_CFG_en.put (regReset (CAN_CFG n)) 1)) s8

/-- The engine takes its leases at stage 11 (R485). (DEDUCED, log entry 94) -/
def State.k12Lease (s : State) : State :=
  if s.k12Runs && s.pow.stop.isNone then [30, 31].foldl (fun s' g => State.leaseGrant s s' g 2) s else s

/-! Writing the shadows (R479, R485). -/

/-- What channel `c` of the engine, 0 to 15 a valve and 16 to 39 a switch, is to be set to by the map `m`. -/
def State.k12Want (s : State) (m : Cells Nat) (c : Nat) : Nat :=
  if c < 16 then k12Code (cellGet k12Reset m (0x010 + c))
  else
    let x := k12Out (s.k12Pwm (c - 16)) (cellGet k12Reset m (0x040 + c - 16))
    x.1 * 65536 + x.2

/-- Write value `v` to the shadow of channel `c`, while the engine holds its lease. -/
def State.k12Put (s : State) (c v : Nat) : State :=
  let item := if c < 16 then itemValve c else itemSwitch c
  if !s.holds item 2 then s
  else
    let s1 := if c < 16 then s.valveWrite c v false true else s.switchWrite c (v / 65536) (v % 65536) false true
    s1.setK12 { s1.k12 with taken := cellSet (fun _ => 0) s1.k12.taken c v }

def State.k12Taken (s : State) (c : Nat) : Nat := cellGet (fun _ => 0) s.k12.taken c

/-- Off into every shadow the engine owns. -/
def State.k12Off (s : State) : State := (List.range 40).foldl (fun s c => s.k12Put c 0) s

/-! Event entries (R483). -/

/-- The Nymgor half of EV_W0 to EV_W3 for entry `i`. -/
def State.k12Half (s : State) (i : Nat) : List Word :=
  let w := s.k12Get 0x0B1
  let shaft := w / 2 ^ 14 % 2
  let act := w / 2 ^ 12 % 4
  let ch := w % 32
  let unit := if shaft = 1 then 256 else 1000
  let p2 := s.k12Get 0x0B3
  let per := if shaft = 1 ∧ p2 = 0 then 2 ^ 24 else p2 * unit
  let out := k12Out (s.k12Pwm ch) (s.k12Get 0x0B4)
  [packW [(if w / 2 ^ 15 = 1 then 1 + shaft else 0, 28), (if act = 0 then 1 else if act = 1 then 2 else 0, 24), (1, 22), (1, 21),
      (1 - shaft, 20), (w / 2 ^ 11 % 2, 18), (1, 16), (i, 0)],
    word (s.k12Get 0x0B2 * unit), 0#32, word per, 0#32,
    word (if act = 0 then ch else if act = 1 then 16 + ch else 0),
    word (if act = 0 then k12Code (s.k12Get 0x0B4) else if act = 1 then out.1 * 65536 + out.2 else 0), 0#32]

/-- EV_W0 to EV_W3 of a Nymgor half. -/
def k12Back (ws : List Word) : List Nat :=
  let time := evRebase ws
  let unit := if time then 1000 else 256
  let act := if evAction ws = 1 then 0 else if evAction ws = 2 then 1 else 2
  let ch := (wAt ws 5).toNat % 64
  let v := wAt ws 6
  [b2n (evDom ws != 0) * 2 ^ 15 + b2n (!time) * 2 ^ 14 + act * 2 ^ 12 + b2n (evRepeat ws == repPeriodic) * 2 ^ 11
      + (if act = 0 then ch % 32 else if act = 1 then (ch - 16) % 32 else 0),
    u64 (wAt ws 1) (wAt ws 2) / unit % 65536,
    (if !time && evPeriod ws == 2 ^ 24 then 0 else evPeriod ws / unit % 65536),
    (if act = 0 then k12Milli (bits v 13 0) else if act = 1 then k12OutVal (bits v 17 16) (bits v 15 0) else 0)]

/-- EV_STAT.bad. -/
def State.k12EvBad (s : State) : State := s.k12Set 0x0B6 (s.k12Get 0x0B6 ||| 0x8000)

/-- An EV_CMD code. A channel outside its range is refused as a reserved action is. (DESIGN CHOICE, log entry 93) -/
def State.k12EvCmd (s : State) (code : Nat) : Out :=
  let i := s.k12Get 0x0B0
  let w := s.k12Get 0x0B1
  let act := w / 2 ^ 12 % 4
  if code = 0 ∨ 4 < code then .next s
  else if 3000 ≤ i then .next s.k12EvBad
  else if code = 3 then
    .next ((k12Back (s.ev i).act).zipIdx.foldl (fun s p => s.k12Set (0x0B1 + p.2) p.1) s)
  else if code = 4 then .next (s.evDisarm i)
  else if act = 3 ∨ (act = 0 ∧ 16 ≤ w % 32) ∨ (act = 1 ∧ 24 ≤ w % 32) then .next s.k12EvBad
  else if evBad (s.k12Half i) then .fault .nymgorMisuse
  else .next ((s.evWrite i (s.k12Half i)).evCommit i code)

/-! Writes to the map (R475, R477, R486). -/

/-- Is register `a` one the map marks RO or does not list? -/
def k12Ro (a : Nat) : Bool :=
  decide (512 ≤ a) || a ≤ 0x001 || a == 0x003 || a == 0x007 || (decide (0x008 ≤ a) && decide (a < 0x010))
    || (decide (0x020 ≤ a) && decide (a < 0x038)) || (decide (0x03B ≤ a) && decide (a < 0x040))
    || (decide (0x058 ≤ a) && decide (a < 0x070)) || (decide (0x073 ≤ a) && decide (a ≤ 0x090))
    || (decide (0x092 ≤ a) && decide (a < 0x0A0)) || (decide (0x0A2 ≤ a) && decide (a ≤ 0x0A5))
    || (decide (0x0A7 ≤ a) && decide (a < 0x0B0)) || a == 0x0B6 || (decide (0x0B7 ≤ a) && decide (a < 0x0C0))
    || a == 0x0C5

/-- A value R489 forbids in register `a`. -/
def State.k12Bad (s : State) (a v : Nat) : Bool :=
  if a = 0x002 then v / 2 % 2 ^ 13 != 0
  else if a = 0x006 then decide (v < 10)
  else if a = 0x038 then decide (v / 256 < 40) || decide (250 < v % 256)
  else if a = 0x03A then decide (100 < v)
  else if 0x040 ≤ a ∧ a < 0x058 then v / 2 ^ 10 % 16 != 0
  else if a = 0x0A0 then s.k12Get 0x002 / 2 ^ 15 == 1
  else if a = 0x0B1 then v / 2 ^ 5 % 64 != 0
  else false

/-- CTRL: run, hto_en, and the clearing of hto. -/
def State.k12Ctrl (s : State) (v : Nat) : State :=
  let s1 := (s.k12Set 0x002 (v / 2 ^ 14 * 2 ^ 14)).k12Run (v / 2 ^ 15 == 1)
  let s2 := s1.k12Set 0x004 (s1.k12Get 0x004 &&& 0xBFFF)
  if v % 2 = 1 then s2.setK12 { s2.k12 with hto := false } else s1

/-- A write of `v` to register `a`, the register not RO. -/
def State.k12Store (s : State) (a v : Nat) : Out :=
  if s.k12Bad a v then .fault .k12Misuse
  else if a = 0x002 then .next (s.k12Ctrl v)
  else if a = 0x004 then
    .next (s.k12Set 0x004 (s.k12Get 0x004 &&& (65535 - (v &&& (65535 - (s.hotBits (K12_MAP 4)).toNat % 65536)))))
  else if a = 0x005 then .next (s.k12Set 0x005 v)
  else if 0x010 ≤ a ∧ a < 0x020 then .next (if 3000 < v then (s.k12Set a v).k12Flag 0x1000 else s.k12Set a v)
  else if a = 0x070 then .next (s.k12Set a v).k12Opwm
  else if a = 0x071 then .next (s.k12Set a (v % 256)).k12Opwm
  else if a = 0x0B5 then s.k12EvCmd v
  else if a = 0x0C4 then .next (s.k12Set a (s.k12Get a / 256 * 256 + v % 256))
  else .next ((s.k12Set a v).k12Spread a v)

/-- Keep the map as it stood before this cycle's writes (R479). -/
def State.k12Keep (s : State) : State :=
  if s.k12.wroteAt = s.cyc then s else s.setK12 { s.k12 with wroteAt := s.cyc, prev := s.k12.map }

/-- A valid write frame. -/
def State.k12Write (s : State) (a v : Nat) : Out :=
  let s1 := s.k12Keep
  let s2 := s1.setK12 { s1.k12 with lastFrame := s.cyc }
  if k12Ro a then .next (if s.fenced 6 then s2 else s2.bump K12_PORT K12_PORT_addr_cnt)
  else if s.fenced 6 then .next s2
  else s2.k12Store a v

/-- A frame on the legacy host port (R475). -/
def State.k12Frame (s : State) (clocks op a v : Nat) : Out :=
  if !s.k12Answers then .next s
  else if clocks ≠ 36 ∨ !(op == 9 || op == 6) then .next (s.bump K12_PORT K12_PORT_bad_cnt)
  else
    let s1 := s.bump K12_PORT K12_PORT_frm_cnt
    if op = 9 then s1.k12Write a v
    else
      let r := s.k12Read a
      let s2 := s1.emit (.k12Data r)
      .next (if a = 0x0A2 then s2.setK12 { s2.k12 with angHi := s.k12Get 0x0A3 }
        else if a = 0x0C0 then s2.setK12 { s2.k12 with name1 := s.k12Get 0x0C1, name2 := s.k12Get 0x0C2, name3 := s.k12Get 0x0C3 }
        else s2)

end Sys2Proof.Machine
end

