-- ==== Sys2Proof/Machine/K12.lean ====
section
/-! DEFINITION. The legacy host port, the K12 cycle and the K12 engine's traffic (spec/21). -/

namespace Sys2Proof.Machine

/-- K12_PORT_WRITE (R475): a frame of so many clocks with its op, address and data, acting in this cycle. -/
def execK12PortWrite (t : Nat) (clocks : Nat) (op : Fin 16) (addr data : BitVec 16) (s : State) : Out :=
  (s.at t).k12Frame clocks op addr.toNat data.toNat

/-- K12_PORT_READ (R475): a frame of so many clocks with its op and address, at the rising edge of clock 20. -/
def execK12PortRead (t : Nat) (clocks : Nat) (op : Fin 16) (addr data : BitVec 16) (s : State) : Out :=
  (s.at t).k12Frame clocks op addr.toNat data.toNat

/-- Is this cycle `off` ns into a K12 cycle (R479)? -/
def State.k12On (s : State) (off : Nat) : Bool := decide (s.mtime % 1000000 / 5 = off / 5)

/-- Is there a latch point in this cycle: by the grid, or passed by a forward step of MTIME (R482)? -/
def State.k12Latches (s : State) : Bool :=
  s.k12.latchAt != some s.cyc &&
    (s.k12On 975000 || (s.stepAt == s.cyc && s.stepAt != 0 && decide (s.k12.stepFrom < (s.mtime + 25000) / 1000000)))

/-- How far this cycle lies from a latch point, in ns. -/
def State.k12LatchErr (s : State) : Nat := min ((s.mtime + 25000) % 1000000) (1000000 - (s.mtime + 25000) % 1000000)

/-- K12_LATCH (R479): the output registers as they stood before this cycle's writes; the shadow of every channel whose
value has changed. A latch point that a step of MTIME passed counts in K12_PHASE (R481, R482). -/
def execK12Latch (t : Nat) (s : State) : Out :=
  let s := s.at t
  if !s.k12Runs || !s.k12Latches then .next s
  else
    let m := if s.k12.wroteAt = s.cyc then s.k12.prev else s.k12.map
    let s1 := ((s.setK12 { s.k12 with latchAt := some s.cyc }).k12Phase s.k12LatchErr false).k12Opwm
    if s1.k12.hto then .next s1
    else
      .next ((List.range 40).foldl (fun s c => if s.k12Want m c = s.k12Taken c then s else s.k12Put c (s.k12Want m c)) s1)

/-- The input registers as they stand now: address and value. -/
def State.k12Inputs (s : State) : List (Nat × Nat) :=
  let p := (s.shaft 0).units s.cyc
  (List.range 16).map (fun n => (0x020 + n, k12Milli (s.rd (VDR_MEAS n) VDR_MEAS_cur)))
    ++ (List.range 8).map (fun p => (0x030 + p, s.rd (VDR_STAT (2 * p)) VDR_STAT_state * 256
        + s.rd (VDR_PAIRSTAT p) VDR_PAIRSTAT_defer_cnt % 256))
    ++ (List.range 24).map (fun i => (0x058 + i, s.rd (LSW_STAT (16 + i)) LSW_STAT_state * 8192
        + min 8191 (s.rd (LSW_MEAS (16 + i)) LSW_MEAS_cur)))
    ++ (List.range 16).map (fun n => (0x080 + n, s.rd (SNS_AIN_DATA n) SNS_AIN_DATA_value / 16))
    ++ [(0x090, (s.reg SNS_DIN_STATE).toNat % 65536)]
    ++ (List.range 4).map (fun n => (0x092 + n, min 65535 (s.finMilli n / 100)))
    ++ [(0x0A2, (p / 256 % 65536).toNat), (0x0A3, (p / 2 ^ 24 % 65536).toNat),
        (0x0A4, s.rd (NYM_SHAFT_STAT 0) NYM_SHAFT_STAT_speed / 4), (0x0A5, s.shaftSync 0)]

/-- K12_INPUT_REFRESH (R481): at cycle start + 200 µs; FIN00 to FIN03 are latched (R274). -/
def execK12InputRefresh (t : Nat) (s : State) : Out :=
  let s := s.at t
  if !s.k12Runs || !s.k12On 200000 || s.k12.refreshAt == some s.cyc then .next s
  else
    let s1 := (List.range 4).foldl (fun s n => s.finLatch n (s.loopsOn 2 n)) s
    let s2 := s1.setK12 { s1.k12 with refreshAt := some s.cyc }
    .next (s1.k12Inputs.foldl (fun s p => s.k12Set p.1 p.2) s2)

/-- K12_CYCLIC_CAN (R481): at cycle start + 750 µs the frames, by channel, identifier and data, become eligible, once an
address is claimed. -/
def execK12CyclicCan (t : Nat) (frames : List (Fin 2 × Nat × List Byte)) (s : State) : Out :=
  let s := s.at t
  if !s.k12Runs || !s.k12On 750000 || s.k12Get 0x0C4 / 256 == 0xFE then .next s
  else .next (frames.foldl (fun s f => s.k12Send f.1 f.2.1 f.2.2) s)

/-- K12_PAIR_REALIGN (R482): at a cycle start, both channels with active code 0 and past their off-time. -/
def execK12PairRealign (t : Nat) (p : Fin 8) (s : State) : Out :=
  let s := s.at t
  let idle := fun n => s.valveActive n == 0 && decide ((s.valve n).offEnd ≤ s.cyc)
  if !s.k12Runs || !s.k12On 0 || !s.k12.stale.contains p.val || !idle (2 * p) || !idle (2 * p + 1) then .next s
  else
    let s1 := s.setValve (2 * p) { s.valve (2 * p) with since := s.cyc }
    .next (s1.setK12 { s1.k12 with stale := s1.k12.stale.filter (· != p.val) })

/-- EV_WRITE_COMMIT_ARM, EV_WRITE_COMMIT_NOW, EV_READ, EV_DISARM (R483): write frames of 1 to 4 to EV_CMD. -/
def execEvWriteCommitArm (t : Nat) (s : State) : Out := (s.at t).k12Frame 36 9 0x0B5 1
def execEvWriteCommitNow (t : Nat) (s : State) : Out := (s.at t).k12Frame 36 9 0x0B5 2
def execEvRead (t : Nat) (s : State) : Out := (s.at t).k12Frame 36 9 0x0B5 3
def execEvDisarm (t : Nat) (s : State) : Out := (s.at t).k12Frame 36 9 0x0B5 4

/-- K12_STATUS_CLEAR (R477): a write frame of `v` to STATUS. -/
def execK12StatusClear (t : Nat) (v : BitVec 16) (s : State) : Out := (s.at t).k12Frame 36 9 0x004 v.toNat

/-- K12_HTO_CLEAR (R485): a write frame of `v` to CTRL. -/
def execK12HtoClear (t : Nat) (v : BitVec 16) (s : State) : Out := (s.at t).k12Frame 36 9 0x002 v.toNat

/-- K12_HOST_TIMEOUT (R485). -/
def execK12HostTimeout (t : Nat) (s : State) : Out :=
  let s := s.at t
  if !s.k12Runs || s.k12.hto || s.k12Get 0x002 / 2 ^ 14 % 2 == 0
      || decide (s.cyc < s.k12.lastFrame + ms (s.k12Get 0x006)) then .next s
  else
    let s1 := (s.k12Flag 0x4000).k12Off
    .next (s1.setK12 { s1.k12 with hto := true })

/-- The bytes of NAME, least significant first. -/
def State.k12Name (s : State) : List Byte :=
  [0x0C0, 0x0C1, 0x0C2, 0x0C3].flatMap fun a => [byte (s.k12Get a), byte (s.k12Get a / 256)]

/-- K12_ADDRESS_CLAIM (R484): the address won, or none; the claim, or the cannot-claim message, goes out on both
channels. (PRESUMED, log entry 92) -/
def execK12AddressClaim (t : Nat) (won : Option (Fin 254)) (s : State) : Out :=
  let s := s.at t
  if !s.k12Runs then .next s
  else
    let a : Nat := match won with
      | some x => x.val
      | none => 0xFE
    let s1 := s.k12Set 0x0C4 (a * 256 + s.k12Get 0x0C4 % 256)
    .next ([0, 1].foldl (fun s n => s.k12Send n (0x18EEFF00 + a) s.k12Name) s1)

/-- K12_BUSOFF_RECOVER (R484): 100 ms after channel `n` entered bus-off. -/
def execK12BusoffRecover (t : Nat) (n : Fin 2) (s : State) : Out :=
  let s := s.at t
  if !s.k12Runs || s.canState n != csBusOff || decide (s.cyc < cellGet (fun _ => 0) s.k12.busOff n + ms 100) then .next s
  else .next (s.canCtl n 1#32)

end Sys2Proof.Machine
end

