-- ==== Sys2Proof/Machine/Triad.lean ====
section
/-! DEFINITION. The commands of the triad and the leases (R177 to R196): commits and voting, lease ends, the steering
override, path tracking and the ring operations of TRI. -/

namespace Sys2Proof.Machine

/-! The record the firmware makes (R178, R185, R190, R192, R193). -/

/-- Is the renew bit of group `g` set (R185)? -/
def State.renews (s : State) (g : Nat) : Bool :=
  let h := s.holder g
  !s.limpHeld g &&
    ((h == 1 && !s.fenced 4) || (h == 2 && !s.fenced 6)
      || (h == 3 && match (s.group g).driveAt with
        | some c => decide (s.cyc ≤ c + s.leaseLife g)
        | none => false))

/-- May the machine state go from `a` to `b` (R192)? The second of standstill ends at the commit that takes the SET_STATE.
(DESIGN CHOICE, log entry 44) -/
def State.stateMove (s : State) (a b : Nat) : Bool :=
  b == 1 || (a == 1 && b == 2) || ((a == 1 || a == 4) && b == 3) || (a == 3 && b == 4)
    || (a == 1 && b == 5 && s.rd NYM_GND_STAT NYM_GND_STAT_speed == 0 && decide (s.tri.stillFrom + sec 1 ≤ s.cyc))

/-- What a commit makes of the operations that wait: the changes of holder, the set-points and the machine state the
record carries; the operations that end whatever the record, with their status; those that end with the record that
carries them; those that go on waiting. -/
structure Plan where
  change : List (Nat × Nat)
  granted : List Nat
  sps : List Word
  mst : Nat
  now : List (TriOp × Nat)
  carried : List TriOp
  wait : List TriOp

/-- Does an operation ask for a machine state? -/
def TriReq.isState : TriReq → Bool
  | .setState _ => true
  | _ => false

/-- Take one operation into the plan, in ring order. A commit makes one change of each group and one of the machine state;
a further one waits for the next (R178, R192). (DESIGN CHOICE, log entry 44) -/
def State.planOp (s : State) (p : Plan) (o : TriOp) : Plan :=
  match o.req with
  | .setSp slot v =>
    if slot = 0 ∧ s.bit TRI_CFG TRI_CFG_track then { p with now := p.now ++ [(o, stWrongState)] }
    else { p with sps := p.sps.set slot v, carried := p.carried ++ [o] }
  | .pathClear _ _ _ => { p with now := p.now ++ [(o, stDone)] }
  | .grant g h =>
    if s.pow.stop.isSome || p.granted.contains g then { p with now := p.now ++ [(o, stWrongState)] }
    else if p.change.any fun x => x.1 == g then { p with wait := p.wait ++ [o] }
    else { p with change := p.change ++ [(g, h)], granted := g :: p.granted, carried := p.carried ++ [o] }
  | .release g =>
    if s.holder g = 0 ∨ s.limpHeld g then { p with now := p.now ++ [(o, stWrongState)] }
    else if p.change.any fun x => x.1 == g then { p with wait := p.wait ++ [o] }
    else { p with change := p.change ++ [(g, 0)], carried := p.carried ++ [o] }
  | .setState m =>
    if p.carried.any fun x => x.req.isState then { p with wait := p.wait ++ [o] }
    else if s.stateMove p.mst m then { p with mst := m, carried := p.carried ++ [o] }
    else { p with now := p.now ++ [(o, stWrongState)] }

/-! Path tracking (R190, R191). -/

def dist2 (a b : Int × Int) : Nat := ((a.1 - b.1) * (a.1 - b.1) + (a.2 - b.2) * (a.2 - b.2)).toNat

def PathPt.xy (p : PathPt) : Int × Int := (p.x, p.y)

/-- Index of the path point nearest to `m`. -/
def nearest (m : Int × Int) : List PathPt → Nat → Nat × Nat → Nat
  | [], _, best => best.1
  | p :: t, i, best => nearest m t (i + 1) (if i = 0 ∨ dist2 p.xy m < best.2 then (i, dist2 p.xy m) else best)

/-- The first point at least `ld` mm further along the path; none past the end of a pass, which is the end of the path.
(DESIGN CHOICE, log entry 45) -/
def ahead (ld : Nat) : List PathPt → Nat → Option PathPt
  | [], _ => none
  | [_], _ => none
  | p :: q :: t, run =>
    if p.last then none
    else
      let d := run + Nat.sqrt (dist2 p.xy q.xy)
      if ld ≤ d then some q else ahead ld (q :: t) d

/-- The machine's position, east and north of the path's origin. -/
def State.machineXY (s : State) : Int × Int :=
  Config.eastNorth (fineOf s.gns.pvt 2 31 24) (fineOf s.gns.pvt 3 23 16) (sInt s.tri.origin.1) (sInt s.tri.origin.2)

/-- GNSS ground speed in mm/s. -/
def State.gnssSpeed (s : State) : Nat :=
  let w := wAt s.gns.pvt 6
  let n := sBits 16 (bits w 31 16)
  let e := sBits 16 (bits w 15 0)
  Nat.sqrt (n * n + e * e).toNat

/-- Look-ahead distance in mm. -/
def State.lookAhead (s : State) : Nat := max 2000 (s.gnssSpeed * 3 / 2)

/-- One tracking step: points already passed are freed; sp0, or none at the end of the path. Without a fix the spec states
no sp0; the heading is the last valid one, however old. (DESIGN CHOICE, log entry 45) -/
def State.trackStep (s : State) : State × Option Word :=
  if bits (wAt s.gns.pvt 11) 31 28 = 0 then (s.freeNext, some (Config.freeWord s.free)) else
  let m := s.machineXY
  let path := s.tri.path.drop (nearest m s.tri.path 0 (0, 0))
  let s1 := { s with tri := { s.tri with path := path } }
  match ahead s.lookAhead path 0 with
  | none => (s1.wr TRI_STAT TRI_STAT_path_end 1, none)
  | some p =>
    let hd := match s.gns.heading with
      | some h => h.1
      | none => Config.freeNat s.free % 36000
    let sp := if p.xy = m then Config.freeInt s.free else trackSp s.tri.wheelbase s.lookAhead hd (p.x - m.1) (p.y - m.2)
    ((s1.wr TRI_STAT TRI_STAT_path_end 0).freeNext, some (wInt sp))

/-- Path tracking before a commit, while TRI_CFG.track is 1; without it the set-points stay. -/
def State.tracked (s : State) : State × List Word :=
  if s.bit TRI_CFG TRI_CFG_track then
    (s.trackStep.1, match s.trackStep.2 with
      | some w => s.tri.sps.set 0 w
      | none => s.tri.sps)
  else (s, s.tri.sps)

/-- The plan of a commit on state `s`, with set-points `sps` before its operations. (DESIGN CHOICE, log entry 44) -/
def State.plan (s : State) (sps : List Word) : Plan :=
  s.tri.ops.foldl s.planOp ⟨[], [], sps, s.mstate, [], [], []⟩

/-- The record of a plan. -/
def State.planRecord (s : State) (p : Plan) : List Word :=
  let mask := fun (f : Nat → Bool) => packW ((List.range 32).map fun g => (b2n (f g), g))
  let code := fun g => match p.change.find? (fun x => x.1 == g) with
    | some x => x.2
    | none => 0
  let half := fun a => packW ((List.range 16).map fun i => (code (a + i), 2 * i))
  [mask s.renews, mask (fun g => p.change.any fun x => x.1 == g), half 0, half 16, wAt p.sps 0, wAt p.sps 1, wAt p.sps 2,
    packW [(s.tri.nextK % 2 ^ 16, 16), (p.mst, 8)]]

/-! What a record says. -/

def recBit (ws : List Word) (i g : Nat) : Bool := bits (wAt ws i) g g == 1
def recHolder (ws : List Word) (g : Nat) : Nat := bits (wAt ws (2 + g / 16)) (2 * (g % 16) + 1) (2 * (g % 16))
def recMst (ws : List Word) : Nat := bits (wAt ws 7) 15 8

/-- Does a record carry what an operation asks for? -/
def TriReq.inRecord (q : TriReq) (ws : List Word) : Bool :=
  match q with
  | .setSp slot v => wAt ws (4 + slot) == v
  | .grant g h => recBit ws 1 g && recHolder ws g == h
  | .release g => recBit ws 1 g && recHolder ws g == 0
  | .setState m => recMst ws == m
  | .pathClear _ _ _ => true

/-! Applying a voted record (R179, R184 to R187, R190). -/

/-- Leases that have lapsed expire before anything renews them (R187). -/
def State.expireAll (s : State) : State :=
  (List.range 32).foldl (fun s g => if s.lapsed g then s.leaseExpire g else s) s

/-- The renewals of a record; group 0 is not renewed under the override. -/
def State.recRenew (s : State) (ws : List Word) : State :=
  (List.range 32).foldl (fun s g =>
    if recBit ws 0 g && s.holder g != 0 && !s.limpHeld g && !(g == 0 && s.overridden) then s.leaseRenew g else s) s

/-- The changes of a record, grants judged on `s0`. -/
def State.recChange (s0 s : State) (ws : List Word) : State :=
  (List.range 32).foldl (fun s g =>
    if !recBit ws 1 g then s
    else if recHolder ws g = 0 then (if s.holder g != 0 && !s.limpHeld g then s.leaseRelease g else s)
    else if s0.pow.stop.isSome then s
    else State.leaseGrant s0 s g (recHolder ws g)) s

/-- Set-points, machine state and seq of a record. Leaving SERVICE releases every host direct-drive lease (R192). -/
def State.recState (s : State) (ws : List Word) : State :=
  let s1 :=
    if s.mstate = 5 ∧ recMst ws ≠ 5 then
      (List.range 32).foldl (fun s g => if s.holder g = 3 then s.leaseRelease g else s) s
    else s
  let s2 := ({ s1 with tri := { s1.tri with sps := [wAt ws 4, wAt ws 5, wAt ws 6], cfg := s1.reg TRI_CFG } }).wr TRI_STAT TRI_STAT_mstate (recMst ws)
  s2.wr TRI_STAT TRI_STAT_seq (bits (wAt ws 7) 31 16)

/-- Each enabled slot delivers its set-point to its loop (R190). -/
def State.sendSps (s : State) : State :=
  [(TRI_SPMAP_en0, TRI_SPMAP_loop0), (TRI_SPMAP_en1, TRI_SPMAP_loop1), (TRI_SPMAP_en2, TRI_SPMAP_loop2)].zipIdx.foldl
    (fun s x => if s.bit TRI_SPMAP x.1.1 then s.writeTarget (s.rd TRI_SPMAP x.1.2) 1 (sInt (wAt s.tri.sps x.2)) none else s) s

/-- PATH_CLEAR acts: the path is empty, with a new origin and wheelbase. -/
def State.pathSet (s : State) (o : TriOp) : State :=
  match o.req with
  | .pathClear lat lon w => { s with tri := { s.tri with path := [], origin := (lat, lon), wheelbase := w } }
  | _ => s

/-- The status of an operation that the record carries: a refused grant is WRONG_STATE. -/
def State.carriedStatus (s0 s1 : State) (o : TriOp) : Nat :=
  match o.req with
  | .grant g h => if s0.grantRefused g h then stWrongState else stDone
  | .release g => if s1.holder g = 0 then stWrongState else stDone
  | _ => stDone

/-- Apply record `ws`; `mine` is the record of plan `p`, and `s0` the state at the start of the cycle. Operations end with
bits [31:0] of the vote instant (R193). -/
def State.applyRecord (s0 : State) (p : Plan) (mine ws : List Word) (s : State) : State :=
  let v := s0.mtime % 2 ^ 32
  let s1 := s.expireAll
  let s2 := ((State.recChange s0 (s1.recRenew ws) ws).recState ws).sendSps
  let went := p.carried.filter fun o => mine == ws || o.req.inRecord ws
  let stay := p.carried.filter fun o => !(mine == ws || o.req.inRecord ws)
  let s3 := { s2 with tri := { s2.tri with ops := p.wait ++ stay } }
  let s4 := p.now.foldl (fun s x => (s.pathSet x.1).finish x.1.op false x.2 0 v) s3
  went.foldl (fun s o =>
    s.finish o.op (match o.req with
      | .setSp _ _ => true
      | _ => false) (State.carriedStatus s0 s1 o) 0 v) s4

/-! Voting (R177, R179, R181). -/

/-- The words a core's record holds; none for a missing record. -/
def coreWords (c : CoreRec) (mine : List Word) : Option (List Word) :=
  match c with
  | .same => some mine
  | .missing => none
  | .other ws => some ((List.range 8).map (wAt ws))

/-- What the voter finds. -/
inductive Verdict where
  | apply (ws : List Word)
  | drop (ws : List Word) (c : Nat)
  | escalate (code : Nat)
deriving DecidableEq, Repr

/-- The verdict on the records of the live cores, as (core, words). (DESIGN CHOICE, log entry 44) -/
def verdict (l : List (Nat × Option (List Word))) : Verdict :=
  match l with
  | [(_, a), (_, b)] =>
    (match a with
      | some w => if a = b then .apply w else .escalate 0x0410
      | none => .escalate 0x0410)
  | [(i, a), (j, b), (k, c)] =>
    (match a, b, c with
      | some u, some v, _ => if u = v then (if c = some u then .apply u else .drop u k)
        else if c = some u then .drop u j else if c = some v then .drop v i else .escalate 0x0411
      | some u, none, some w => if u = w then .drop u j else .escalate 0x0411
      | none, some v, some w => if v = w then .drop v i else .escalate 0x0411
      | _, _, _ => .escalate 0x0411)
  | _ => .escalate 0x0410

/-- After a vote: the lag counts, and the next commit's instant (R181); after a step of MTIME the lag is 0 (R177). -/
def State.commitNext (s : State) : State :=
  let lag := s.cyc - s.tri.due
  let s1 := if lag = 0 then s else (s.bump TRI_CNT TRI_CNT_late_cnt).wrMax TRI_CNT TRI_CNT_max_lag (lag / 2)
  let m := s.mtime
  let k := m / 250000 + 1
  let shift := if k = s.tri.nextK + 1 ∧ !s.tri.stepped then (5 * lag + 1) / 2 else 0
  { s1 with tri := { s1.tri with
      nextK := k, stepped := false, due := s.cyc + (k * 250000 - m + shift + 4) / 5 } }

/-- The records of the live cores. -/
def State.liveRecs (s : State) (mine : List Word) (c0 c1 c2 : CoreRec) : List (Nat × Option (List Word)) :=
  [(0, coreWords c0 mine), (1, coreWords c1 mine), (2, coreWords c2 mine)].filter fun x => s.coreLive x.1

/-- COMMIT_VOTE. (DESIGN CHOICE, log entry 44) -/
def execCommitVote (t : Nat) (c0 c1 c2 : CoreRec) (s : State) : Out :=
  let s := s.at t
  if !s.ready 4 || s.triMode == modeLimp || decide (s.cyc < s.tri.due) then .next s
  else
    let a := s.tracked
    let p := s.expireAll.plan a.2
    let mine := s.planRecord p
    let l := s.liveRecs mine c0 c1 c2
    if (l.any fun x => x.2.isNone) && decide (s.cyc < s.tri.due + us 100) then .next s
    else
      let done := fun (s' : State) => if s'.tstUnsafe && !s.tstUnsafe then Host.Outcome.fault Fault.testMisuse else .next s'
      match verdict l with
      | .apply ws => done (State.applyRecord s p mine ws a.1).commitNext
      | .drop ws c => done ((State.applyRecord s p mine ws a.1).tailDrop c).commitNext
      | .escalate code => .next (s.raise0 code 0 0)

/-! Limp-home and lease ends (R182, R186, R188). -/

/-- LIMP_SAFE_STATE_APPLY. The override and the power-fail warning stand above it (R59, R213). -/
def execLimpSafeStateApply (t : Nat) (s : State) : Out :=
  let s := s.at t
  if s.triMode ≠ modeLimp ∨ s.tri.limpDone ∨ s.pow.holdUp.isSome then .next s
  else
    let s1 := { s with tri := { s.tri with limpDone := true } }
    let act := s.bit TRI_OVR_STAT TRI_OVR_STAT_act0 || s.bit TRI_OVR_STAT TRI_OVR_STAT_act1
    .next ((List.range 32).foldl (fun s g =>
      if s.limpHeld g && (s.group g).granted && !(g == 0 && act) then s.applySafe g else s) s1)

/-- LEASE_EXPIRY. (DEDUCED, log entry 46) -/
def execLeaseExpiry (t : Nat) (g : Fin 32) (s : State) : Out :=
  let s := s.at t
  if s.lapsed g then .next (s.leaseExpire g) else .next s

/-- HOLD_LIMIT_END. -/
def execHoldLimitEnd (t : Nat) (g : Fin 32) (s : State) : Out :=
  let s := s.at t
  match (s.group g).holdEnd with
  | none => .next s
  | some c => if s.cyc < c then .next s else .next (((s.keepLease g).setGroup g { s.group g with holdEnd := none }).safeOff g)

/-! Steering override (R189). -/

def ovrAct (n : Nat) : Fld := if n = 0 then TRI_OVR_STAT_act0 else TRI_OVR_STAT_act1

/-- OVERRIDE_ACTIVE. (DEDUCED, log entry 47) -/
def execOverrideActive (t : Nat) (n : Fin 2) (s : State) : Out :=
  let s := s.at t
  if !s.ready 4 || !s.bit (TRI_OVR_CFG n) TRI_OVR_CFG_en || s.bit TRI_OVR_STAT (ovrAct n) then .next s
  else .next ((s.keepOvr.wr TRI_OVR_STAT (ovrAct n) 1).overrideRevoke n)

/-- An input is no longer active. -/
def State.ovrOff (s : State) (n : Nat) : State :=
  let s1 := s.keepOvr.wr TRI_OVR_STAT (ovrAct n) 0
  if s1.bit TRI_OVR_STAT TRI_OVR_STAT_act0 || s1.bit TRI_OVR_STAT TRI_OVR_STAT_act1 then s1
  else { s1 with tri := { s1.tri with ovrFrom := s.cyc } }

/-- OVERRIDE_INACTIVE. (DEDUCED, log entry 47) -/
def execOverrideInactive (t : Nat) (n : Fin 2) (s : State) : Out :=
  let s := s.at t
  if s.bit TRI_OVR_STAT (ovrAct n) then .next (s.ovrOff n) else .next s

/-- OVERRIDE_REARM. -/
def execOverrideRearm (t : Nat) (s : State) : Out :=
  let s := s.at t
  if s.bit TRI_OVR_STAT TRI_OVR_STAT_act0 || s.bit TRI_OVR_STAT TRI_OVR_STAT_act1 || s.bit TRI_OVR_STAT TRI_OVR_STAT_armed
      || decide (s.cyc < s.tri.ovrFrom + ms (10 * TRI_CFG_rearm.get s.tri.cfg)) then .next s
  else .next (s.keepOvr.wr TRI_OVR_STAT TRI_OVR_STAT_armed 1)

/-! Ring operations (R193). -/

/-- An operation that waits for the next commit. -/
def State.triWait (s : State) (r slot : Nat) (q : TriReq) : State :=
  let s1 := s.startOp r slot
  { s1 with tri := { s1.tri with ops := s1.tri.ops ++ [⟨(r, slot), q⟩] } }

def State.limp (s : State) : Bool := s.triMode == modeLimp

/-- SET_SP. -/
def execSetSp (t : Nat) (r : Fin 64) (s : State) : Out :=
  (s.at t).ringOp r 0x04 0 1 fun s d =>
    let slot := bits (d.par 8) 1 0
    if s.limp then .next (s.endOp r d.slot stWrongState 0 0)
    else if slot = 3 then .next (s.endOp r d.slot stBadParam 0 0)
    else if slot = 0 ∧ TRI_CFG_track.get s.tri.cfg = 1 then .next (s.endOp r d.slot stWrongState 0 0)
    else .next (s.triWait r d.slot (.setSp slot (d.par 9)))

/-- The points of a PATH_APPEND buffer. -/
def pathPts (ws : List Word) (n : Nat) : List PathPt :=
  (List.range n).map fun i => ⟨sInt (wAt ws (4 * i)), sInt (wAt ws (4 * i + 1)), bits (wAt ws (4 * i + 2)) 0 0 == 1⟩

/-- A 1 in a reserved field of a path point (R9). -/
def pathBad (ws : List Word) (n : Nat) : Bool :=
  (List.range n).any fun i => bits (wAt ws (4 * i + 2)) 31 1 != 0 || wAt ws (4 * i + 3) != 0#32

/-- PATH_APPEND. -/
def execPathAppend (t : Nat) (r : Fin 64) (buf : List Word) (s : State) : Out :=
  (s.at t).ringOp r 0x04 0 2 fun s d =>
    let n := d.len / 16
    if d.len % 16 ≠ 0 then .fault .triadMisuse
    else if s.limp then .next (s.endOp r d.slot stWrongState 0 0)
    else s.takesBuf r d (4 * buf.length) <|
    if pathBad (s.bufWords r d buf) n then .fault .triadMisuse
    else if 4096 < s.tri.path.length + n then .next (s.endOp r d.slot stBusy 0 0)
    else
      let s1 := { s with tri := { s.tri with path := s.tri.path ++ pathPts (s.bufWords r d buf) n } }
      .next (s1.endOp r d.slot stDone d.len 0)

/-- PATH_CLEAR. -/
def execPathClear (t : Nat) (r : Fin 64) (s : State) : Out :=
  (s.at t).ringOp r 0x04 0 3 fun s d =>
    if TRI_CFG_track.get s.tri.cfg = 1 ∧ d.par 10 = 0#32 then .fault .triadMisuse
    else if s.limp then .next (s.endOp r d.slot stWrongState 0 0)
    else .next (s.triWait r d.slot (.pathClear (d.par 8) (d.par 9) (d.par 10).toNat))

/-- Is the unit of a holder fenced? -/
def State.holderFenced (s : State) (h : Nat) : Bool := (h == 1 && s.fenced 4) || (h == 2 && s.fenced 6)

/-- GRANT. -/
def execGrant (t : Nat) (r : Fin 64) (s : State) : Out :=
  (s.at t).ringOp r 0x04 1 0x10 fun s d =>
    let h := bits (d.par 8) 9 8
    if s.limp || !s.passed 11 then .next (s.endOp r d.slot stWrongState 0 0)
    else if h = 0 then .next (s.endOp r d.slot stBadParam 0 0)
    else if s.holderFenced h then .next (s.endOp r d.slot stFenced 0 0)
    else .next (s.triWait r d.slot (.grant (bits (d.par 8) 4 0) h))

/-- RELEASE. -/
def execRelease (t : Nat) (r : Fin 64) (s : State) : Out :=
  (s.at t).ringOp r 0x04 1 0x11 fun s d =>
    if s.limp || !s.passed 11 then .next (s.endOp r d.slot stWrongState 0 0)
    else .next (s.triWait r d.slot (.release (bits (d.par 8) 4 0)))

/-- SET_STATE. -/
def execSetState (t : Nat) (r : Fin 64) (s : State) : Out :=
  (s.at t).ringOp r 0x04 1 0x12 fun s d =>
    if s.limp || !s.passed 11 then .next (s.endOp r d.slot stWrongState 0 0)
    else .next (s.triWait r d.slot (.setState (bits (d.par 8) 7 0)))

/-- A command for group `g` has come from the host direct-drive path (R185). -/
def State.driven (s : State) (g : Nat) : State := s.setGroup g { s.group g with driveAt := some s.cyc }

/-- DRIVE. In limp-home before stage 11 both R80 and R182 give a status; that of limp-home comes first.
(DESIGN CHOICE, log entry 16) -/
def execDrive (t : Nat) (r : Fin 64) (s : State) : Out :=
  (s.at t).ringOp r 0x04 2 0x20 fun s d =>
    let item := bits (d.par 8) 7 0
    let v := d.par 9
    if s.limp then .next (s.endOp r d.slot stNoAuth 0 0)
    else if !s.passed 11 then .next (s.endOp r d.slot stWrongState 0 0)
    else if !(item < 48 ∨ (64 ≤ item ∧ item < 128)) then .next (s.endOp r d.slot stBadParam 0 0)
    else if !s.holds item 3 then .next (s.endOp r d.slot stNoAuth 0 0)
    else if item < 48 then
      .next (((s.valveWrite item (bits v 13 0) false false).driven (s.groupOf item)).endOp r d.slot stDone 0 0)
    else if bits v 17 16 = 3 then .fault .loadSwitchMisuse
    else
      .next (((s.switchWrite (item - 64) (bits v 17 16) (bits v 15 0) false false).driven (s.groupOf item)).endOp r d.slot
        stDone 0 0)

/-- RENEW; of R80 and R182 as DRIVE. (DESIGN CHOICE, log entry 16) -/
def execRenew (t : Nat) (r : Fin 64) (s : State) : Out :=
  (s.at t).ringOp r 0x04 2 0x21 fun s d =>
    let g := bits (d.par 8) 4 0
    if s.limp then .next (s.endOp r d.slot stNoAuth 0 0)
    else if !s.passed 11 then .next (s.endOp r d.slot stWrongState 0 0)
    else if s.holder g = 3 ∧ !s.limpHeld g then .next ((s.driven g).endOp r d.slot stDone 0 0)
    else .next (s.endOp r d.slot stNoAuth 0 0)

/-! The group map (R187, R195). -/

/-- Items that K12 mode fixes. -/
def fixedItem (i : Nat) : Bool := decide (i < 16) || (decide (80 ≤ i) && decide (i < 104))

/-- Is a write of group `new` for `item` ignored? -/
def State.gmapLocked (s : State) (item new : Nat) : Bool :=
  let old := s.groupOf item
  let held := fun g => s.holder g != 0 || s.limpHeld g
  held old || held new
    || (s.isK12 && (fixedItem item || decide (30 ≤ old) || decide (30 ≤ new)))

/-- TRI_GMAP_WRITE. -/
def execTriGmapWrite (t : Nat) (v : Word) (s : State) : Out :=
  let s := s.at t
  let item := s.rd TRI_GMAP_IDX TRI_GMAP_IDX_item
  let g := TRI_GMAP_DATA_group.get v
  s.hostWrite TRI_GMAP_DATA v (s.gmapLocked item g) fun s =>
    let now := if s.tri.mapped.1 = s.cyc then s.tri.mapped.2 else []
    .next { s with tri := { s.tri with
        gmap := cellSet (fun _ => 1) s.tri.gmap item g
        mapped := (s.cyc, if now.any (fun p => p.1 == item) then now else (item, s.groupOf item) :: now) } }

end Sys2Proof.Machine
end

