-- ==== Sys2Proof/Machine/RegWrite.lean ====
section
/-! DEFINITION. REGISTER_WRITE: a host write of a word to any register of BAR0. Registers whose write does more than
store a value do what the rules of their chapter say; writes that a command of its own describes are that command. -/

namespace Sys2Proof.Machine

/-- An accepted write that only stores its value. -/
def State.plainWrite (s : State) (off : Nat) (v : Word) (locked : Bool) : Out :=
  s.hostWrite off v locked fun s => .next (s.store off v)

/-- An accepted write with a value or set-up that `bad` calls misuse. -/
def State.checkedWrite (s : State) (off : Nat) (v : Word) (locked bad : Bool) (f : Fault) : Out :=
  s.hostWrite off v locked fun s => if bad then .fault f else .next (s.store off v)

/-- A set-up register with an enable field `en`: locked while it is 1, but for a write that sets it to 0. -/
def State.enLocked (s : State) (off : Nat) (en : Fld) (v : Word) : Bool := s.bit off en && en.get v == 1

/-! Rings (R102 to R104). -/

/-- RING_STOP_DISCARD (R102, R103): a stop that also abandons FILL buffers and rectangles; it acts in DRAINING too.
(DEDUCED, log entry 17) -/
def execRingStopDiscard (t : Nat) (r : Fin 64) (s : State) : Out :=
  let s := s.at t
  if s.ctlUnready r then .next (s.ignored (RNG_CTL r))
  else if s.ringState r = rsOff then .next (s.bump (RNG_CNT r) RNG_CNT_ign_cnt)
  else if s.ringState r = rsHalted then .next (s.haltedOff r)
  else
    let s1 := if s.ringState r = rsRunning then (((s.readsLeft r).wr (RNG_CFG r) RNG_CFG_state rsDraining).abortUnstarted r).guarPoll else s
    .next ((s1.abortFills r).dpyDiscard r)

/-- The ring whose set-up register stands at `off`. -/
def ringSetup (off : Nat) : Option Nat :=
  [RNG_CFG 0, RNG_DESC_LO 0, RNG_DESC_HI 0, RNG_CQ_LO 0, RNG_CQ_HI 0, RNG_CDB_LO 0, RNG_CDB_HI 0].findSome? fun b =>
    regIdx off b 0x40 64

/-- The doorbell line whose address register stands at `off`. -/
def lineSetup (off : Nat) : Option Nat := [RNG_DBL_LO 0, RNG_DBL_HI 0].findSome? fun b => regIdx off b 8 4

def State.writeRng (s : State) (off : Nat) (v : Word) : Out :=
  match regIdx off (RNG_CTL 0) 0x40 64 with
  | some r =>
    let r := Fin.ofNat 64 r
    let c := RNG_CTL_cmd.get v
    if s.readyReg off ∧ reservedOf off v ≠ 0#32 then .fault .reservedField
    else if c = 1 then execRingStart s.cyc r s
    else if c = 2 then execRingStop s.cyc r s
    else if c = 3 then execRingStopDiscard s.cyc r s
    else s.plainWrite off v false
  | none =>
    match ringSetup off with
    | some r =>
      s.hostWrite off v false fun s =>
        .next (if s.ringState r = rsOff then s.store off v else s.bump (RNG_CNT r) RNG_CNT_ign_cnt)
    | none =>
      match lineSetup off with
      | some m =>
        s.hostWrite off v false fun s =>
          .next (if (List.range 64).any fun r => s.ringState r != rsOff && s.rd (RNG_CFG r) RNG_CFG_line == m
            then s.bump RNG_STATUS RNG_STATUS_ign_cnt else s.store off v)
      | none =>
        match regIdx off (RNG_POLL 0) 0x40 64 with
        | some _ => s.hostWrite off v false fun s => .next ((s.store off v).guarPoll)
        | none => s.plainWrite off v false

/-! SYS. -/

/-- A write of SYS_PERSONALITY (R76): it takes effect once it is in the settings store. -/
def State.persSel (s : State) (v : Word) : Out :=
  s.hostWrite SYS_PERSONALITY v false fun s =>
    if SYS_PERSONALITY_pers_sel.get v = 3 then .fault .startStopMisuse
    else .next (s.setPow { s.pow with persWrite := some (SYS_PERSONALITY_pers_sel.get v) })

def State.writeSys (s : State) (off : Nat) (v : Word) : Out :=
  if off = SYS_BAR2_BASE then execSysBar2BaseWrite s.cyc v s
  else if off = SYS_PERSONALITY then s.persSel v
  else if off = SYS_STOP_CFG then s.hostWrite off v false fun s => .next (s.stopCfg v)
  else if off = SYS_RESTART then s.hostWrite off v false fun s => .next (s.sysRestart v)
  else s.plainWrite off v false

/-! Nymgor (R123, R126, R142, R143). -/

/-- A GROUND set-up R144 forbids. -/
def State.gndBad (s : State) (v : Word) : Bool :=
  let w := NYM_GND_CFG_wheel_in.get v
  let d := NYM_GND_CFG_dir_in.get v
  let used := fun (i : Nat) => (List.range 8).any fun k => s.shaftEn k && i == k
  NYM_GND_CFG_dir_src.get v == 3 || badInput w || badInput d || (NYM_GND_CFG_en.get v == 1 && (used w || used d))

def State.tblWindow (s : State) (v : Word) : Out :=
  let c := NYM_TBL_CMD_cmd.get v
  if s.readyReg NYM_TBL_CMD ∧ reservedOf NYM_TBL_CMD v ≠ 0#32 then .fault .reservedField
  else if c = 1 then s.tblWrite 0
  else if c = 2 then s.tblWrite 1
  else if c = 3 then s.tblWrite 2
  else if c = 4 then s.tblRead 0
  else if c = 5 then s.tblRead 1
  else if c = 6 then s.tblRead 2
  else if c = 7 then execTblDisarm s.cyc s
  else s.plainWrite NYM_TBL_CMD v false

def State.shaftCfgWrite (s : State) (k : Nat) (v : Word) : Out :=
  if NYM_SHAFT_CFG_en.get v = 1 then execShaftEnable s.cyc (Fin.ofNat 8 k) v s
  else if s.shaftEn k then execShaftDisable s.cyc (Fin.ofNat 8 k) v s
  else s.plainWrite (NYM_SHAFT_CFG k) v (s.shaftK12 k)

def State.writeNym (s : State) (off : Nat) (v : Word) : Out :=
  if off = NYM_TBL_CMD then s.tblWindow v
  else if off = NYM_GND_CFG then
    s.hostWrite off v (s.enLocked off NYM_GND_CFG_en v) fun s =>
      if s.gndBad v then .fault .nymgorMisuse else .next (s.gndConfig v)
  else
    match regIdx off (NYM_SHAFT_CFG 0) 0x20 8 with
    | some k => s.shaftCfgWrite k v
    | none =>
      match regIdx off (NYM_SHAFT_GEO 0) 0x20 8 with
      | some k => s.plainWrite off v (s.shaftEn k || s.shaftK12 k)
      | none => s.plainWrite off v (s.isK12 && (off == NYM_DOM_CFG 1 || off == NYM_DOM_CFG 2))

/-! The control engine (R174). -/

/-- Is template `m` the output of an enabled loop? -/
def State.tmplUsed (s : State) (m : Nat) : Bool :=
  (List.range 64).any fun n =>
    let a := (s.loop n).act
    bits (wAt a 0) 31 31 == 1 && lpOutKind a == 3 && lpOutNum a == m

def State.loopWindow (s : State) (v : Word) : Out :=
  let c := CLE_WIN_CMD_cmd.get v
  if s.readyReg CLE_WIN_CMD ∧ reservedOf CLE_WIN_CMD v ≠ 0#32 then .fault .reservedField
  else if c = 1 then s.winWrite false
  else if c = 2 then s.winWrite true
  else if c = 3 then s.winRead 0
  else if c = 4 then s.winRead 1
  else if c = 5 then s.winRead 2
  else if c = 6 then execWinClearState s.cyc s
  else s.plainWrite CLE_WIN_CMD v false

/-- The CAN template whose register stands at `off`. -/
def tmplIdx (off : Nat) : Option Nat :=
  [CLE_CANT_ID 0, CLE_CANT_FMT 0, CLE_CANT_D0 0, CLE_CANT_D1 0].findSome? fun b => regIdx off b (CLE_CANT_ID 1 - CLE_CANT_ID 0) 64

def State.writeCle (s : State) (off : Nat) (v : Word) : Out :=
  if off = CLE_WIN_CMD then s.loopWindow v
  else if off = CLE_POOL_DATA then execPoolDataAccess s.cyc (some v) s
  else
    match tmplIdx off with
    | some m => s.plainWrite off v (s.tmplUsed m)
    | none => s.plainWrite off v false

/-! The triad (R194, R195). -/

/-- Two enabled slots of TRI_SPMAP that name one loop (R196). -/
def spmapBad (v : Word) : Bool :=
  let e0 := TRI_SPMAP_en0.get v == 1
  let e1 := TRI_SPMAP_en1.get v == 1
  let e2 := TRI_SPMAP_en2.get v == 1
  let a := TRI_SPMAP_loop0.get v
  let b := TRI_SPMAP_loop1.get v
  let c := TRI_SPMAP_loop2.get v
  (e0 && e1 && a == b) || (e0 && e2 && a == c) || (e1 && e2 && b == c)

/-- A write of TRI_OVR_CFGn: an input no longer enabled is not active. (DEDUCED, log entry 47) -/
def State.ovrWrite (s : State) (n : Nat) (v : Word) : Out :=
  s.hostWrite (TRI_OVR_CFG n) v (s.holder 0 != 0 || s.limpHeld 0) fun s =>
    if 10000 < TRI_OVR_CFG_thr.get v then .fault .triadMisuse
    else
      let s1 := s.store (TRI_OVR_CFG n) v
      .next (if TRI_OVR_CFG_en.get v = 0 ∧ s.bit TRI_OVR_STAT (ovrAct n) then s1.ovrOff n else s1)

/-- A write of TRI_GRPg: while the group has a holder its set-up fields are ignored, and exp_seen alone is taken.
(DESIGN CHOICE, log entry 48) -/
def State.grpWrite (s : State) (g : Nat) (v : Word) : Out :=
  s.hostWrite (TRI_GRP g) v (s.isK12 && decide (30 ≤ g)) fun s =>
    if s.holder g ≠ 0 ∨ s.limpHeld g then
      .next ((s.store (TRI_GRP g) (TRI_GRP_exp_seen.put (s.reg (TRI_GRP g)) (TRI_GRP_exp_seen.get v))).ignored (TRI_GRP g))
    else if TRI_GRP_safe.get v = 3 then .fault .triadMisuse
    else .next (s.store (TRI_GRP g) v)

def State.writeTri (s : State) (off : Nat) (v : Word) : Out :=
  if off = TRI_SPMAP then s.checkedWrite off v false (spmapBad v) .triadMisuse
  else if off = TRI_GMAP_DATA then execTriGmapWrite s.cyc v s
  else
    match regIdx off (TRI_OVR_CFG 0) 4 2 with
    | some n => s.ovrWrite n v
    | none =>
      match regIdx off (TRI_GRP 0) 4 32 with
      | some g => s.grpWrite g v
      | none => s.plainWrite off v false

/-! Valves (R217, R218) and load switches (R239, R240). -/

/-- A write of VDR_CFGn. -/
def State.valveCfgWrite (s : State) (n : Nat) (v : Word) : Out :=
  if VDR_CFGn_en.get v = 1 then execValveEnable s.cyc (Fin.ofNat 48 n) v s
  else if s.valveEn n then execValveDisable s.cyc (Fin.ofNat 48 n) v s
  else s.checkedWrite (VDR_CFGn n) v (s.valveK12 n) (valveCfgBad v) .valveMisuse

/-- Is a write of VDR_PAIR ignored: in K12 mode, or when it changes the bit of a pair with a channel enabled? -/
def State.pairLocked (s : State) (v : Word) : Bool :=
  s.isK12 || (List.range 8).any fun p =>
    (bits v p p != bits (s.reg VDR_PAIR) p p) && (s.valveEn (2 * p) || s.valveEn (2 * p + 1))

/-- A dither set-up R219 forbids. -/
def dithBad (v : Word) : Bool :=
  decide (VDR_DITH_dfreq.get v < 40) || decide (400 < VDR_DITH_dfreq.get v) || decide (250 < VDR_DITH_damp.get v)

def State.valveRegWrite (s : State) (n off : Nat) (v : Word) : Out :=
  if off = VDR_CFGn n then s.valveCfgWrite n v
  else if off = VDR_DITH n then s.checkedWrite off v (s.valveK12 n) (dithBad v) .valveMisuse
  else if off = VDR_SAFE n then
    s.checkedWrite off v (s.valveEn n || s.valveK12 n) (decide (1000 < VDR_SAFE_toff.get v)) .valveMisuse
  else if off = VDR_STAT n then execValveClrLatch s.cyc (Fin.ofNat 48 n) v s
  else s.plainWrite off v (s.valveK12 n)

def State.writeVdr (s : State) (off : Nat) (v : Word) : Out :=
  if off = VDR_PAIR then s.plainWrite off v (s.pairLocked v)
  else if VDR_CFGn 0 ≤ off ∧ off < VDR_CFGn 48 then s.valveRegWrite ((off - VDR_CFGn 0) / 0x20) off v
  else s.plainWrite off v false

/-- A write of LSW_CFGn. -/
def State.switchCfgWrite (s : State) (n : Nat) (v : Word) : Out :=
  if LSW_CFG_en.get v = 1 then
    s.hostWrite (LSW_CFG n) v (s.switchEn n || s.switchK12 n) fun s =>
      if switchCfgBad n v then .fault .loadSwitchMisuse else .next (s.switchEnable n v)
  else if s.switchEn n then execLswDisable s.cyc (Fin.ofNat 64 n) v s
  else s.checkedWrite (LSW_CFG n) v (s.switchK12 n) (switchCfgBad n v) .loadSwitchMisuse

/-- A value of LSW_TCFG R241 forbids. -/
def tcfgBad (v : Word) : Bool :=
  let out := fun (f : Fld) (a b : Nat) => decide (f.get v < a) || decide (b < f.get v)
  out LSW_TCFG_dtlim 10 120 || out LSW_TCFG_hyst 5 50 || out LSW_TCFG_tshut 100 175

def State.switchRegWrite (s : State) (n off : Nat) (v : Word) : Out :=
  if off = LSW_CFG n then s.switchCfgWrite n v
  else if off = LSW_PROT n then s.plainWrite off v (s.switchEn n || s.switchK12 n)
  else if off = LSW_SAFE n then
    s.checkedWrite off v (s.switchEn n || s.switchK12 n) (LSW_SAFE_smode.get v == 3) .loadSwitchMisuse
  else if off = LSW_STAT n then s.hostWrite off v (s.switchK12 n) fun s => .next (s.switchStatWrite n v)
  else s.plainWrite off v (s.switchK12 n)

def State.writeLsw (s : State) (off : Nat) (v : Word) : Out :=
  if off = LSW_TCFG then s.checkedWrite off v false (tcfgBad v) .loadSwitchMisuse
  else if LSW_CFG 0 ≤ off ∧ off < LSW_CFG 64 then s.switchRegWrite ((off - LSW_CFG 0) / 0x20) off v
  else s.plainWrite off v false

/-! Sensing and fusion (R273, R274). -/

/-- A write of SNS_AIN_CFGn. The interval counts where the periodic grid is on. (DESIGN CHOICE, log entry 65) -/
def State.ainCfgWrite (s : State) (n : Nat) (v : Word) : Out :=
  let i := SNS_AIN_CFG_interval.get v
  s.hostWrite (SNS_AIN_CFG n) v (s.enLocked (SNS_AIN_CFG n) SNS_AIN_CFG_en v || s.ainK12 n) fun s =>
    if SNS_AIN_CFG_periodic.get v = 1 ∧ (i < 100 ∨ 1000000 < i) then .fault .sensingMisuse
    else
      let s1 := s.store (SNS_AIN_CFG n) v
      .next (if !s.ainEn n && s1.ainEn n then s1.serveWaiting 1 n else if s1.ainEn n then s1 else s1.ainForget n)

/-- A write of SNS_FIN_CFGn: with en 0 the frequency is 0 (R246). -/
def State.finCfgWrite (s : State) (n : Nat) (v : Word) : Out :=
  s.hostWrite (SNS_FIN_CFG n) v (s.enLocked (SNS_FIN_CFG n) SNS_FIN_CFG_en v || s.finK12 n) fun s =>
    let s1 := s.store (SNS_FIN_CFG n) v
    .next (if s.finEn n then (s1.setFin n { FreqIn.init with level := (s.fin n).level }).setReg (SNS_FIN_DATA n) 0#32
        else if s1.finEn n then s1.serveWaiting 2 n else s1)

/-- A dead time R275 forbids. -/
def deadBad (v : Word) : Bool :=
  decide (SNS_LOSS_TIM_dead.get v < 4) || decide (384 < SNS_LOSS_TIM_dead.get v)

/-- Does an enabled LOSS_SECTORS unit use a map of channel `n` that smask does not name (R275)? -/
def State.unmapped (s : State) (n : Nat) : Bool :=
  (List.range 16).any fun u => s.fuEn u && s.fuKind u == 5 && s.fuSrc u % 16 == n
    && s.lossMask n / 2 ^ (s.fuSrc2 u % 8) % 2 == 0

/-- A write of SNS_LOSS_CFGn. -/
def State.lossCfgWrite (s : State) (n : Nat) (v : Word) : Out :=
  s.hostWrite (SNS_LOSS_CFG n) v (s.enLocked (SNS_LOSS_CFG n) SNS_LOSS_CFG_en v) fun s =>
    let s1 := s.store (SNS_LOSS_CFG n) v
    if SNS_LOSS_CFG_raw.get v = 3 then .fault .sensingMisuse
    else if SNS_LOSS_CFG_en.get v = 1 ∧ (deadBad (s.reg (SNS_LOSS_TIM n)) || s1.unmapped n) then .fault .sensingMisuse
    else .next (if SNS_LOSS_CFG_en.get v = 1 then s1.lossEnable n else s1)

/-- The bits of a register that belong to the K12 engine in K12 mode keep their values; a write that would change them
is noted (R274). (DESIGN CHOICE, log entry 67) -/
def State.maskedWrite (s : State) (off : Nat) (v : Word) (own : Nat) : Out :=
  s.hostWrite off v false fun s =>
    if !s.isK12 then .next (s.store off v)
    else
      let m := word own
      let s1 := s.store off ((v &&& ~~~m) ||| (s.reg off &&& m))
      .next (if (v ^^^ s.reg off) &&& m = 0#32 then s1 else s1.ignored off)

/-- The bits of SNS_TRG_LOm, SNS_TRG_Xm and SNS_DIN_PULL that the K12 engine owns in K12 mode.
(DESIGN CHOICE, log entry 67) -/
def k12Own (off : Nat) : Option Nat :=
  if off = SNS_DIN_PULL then some 0xFFFF
  else if (regIdx off (SNS_TRG_LO 0) (SNS_TRG_LO 1 - SNS_TRG_LO 0) 256).isSome then some 0xFFFF
  else if (regIdx off (SNS_TRG_X 0) (SNS_TRG_X 1 - SNS_TRG_X 0) 256).isSome then some 0xF
  else none

def State.writeSns (s : State) (off : Nat) (v : Word) : Out :=
  match k12Own off with
  | some m => s.maskedWrite off v m
  | none =>
    match regIdx off (SNS_AIN_CFG 0) 8 64 with
    | some n => s.ainCfgWrite n v
    | none =>
      match regIdx off (SNS_AIN_DATA 0) 8 64 with
      | some n => s.plainWrite off v (s.ainK12 n)
      | none =>
        match regIdx off (SNS_FIN_CFG 0) 8 24 with
        | some n => s.finCfgWrite n v
        | none =>
          match regIdx off (SNS_LOSS_CFG 0) (SNS_LOSS_CFG 1 - SNS_LOSS_CFG 0) 16 with
          | some n => s.lossCfgWrite n v
          | none =>
            match regIdx off (SNS_LOSS_THR 0) (SNS_LOSS_THR 1 - SNS_LOSS_THR 0) 16 with
            | some n => s.plainWrite off v (s.lossEn n)
            | none =>
              match regIdx off (SNS_LOSS_TIM 0) (SNS_LOSS_TIM 1 - SNS_LOSS_TIM 0) 16 with
              | some n =>
                s.checkedWrite off v (s.lossEn n) (deadBad v) .sensingMisuse
              | none =>
                match regIdx off (SNS_FIN_DATA 0) 8 24 with
                | some n => s.plainWrite off v (s.finK12 n)
                | none => s.plainWrite off v false

/-- The number of values a unit kind defines (R254). -/
def kindVals (kind : Nat) : Nat := [0, 3, 3, 2, 2, 10, 12, 2].getD kind 0

/-- A FUS_OBS entry R275 forbids: beyond the twelve values, or beyond those of an enabled unit's kind.
(DEDUCED, log entry 68) -/
def State.obsBad (s : State) (v : Word) : Bool :=
  decide (11 < FUS_OBS_val.get v)
    || (FUS_OBS_en.get v == 1 && s.fuEn (FUS_OBS_unit.get v)
        && decide (kindVals (s.fuKind (FUS_OBS_unit.get v)) ≤ FUS_OBS_val.get v))

/-- With unit `u` set up as it now is, does an observation entry or the yield attribution use what it does not give
(R275)? -/
def State.fuMisfit (s : State) (u : Nat) : Bool :=
  ((List.range 24).any fun i => s.rd (FUS_OBS i) FUS_OBS_unit == u && s.obsBad (s.reg (FUS_OBS i)))
    || (s.bit FUS_YLD_CFG FUS_YLD_CFG_en
        && ((s.rd FUS_YLD_CFG FUS_YLD_CFG_unit == u && s.fuKind u != 2)
          || (s.bit FUS_YLD_CFG FUS_YLD_CFG_m_en && s.rd FUS_YLD_CFG FUS_YLD_CFG_munit == u && s.fuKind u != 3)))

/-- A code of a header source or a section source that lies in the gaps of R253 and is none of those R265 adds (R275). -/
def hdrSrcBad (v : Word) : Bool := srcGap (FUS_YLD_HDR_src.get v)
def secSrcBad (v : Word) : Bool :=
  let src := FUS_YLD_SEC_src.get v
  FUS_YLD_SEC_en.get v == 1 && srcGap src && src != 0xB0 && decide (src < 0xC0)

/-- A write of FUS_YLD_HDR. -/
def State.yldHdrWrite (s : State) (v : Word) : Out :=
  s.hostWrite FUS_YLD_HDR v (s.bit FUS_YLD_CFG FUS_YLD_CFG_en) fun s =>
    if hdrSrcBad v then .fault .sensingMisuse else .next (s.store FUS_YLD_HDR v).headerSeen

/-- A write of FUS_FU_CFGn. -/
def State.fuCfgWrite (s : State) (u : Nat) (v : Word) : Out :=
  s.hostWrite (FUS_FU_CFG u) v (s.enLocked (FUS_FU_CFG u) FUS_FU_CFG_en v) fun s =>
    let s1 := s.store (FUS_FU_CFG u) v
    if s.fuBad u v || s1.fuMisfit u then .fault .sensingMisuse
    else .next (if FUS_FU_CFG_en.get v = 1 then s1.fuEnable u else s1)

/-- A write of FUS_YLD_CFG: enabling starts a fresh attribution. -/
def State.yldCfgWrite (s : State) (v : Word) : Out :=
  s.hostWrite FUS_YLD_CFG v (s.enLocked FUS_YLD_CFG FUS_YLD_CFG_en v) fun s =>
    let s1 := (s.store FUS_YLD_CFG v).headerSeen
    if FUS_YLD_CFG_en.get v = 0 then .next s1
    else if s.fuKind (FUS_YLD_CFG_unit.get v) ≠ 2
        ∨ (FUS_YLD_CFG_m_en.get v = 1 ∧ s.fuKind (FUS_YLD_CFG_munit.get v) ≠ 3) then .fault .sensingMisuse
    else .next (s1.setYld { s1.fus.yld with first := true, closed := none })

/-- A write of FUS_STAT: a 1 in bit 31 clears drop_cnt (R274). -/
def State.fusStatWrite (s : State) (v : Word) : Out :=
  s.hostWrite FUS_STAT v false fun s =>
    let s1 := s.store FUS_STAT v
    .next (if bits v 31 31 = 1 then s1.setReg FUS_STAT (FUS_STAT_drop_cnt.put (s1.reg FUS_STAT) 0) else s1)

def State.yldOn (s : State) : Bool := s.bit FUS_YLD_CFG FUS_YLD_CFG_en

def State.writeFus (s : State) (off : Nat) (v : Word) : Out :=
  if off = FUS_YLD_CFG then s.yldCfgWrite v
  else if off = FUS_YLD_HDR then s.yldHdrWrite v
  else if off = FUS_STAT then s.fusStatWrite v
  else if off = FUS_YLD_DLY then
    s.checkedWrite off v false (decide (FUS_YLD_DLY_dmax.get v < FUS_YLD_DLY_dmin.get v)) .sensingMisuse
  else if FUS_FU_CFG 0 ≤ off ∧ off < FUS_FU_CFG 16 then
    let u := (off - FUS_FU_CFG 0) / 0x20
    if off = FUS_FU_CFG u then s.fuCfgWrite u v
    else if off = FUS_FU_STAT u then s.plainWrite off v false
    else s.plainWrite off v (s.fuEn u)
  else
    match regIdx off (FUS_YLD_SEC 0) 4 16 with
    | some _ => s.checkedWrite off v s.yldOn (secSrcBad v) .sensingMisuse
    | none =>
      match regIdx off (FUS_SCHED 0) 8 16 with
      | some k =>
        s.checkedWrite off v (s.enLocked (FUS_SCHED k) FUS_SCHED_en v) (FUS_SCHED_window.get v == 0) .sensingMisuse
      | none =>
        match regIdx off (FUS_OBS 0) 4 24 with
        | some _ => s.checkedWrite off v false (s.obsBad v) .sensingMisuse
        | none =>
          match regIdx off (FUS_SECT 0) 4 64 with
          | some _ =>
            s.checkedWrite off v false (FUS_SECT_len.get v == 0 || decide (512 < FUS_SECT_len.get v)) .sensingMisuse
          | none => s.plainWrite off v false

/-! The setting loop (R292). -/

def State.writeHsl (s : State) (off : Nat) (v : Word) : Out :=
  if off = HSL_CFG then execHslModeWrite s.cyc v s
  else if off = HSL_BYP then s.hostWrite off v false fun s => .next (s.hslByp v)
  else s.plainWrite off v ((off == HSL_TRG || off == HSL_PHASE) && s.rd HSL_CFG HSL_CFG_mode != 0)

/-! Vision (R302, R322). -/

/-- A write of VIS_CAMc_CFG. -/
def State.camCfgWrite (s : State) (c : Nat) (v : Word) : Out :=
  if VIS_CAM_CFG_en.get v = 1 then execCameraEnable s.cyc (Fin.ofNat 12 c) v s
  else s.hostWrite (VIS_CAM_CFG c) v false fun s =>
    .next (if s.camEn c then s.camDisable c v else s.store (VIS_CAM_CFG c) v)

/-- A write of VIS_ENCe_CFG. -/
def State.encCfgWrite (s : State) (e : Nat) (v : Word) : Out :=
  if VIS_ENC_CFG_en.get v = 1 then execEncoderEnable s.cyc (Fin.ofNat 4 e) v s else s.plainWrite (VIS_ENC_CFG e) v false

def State.camRegWrite (s : State) (c off : Nat) (v : Word) : Out :=
  if off = VIS_CAM_CFG c then s.camCfgWrite c v
  else if off = VIS_CAM_LOCK c then s.checkedWrite off v false (VIS_CAM_LOCK_mode.get v == 3) .visionMisuse
  else s.plainWrite off v ((off == VIS_CAM_GEO c || off == VIS_CAM_WIN c || off == VIS_CAM_DISP c) && s.camEn c)

def State.writeVis (s : State) (off : Nat) (v : Word) : Out :=
  if VIS_CAM_CFG 0 ≤ off ∧ off < VIS_CAM_CFG 12 then s.camRegWrite ((off - VIS_CAM_CFG 0) / 0x40) off v
  else
    match regIdx off (VIS_ENC_CFG 0) 0x20 4 with
    | some e => s.encCfgWrite e v
    | none =>
      match regIdx off (VIS_ENC_RATE 0) 0x20 4 with
      | some e => s.plainWrite off v (s.bit (VIS_ENC_CFG e) VIS_ENC_CFG_en)
      | none =>
        match regIdx off (VIS_LINK 0) 4 3 with
        | some n =>
          s.hostWrite off v false fun s =>
            if VIS_LINK_gear_max.get v = 0 ∨ 5 < VIS_LINK_gear_max.get v then .fault .visionMisuse
            else .next (s.linkWrite n v)
        | none => s.plainWrite off v false

/-! GNSS (R348), CAN (R367, R370), the switch (R384), DMA (R397), the displays (R421). -/

def State.writeGns (s : State) (off : Nat) (v : Word) : Out :=
  if off = GNS_CFG then s.hostWrite off v (s.gnsLocked v) fun s => .next (s.gnsConfig v)
  else if off = GNS_ANT then s.hostWrite off v false fun s => .next (s.antConfig v)
  else s.checkedWrite off v false (gnsBad off v) .gnssMisuse

/-- A write of CAN_CFGn. -/
def State.canCfgWrite (s : State) (n : Nat) (v : Word) : Out :=
  if CAN_CFG_en.get v = 1 then execCanEnable s.cyc (Fin.ofNat 8 n) v s
  else if s.canEn n then execCanDisable s.cyc (Fin.ofNat 8 n) v s
  else s.plainWrite (CAN_CFG n) v (s.canK12 n)

def State.canRegWrite (s : State) (n off : Nat) (v : Word) : Out :=
  if off = CAN_CFG n then s.canCfgWrite n v
  else if off = CAN_CTL n then s.hostWrite off v (s.canK12 n) fun s => .next (s.canCtl n v)
  else if off = CAN_QCFG n then s.checkedWrite off v (s.canEn n || s.canK12 n) (canClassBad v) .canMisuse
  else s.plainWrite off v (((off == CAN_NBT n || off == CAN_DBT n) && s.canEn n) || s.canK12 n)

def State.writeCan (s : State) (off : Nat) (v : Word) : Out :=
  if CAN_CFG 0 ≤ off ∧ off < CAN_CFG 8 then s.canRegWrite ((off - CAN_CFG 0) / 0x40) off v else s.plainWrite off v false

/-- A write of NET_RP_CFG: while en is 1 only en may change. -/
def State.rpCfgWrite (s : State) (v : Word) : Out :=
  s.hostWrite NET_RP_CFG v false fun s =>
    let old := s.reg NET_RP_CFG
    if NET_RP_CFG_en.get old = 1 ∧ changes old v [NET_RP_CFG_space, NET_RP_CFG_vector] then
      .next ((s.rpWrite v).ignored NET_RP_CFG)
    else .next (s.rpWrite v)

def State.writeNet (s : State) (off : Nat) (v : Word) : Out :=
  if off = NET_RP_CFG then s.rpCfgWrite v
  else if off = NET_RP_DATA then execRpDataWrite s.cyc v s
  else if off = NET_RP_ADDR then s.plainWrite off v false
  else
    match regIdx off (NET_PORT 0) 0x20 7 with
    | some k =>
      s.hostWrite off v (s.netPortLocked k v) fun s =>
        if netPortBad v then .fault .netMisuse else .next (s.netPortWrite k v)
    | none => s.plainWrite off v false

def State.dmaRegWrite (s : State) (n off : Nat) (v : Word) : Out :=
  let busy := s.dmaState n != dmaIdle
  if off = DMA_CH_CFG n then
    s.hostWrite off v busy fun s => if dmaCfgBad v then .fault .dmaMisuse else .next ((s.store off v).dmaPend n)
  else if off = DMA_CH_NEXT_LO n then execDmaNextWrite s.cyc (Fin.ofNat 32 n) v s
  else if off = DMA_CH_NEXT_HI n then s.plainWrite off v busy
  else if off = DMA_CH_CTL n then
    s.hostWrite off v false fun s => if (s.dmaCtl n v).dmaShared n then .fault .dmaMisuse else .next (s.dmaCtl n v)
  else s.plainWrite off v false

def State.writeDma (s : State) (off : Nat) (v : Word) : Out :=
  if DMA_CH_CFG 0 ≤ off ∧ off < DMA_CH_CFG 32 then s.dmaRegWrite ((off - DMA_CH_CFG 0) / 0x40) off v
  else s.plainWrite off v false

def State.writeDpy (s : State) (off : Nat) (v : Word) : Out :=
  s.hostWrite off v (s.dpyLocked off v) fun s => if s.dpyBad off v then .fault .displayMisuse else .next (s.dpyStored off v)

/-! Fault collection, the recorder, thermal management, update, test perturbation. -/

/-- A write of an FLT or REC register: it applies from the next cycle (R444). -/
def State.writeRec (s : State) (off : Nat) (v : Word) : Out :=
  s.hostWrite off v false fun s =>
    if (off = REC_MIRROR ∧ REC_MIRROR_en.get v = 1 ∧ sharedTop < 32 * REC_MIRROR_addr.get v + 32)
        ∨ ((regIdx off (REC_TRG_A 0) 8 64).isSome ∧ (REC_TRG_A_kind.get v = 3 ∨ 32 < REC_TRG_A_n.get v)) then
      .fault .recorderMisuse
    else .next ((s.keepThen off).store off v)

/-- A thermal set-up R456 forbids. -/
def thmBad (off : Nat) (v : Word) : Bool :=
  let out := fun (f : Fld) (a b : Nat) => decide (f.get v < a) || decide (b < f.get v)
  if off = THM_CFG then
    out THM_CFG_tder 100 175 || out THM_CFG_vshut 120 175 || decide (THM_CFG_vshut.get v ≤ THM_CFG_tder.get v)
  else if off = THM_SHUT then
    THM_SHUT_mode.get v == 0 || out THM_SHUT_t_hw 85 105 || out THM_SHUT_t_ord 80 100 || out THM_SHUT_t_rst 40 80
      || decide (THM_SHUT_t_ord.get v ≤ THM_SHUT_t_rst.get v) || decide (THM_SHUT_t_hw.get v ≤ THM_SHUT_t_ord.get v)
  else false

/-- THM_CFG and THM_SHUT are kept in the settings store (R455). -/
def State.writeThm (s : State) (off : Nat) (v : Word) : Out :=
  s.hostWrite off v false fun s =>
    if thmBad off v then .fault .thermalMisuse
    else .next (if off = THM_CFG ∨ off = THM_SHUT then (s.store off v).keepReg off v else s.store off v)

/-- A write of UPD_AXO_CMD in axolotl: the commands of R468 over PCIe. What the check of a signature finds is a free
value here; AXO_FINISH names it. (DEDUCED, log entry 90) -/
def State.axoCmdWrite (s : State) (v : Word) : Out :=
  let c := UPD_AXO_CMD_cmd.get v
  let via : AxoVia := ⟨0, 0, false, 0#48⟩
  if s.readyReg UPD_AXO_CMD ∧ reservedOf UPD_AXO_CMD v ≠ 0#32 then .fault .reservedField
  else if c = 1 then execAxoHello s.cyc via s
  else if c = 2 then execAxoBegin s.cyc via 0#32 s
  else if c = 3 then execAxoData s.cyc via 0 [] s
  else if c = 4 then execAxoFinish s.cyc via (Config.freeNat s.free % 2 == 1) s.freeNext
  else if c = 5 then execAxoActivate s.cyc via 0#32 s
  else if c = 6 then execAxoBoot s.cyc via s
  else .next (s.axoReply via stBadOpcode 0 [])

def axoReg (off : Nat) : Bool := off == UPD_AXO_CMD || off == UPD_AXO_STAT || (regIdx off (UPD_AXO_ARG 0) 4 3).isSome

def State.writeUpd (s : State) (off : Nat) (v : Word) : Out :=
  if axoReg off ∧ !s.pow.axo then .next (if s.readyReg off then s else s.ignored off)
  else if off = UPD_AXO_CMD then s.axoCmdWrite v
  else if off = UPD_REQ then s.hostWrite off v false fun s => .next (s.updReq v)
  else if off = UPD_INTAKE then
    s.checkedWrite off v s.upd.sess.isSome
      (UPD_INTAKE_en.get v == 1 && decide (sharedTop < 32 * UPD_INTAKE_addr.get v + 32)) .updateMisuse
  else s.plainWrite off v false

def State.writeTst (s : State) (off : Nat) (v : Word) : Out :=
  if off = TST_UNLOCK then .next (s.tstUnlock v)
  else if off = TST_JIT then execTstJitWrite s.cyc v s
  else s.tstWrite off v id

/-! All of BAR0. -/

/-- A host write of `v` to the register at `off`. (DESIGN CHOICE, log entry 13) -/
def State.regRoute (s : State) (off : Nat) (v : Word) : Out :=
  let b := off / 0x10000
  if off % 4 ≠ 0 then .fault .registerAccess
  else if (regRow off).isNone then execUnmappedBar0Access s.cyc off s
  else if b = 0x00 then s.writeSys off v
  else if b = 0x01 then s.writeRng off v
  else if b = 0x02 then s.writeNym off v
  else if b = 0x03 then s.writeCle off v
  else if b = 0x04 then s.writeTri off v
  else if b = 0x05 then s.writeVdr off v
  else if b = 0x06 then s.writeLsw off v
  else if b = 0x07 then s.writeSns off v
  else if b = 0x08 then s.writeFus off v
  else if b = 0x09 then s.writeHsl off v
  else if b = 0x0A then s.writeVis off v
  else if b = 0x0B then s.writeGns off v
  else if b = 0x0C then s.writeCan off v
  else if b = 0x0D then s.writeNet off v
  else if b = 0x0E then s.writeDma off v
  else if b = 0x0F then s.writeDpy off v
  else if b = 0x10 ∨ b = 0x11 then s.writeRec off v
  else if b = 0x12 then s.writeThm off v
  else if b = 0x13 then s.writeUpd off v
  else if b = 0x15 then s.writeTst off v
  else s.plainWrite off v false

/-- REGISTER_WRITE. -/
def execRegisterWrite (t : Nat) (off : Nat) (v : Word) (s : State) : Out := (s.at t).regRoute off v

end Sys2Proof.Machine
end

