-- ==== Sys2Proof/Machine/Release.lean ====
section
/-! DEFINITION. Releases of the event table (R130, R131, R134, R136, R137). -/

namespace Sys2Proof.Machine

/-- The target unit of a half, as action and number; none for MARK (R130). -/
def evUnit (ws : List Word) : Option (Nat × Nat) :=
  let a := evAction ws
  let p := wAt ws 5
  if a = 0 then none
  else if a = 3 then some (3, bits p 7 0)
  else if a = 4 then some (4, 0)
  else if a = 5 ∨ a = 7 then some (a, bits p 3 0)
  else if a = 6 then some (6, bits p 4 0)
  else some (a, bits p 5 0)

/-- Does the owner of a VALVE or LSW half hold its channel's lease (R131)? -/
def State.evAuth (s : State) (ws : List Word) : Bool :=
  if evAction ws = 1 then s.holds (itemValve (bits (wAt ws 5) 5 0)) (evOwner ws + 1)
  else if evAction ws = 2 then s.holds (itemSwitch (bits (wAt ws 5) 5 0)) (evOwner ws + 1)
  else true

/-- Is entry `e` released in the cycle in which its position is reached? (DESIGN CHOICE, log entry 50) -/
def State.evOnTime (s : State) (e : EvEntry) : Bool :=
  !e.missed && (match e.hit with
    | some c => c == s.cyc
    | none => !atOrPast e.fwd e.arm (s.posBefore (evDom e.act)))

/-- Target units that an action of this cycle has already used, and the releases of this cycle. -/
def State.usedUnits (s : State) : List (Nat × Nat) := if s.nym.relCyc = s.cyc then s.nym.relUnits else []
def State.relCount (s : State) : Nat := if s.nym.relCyc = s.cyc then s.nym.relN else 0

/-- May entry `e` be released now: armed, not held, reached or passed by a jump, not about to be replaced by a commit
now, its target unit free (R133, R134, R138)? -/
def State.evReady (s : State) (e : EvEntry) : Bool :=
  let d := evDom e.act
  e.armed && !e.await && !s.domHeld d && e.due s.cyc != 2 && (e.missed || e.hit.isSome || s.reached d e.fwd e.arm)
    && !((evUnit e.act).any fun u => s.usedUnits.contains u && s.evAuth e.act)

/-- The rank of an entry that may be released (R134, R135): those that wait come first, by domain and index, those that
wait for a jump after the others of their domain and by arm; then those reached in this cycle by domain and index.
(DEDUCED, log entry 49) -/
def State.evRank (s : State) (i : Nat) (e : EvEntry) : List Int :=
  if s.evOnTime e then [1, evDom e.act, 0, 0, i]
  else if e.leapt then [0, evDom e.act, 1, dirSign e.fwd * e.arm, i]
  else [0, evDom e.act, 0, 0, i]

/-- Is one rank before another? -/
def rankLt : List Int → List Int → Bool
  | a :: x, b :: y => decide (a < b) || (a == b && rankLt x y)
  | _, _ => false

/-- The entry to be released next. (DEDUCED, log entry 49, DEDUCED, log entry 57) -/
def State.evNextRelease (s : State) : Option Nat :=
  ((s.nym.ev.map Prod.fst).filter fun i => s.evReady (s.evNow i)).foldl (fun a i =>
    match a with
    | none => some i
    | some j => if rankLt (s.evRank i (s.evNow i)) (s.evRank j (s.evNow j)) then some i else some j) none

/-- A FLAG release of the K12 engine (R483). -/
def State.k12Mark (s : State) (i : Nat) : State :=
  if s.k12Runs && decide (i < 3000) then
    (s.k12Flag 0x2000).k12Set 0x0B6 (s.k12Get 0x0B6 / 0x1000 * 0x1000 + i % 0x1000)
  else s

/-- Issue the action of half `ws` of entry `i` (R130). (DEDUCED, log entry 51) -/
def State.evIssue (s : State) (i : Nat) (ws : List Word) : State :=
  let a := evAction ws
  let p := wAt ws 5
  let v := wAt ws 6
  if a = 0 then s.k12Mark i
  else if a = 1 then s.valveWrite (bits p 5 0) (bits v 13 0) true false
  else if a = 2 then s.switchWrite (bits p 5 0) (bits v 17 16) (bits v 15 0) true false
  else if a = 3 then s.sampleTrigger (bits p 7 0)
  else if a = 4 then
    let x := s.nym.trigIdx
    ({ s with nym := { s.nym with trigIdx := (x + 1) % 2 ^ 32 } }).cameraTrigger (bits p 11 0) x
  else if a = 5 then s.emit (.triadLine (bits p 3 0) (evTag ws))
  else if a = 6 then s.dmaKick (bits p 4 0) []
  else s.fusionInstant (bits p 3 0)

/-- The catch-up fraction of domain `d` (R142). -/
def State.evCatchup (s : State) (d : Nat) : Nat := min 128 (s.rd (NYM_DOM_CFG d) NYM_DOM_CFG_catchup)

/-- The schedule of an entry after its release at domain position `p` (R132, R136): the entry, and whether its period
was shortened. -/
def EvEntry.advance (e : EvEntry) (p : Int) (onTime : Bool) (f c : Nat) : EvEntry × Bool :=
  let d := dirSign e.fwd
  let ref := if onTime then e.arm else p
  let lag := (max 0 (d * (ref - e.nom))).toNat
  let left := if evRepeat e.act = repCounted then e.left - 1 else e.left
  let e1 := { e with lag := lag, left := left, missed := false, leapt := false, hit := none }
  let next := fun (nom arm : Int) => { e1 with nom := nom, arm := arm, hit := if atOrPast e.fwd arm p then some c else none }
  if evRepeat e.act = repPeriodic ∨ (evRepeat e.act = repCounted ∧ 0 < left) then
    let per : Int := evPeriod e.act
    let short : Int := (evPeriod e.act * f / 256 : Nat)
    let nom := e.nom + d * per
    let cand := ref + d * (per - short)
    if 0 < d * (cand - nom) then (next nom cand, true) else (next nom nom, false)
  else ({ e1 with armed := false }, false)

/-- Release entry `i`: its action, its lag and schedule, and a hand-over that waits for it (R131, R134, R137, R138).
(DEDUCED, log entry 49) -/
def State.evRelease (s : State) (i : Nat) : State :=
  let e := s.evNow i
  let d := evDom e.act
  let auth := s.evAuth e.act
  let s1 :=
    if auth then s.evIssue i e.act
    else (s.bump (NYM_DOM_NA d) NYM_DOM_NA_noauth_cnt).note (0x0230 + d) (evTag e.act + i * 2 ^ 16)
  let x := e.advance (s.pos d) (s.evOnTime e) (s.evCatchup d) s.cyc
  let s2 := s1.setEv i x.1
  let s3 := if x.1.lag = 0 then s2
    else (s2.bump (NYM_DOM_CNT d) NYM_DOM_CNT_late_cnt).wrMax (NYM_DOM_LAG d) NYM_DOM_LAG_max_lag x.1.lag
  let s4 := if x.2 then s3.bump (NYM_DOM_CNT d) NYM_DOM_CNT_short_cnt else s3
  let units := match evUnit e.act with
    | some u => if auth then u :: s.usedUnits else s.usedUnits
    | none => s.usedUnits
  let s5 := { s4 with nym := { s4.nym with relCyc := s.cyc, relN := s.relCount + 1, relUnits := units } }
  if e.due s.cyc = 1 then s5.evCopy i true else s5

/-- Would entry `i`, a native one in K12 mode, write a channel of the K12 engine (R489)? -/
def State.evForeign (s : State) (i : Nat) : Bool :=
  let ws := (s.evNow i).act
  let ch := bits (wAt ws 5) 5 0
  s.isK12 && decide (3000 ≤ i) && s.evAuth ws
    && ((evAction ws == 1 && decide (ch < 16)) || (evAction ws == 2 && decide (16 ≤ ch) && decide (ch < 40)))

/-- EVENT_RELEASE: Nymgor releases the entry that comes next, at most four in a cycle. -/
def execEventRelease (t : Nat) (s : State) : Out :=
  let s := s.at t
  if 4 ≤ s.relCount then .next s
  else
    match s.evNextRelease with
    | none => .next s
    | some i => if s.evForeign i then .fault .k12Misuse else .next (s.evRelease i)

end Sys2Proof.Machine
end

