-- ==== Sys2Proof/Machine/Update.lean ====
section
/-! DEFINITION. The update ring (R461, R463, R466). -/

namespace Sys2Proof.Machine

/-- Does UPD_SLOT.next name another slot than the one booted? -/
def State.slotMoved (s : State) : Bool := s.rd UPD_SLOT UPD_SLOT_next != s.actSlot

/-- UPD_BEGIN. -/
def execUpdBegin (t : Nat) (r : Fin 64) (s : State) : Out :=
  (s.at t).ringOp r 0x13 0 1 fun s d =>
    let ty := bits (d.par 8) 7 0
    if s.upd.sess.isSome then .next (s.endOp r d.slot stWrongState 0 0)
    else if ty = 0 ∨ 0x0B < ty then .next (s.endOp r d.slot stBadParam 0 0)
    else if slotType ty ∧ s.slotMoved then .next (s.endOp r d.slot stWrongState 0 0)
    else .next ((s.sessOpen ty (bits (d.par 8) 10 8) (1 - s.actSlot)).endOp r d.slot stDone 0 0)

/-- UPD_WRITE. Bytes through both the intake and WRITE in one session are misuse (R471). -/
def execUpdWrite (t : Nat) (r : Fin 64) (buf : List Byte) (s : State) : Out :=
  (s.at t).ringOp r 0x13 0 2 fun s d =>
    s.takesBuf r d buf.length <|
      let a := s.sessWrite (d.par 9).toNat (s.bufIn r d buf)
      if d.len = 0 then .next (s.endOp r d.slot stDone 0 0)
      else if a.2 = stDone ∧ s.sessFed then .fault .updateMisuse
      else .next (a.1.endOp r d.slot a.2 (if a.2 = stDone then d.len else 0) 0)

/-- FINISH: `sig` is what the check of the signature finds. -/
def execFinish (t : Nat) (r : Fin 64) (sig : Bool) (s : State) : Out :=
  (s.at t).ringOp r 0x13 0 3 fun s d =>
    match s.upd.sess with
    | none => .next (s.endOp r d.slot stWrongState 0 0)
    | some y => .next ((s.sessFinish y sig).1.endOp r d.slot stDone 0 (s.sessFinish y sig).2)

/-- ABORT. (DESIGN CHOICE, log entry 89) -/
def execAbort (t : Nat) (r : Fin 64) (s : State) : Out :=
  (s.at t).ringOp r 0x13 0 4 fun s d => .next (s.sessClose.endOp r d.slot stDone 0 0)

/-- COPY. (DESIGN CHOICE, log entry 89) -/
def execCopy (t : Nat) (r : Fin 64) (s : State) : Out :=
  (s.at t).ringOp r 0x13 0 5 fun s d =>
    let ty := bits (d.par 8) 7 0
    let i := bits (d.par 8) 10 8
    if s.upd.sess.isSome ∨ s.slotMoved then .next (s.endOp r d.slot stWrongState 0 0)
    else if !slotType ty then .next (s.endOp r d.slot stBadParam 0 0)
    else .next ((s.setImg (1 - s.actSlot) ty i (s.img s.actSlot ty i)).endOp r d.slot stDone 0 0)

/-- ACTIVATE: the boot record keeps the slot booted, to which a trial that fails returns (R463). (DEDUCED, log entry 91) -/
def execActivate (t : Nat) (r : Fin 64) (s : State) : Out :=
  (s.at t).ringOp r 0x13 0 6 fun s d =>
    let k := bits (d.par 8) 0 0
    if s.upd.sess.isSome then .next (s.endOp r d.slot stWrongState 0 0)
    else if k = s.actSlot ∧ s.slotFloors k then .next ((s.setBoot ⟨s.actSlot, k, false, false⟩).endOp r d.slot stDone 0 0)
    else if !s.slotReady k then .next (s.endOp r d.slot stWrongState 0 0)
    else .next ((s.setBoot ⟨s.actSlot, k, true, false⟩).endOp r d.slot stDone 0 0)

/-- The migration report; with no migration at this start it has no entries (R466). -/
def State.reportWords (s : State) : List Word :=
  let m := s.kept.report
  let l := if s.upd.migrated then m.entries else []
  [lo32 m.time, hi32 m.time, packW [(m.from_, 16), (m.to_, 0)], word l.length] ++ l ++ List.replicate ((4 - l.length % 4) % 4) 0#32

/-- REPORT. -/
def execReport (t : Nat) (r : Fin 64) (s : State) : Out :=
  (s.at t).ringOp r 0x13 0 7 fun s d =>
    let ws := s.reportWords
    s.givesBuf r d <|
    if d.len = 0 then .next (s.endOp r d.slot stDone 0 0)
    else if d.len < 4 * ws.length then .next (s.endOp r d.slot stBadParam 0 0)
    else .next ((s.bufOut r d 0 ws).endOp r d.slot stDone (4 * ws.length) 0)

end Sys2Proof.Machine
end

