-- ==== Sys2Proof/Machine/Start.lean ====
section
/-! DEFINITION. From power-good to full native readiness: the stages of R69, the personality (R74, R75), the images
(R77, R459), the settings (R79, R465, R466), the slots (R463, R464) and the entry to axolotl (R70, R467). -/

namespace Sys2Proof.Machine

/-- What comes after a command that has gone on. -/
def andThen (o : Out) (k : State → Out) : Out :=
  match o with
  | .next s => k s
  | .fault f => .fault f
  | .refused r => .refused r

/-! Stages. -/

/-- Has stage `k` ended, or did its image fail (R77)? -/
def State.loaded (s : State) (k : Nat) : Bool := s.passed k || s.pow.failed.contains k

/-- Stages that must have ended before stage `k`: GNSS and port A follow stage 12, and the images of vision and of the
models are loaded after those before them in R77's list; with an image of items 1 to 3 failed, stage 11 is never reached
and the others go on. (DESIGN CHOICE, log entry 28) -/
def State.stageAfter (s : State) (k : Nat) : Bool :=
  if s.pow.axo then (k == 2 && s.passed 1) || (k == 3 && s.passed 2) || (k == 8 && s.passed 3)
  else if k ≤ 7 then s.passed (k - 1)
  else if k = 8 then s.passed 4
  else if k = 9 then s.passed 7 && s.passed 8
  else if k = 10 then s.passed 9
  else if k = 11 then s.passed 10 && !s.pow.imgFail
  else if k = 12 then s.passed 11 || (s.passed 10 && s.pow.imgFail)
  else if k = 15 then s.loaded 13
  else if k = 16 then s.loaded 15
  else if k = 17 then s.passed 13 && s.passed 16
  else s.passed 12

/-- May stage `k` end now? A power-fail warning replaces the rest of a start (R86); a running orderly stop powers no
panel. (DESIGN CHOICE, log entry 3, DESIGN CHOICE, log entry 28, DEDUCED, log entry 29) -/
def State.mayStage (s : State) (k : Nat) : Bool :=
  s.pow.on && !s.loaded k && s.pow.holdUp.isNone && !(s.pow.stop.isSome && k == 14) && s.stageAfter k

def State.pass (s : State) (k : Nat) : State := s.setPow { s.pow with passed := k :: s.pow.passed }

/-- A bit of SYS_START. -/
def State.started (s : State) (f : Fld) : State := s.wr SYS_START f 1

/-! Power-good (R68). -/

/-- The cause of a start at cycle `c`, when one may come. After a hold-up the decision falls 100 ms after the rails went
off (R62). (DEDUCED, log entry 38) -/
def Power.cause (p : Power) (c : Nat) : Option Nat :=
  match p.wait with
  | .powerOn => some 0
  | .holdUp lf =>
    if c < p.railsOffAt + ms 100 then none
    else if lf ∧ p.wakeSince ≤ p.railsOffAt + ms 100 then some 1 else some 0
  | .after k => if k = 7 ∨ p.railsOffAt + ms 100 ≤ c then some k else none
  | .wakeCycle seen => if seen then some 6 else none
  | .cooling => none
  | .cooled => some 4

/-- The boot ROM enters axolotl (R467). -/
def State.enterAxo (s : State) (why : Nat) : State :=
  ((s.setPow { s.pow with axo := true, axoWhy := why }).wr UPD_AXO_STAT UPD_AXO_STAT_reason why).setReg SYS_BAR2_BASE
    0x80000000#32

/-- The boot record at a start (R463): the start after a trial starts the trial; one that finds a trial begun and not
confirmed returns to the slot before. (DEDUCED, log entry 31) -/
def State.trialStart (s : State) : State :=
  let b := s.kept.boot
  if b.trying then ((s.setBoot ⟨b.act, b.act, false, false⟩).wr UPD_SLOT UPD_SLOT_tfail 1).note 0x1320 0
  else if b.trial then s.setBoot { b with trying := true }
  else s.slotSync

/-- MTIME starts from the always-on seconds count, or from 0 (R337). -/
def State.timeStart (s : State) : State :=
  let m := match s.kept.secs with
    | some (n, c) => (n + (s.cyc - c) / sec 1) * 1000000000
    | none => 0
  let s1 := { s with mtOff := (m + (2 ^ 64 - 5 * s.cyc % 2 ^ 64)) % 2 ^ 64 }
  s1.setGns { s1.gns with foffAt := s.cyc, kept := s.kept.secs.isSome, valid := s.kept.secs.isSome }

/-- POWER_GOOD: `strap` is the level at X1.A07, 0 low, 1 between 1.0 and 3.0 V, 2 high (R56).
(DESIGN CHOICE, log entry 4) -/
def execPowerGood (t : Nat) (strap : Fin 3) (s : State) : Out :=
  let s := s.at t
  match s.pow.cause s.cyc with
  | none => .next s
  | some c =>
    if s.pow.on || !s.pow.wake then .next s
    else
      let p := { s.pow with
        on := true, t0 := s.cyc, passed := [1], wait := .powerOn
        noLinkAt := if s.pow.perst then none else some (s.cyc + sec 1) }
      let s1 := ((s.setPow p).setThm Thm.init).timeStart
      let s2 := ((s1.wr SYS_START SYS_START_cause c).wr THM_SUPPLY THM_SUPPLY_strap_low (b2n (strap == 0))).wr
        SYS_PERSONALITY SYS_PERSONALITY_strap_low (b2n (strap == 0))
      let s3 := if strap = 1 then s2.note 0x0010 0 else s2
      let s4 := s3.trialStart
      .next (if c = 7 then s4.enterAxo 1 else if s4.rd UPD_SLOT UPD_SLOT_bfail = 3 then s4.enterAxo 2 else s4)

/-- BOOT_FAIL_TIMER (R464): 1 s past power-good without stage 11. (DEDUCED, log entry 31) -/
def execBootFailTimer (t : Nat) (s : State) : Out :=
  let s := s.at t
  if !s.pow.on || s.passed 11 || s.pow.bfailCounted || decide (s.cyc < s.pow.t0 + sec 1) then .next s
  else .next ((s.setPow { s.pow with bfailCounted := true }).wr UPD_SLOT UPD_SLOT_bfail
    (min 3 (s.rd UPD_SLOT UPD_SLOT_bfail + 1)))

/-- OUTPUTS_SAFE_HOLD: stage 2. Every channel is off since the rails came up. -/
def execOutputsSafeHold (t : Nat) (s : State) : Out :=
  let s := s.at t
  if s.mayStage 2 then .next ((s.pass 2).started SYS_START_safe_hold) else .next s

/-- FIRST_HOUSEKEEPING_END: stage 3. -/
def execFirstHousekeepingEnd (t : Nat) (x : Round) (s : State) : Out :=
  let s := s.at t
  if s.mayStage 3 then .next ((s.round x).pass 3) else .next s

/-- DRAM_TRAINED: stage 4. -/
def execDramTrained (t : Nat) (s : State) : Out :=
  let s := s.at t
  if s.mayStage 4 then .next (s.pass 4) else .next s

/-! Stage 5. -/

/-- Does an image of the booted slot, or one held once, pass its verification: valid, not below its floor, and `ok`, what
the check of its signature finds (R460)? -/
def State.imageGood (s : State) (slot ty idx : Nat) (ok : Bool) : Bool :=
  (s.img slot ty idx).valid && decide (s.floor ty idx ≤ (s.img slot ty idx).ctr) && ok

/-- The personality of the run (R74, R75). -/
def State.personality (s : State) (header : Bool) : State :=
  let sel := if header then s.kept.pers else 0
  let low := s.bit SYS_PERSONALITY SYS_PERSONALITY_strap_low
  let s1 := (s.wr SYS_PERSONALITY SYS_PERSONALITY_src sel).wr SYS_PERSONALITY SYS_PERSONALITY_k12
    (b2n (sel == 2 || (sel == 0 && low)))
  let s2 := if sel = 1 ∧ low then s1.note 0x0011 0 else s1
  if header then s2 else s2.note 0x0015 0

/-- TRIAD_IMAGE_VERIFIED: `okA` and `okB` are what the check of each slot's signature finds, `header` that pers_sel can be
read, `record` that the boot record can. (DEDUCED, log entry 31) -/
def execTriadImageVerified (t : Nat) (okA okB header record : Bool) (s : State) : Out :=
  let s := s.at t
  if !s.mayStage 5 then .next s
  else
    let s1 := if record then s else s.setBoot ⟨0, 0, false, false⟩
    let a := s1.kept.boot.next
    let ok := fun (k : Nat) => s1.imageGood k 1 0 (if k = 0 then okA else okB)
    if ok a then .next (((s1.wr UPD_SLOT UPD_SLOT_act a).personality header).pass 5)
    else if ok (1 - a) then
      .next ((((s1.wr UPD_SLOT UPD_SLOT_act (1 - a)).started SYS_START_fallback).personality header).pass 5)
    else .next (s1.enterAxo 0)

/-- TRIAD_RELEASE: stage 6. -/
def execTriadRelease (t : Nat) (s : State) : Out :=
  let s := s.at t
  if s.mayStage 6 then .next ((s.pass 6).wr TRI_STAT TRI_STAT_live (7 - s.rd FLT_FENCE FLT_FENCE_fenced % 8)) else .next s

/-! Stages 7 and 8. -/

/-- Set up channel `n` from words 4n to 4n + 3 of the copy, or at its reset values (R352). -/
def State.canStart (s : State) (n : Nat) : State :=
  match (if s.isK12 ∧ n < 2 then none else s.kept.canCopy) with
  | some ws =>
    (((s.setReg (CAN_CFG n) (wAt ws (4 * n))).setReg (CAN_NBT n) (wAt ws (4 * n + 1))).setReg (CAN_DBT n)
      (wAt ws (4 * n + 2))).setReg (CAN_QCFG n) (wAt ws (4 * n + 3))
  | none => if n < 2 then s.wr (CAN_CFG n) CAN_CFG_en 1 else s

/-- CROAK starts high, unless a fault has stopped it already (R430). -/
def State.croakStart (s : State) : State :=
  if s.flt.croakStopped then s
  else
    let s1 := (s.wr FLT_STAT FLT_STAT_alive 1).wr FLT_STAT FLT_STAT_level 1
    { s1 with flt := { s1.flt with croakAt := s1.cyc + 100000 } }

/-- CAN_CROAK_ALIVE: stage 7. -/
def execCanCroakAlive (t : Nat) (s : State) : Out :=
  let s := s.at t
  if s.mayStage 7 then
    .next (((List.range 8).foldl State.canStart ((s.pass 7).started SYS_START_croak_alive)).croakStart)
  else .next s

/-- PCIE_CONFIG_READY: stage 8. -/
def execPcieConfigReady (t : Nat) (s : State) : Out :=
  let s := s.at t
  if s.mayStage 8 then .next ((s.pass 8).started SYS_START_pcie_ready) else .next s

/-! Settings. -/

/-- The stage at which a settings item's register is loaded; 0 for none. -/
def setStage (off : Nat) : Nat :=
  let b := off / 0x10000
  if off = SYS_STOP_CFG then 9
  else if b = 0xD then 12
  else if b = 0xB then 13
  else if b = 0xA then 15
  else if b = 0xF then (if portAReg off then 14 else 12)
  else if (2 ≤ b ∧ b ≤ 9) ∨ (0x10 ≤ b ∧ b ≤ 0x14) then 10
  else 0

/-- The bits of a register that the K12 engine keeps to itself in K12 mode (R472, R274): the settings do not reach them. -/
def State.k12Mask (s : State) (off : Nat) : Nat :=
  let all := 2 ^ 32 - 1
  if !s.isK12 then 0
  else if off = VDR_PAIR ∨ (VDR_CFGn 0 ≤ off ∧ off < VDR_CFGn 16) then all
  else if LSW_CFG 16 ≤ off ∧ off < LSW_CFG 40 then all
  else if SNS_AIN_CFG 0 ≤ off ∧ off < SNS_AIN_CFG 16 then all
  else if SNS_FIN_CFG 0 ≤ off ∧ off < SNS_FIN_CFG 4 then all
  else if off = NYM_SHAFT_CFG 0 ∨ off = NYM_SHAFT_GEO 0 ∨ off = NYM_DOM_CFG 1 ∨ off = NYM_DOM_CFG 2 then all
  else if off = TRI_GRP 30 ∨ off = TRI_GRP 31 then all
  else (k12Own off).getD 0

/-- SYS_STOP_CFG from the settings: hold is not stored, and stays as the host has set it (R83, R86). -/
def State.loadStop (s : State) (v : Word) : State :=
  s.setReg SYS_STOP_CFG (SYS_STOP_CFG_delay.put (s.reg SYS_STOP_CFG) (SYS_STOP_CFG_delay.get v))

/-- The ports and the receiver are enabled at reset, and take their set-up from the settings all the same (R81, R348). -/
def State.loadSetup (s : State) (off : Nat) (v : Word) : Out :=
  if off = GNS_CFG then .next (s.gnsConfig v)
  else
    match regIdx off (NET_PORT 0) 0x20 7 with
    | some k => if netPortBad v then .fault .netMisuse else .next (s.netPortWrite k v)
    | none => s.regRoute off v

/-- Load a register from the settings: it takes the value as a write would, with its reserved bits 0. -/
def State.loadReg (s : State) (off : Nat) (v : Word) : Out :=
  let m := s.k12Mask off
  if off = SYS_STOP_CFG then .next (s.loadStop v)
  else if m = 2 ^ 32 - 1 then .next s
  else s.loadSetup off (((v &&& ~~~(reservedOf off v)) &&& ~~~(word m)) ||| (s.reg off &&& word m))

/-- Set word `key` of a half. -/
def putWord (ws : List Word) (key : Nat) (v : Word) : List Word := modAt (fun _ => v) key ws

/-- What a settings item sets beside registers, at stage `k`. -/
def State.loadPart (s : State) (k : Nat) (x : Nat × Nat × Nat × Word) : State :=
  let n := x.2.1
  let key := x.2.2.1
  let v := x.2.2.2
  if k = 10 ∧ n < 64 ∧ x.1 = 1 then s.setLoop n { s.loop n with sh := putWord (s.loop n).sh key v }
  else if k = 10 ∧ n < 64 ∧ x.1 = 2 then s.setLoop n { s.loop n with act := putWord (s.loop n).act key v }
  else if k = 10 ∧ x.1 = 3 then s.setPool key v
  else if k = 10 ∧ x.1 = 4 then s.setHsl { s.hsl with sh := cellSet (fun _ => 0#32) s.hsl.sh key v }
  else if k = 10 ∧ x.1 = 5 then s.setHsl { s.hsl with act := cellSet (fun _ => 0#32) s.hsl.act key v }
  else if k = 15 ∧ n < 12 ∧ x.1 = 6 then
    s.setCam n { s.cam n with sh := cellSet (fun _ => 0#32) (s.cam n).sh key v }
  else if k = 15 ∧ n < 12 ∧ x.1 = 7 then
    s.setCam n { s.cam n with act := cellSet (fun _ => 0#32) (s.cam n).act key v }
  else s

/-- What the items in use set; with default settings, nothing (R79). (DESIGN CHOICE, log entry 32) -/
def State.setsInUse (s : State) : List (Nat × Nat × Nat × Word) :=
  if s.bit SYS_START SYS_START_defaults then []
  else s.kept.items.flatMap fun i => Config.itemSets i.id i.ver i.data

/-- When a register is loaded within its stage: 0 first, then those that enable what others set up, and 2 and 3 last those
that rest on what is enabled. No set-up register is then loaded while its unit is enabled. -/
def loadRank (off : Nat) : Nat :=
  let at_ := fun (b stride n : Nat) => (regIdx off b stride n).isSome
  if off = FUS_YLD_CFG ∨ at_ (FUS_SCHED 0) 8 16 then 3
  else if at_ (FUS_FU_CFG 0) 0x20 16 then 2
  else if off = NYM_GND_CFG ∨ off = HSL_CFG ∨ off = GNS_CFG ∨ off = NET_RP_CFG ∨ off = DPY_A_CFG ∨ off = DPY_B_CFG
      ∨ at_ (NYM_SHAFT_CFG 0) 0x20 8 ∨ at_ (VDR_CFGn 0) 0x20 48 ∨ at_ (LSW_CFG 0) 0x20 64 ∨ at_ (SNS_AIN_CFG 0) 8 64
      ∨ at_ (SNS_FIN_CFG 0) 8 24 ∨ at_ (SNS_LOSS_CFG 0) (SNS_LOSS_CFG 1 - SNS_LOSS_CFG 0) 16
      ∨ at_ (VIS_CAM_CFG 0) 0x40 12 ∨ at_ (VIS_ENC_CFG 0) 0x20 4 ∨ at_ (NET_PORT 0) 0x20 7
  then 1
  else 0

/-- Load the settings of stage `k`: the registers that enable nothing, then halves and tables, then the registers that
enable, each in order. (DESIGN CHOICE, log entry 32) -/
def State.loadStage (s : State) (k : Nat) : Out :=
  let l := s.setsInUse
  let regs := fun (o : Out) (rank : Nat) =>
    (l.filter fun x => x.1 == 0 && setStage x.2.2.1 == k && loadRank x.2.2.1 == rank).foldl
      (fun o x => andThen o fun s => s.loadReg x.2.2.1 x.2.2.2) o
  regs (regs (regs (andThen (regs (.next s) 0) fun s => .next (l.foldl (fun s x => s.loadPart k x) s)) 1) 2) 3

/-! Stage 9. -/

/-- Replace the settings store by items and the values the module has stored in them; pers_sel in its header is the stored
one, else what the items set, else `dflt`. -/
def State.putStore (s : State) (ver : Nat) (items : List SetItem) (regs : Cells (Option Word)) (dflt : Nat) : State :=
  let p := match cellGet (fun _ => none) regs SYS_PERSONALITY with
    | some w => w.toNat
    | none => (items.flatMap fun i => Config.itemSets i.id i.ver i.data).foldl
        (fun a x => if x.1 = 8 then bits x.2.2.2 1 0 else a) dflt
  { s with kept := { s.kept with setVer := ver, items := items, setRegs := regs, pers := p } }

/-- A SETTINGS image is used once: it replaces the store, and its floor rises (R458, R460). One that fails its
verification names no unit (R459). (DESIGN CHOICE, log entry 32, DESIGN CHOICE, log entry 33) -/
def State.useSettings (s : State) (ok : Bool) : State :=
  let i := s.img 0 9 0
  if !i.valid then s
  else if s.imageGood 0 9 0 ok then
    let s1 := (s.raiseFloor 9 0 i.ctr).setImg 0 9 0 Image.init
    s1.putStore i.setVer ((Config.settingsItems i.pay).map fun x => ⟨x.1, x.2.1, x.2.2⟩) [] s.kept.pers
  else (s.fltPut 0x1309 1 0 0 false).croakStop

/-- Migrate an item from version `v` by `n` steps (R465). -/
def migrate (pay : List Byte) (id : Nat) : Nat → Nat → List Byte → Option (List Byte)
  | 0, _, d => some d
  | n + 1, v, d => match Config.itemMigrate pay id v d with
    | some x => migrate pay id n (v + 1) x
    | none => none

/-- What becomes of a stored item: the item kept, and its outcome (0 MIGRATED, 1 DEFAULTED, 2 DROPPED), none for one kept
as it is. (DESIGN CHOICE, log entry 33) -/
def migrateItem (pay : List Byte) (i : SetItem) : Option SetItem × Option Nat :=
  match (Config.itemsKnown pay).find? fun k => k.1 == i.id with
  | none => (none, some 2)
  | some k =>
    let dflt : SetItem := ⟨i.id, k.2, Config.itemDefault pay i.id⟩
    if i.ver = k.2 then (some i, none)
    else if k.2 < i.ver then (some dflt, some 1)
    else match migrate pay i.id (k.2 - i.ver) i.ver i.data with
      | some d => (some ⟨i.id, k.2, d⟩, some 0)
      | none => (some dflt, some 1)

/-- What becomes of a value the module has stored in an item: kept or migrated with it, or gone with what it held.
(DESIGN CHOICE, log entry 33) -/
def migrateValue (pay : List Byte) (old : List SetItem) (off : Nat) (w : Word) : Option Word :=
  match old.find? fun i => i.id == itemOf off with
  | none => none
  | some i => match (migrateItem pay i).2 with
    | none => some w
    | some 0 => some (Config.valueMigrate pay i.id i.ver off w)
    | some _ => none

/-- An entry of the report (R466). -/
def migEntry (id outcome ver : Nat) : Word := packW [(id % 2 ^ 16, 16), (outcome, 14), (ver % 2 ^ 14, 0)]

/-- The settings migration (R465, R466): entries are listed by outcome, as the worked example of spec/20 lists them.
(DESIGN CHOICE, log entry 33) -/
def State.migration (s : State) (img : Image) : State :=
  let pay := img.pay
  let old := s.kept.items
  let r := old.map fun i => (i, migrateItem pay i)
  let fresh := (Config.itemsKnown pay).filter fun k => !old.any fun i => i.id == k.1
  let items := (r.filterMap fun x => x.2.1) ++ fresh.map fun k => ⟨k.1, k.2, Config.itemDefault pay k.1⟩
  let of := fun (o : Nat) => (r.filter fun x => x.2.2 == some o).map fun x => migEntry x.1.id o x.1.ver
  let news := fresh.map fun k => migEntry k.1 3 0
  let regs := s.kept.setRegs.filterMap fun x => (x.2.bind (migrateValue pay old x.1)).map fun w => (x.1, some w)
  let gone := (cellGet (fun _ => none) s.kept.setRegs SYS_PERSONALITY).isSome
  let s1 := s.putStore img.setVer items regs (if gone then 0 else s.kept.pers)
  let rep : MigReport := ⟨s.mtime, s.kept.setVer, img.setVer, of 0 ++ of 1 ++ of 2 ++ news⟩
  let s2 := { s1 with
    kept := { s1.kept with prior := some (s.kept.setVer, old, s.kept.setRegs), report := rep }
    upd := { s1.upd with migrated := true } }
  let s3 := (((s2.wr UPD_MIG UPD_MIG_migrated (min 255 (of 0).length)).wr UPD_MIG UPD_MIG_defaulted
    (min 255 (of 1).length)).wr UPD_MIG UPD_MIG_dropped (min 255 (of 2).length)).wr UPD_MIG UPD_MIG_new
    (min 255 news.length)
  let s4 := s3.started SYS_START_migrated
  if (of 1).isEmpty && (of 2).isEmpty then s4 else s4.note 0x1330 0

/-- The store against the settings version of the booted TRIAD image: used, exchanged for the kept one, or migrated. -/
def State.storeVersion (s : State) : State :=
  let img := s.img s.actSlot 1 0
  if s.kept.setVer = img.setVer then s
  else match s.kept.prior with
    | some (v, l, regs) =>
      if v = img.setVer then
        let s1 := s.putStore v l regs s.kept.pers
        { s1 with kept := { s1.kept with prior := some (s.kept.setVer, s.kept.items, s.kept.setRegs) } }
      else s.migration img
    | none => s.migration img

/-- Default settings (R79); what the store kept is lost but for the pers_sel of its header, which the write of the
defaults resets. -/
def State.storeDefaults (s : State) : State :=
  let k := { s.kept with
    setVer := (s.img s.actSlot 1 0).setVer, items := [], setRegs := [] }
  (({ s with kept := k }.started SYS_START_defaults).setPow { s.pow with defaultsDue := true }).raise2 0x0014 0

/-- SETTINGS_READ: `ok` says that the store is intact, `image` what the check of a SETTINGS image finds.
(DESIGN CHOICE, log entry 32) -/
def execSettingsRead (t : Nat) (ok image : Bool) (s : State) : Out :=
  let s := s.at t
  if !s.mayStage 9 then .next s
  else
    let fresh := (s.img 0 9 0).valid && s.imageGood 0 9 0 image
    let s1 := s.useSettings image
    let s2 := if ok || fresh then s1.storeVersion else s1.storeDefaults
    let sel := if s2.bit SYS_START SYS_START_defaults then 0 else s2.kept.pers
    let s3 := ((s2.pass 9).started SYS_START_settings_ok).wr SYS_PERSONALITY SYS_PERSONALITY_pers_sel sel
    andThen (s3.loadStage 9) fun s => match cellGet (fun _ => none) s.kept.setRegs SYS_STOP_CFG with
      | some w => .next (s.loadStop w)
      | none => .next s

/-- DEFAULT_SETTINGS_WRITTEN: `ok` says that the write succeeded; else the fault stays open for the run. What the host
has had stored since stands. -/
def execDefaultSettingsWritten (t : Nat) (ok : Bool) (s : State) : Out :=
  let s := s.at t
  if !s.pow.defaultsDue then .next s
  else
    let s1 := s.setPow { s.pow with defaultsDue := false }
    if ok then
      let s2 := if s1.pow.persHost then s1
        else ({ s1 with kept := { s1.kept with pers := 0 } }).wr SYS_PERSONALITY SYS_PERSONALITY_pers_sel 0
      .next (s2.clear2 0x0014)
    else .next s1

/-! Stage 10. -/

/-- A sub-processor image is verified; one that fails raises its fault and its unit stays fenced (R77, R459).
(DESIGN CHOICE, log entry 30) -/
def State.verify (s : State) (ty idx u : Nat) (ok : Bool) : State :=
  if s.imageGood s.actSlot ty idx ok then s else s.raise1 (0x1300 + ty) (if ty = 8 then idx else 0) u

/-- The Class A images: lease logic, control engine, sensor front ends, and the K12 engine in K12 mode.
(DESIGN CHOICE, log entry 30) -/
def State.classA (s : State) (bad : List (Fin 12)) : State :=
  let tys := if s.isK12 then [2, 3, 4, 5] else [2, 3, 4]
  let s1 := tys.foldl (fun s ty => s.verify ty 0 (ty + 1) (!bad.contains (Fin.ofNat 12 ty))) s
  let fail := [2, 3, 4].any fun ty => !s.imageGood s.actSlot ty 0 (!bad.contains (Fin.ofNat 12 ty))
  s1.setPow { s1.pow with imgFail := fail }

/-- The MISSING entry of R437, when one is due: entries lost, first and last. A store that ends past the marker has lost none
of what it names. Without a marker or a STOP entry the range is
not known, and the spec gives no first and last then. (DESIGN CHOICE, log entry 88) -/
def State.missing (s : State) : Option (List Word) :=
  let first := match s.recr.store.getLast? with
    | some e => (e.seq + 1) % 2 ^ 32
    | none => 0
  match s.recr.marker with
  | some (q, _) =>
    let n := (q + 1 + 2 ^ 32 - first) % 2 ^ 32
    if n = 0 ∨ 2 ^ 31 ≤ n then none else some [lo32 n, lo32 first, lo32 q, 0#32]
  | none =>
    if s.recr.clean then none
    else some [0xFFFFFFFF#32, Config.freeWord s.free, Config.freeWord (s.free + 1), 0#32]

/-- The recorder's entries of stage 10, in the order of R433. -/
def State.recStart (s : State) : State :=
  let m := s.missing
  let s0 := s.freeAdd 2
  let s1 := match m with
    | some ws => (s0.addEntry s.mtime 5 ws).1
    | none => s0
  let s2 := s1.setRecr { s1.recr with marker := none, clean := false, perFrom := s1.cyc }
  let s3 := (s2.addEntry s2.mtime 3 [s2.reg SYS_ID, s2.reg SYS_START, s2.reg THM_SUPPLY, 0#32]).1
  let held := s3.flt.held
  let s4 := held.foldl State.fltApply { s3 with flt := { s3.flt with wins := [], held := [] } }
  if m.isSome then (s4.wr REC_STAT REC_STAT_unclean_seen 1).note 0x1102 0 else s4

/-- Loops whose loaded active half has en 1 start as after a hand-over that sets it (R171). -/
def State.loopsStart (s : State) : State :=
  (List.range 64).foldl (fun s n =>
    let l := s.loop n
    if lpEn l.act then s.setLoop n (l.changed n (List.replicate 32 0#32) l.act s.mtime) else s) s

/-- The set-up the settings store gives the engines is one their chapters forbid. -/
def State.loadedBad (s : State) : Option Fault :=
  if (List.range 64).any fun n => s.outBad n (s.loop n).act then some .controlEngineMisuse
  else if problemBad s.hsl.act then some .settingLoopMisuse
  else none

/-- What else the store keeps: the scale of GROUND, the transport delay, THM_CFG and THM_SHUT (R124, R270, R453).
(DEDUCED, log entry 42) -/
def State.loadKept (s : State) (regs : Cells (Option Word)) : State :=
  let kept := fun off => cellGet (fun _ => none) regs off
  let scale : Nat := match kept NYM_GND_STAT with
    | some w => w.toNat
    | none => 2 ^ 24
  let dev : Int := ((scale : Int) - 2 ^ 24) / 2 ^ 11
  let s1 := (s.setGnd { s.nym.gnd with scale := scale }).wr NYM_GND_STAT NYM_GND_STAT_scale_dev
    (dev % 2 ^ 12).toNat
  let s2 := match kept FUS_YLD_DLY with
    | some d => s1.wr FUS_YLD_DLY FUS_YLD_DLY_delay d.toNat
    | none => s1
  let s3 := [THM_CFG, THM_SHUT].foldl (fun s off => match kept off with
    | some w => s.store off w
    | none => s) { s2 with kept := { s2.kept with setRegs := regs } }
  s3.setThm { s3.thm with cfg := s3.reg THM_CFG, shut := s3.reg THM_SHUT }

/-- The triad is ready from stage 10: its first commit is the first that lies ahead; group 0 may be granted (R177, R189).
(DEDUCED, log entry 47) -/
def State.triadStart (s : State) : State :=
  let k := s.mtime / 250000 + 1
  ({ s with tri := { s.tri with nextK := k, cfg := s.reg TRI_CFG, due := s.cyc + (k * 250000 - s.mtime + 4) / 5 } }).wr TRI_OVR_STAT
    TRI_OVR_STAT_armed (b2n (!s.bit TRI_OVR_STAT TRI_OVR_STAT_act0 && !s.bit TRI_OVR_STAT TRI_OVR_STAT_act1))

/-- CLASS_A_IMAGES_LOADED: stage 10; `bad` holds the image types whose signature fails. (DEDUCED, log entry 101) -/
def execClassAImagesLoaded (t : Nat) (bad : List (Fin 12)) (s : State) : Out :=
  let s := s.at t
  if !s.mayStage 10 then .next s
  else
    let s1 := (((s.classA bad).guarSet SYS_GUAR_reload SYS_GUAR_reload_seen false).pass 10).recStart
    let regs := s1.kept.setRegs
    andThen (s1.loadStage 10) fun s =>
      match s.loadedBad with
      | some f => .fault f
      | none =>
        let s2 := (s.loadKept regs).loopsStart
        let s2 := if s2.isK12 then s2.k12Claim else s2
        let s3 := if s2.k12Runs then s2.k12Setup else s2
        .next s3.triadStart

/-! Stage 11. -/

/-- AUTHORITY_POSSIBLE: leases can be granted; a trial slot is confirmed (R463, R464). -/
def execAuthorityPossible (t : Nat) (s : State) : Out :=
  let s := s.at t
  if !s.mayStage 11 then .next s
  else
    let s1 := ((s.pass 11).started SYS_START_authority_ok).wr UPD_SLOT UPD_SLOT_bfail 0
    let s2 := if s1.kept.boot.trying then s1.confirmSlot s1.actSlot else s1
    let s3 := s2.wr TRI_STAT TRI_STAT_mstate 1
    .next ({ s3 with tri := { s3.tri with stillFrom := s3.cyc } }).k12Lease

/-! Stages 12 to 17. -/

/-- An image held once, of type `ty`, that passes its verification is used, and its floor rises; one that fails raises the
F1 fault of R77, which names no unit (R459, R460). (DESIGN CHOICE, log entry 33) -/
def State.onceImage (s : State) (ty : Nat) (ok : Bool) : State :=
  if s.imageGood 0 ty 0 ok then s.raiseFloor ty 0 (s.img 0 ty 0).ctr
  else if (s.img 0 ty 0).valid then (s.fltPut (0x1300 + ty) 1 0 0 false).croakStop
  else s

/-- Its payload, when it passes its verification and its CRC (R406, R411). -/
def State.oncePay (s : State) (ty : Nat) (ok : Bool) : Option (List Byte) :=
  if s.imageGood 0 ty 0 ok && crcEnds (s.img 0 ty 0).pay then some (s.img 0 ty 0).pay else none

/-- NETWORK_PANEL_B_START: stage 12. `present` and `temp` are what EPD_SCL and EPD_SDA bring; `waves` what the check of the
waveform image's signature finds, `copyOk` and `mapOk` that flash reads back the frame store's copy and the dirty map. -/
def execNetworkPanelBStart (t : Nat) (present : Bool) (temp : Option Int) (waves copyOk mapOk : Bool) (s : State) : Out :=
  let s := s.at t
  if !s.mayStage 12 then .next s
  else
    let w := s.oncePay 11 waves
    andThen (((s.onceImage 11 waves).pass 12).loadStage 12) fun s =>
      let s2 := if s.bit NET_RP_CFG NET_RP_CFG_en ∧ s.net.rpRetry.isNone then s.rpRetry (some s.cyc) else s
      .next (s2.netBegin.portBStart present temp w copyOk mapOk)

/-- The image of stage `k` is not started. -/
def State.imageFailed (s : State) (k : Nat) : State := s.setPow { s.pow with failed := k :: s.pow.failed }

/-- GNSS_FIRMWARE_RUNNING: stage 13. (DESIGN CHOICE, log entry 30) -/
def execGnssFirmwareRunning (t : Nat) (ok : Bool) (s : State) : Out :=
  let s := s.at t
  if !s.mayStage 13 then .next s
  else if !s.imageGood s.actSlot 6 0 ok then .next ((s.raise1 0x1306 0 7).imageFailed 13)
  else ((s.pass 13).setGns { s.gns with eph := s.kept.eph, lastPos := s.kept.lastPos }).loadStage 13

/-- PORT_A_POWER_ON: stage 14; `umap` is what the check of the uniformity map's signature finds (R406).
(DEDUCED, log entry 29) -/
def execPortAPowerOn (t : Nat) (umap : Bool) (s : State) : Out :=
  let s := s.at t
  if !s.mayStage 14 then .next s
  else andThen (((s.onceImage 10 umap).pass 14).loadStage 14) fun s' => .next (s'.portAOn (s.oncePay 10 umap))

/-- VISION_FIRMWARE_RUNNING: stage 15; the A-PHY links start. (DESIGN CHOICE, log entry 30) -/
def execVisionFirmwareRunning (t : Nat) (ok : Bool) (s : State) : Out :=
  let s := s.at t
  if !s.mayStage 15 then .next s
  else if !s.imageGood s.actSlot 7 0 ok then .next ((s.raise1 0x1307 0 8).imageFailed 15)
  else andThen ((s.pass 15).loadStage 15) fun s => .next ((List.range 3).foldl State.linkStart s)

/-- The model of slot `i` is loaded from its image, whose payload begins with the model header; the checks are those of
LOAD_MODEL (R316). -/
def State.loadModel (s : State) (i : Nat) (ok : Bool) : State :=
  let h := bytesWords ((s.img s.actSlot 8 i).pay.take 64)
  if s.imageGood s.actSlot 8 i ok && !mdBad h && s.modelFits i h then s.putModel i (some h)
  else
    let s1 := s.raise1 0x1308 i 9
    s1.setPow { s1.pow with modelFail := true }

/-- MODELS_LOADED: stage 16; `named` are the models the settings name, `bad` those whose signature fails. -/
def execModelsLoaded (t : Nat) (named bad : List (Fin 8)) (s : State) : Out :=
  let s := s.at t
  if !s.mayStage 16 then .next s
  else
    let l := (List.range 8).filter fun i => named.contains (Fin.ofNat 8 i)
    .next ((l.foldl (fun s i => s.loadModel i (!bad.contains (Fin.ofNat 8 i))) s).pass 16)

/-- NATIVE_READY: stage 17, once the models are loaded and GNSS tracks from a warm start (R71).
(DESIGN CHOICE, log entry 126) -/
def execNativeReady (t : Nat) (gnss : Bool) (s : State) : Out :=
  let s := s.at t
  if !s.mayStage 17 || !gnss || s.pow.modelFail then .next s
  else
    let n := (s.cyc - s.pow.t0) / ms 1
    let s1 := ((s.pass 17).started SYS_START_native_ready).wr SYS_START SYS_START_ready_ms (min 0xFFFF n)
    .next (if s.pow.t0 + ms 2500 < s.cyc then s1.note 0x0012 0 else s1)

end Sys2Proof.Machine
end

