-- ==== Sys2Proof/Machine/Supply.lean ====
section
/-! DEFINITION. WAKE, the orderly stop and its commands (R83 to R86, R496), the feeds (R45, R46), the sensor supplies
(R51), the hold-up (R59 to R62), thermal shutdown (R453, R454) and the host link (R81, R82). -/

namespace Sys2Proof.Machine

/-! WAKE. -/

/-- WAKE_ON: it cancels a stop delay that runs (R83), and is remembered while a stop runs (R85). -/
def execWakeOn (t : Nat) (s : State) : Out :=
  let s := s.at t
  if s.pow.wake then .next s
  else
    let s1 := s.setPow { s.pow with
      wake := true, wakeSince := s.cyc, wakeOffAt := none
      stop := s.pow.stop.map fun x => { x with wakeAgain := true } }
    .next (if s.pow.wakeOffAt.isSome then s1.note 0x0013 0 else s1)

/-- What a stay-off ordered by the host has seen when WAKE goes off (R86). -/
def StartWait.wakeOff : StartWait → StartWait
  | .wakeCycle _ => .wakeCycle true
  | w => w

/-- WAKE_OFF: the stop delay begins. -/
def execWakeOff (t : Nat) (s : State) : Out :=
  let s := s.at t
  if !s.pow.wake then .next s
  else
    .next (s.setPow { s.pow with
      wake := false, wakeSince := s.cyc, wait := s.pow.wait.wakeOff
      wakeOffAt := if s.mayStop then some s.cyc else none
      stop := s.pow.stop.map fun x => { x with wakeSeenOff := true } })

/-! The orderly stop. -/

/-- STOP_CFG_WRITE: a write of `v` to SYS_STOP_CFG. -/
def execStopCfgWrite (t : Nat) (v : Word) (s : State) : Out :=
  (s.at t).hostWrite SYS_STOP_CFG v false fun s => .next (s.stopCfg v)

/-- STOP_DELAY_END (R83). -/
def execStopDelayEnd (t : Nat) (s : State) : Out :=
  let s := s.at t
  if s.stopDue then .next (s.stopBegin .wake) else .next s

/-- SYS_RESTART_RESTART and SYS_RESTART_OFF (R86): a keyed write with off 0 or 1. -/
def execSysRestartRestart (t : Nat) (s : State) : Out :=
  (s.at t).hostWrite SYS_RESTART 0xA5C30000#32 false fun s => .next (s.sysRestart 0xA5C30000#32)

def execSysRestartOff (t : Nat) (s : State) : Out :=
  (s.at t).hostWrite SYS_RESTART 0xA5C30001#32 false fun s => .next (s.sysRestart 0xA5C30001#32)

/-- UPD_REQ: a write of `v` (R467, R470). -/
def execUpdReq (t : Nat) (v : Word) (s : State) : Out :=
  (s.at t).hostWrite UPD_REQ v false fun s => .next (s.updReq v)

/-- STOP_FLUSH_DONE (R84). -/
def execStopFlushDone (t : Nat) (s : State) : Out :=
  let s := s.at t
  match s.pow.stop with
  | none => .next s
  | some x => if x.flushed then .next s else .next (s.stopFlush x)

/-- ORDERLY_STOP_END: port A is off, port B's frame store is copied, and the rails go off (R84, R415). -/
def execOrderlyStopEnd (t : Nat) (s : State) : Out :=
  let s := s.at t
  match s.pow.stop with
  | none => .next s
  | some x => if x.flushed then .next (s.portAOff.epdCopy.railsOff x.next) else .next s

/-! The personality of the next start (R76). -/

/-- PERS_SEL_WRITE: a write of `v` to SYS_PERSONALITY. -/
def execPersSelWrite (t : Nat) (v : Word) (s : State) : Out := (s.at t).persSel v

/-- PERS_SEL_STORED. -/
def execPersSelStored (t : Nat) (s : State) : Out := .next (s.at t).persStore

/-! Feeds (R45, R46). -/

/-- Every channel of feed `n` turns off, its active value kept. -/
def State.feedDown (s : State) (n : Nat) : State :=
  let s1 := (feedValves n).foldl (fun s v =>
    let s1 := s.valveOff v
    s1.setValve v { s1.valve v with feedOff := true }) s
  (feedSwitches n).foldl (fun s w =>
    let s1 := s.switchOff w
    s1.setSwitch w { s1.switch w with feedOff := true }) s1

/-- The channels of feed `n` restart on their own (R213, R238). -/
def State.feedUp (s : State) (n : Nat) : State :=
  let s1 := (feedValves n).foldl (fun s v => (s.setValve v { s.valve v with feedOff := false }).valveRestart v) s
  (feedSwitches n).foldl (fun s w => (s.setSwitch w { s.switch w with feedOff := false }).switchTurnOn w false) s1

/-- FEED_OUT_OF_RANGE: feed `n` falls below 8.0 V, `under`, or rises above 40.0 V. (DESIGN CHOICE, log entry 39) -/
def execFeedOutOfRange (t : Nat) (n : Fin 6) (under : Bool) (s : State) : Out :=
  let s := s.at t
  let f := s.feed n
  if !s.pow.on || f.out then .next s
  else .next ((s.setFeed n { f with out := true, under := under, backAt := none }).feedDown n |>.raise2 (0x1208 + n) 0)

/-- FEED_BACK_IN_RANGE: within 8.5 to 38.0 V. -/
def execFeedBackInRange (t : Nat) (n : Fin 6) (s : State) : Out :=
  let s := s.at t
  let f := s.feed n
  if !s.pow.on || !f.out then .next s
  else .next ((s.setFeed n { f with out := false, backAt := some s.cyc }).clear2 (0x1208 + n))

/-- FEED_RESTART_DELAY_END: 1 ms in range; under the logic feed's overvoltage the channels stay off. -/
def execFeedRestartDelayEnd (t : Nat) (n : Fin 6) (s : State) : Out :=
  let s := s.at t
  let f := s.feed n
  match f.backAt with
  | none => .next s
  | some c =>
    if s.cyc < c + ms 1 then .next s
    else
      let s1 := s.setFeed n { f with backAt := none }
      .next (if s.pow.lfOver then s1 else s1.feedUp n)

/-- FEED_OVERVOLT_EXCURSION: feed `n` rises through 36.0 V, which a feed out of range above 40.0 V cannot do. -/
def execFeedOvervoltExcursion (t : Nat) (n : Fin 6) (s : State) : Out :=
  let s := s.at t
  let f := s.feed n
  if s.pow.on && !(f.out && !f.under) then .next (s.note (0x1228 + n) 0) else .next s

/-- LOGIC_FEED_OVERVOLTAGE: above 36.0 V for 50 µs. -/
def execLogicFeedOvervoltage (t : Nat) (s : State) : Out :=
  let s := s.at t
  if !s.pow.on || s.pow.lfOver then .next s
  else .next (((List.range 6).foldl State.feedDown (s.setPow { s.pow with lfOver := true })).raise2 0x120E 0)

/-- LOGIC_FEED_OV_RECOVER: at 34.0 V or below for 1 ms. Feeds that are out of range, or not yet 1 ms in it, stay down. -/
def execLogicFeedOvRecover (t : Nat) (s : State) : Out :=
  let s := s.at t
  if !s.pow.lfOver then .next s
  else
    let s1 := s.setPow { s.pow with lfOver := false }
    let up := (List.range 6).filter fun n => !(s.feed n).out && (s.feed n).backAt.isNone
    .next ((up.foldl State.feedUp s1).clear2 0x120E)

/-! Sensor supplies (R51), in the bit order of SNS_SUP. -/

/-- Bit `n` of a field of SNS_SUP. -/
def State.supBit (s : State) (f : Fld) (n : Nat) (v : Bool) : State := s.bitTo SNS_SUP f n v

/-- SUPPLY_OVERLOAD: the overload has lasted 10 ms. -/
def execSupplyOverload (t : Nat) (n : Fin 8) (s : State) : Out :=
  let s := s.at t
  if !s.pow.on || s.pow.axo || s.pow.holdUp.isSome || s.rd SNS_SUP SNS_SUP_en / 2 ^ n.val % 2 == 0
      || s.rd SNS_SUP SNS_SUP_off / 2 ^ n.val % 2 == 1 then .next s
  else
    let s1 := (s.supBit SNS_SUP_off n true).supBit SNS_SUP_ovl_seen n true
    .next ((s1.setPow { s1.pow with supRetry := cellSet (fun _ => 0) s1.pow.supRetry n (s.cyc + sec 1) }).raise2 (0x0780 + n) 0)

/-- SUPPLY_RETRY. -/
def execSupplyRetry (t : Nat) (n : Fin 8) (s : State) : Out :=
  let s := s.at t
  let c := cellGet (fun _ => 0) s.pow.supRetry n
  if c = 0 ∨ s.cyc < c then .next s
  else
    .next (((s.setPow { s.pow with supRetry := cellSet (fun _ => 0) s.pow.supRetry n 0 }).supBit SNS_SUP_off n
      false).clear2 (0x0780 + n))

/-! The hold-up. -/

/-- POWER_FAIL_WARNING (R58, R59): below 6.0 V the always-on seconds count is not kept (R337). -/
def execPowerFailWarning (t : Nat) (draw : Nat) (low : Bool) (s : State) : Out :=
  let s := s.at t
  if !s.pow.on || s.pow.holdUp.isSome then .next s
  else .next (({ s with kept := { s.kept with secs := none } }).powerFail draw low)

/-- INTERNAL_POWER_CYCLE (R60 to R62): the hold-up ends. `lf` says that the logic feed is at 9.0 V or more 100 ms later,
`stored` how many entries a low bank has flushed. (DESIGN CHOICE, log entry 37) -/
def execInternalPowerCycle (t : Nat) (lf : Bool) (stored : Nat) (s : State) : Out :=
  let s := s.at t
  if s.pow.holdUp.isNone then .next s
  else
    let s1 := s.holdFlush stored
    let s2 := if s.pow.bankLow then s1 else s1.persStore
    .next (s2.railsOff (if s.pow.hwShut then .cooling else .holdUp lf))

/-! Thermal shutdown. -/

/-- The comparator's threshold in 1/16 °C: t_hw, and 100 °C until the settings are loaded at stage 10. -/
def State.hwThreshold (s : State) : Int := if s.passed 10 then 16 * (THM_SHUT_t_hw.get s.thm.shut : Nat) else 1600

/-- Is hardware shutdown enabled? Until stage 10 the comparator acts whatever the mode. -/
def State.hwEnabled (s : State) : Bool := !s.passed 10 || decide (2 ≤ THM_SHUT_mode.get s.thm.shut)

/-- HW_THERMAL_SHUTDOWN (R453): the comparator reads its thermistor, and acts where it has reached the threshold.
(DESIGN CHOICE, log entry 43) -/
def execHwThermalShutdown (t : Nat) (x : HwReading) (low : Bool) (s : State) : Out :=
  let s := s.at t
  if !s.pow.on || s.pow.hwShut || !s.hwEnabled || decide (x.temp < s.hwThreshold) then .next s
  else
    let s1 := (s.setPow { s.pow with hwShut := true }).bump THM_CNT THM_CNT_hw_cnt
    .next (if s.pow.holdUp.isSome then s1 else s1.powerFail x.draw low)

/-- COOLING_CHECK (R454): each second after a shutdown; `temp` in 1/16 °C. (DEDUCED, log entry 38) -/
def execCoolingCheck (t : Nat) (temp : Int) (s : State) : Out :=
  let s := s.at t
  if s.pow.on || s.pow.wait != .cooling || decide (s.cyc < s.thm.coolAt + sec 1) then .next s
  else if temp < 16 * (THM_SHUT_t_rst.get s.thm.shut : Nat) then
    .next (s.setPow { s.pow with wait := if s.pow.wake then .cooled else .powerOn })
  else .next (s.setThm { s.thm with coolAt := s.cyc })

/-- LOGIC_FEED_LOSS_WHILE_OFF: what the always-on domain keeps is lost.
(DESIGN CHOICE, log entry 37, DEDUCED, log entry 38) -/
def execLogicFeedLossWhileOff (t : Nat) (s : State) : Out :=
  let s := s.at t
  if s.pow.on then .next s
  else
    let s1 := ({ s with kept := { s.kept with secs := none } }).setPow { s.pow with wait := .powerOn }
    .next ((s1.setReg THM_CNT 0#32).wr UPD_SLOT UPD_SLOT_bfail 0)

/-! The host link. -/

/-- PCIE_LINK_TRAINED: generation `gen` + 1 with 1, 2 or 4 lanes. (DESIGN CHOICE, log entry 99) -/
def execPcieLinkTrained (t : Nat) (gen : Fin 4) (width : Fin 3) (s : State) : Out :=
  let s := s.at t
  if !s.passed 8 || s.pow.perst || s.pow.linkUp then .next s
  else
    let s1 := s.setPow { s.pow with linkUp := true, noLinkAt := none }
    .next ((s1.wr SYS_LINK SYS_LINK_pcie_gen (gen + 1)).wr SYS_LINK SYS_LINK_pcie_width (2 ^ width.val))

/-- PCIE_NO_LINK_TIMEOUT: 1 s after PERST# went off. -/
def execPcieNoLinkTimeout (t : Nat) (s : State) : Out :=
  let s := s.at t
  match s.pow.noLinkAt with
  | none => .next s
  | some c => if s.cyc < c then .next s else .next ((s.setPow { s.pow with noLinkAt := none }).note 0x0020 0)

/-- PERST_ASSERT (R82). -/
def execPerstAssert (t : Nat) (s : State) : Out :=
  let s := s.at t
  let s1 := s.setPow { s.pow with perst := true, noLinkAt := none }
  .next (if s.pow.on then s1.hostLost else s1)

/-- PERST_DEASSERT (R81): the 1 s without a link begins. -/
def execPerstDeassert (t : Nat) (s : State) : Out :=
  let s := s.at t
  if !s.pow.perst then .next s
  else .next (s.setPow { s.pow with perst := false, noLinkAt := if s.pow.on then some (s.cyc + sec 1) else none })

/-- FUNCTION_LEVEL_RESET acts as PERST# (R382). (DESIGN CHOICE, log entry 99) -/
def execFunctionLevelReset (t : Nat) (s : State) : Out :=
  let s := s.at t
  if s.pow.linkUp then .next s.hostLost else .next s

/-- HOST_LINK_LOSS (R107). -/
def execHostLinkLoss (t : Nat) (s : State) : Out :=
  let s := s.at t
  if s.pow.linkUp then .next s.hostLost else .next s

end Sys2Proof.Machine
end

