-- ==== Sys2Proof/Machine/Dispatch.lean ====
section
/-! DEFINITION. One arm per command: the meaning it calls, or its rejection by name. -/

namespace Sys2Proof.Machine

def exec (i : Instr) (s : State) : Host.Outcome State Fault Refusal :=
  match i with
  | .registerWrite t off v => Sys2Proof.Machine.execRegisterWrite t off v s
  | .unmappedBar0Access t off => Sys2Proof.Machine.execUnmappedBar0Access t off s
  | .sysBar2BaseWrite t v => Sys2Proof.Machine.execSysBar2BaseWrite t v s
  | .bar2Read t off len ecc => Sys2Proof.Machine.execBar2Read t off len ecc s
  | .bar2Write t off bs ecc => Sys2Proof.Machine.execBar2Write t off bs ecc s
  | .scrubPass t ecc => Sys2Proof.Machine.execScrubPass t ecc s
  | .loadWindowEnd t => Sys2Proof.Machine.execLoadWindowEnd t s
  | .powerGood t strap => Sys2Proof.Machine.execPowerGood t strap s
  | .outputsSafeHold t => Sys2Proof.Machine.execOutputsSafeHold t s
  | .firstHousekeepingEnd t x => Sys2Proof.Machine.execFirstHousekeepingEnd t x s
  | .dramTrained t => Sys2Proof.Machine.execDramTrained t s
  | .triadImageVerified t okA okB header record => Sys2Proof.Machine.execTriadImageVerified t okA okB header record s
  | .triadRelease t => Sys2Proof.Machine.execTriadRelease t s
  | .canCroakAlive t => Sys2Proof.Machine.execCanCroakAlive t s
  | .pcieConfigReady t => Sys2Proof.Machine.execPcieConfigReady t s
  | .settingsRead t ok image => Sys2Proof.Machine.execSettingsRead t ok image s
  | .defaultSettingsWritten t ok => Sys2Proof.Machine.execDefaultSettingsWritten t ok s
  | .classAImagesLoaded t bad => Sys2Proof.Machine.execClassAImagesLoaded t bad s
  | .authorityPossible t => Sys2Proof.Machine.execAuthorityPossible t s
  | .networkPanelBStart t present temp waves copyOk mapOk => Sys2Proof.Machine.execNetworkPanelBStart t present temp waves copyOk mapOk s
  | .gnssFirmwareRunning t ok => Sys2Proof.Machine.execGnssFirmwareRunning t ok s
  | .portAPowerOn t umap => Sys2Proof.Machine.execPortAPowerOn t umap s
  | .visionFirmwareRunning t ok => Sys2Proof.Machine.execVisionFirmwareRunning t ok s
  | .modelsLoaded t named bad => Sys2Proof.Machine.execModelsLoaded t named bad s
  | .nativeReady t gnss => Sys2Proof.Machine.execNativeReady t gnss s
  | .bootFailTimer t => Sys2Proof.Machine.execBootFailTimer t s
  | .persSelWrite t v => Sys2Proof.Machine.execPersSelWrite t v s
  | .persSelStored t => Sys2Proof.Machine.execPersSelStored t s
  | .pcieLinkTrained t gen width => Sys2Proof.Machine.execPcieLinkTrained t gen width s
  | .pcieNoLinkTimeout t => Sys2Proof.Machine.execPcieNoLinkTimeout t s
  | .perstAssert t => Sys2Proof.Machine.execPerstAssert t s
  | .functionLevelReset t => Sys2Proof.Machine.execFunctionLevelReset t s
  | .hostLinkLoss t => Sys2Proof.Machine.execHostLinkLoss t s
  | .ethLinkChange t k up => Sys2Proof.Machine.execEthLinkChange t k up s
  | .wakeOn t => Sys2Proof.Machine.execWakeOn t s
  | .wakeOff t => Sys2Proof.Machine.execWakeOff t s
  | .stopCfgWrite t v => Sys2Proof.Machine.execStopCfgWrite t v s
  | .stopDelayEnd t => Sys2Proof.Machine.execStopDelayEnd t s
  | .stopFlushDone t => Sys2Proof.Machine.execStopFlushDone t s
  | .orderlyStopEnd t => Sys2Proof.Machine.execOrderlyStopEnd t s
  | .sysRestartRestart t => Sys2Proof.Machine.execSysRestartRestart t s
  | .sysRestartOff t => Sys2Proof.Machine.execSysRestartOff t s
  | .feedOutOfRange t n under => Sys2Proof.Machine.execFeedOutOfRange t n under s
  | .feedBackInRange t n => Sys2Proof.Machine.execFeedBackInRange t n s
  | .feedRestartDelayEnd t n => Sys2Proof.Machine.execFeedRestartDelayEnd t n s
  | .feedOvervoltExcursion t n => Sys2Proof.Machine.execFeedOvervoltExcursion t n s
  | .logicFeedOvervoltage t => Sys2Proof.Machine.execLogicFeedOvervoltage t s
  | .logicFeedOvRecover t => Sys2Proof.Machine.execLogicFeedOvRecover t s
  | .housekeepingRound t x => Sys2Proof.Machine.execHousekeepingRound t x s
  | .supplyOverload t n => Sys2Proof.Machine.execSupplyOverload t n s
  | .supplyRetry t n => Sys2Proof.Machine.execSupplyRetry t n s
  | .powerFailWarning t draw low => Sys2Proof.Machine.execPowerFailWarning t draw low s
  | .internalPowerCycle t lf stored => Sys2Proof.Machine.execInternalPowerCycle t lf stored s
  | .doorbellLineRead t m => Sys2Proof.Machine.execDoorbellLineRead t m s
  | .lineReadReturn t m slots => Sys2Proof.Machine.execLineReadReturn t m slots s
  | .descriptorArrival t r ws => Sys2Proof.Machine.execDescriptorArrival t r ws s
  | .nop t r => Sys2Proof.Machine.execNop t r s
  | .completionWrite t r => Sys2Proof.Machine.execCompletionWrite t r s
  | .irqHoldoffEnd t r => Sys2Proof.Machine.execIrqHoldoffEnd t r s
  | .ringStart t r => Sys2Proof.Machine.execRingStart t r s
  | .ringStop t r => Sys2Proof.Machine.execRingStop t r s
  | .ringStopDiscard t r => Sys2Proof.Machine.execRingStopDiscard t r s
  | .ringDrainEnd t r => Sys2Proof.Machine.execRingDrainEnd t r s
  | .hostReadFailure t what => Sys2Proof.Machine.execHostReadFailure t what s
  | .ethDoorbellFrame t src m image => Sys2Proof.Machine.execEthDoorbellFrame t src m image s
  | .ethWriteFrame t src addr bs => Sys2Proof.Machine.execEthWriteFrame t src addr bs s
  | .ethReadFrame t src lo hi len => Sys2Proof.Machine.execEthReadFrame t src lo hi len s
  | .completionFrameSend t r => Sys2Proof.Machine.execCompletionFrameSend t r s
  | .shaftEnable t k v => Sys2Proof.Machine.execShaftEnable t k v s
  | .shaftDisable t k v => Sys2Proof.Machine.execShaftDisable t k v s
  | .shaftEdge t k edge => Sys2Proof.Machine.execShaftEdge t k edge s
  | .shaftStall t k => Sys2Proof.Machine.execShaftStall t k s
  | .wheelPulse t n => Sys2Proof.Machine.execWheelPulse t n s
  | .wheelTimeout t => Sys2Proof.Machine.execWheelTimeout t s
  | .groundScaleUpdate t => Sys2Proof.Machine.execGroundScaleUpdate t s
  | .groundCoast t => Sys2Proof.Machine.execGroundCoast t s
  | .mtimeSnapshotRead t => Sys2Proof.Machine.execMtimeSnapshotRead t s
  | .eventRelease t => Sys2Proof.Machine.execEventRelease t s
  | .eventHandover t e => Sys2Proof.Machine.execEventHandover t e s
  | .nymWrite t r buf => Sys2Proof.Machine.execNymWrite t r buf s
  | .nymCommit t r => Sys2Proof.Machine.execNymCommit t r s
  | .nymRead t r => Sys2Proof.Machine.execNymRead t r s
  | .nymDisarm t r => Sys2Proof.Machine.execNymDisarm t r s
  | .tblWriteShadow t => Sys2Proof.Machine.execTblWriteShadow t s
  | .tblWriteCommitArm t => Sys2Proof.Machine.execTblWriteCommitArm t s
  | .tblWriteCommitNow t => Sys2Proof.Machine.execTblWriteCommitNow t s
  | .tblReadShadow t => Sys2Proof.Machine.execTblReadShadow t s
  | .tblReadActive t => Sys2Proof.Machine.execTblReadActive t s
  | .tblReadRunState t => Sys2Proof.Machine.execTblReadRunState t s
  | .tblDisarm t => Sys2Proof.Machine.execTblDisarm t s
  | .loopTrigger t n => Sys2Proof.Machine.execLoopTrigger t n s
  | .loopEvaluation t n ecc => Sys2Proof.Machine.execLoopEvaluation t n ecc s
  | .catchupEvaluation t n => Sys2Proof.Machine.execCatchupEvaluation t n s
  | .loopHandover t n => Sys2Proof.Machine.execLoopHandover t n s
  | .setTarget t r => Sys2Proof.Machine.execSetTarget t r s
  | .setTargets t r buf => Sys2Proof.Machine.execSetTargets t r buf s
  | .cleWrite t r buf => Sys2Proof.Machine.execCleWrite t r buf s
  | .cleCommit t r => Sys2Proof.Machine.execCleCommit t r s
  | .cleRead t r => Sys2Proof.Machine.execCleRead t r s
  | .clearState t r => Sys2Proof.Machine.execClearState t r s
  | .poolWrite t r buf => Sys2Proof.Machine.execPoolWrite t r buf s
  | .poolRead t r => Sys2Proof.Machine.execPoolRead t r s
  | .winWriteShadow t => Sys2Proof.Machine.execWinWriteShadow t s
  | .winWriteCommit t => Sys2Proof.Machine.execWinWriteCommit t s
  | .winReadShadow t => Sys2Proof.Machine.execWinReadShadow t s
  | .winReadActive t => Sys2Proof.Machine.execWinReadActive t s
  | .winReadRunState t => Sys2Proof.Machine.execWinReadRunState t s
  | .winClearState t => Sys2Proof.Machine.execWinClearState t s
  | .poolDataAccess t v => Sys2Proof.Machine.execPoolDataAccess t v s
  | .commitVote t c0 c1 c2 => Sys2Proof.Machine.execCommitVote t c0 c1 c2 s
  | .limpSafeStateApply t => Sys2Proof.Machine.execLimpSafeStateApply t s
  | .leaseExpiry t g => Sys2Proof.Machine.execLeaseExpiry t g s
  | .holdLimitEnd t g => Sys2Proof.Machine.execHoldLimitEnd t g s
  | .overrideActive t n => Sys2Proof.Machine.execOverrideActive t n s
  | .overrideRearm t => Sys2Proof.Machine.execOverrideRearm t s
  | .setSp t r => Sys2Proof.Machine.execSetSp t r s
  | .pathAppend t r buf => Sys2Proof.Machine.execPathAppend t r buf s
  | .pathClear t r => Sys2Proof.Machine.execPathClear t r s
  | .grant t r => Sys2Proof.Machine.execGrant t r s
  | .release t r => Sys2Proof.Machine.execRelease t r s
  | .setState t r => Sys2Proof.Machine.execSetState t r s
  | .drive t r => Sys2Proof.Machine.execDrive t r s
  | .renew t r => Sys2Proof.Machine.execRenew t r s
  | .triGmapWrite t v => Sys2Proof.Machine.execTriGmapWrite t v s
  | .valveEnable t n v => Sys2Proof.Machine.execValveEnable t n v s
  | .valveDisable t n v => Sys2Proof.Machine.execValveDisable t n v s
  | .valvePeriodEnd t n cur mv => Sys2Proof.Machine.execValvePeriodEnd t n cur mv s
  | .valveOfftimeEnd t n => Sys2Proof.Machine.execValveOfftimeEnd t n s
  | .valveTrip t n rtn => Sys2Proof.Machine.execValveTrip t n rtn s
  | .valveRetryEnd t n => Sys2Proof.Machine.execValveRetryEnd t n s
  | .valveRestartOk t n => Sys2Proof.Machine.execValveRestartOk t n s
  | .valveClrLatch t n v => Sys2Proof.Machine.execValveClrLatch t n v s
  | .valveOpenLoad t n => Sys2Proof.Machine.execValveOpenLoad t n s
  | .valveHeadroom t n => Sys2Proof.Machine.execValveHeadroom t n s
  | .lswDisable t n v => Sys2Proof.Machine.execLswDisable t n v s
  | .lswPeriodEnd t n cur => Sys2Proof.Machine.execLswPeriodEnd t n cur s
  | .inrushEnd t n => Sys2Proof.Machine.execInrushEnd t n s
  | .lswShortTrip t n => Sys2Proof.Machine.execLswShortTrip t n s
  | .lswOverloadTrip t n => Sys2Proof.Machine.execLswOverloadTrip t n s
  | .lswRetryEnd t n => Sys2Proof.Machine.execLswRetryEnd t n s
  | .lswRestartOk t n => Sys2Proof.Machine.execLswRestartOk t n s
  | .lswClrLatch t n v => Sys2Proof.Machine.execLswClrLatch t n v s
  | .lswClrTherm t n v => Sys2Proof.Machine.execLswClrTherm t n v s
  | .protectedPhaseEnd t n => Sys2Proof.Machine.execProtectedPhaseEnd t n s
  | .lswOpenLoad t n => Sys2Proof.Machine.execLswOpenLoad t n s
  | .ainPeriodicTrigger t n => Sys2Proof.Machine.execAinPeriodicTrigger t n s
  | .ainDeferredConversion t n => Sys2Proof.Machine.execAinDeferredConversion t n s
  | .ainConversionDone t n edge x => Sys2Proof.Machine.execAinConversionDone t n edge x s
  | .finEdge t n x => Sys2Proof.Machine.execFinEdge t n x s
  | .finDataUpdate t n => Sys2Proof.Machine.execFinDataUpdate t n s
  | .dinSample t lo hi => Sys2Proof.Machine.execDinSample t lo hi s
  | .lossSample t n x => Sys2Proof.Machine.execLossSample t n x s
  | .lossExcFault t n => Sys2Proof.Machine.execLossExcFault t n s
  | .mapBankSwap t k => Sys2Proof.Machine.execMapBankSwap t k s
  | .fuIssue t u => Sys2Proof.Machine.execFuIssue t u s
  | .lateSample t src cap v value => Sys2Proof.Machine.execLateSample t src cap v value s
  | .collectorCommit t k => Sys2Proof.Machine.execCollectorCommit t k s
  | .historyEntry t => Sys2Proof.Machine.execHistoryEntry t s
  | .yieldFlashWrite t => Sys2Proof.Machine.execYieldFlashWrite t s
  | .headerLift t => Sys2Proof.Machine.execHeaderLift t s
  | .delayMeasurementEnd t => Sys2Proof.Machine.execDelayMeasurementEnd t s
  | .rawFill t r => Sys2Proof.Machine.execRawFill t r s
  | .receiveBufferTimeout t r => Sys2Proof.Machine.execReceiveBufferTimeout t r s
  | .fusedFill t r => Sys2Proof.Machine.execFusedFill t r s
  | .readMap t x => Sys2Proof.Machine.execReadMap t x s
  | .yieldFill t r => Sys2Proof.Machine.execYieldFill t r s
  | .hslTriggerRelease t => Sys2Proof.Machine.execHslTriggerRelease t s
  | .hslStepEnd t => Sys2Proof.Machine.execHslStepEnd t s
  | .hslModeWrite t v => Sys2Proof.Machine.execHslModeWrite t v s
  | .hslWrite t r buf => Sys2Proof.Machine.execHslWrite t r buf s
  | .hslCommit t r => Sys2Proof.Machine.execHslCommit t r s
  | .hslRead t r => Sys2Proof.Machine.execHslRead t r s
  | .setObj t r buf => Sys2Proof.Machine.execSetObj t r buf s
  | .reportFill t r => Sys2Proof.Machine.execReportFill t r s
  | .triggerMessageSend t c => Sys2Proof.Machine.execTriggerMessageSend t c s
  | .frameStart t c x => Sys2Proof.Machine.execFrameStart t c x s
  | .lineReceived t c px crc => Sys2Proof.Machine.execLineReceived t c px crc s
  | .pairingWindowClose t c => Sys2Proof.Machine.execPairingWindowClose t c s
  | .frameEnd t c ecc => Sys2Proof.Machine.execFrameEnd t c ecc s
  | .frameCloseTimeout t x => Sys2Proof.Machine.execFrameCloseTimeout t x s
  | .aphyLock t n gear => Sys2Proof.Machine.execAphyLock t n gear s
  | .aphyLockTimeout t n => Sys2Proof.Machine.execAphyLockTimeout t n s
  | .aphyRetry t n => Sys2Proof.Machine.execAphyRetry t n s
  | .aphyLockLoss t n => Sys2Proof.Machine.execAphyLockLoss t n s
  | .aphyOvercurrent t n => Sys2Proof.Machine.execAphyOvercurrent t n s
  | .cameraEnable t c v => Sys2Proof.Machine.execCameraEnable t c v s
  | .encoderEnable t e v => Sys2Proof.Machine.execEncoderEnable t e v s
  | .displayBufferReady t c => Sys2Proof.Machine.execDisplayBufferReady t c s
  | .accessUnitDone t e nal => Sys2Proof.Machine.execAccessUnitDone t e nal s
  | .tensorReady t c => Sys2Proof.Machine.execTensorReady t c s
  | .inferenceRunDone t res ecc => Sys2Proof.Machine.execInferenceRunDone t res ecc s
  | .inferenceTimeout t => Sys2Proof.Machine.execInferenceTimeout t s
  | .setExposure t x => Sys2Proof.Machine.execSetExposure t x s
  | .exposureAccepted t c nack => Sys2Proof.Machine.execExposureAccepted t c nack s
  | .sensorXfer t r buf reads nack => Sys2Proof.Machine.execSensorXfer t r buf reads nack s
  | .paramWrite t r buf => Sys2Proof.Machine.execParamWrite t r buf s
  | .paramRead t r => Sys2Proof.Machine.execParamRead t r s
  | .loadModel t r buf sig => Sys2Proof.Machine.execLoadModel t r buf sig s
  | .unloadModel t r => Sys2Proof.Machine.execUnloadModel t r s
  | .forceIdr t r => Sys2Proof.Machine.execForceIdr t r s
  | .frameRecordFill t r => Sys2Proof.Machine.execFrameRecordFill t r s
  | .inferenceFill t r => Sys2Proof.Machine.execInferenceFill t r s
  | .accessUnitFill t r e => Sys2Proof.Machine.execAccessUnitFill t r e s
  | .fixEpoch t fix => Sys2Proof.Machine.execFixEpoch t fix s
  | .antennaOpen t x => Sys2Proof.Machine.execAntennaOpen t x s
  | .antennaShort t a => Sys2Proof.Machine.execAntennaShort t a s
  | .antennaRetry t a => Sys2Proof.Machine.execAntennaRetry t a s
  | .gnssCheckSecond t chk => Sys2Proof.Machine.execGnssCheckSecond t chk s
  | .exclusionExpiry t con id => Sys2Proof.Machine.execExclusionExpiry t con id s
  | .timeSecondBoundary t sol => Sys2Proof.Machine.execTimeSecondBoundary t sol s
  | .gnssDisable t v => Sys2Proof.Machine.execGnssDisable t v s
  | .rtcmIn t r buf => Sys2Proof.Machine.execRtcmIn t r buf s
  | .snapshot t r => Sys2Proof.Machine.execSnapshot t r s
  | .snapshotDone t agc0 agc1 samples => Sys2Proof.Machine.execSnapshotDone t agc0 agc1 samples s
  | .pvtFill t r => Sys2Proof.Machine.execPvtFill t r s
  | .timeFill t r => Sys2Proof.Machine.execTimeFill t r s
  | .canEnable t n v => Sys2Proof.Machine.execCanEnable t n v s
  | .canDisable t n v => Sys2Proof.Machine.execCanDisable t n v s
  | .canFrameReceived t n frame => Sys2Proof.Machine.execCanFrameReceived t n frame s
  | .canTxOpportunity t n => Sys2Proof.Machine.execCanTxOpportunity t n s
  | .canFrameTransmitted t n sof => Sys2Proof.Machine.execCanFrameTransmitted t n sof s
  | .canArbitrationLost t n => Sys2Proof.Machine.execCanArbitrationLost t n s
  | .canError t n err => Sys2Proof.Machine.execCanError t n err s
  | .canRecover t n v => Sys2Proof.Machine.execCanRecover t n v s
  | .canRecoveryDone t n => Sys2Proof.Machine.execCanRecoveryDone t n s
  | .canFlush t n v => Sys2Proof.Machine.execCanFlush t n v s
  | .canFill t r => Sys2Proof.Machine.execCanFill t r s
  | .canSend t r buf => Sys2Proof.Machine.execCanSend t r buf s
  | .switchFrameIngress t k bs => Sys2Proof.Machine.execSwitchFrameIngress t k bs s
  | .gateIntervalEnd t k => Sys2Proof.Machine.execGateIntervalEnd t k s
  | .gclHandover t k => Sys2Proof.Machine.execGclHandover t k s
  | .gptpSyncSend t => Sys2Proof.Machine.execGptpSyncSend t s
  | .pdelayMeasure t => Sys2Proof.Machine.execPdelayMeasure t s
  | .announceReceived t k => Sys2Proof.Machine.execAnnounceReceived t k s
  | .svcDetEdge t grounded => Sys2Proof.Machine.execSvcDetEdge t grounded s
  | .netSend t r buf => Sys2Proof.Machine.execNetSend t r buf s
  | .netFill t r => Sys2Proof.Machine.execNetFill t r s
  | .gclWrite t r buf => Sys2Proof.Machine.execGclWrite t r buf s
  | .sfWrite t r buf => Sys2Proof.Machine.execSfWrite t r buf s
  | .unblock t r => Sys2Proof.Machine.execUnblock t r s
  | .rpDataRead t v => Sys2Proof.Machine.execRpDataRead t v s
  | .rpDataWrite t v => Sys2Proof.Machine.execRpDataWrite t v s
  | .modemMemoryRequest t write addr len bs => Sys2Proof.Machine.execModemMemoryRequest t write addr len bs s
  | .modemMsi t => Sys2Proof.Machine.execModemMsi t s
  | .modemLinkLoss t => Sys2Proof.Machine.execModemLinkLoss t s
  | .modemLinkRetry t gen => Sys2Proof.Machine.execModemLinkRetry t gen s
  | .dmaKick t n beaten => Sys2Proof.Machine.execDmaKick t n beaten s
  | .dmaNextWrite t n v => Sys2Proof.Machine.execDmaNextWrite t n v s
  | .dmaDescriptorArrival t n ws beaten ecc => Sys2Proof.Machine.execDmaDescriptorArrival t n ws beaten ecc s
  | .dmaDescriptorEnd t n put bs ecc => Sys2Proof.Machine.execDmaDescriptorEnd t n put bs ecc s
  | .dmaPause t n => Sys2Proof.Machine.execDmaPause t n s
  | .dmaPaused t n put bs => Sys2Proof.Machine.execDmaPaused t n put bs s
  | .dmaResume t n => Sys2Proof.Machine.execDmaResume t n s
  | .dmaStop t n put bs => Sys2Proof.Machine.execDmaStop t n put bs s
  | .dmaReadError t n put bs => Sys2Proof.Machine.execDmaReadError t n put bs s
  | .dmaRequestAssert t q => Sys2Proof.Machine.execDmaRequestAssert t q s
  | .dmaRequestWithdraw t q done => Sys2Proof.Machine.execDmaRequestWithdraw t q done s
  | .rect t r => Sys2Proof.Machine.execRect t r s
  | .rectFetchDone t p buf => Sys2Proof.Machine.execRectFetchDone t p buf s
  | .portAFrameStart t => Sys2Proof.Machine.execPortAFrameStart t s
  | .portBFrameStart t => Sys2Proof.Machine.execPortBFrameStart t s
  | .waveformComplete t => Sys2Proof.Machine.execWaveformComplete t s
  | .hpdRise t => Sys2Proof.Machine.execHpdRise t s
  | .edpTrainingResult t geo vrr => Sys2Proof.Machine.execEdpTrainingResult t geo vrr s
  | .crackMeasure t res => Sys2Proof.Machine.execCrackMeasure t res s
  | .portAPowerOff t => Sys2Proof.Machine.execPortAPowerOff t s
  | .railFault t => Sys2Proof.Machine.execRailFault t s
  | .railHoldEnd t => Sys2Proof.Machine.execRailHoldEnd t s
  | .epdPanelPoll t present temp => Sys2Proof.Machine.execEpdPanelPoll t present temp s
  | .storeCrcCheck t bad => Sys2Proof.Machine.execStoreCrcCheck t bad s
  | .storeFlashCopy t => Sys2Proof.Machine.execStoreFlashCopy t s
  | .finalImageCutoff t => Sys2Proof.Machine.execFinalImageCutoff t s
  | .faultPersisting t code detail => Sys2Proof.Machine.execFaultPersisting t code detail s
  | .croakToggle t => Sys2Proof.Machine.execCroakToggle t s
  | .recorderFlushStart t => Sys2Proof.Machine.execRecorderFlushStart t s
  | .flushPeriodEnd t => Sys2Proof.Machine.execFlushPeriodEnd t s
  | .flushEnd t => Sys2Proof.Machine.execFlushEnd t s
  | .faultFill t r => Sys2Proof.Machine.execFaultFill t r s
  | .recRead t r ecc => Sys2Proof.Machine.execRecRead t r ecc s
  | .flush t r => Sys2Proof.Machine.execFlush t r s
  | .mark t r buf => Sys2Proof.Machine.execMark t r buf s
  | .snap t r => Sys2Proof.Machine.execSnap t r s
  | .challenge t r => Sys2Proof.Machine.execChallenge t r s
  | .challengeExpiry t => Sys2Proof.Machine.execChallengeExpiry t s
  | .clear t r ok => Sys2Proof.Machine.execClear t r ok s
  | .modelUpdate t heat => Sys2Proof.Machine.execModelUpdate t heat s
  | .deratingUpdate t => Sys2Proof.Machine.execDeratingUpdate t s
  | .hwThermalShutdown t reading low => Sys2Proof.Machine.execHwThermalShutdown t reading low s
  | .coolingCheck t temp => Sys2Proof.Machine.execCoolingCheck t temp s
  | .updBegin t r => Sys2Proof.Machine.execUpdBegin t r s
  | .updWrite t r buf => Sys2Proof.Machine.execUpdWrite t r buf s
  | .finish t r sig => Sys2Proof.Machine.execFinish t r sig s
  | .abort t r => Sys2Proof.Machine.execAbort t r s
  | .copy t r => Sys2Proof.Machine.execCopy t r s
  | .activate t r => Sys2Proof.Machine.execActivate t r s
  | .report t r => Sys2Proof.Machine.execReport t r s
  | .updReq t v => Sys2Proof.Machine.execUpdReq t v s
  | .axoHello t via => Sys2Proof.Machine.execAxoHello t via s
  | .axoBegin t via arg => Sys2Proof.Machine.execAxoBegin t via arg s
  | .axoData t via off bs => Sys2Proof.Machine.execAxoData t via off bs s
  | .axoFinish t via sig => Sys2Proof.Machine.execAxoFinish t via sig s
  | .axoActivate t via arg => Sys2Proof.Machine.execAxoActivate t via arg s
  | .axoBoot t via => Sys2Proof.Machine.execAxoBoot t via s
  | .axoCanSilenceReply t => Sys2Proof.Machine.execAxoCanSilenceReply t s
  | .k12PortWrite t clocks op addr data => Sys2Proof.Machine.execK12PortWrite t clocks op addr data s
  | .k12PortRead t clocks op addr data => Sys2Proof.Machine.execK12PortRead t clocks op addr data s
  | .k12Latch t => Sys2Proof.Machine.execK12Latch t s
  | .k12InputRefresh t => Sys2Proof.Machine.execK12InputRefresh t s
  | .k12CyclicCan t frames => Sys2Proof.Machine.execK12CyclicCan t frames s
  | .k12PairRealign t p => Sys2Proof.Machine.execK12PairRealign t p s
  | .evWriteCommitArm t => Sys2Proof.Machine.execEvWriteCommitArm t s
  | .evWriteCommitNow t => Sys2Proof.Machine.execEvWriteCommitNow t s
  | .evRead t => Sys2Proof.Machine.execEvRead t s
  | .evDisarm t => Sys2Proof.Machine.execEvDisarm t s
  | .k12StatusClear t v => Sys2Proof.Machine.execK12StatusClear t v s
  | .k12HostTimeout t => Sys2Proof.Machine.execK12HostTimeout t s
  | .k12HtoClear t v => Sys2Proof.Machine.execK12HtoClear t v s
  | .k12AddressClaim t won => Sys2Proof.Machine.execK12AddressClaim t won s
  | .k12BusoffRecover t n => Sys2Proof.Machine.execK12BusoffRecover t n s
  | .tstUnlock t v => Sys2Proof.Machine.execTstUnlock t v s
  | .tstLock t => Sys2Proof.Machine.execTstLock t s
  | .tstJitWrite t v => Sys2Proof.Machine.execTstJitWrite t v s
  | .perturbEnd t => Sys2Proof.Machine.execPerturbEnd t s
  | .perstDeassert t => Sys2Proof.Machine.execPerstDeassert t s
  | .shaftIndexPulse t k => Sys2Proof.Machine.execShaftIndexPulse t k s
  | .overrideInactive t n => Sys2Proof.Machine.execOverrideInactive t n s
  | .slewEnd t => Sys2Proof.Machine.execSlewEnd t s
  | .ppsPulseEnd t => Sys2Proof.Machine.execPpsPulseEnd t s
  | .addressAgeOut t => Sys2Proof.Machine.execAddressAgeOut t s
  | .logicFeedLossWhileOff t => Sys2Proof.Machine.execLogicFeedLossWhileOff t s

end Sys2Proof.Machine
end

