-- ==== Sys2Proof/Machine/Step.lean ====
section
/-! DEFINITION. One step: the command at the front of the queue, or one idle cycle. -/

namespace Sys2Proof.Machine

/-- The state with its queue replaced. -/
def State.setPending (s : State) (l : List Instr) : State := { s with pending := l }

/-- A cycle of the Nymgor/timebase clock domain in which no command comes (DESIGN CHOICE, log entry 2). -/
def State.idle (s : State) : State := { s with cyc := s.cyc + 1 }

/-- Take the command at the front and carry it out on the state with the queue's rest; with no command the block
idles. -/
def step (s : State) : Host.Outcome State Fault Refusal :=
  match s.pending with
  | [] => .next s.idle
  | c :: rest => exec c (s.setPending rest)

/-- The command a word spells, at the front of the queue. -/
def State.withFetchWord (s : State) (nbits w : Nat) : State :=
  match decodeTableWord nbits w with
  | none => s
  | some c => s.setPending (c :: s.pending)

end Sys2Proof.Machine
end

