-- ==== Sys2Proof/Safety.lean ====
section
/-! DEFINITION. What counts as a safe run, and the invariant of every state a run reaches. -/

namespace Sys2Proof.Machine

/-- The canonical form of module memory: addresses strictly rising, no entry equal to what an unlisted address reads. -/
abbrev Memory.wf (m : List Host.Cell) : Prop := cellWf memReset m = true

/-- The canonical form of the register file. -/
abbrev Registers.wf (r : Cells Word) : Prop := cellWf regReset r = true

/-- Registers and memory are in canonical form, so that equal contents are equal data. -/
structure State.Canonical (s : State) : Prop where
  regs : Registers.wf s.regs
  mem : Memory.wf s.mem

/-- A step is safe when it answers a next state. -/
def State.SafeStep (s : State) : Prop := ∃ u, step s = .next u

/-- A run of `n` steps is safe when each of them is. -/
def State.SafeRun : Nat → State → Prop
  | 0, _ => True
  | n + 1, s => ∃ u, step s = .next u ∧ State.SafeRun n u

/-- Every register outside `offs`, and every byte of module memory, reads in `u` as in `s`. -/
def State.SameBut (s u : State) (offs : List Nat) : Prop :=
  (∀ off, off ∉ offs → u.reg off = s.reg off) ∧ ∀ a, u.memRd a = s.memRd a

/-- No engine's own state changes: valves, switches, loops, events, leases, sensors, CAN, time, vision, network, DMA,
displays and updates are in `u` as in `s`. -/
def State.SameEngines (s u : State) : Prop :=
  u.nym = s.nym ∧ u.valves = s.valves ∧ u.switches = s.switches ∧ u.cle = s.cle ∧ u.tri = s.tri ∧ u.sns = s.sns ∧
    u.fus = s.fus ∧ u.hsl = s.hsl ∧ u.vis = s.vis ∧ u.gns = s.gns ∧ u.can = s.can ∧ u.net = s.net ∧ u.dma = s.dma ∧
    u.dpy = s.dpy ∧ u.upd = s.upd ∧ u.kept = s.kept

/-- A frame is a ring frame of kind `kind` that the module accepts, with at least the payload it announces, of which `n`
bytes came (R108). -/
def State.takesFrame (s : State) (src : FrameSource) (kind n : Nat) : Bool :=
  src.ethertype == s.rd RNG_ETH_CFG RNG_ETH_CFG_ethertype && frameKind src == kind && s.frameOk src.port src.mac
    && bits src.w1 31 16 == 0 && decide (frameBytes src ≤ n)

/-- The buffer of descriptor `d` can be taken: it lies where the ring's carriage reaches, `n` bytes came of it are enough,
and in module memory none of it is poisoned (R32, R95, R111). -/
def State.canTake (s : State) (r : Nat) (d : RDesc) (n : Nat) : Bool :=
  !s.bufBad r d && (s.ringEth r || decide (d.len ≤ n)) && !(s.ringEth r && s.poisoned d.addr d.len)

/-- The settings of stage `k` load: none of them is a set-up that its chapter forbids (R69, R79). -/
def State.loads (s : State) (k : Nat) : Bool := match s.loadStage k with
  | .next _ => true
  | _ => false

/-- The state with the settings of stage `k` loaded. -/
def State.loadedAt (s : State) (k : Nat) : State := match s.loadStage k with
  | .next u => u
  | _ => s

/-- The module's record of what it has sent out is that of `s`, then `es`, the newest first. -/
def State.Sent (s u : State) (es : List Emission) : Prop := u.out = es ++ s.out

end Sys2Proof.Machine
end

