-- ==== Sys2Proof/Certificates/Slice0/Obligations.lean ====
section
/-! DEFINITION. The statements for the provers. Each says what its title and text say; the clauses of one statement are its
conjuncts, one for each command or form. -/

open Sys2Proof Sys2Proof.Machine

/-- What host register writes, unmapped accesses, the BAR2 window and the scrubber do (R7, R25, R26, R27, R28, R33, R424). -/
def Obligations.HostAccessAndWindowCommands : Prop :=
  -- REGISTER_WRITE
  (∀ (t off : Nat) (v : Word) (s : State) (row : RegRow),
    off % 4 = 0 →
    regRow off = some row →
    off / 0x10000 = 0x10 ∨ off / 0x10000 = 0x14 →
    s.readyReg off = true →
    maskBits v row.res = 0#32 →
      ∃ u, exec (.registerWrite t off v) s = .next u ∧ s.SameBut u [off] ∧
        u.reg off = ((((s.reg off &&& word (2 ^ 32 - 1 - (row.rw ||| row.cl))) ||| (v &&& word row.rw)) &&& ~~~(v &&& word row.w1c))
          ||| (s.reg off &&& (s.at t).hotBits off &&& word (row.w1c ||| row.rws)))) ∧
  -- UNMAPPED_BAR0_ACCESS
  (∀ (t off : Nat) (s : State),
    off % 4 = 0 →
    off < 0x400000 →
    regRow off = none →
    s.readyReg 0 = true →
      exec (.unmappedBar0Access t off) s = .next ((s.at t).note 0x00F1 off)) ∧
  -- SYS_BAR2_BASE_WRITE
  (∀ (t : Nat) (v : Word) (s : State),
    s.readyReg SYS_BAR2_BASE = true →
    bits v 22 15 = 0 →
      ∃ u, exec (.sysBar2BaseWrite t v) s = .next u ∧ s.SameBut u [SYS_BAR2_BASE] ∧
        u.reg SYS_BAR2_BASE = v &&& 0x80007FFF#32) ∧
  -- BAR2_READ
  (∀ (t off len : Nat) (s : State),
    off < bar2Top →
    bar2Bad off len = false →
    s.readyReg 0 = true →
    s.bit SYS_BAR2_BASE SYS_BAR2_BASE_win_en = true →
    (∀ i < len, s.bar2Addr off i < sharedTop) →
    (∀ i < len, s.poisoned (s.bar2Addr off i) 1 = false) →
    (∀ i < len, s.mirrorHit (s.bar2Addr off i) 1 = false) →
      ∃ u, exec (.bar2Read t off len []) s = .next u ∧ s.SameBut u [] ∧
        s.Sent u [.bar2Data ((List.range len).map fun i => s.memRd (s.bar2Addr off i)) false]) ∧
  -- BAR2_WRITE
  (∀ (t off : Nat) (bs : List Byte) (s : State),
    off < bar2Top →
    bar2Bad off bs.length = false →
    s.readyReg 0 = true →
    s.bit SYS_BAR2_BASE SYS_BAR2_BASE_win_en = true →
    (∀ i < bs.length, s.bar2Addr off i < sharedTop) →
    (∀ i < bs.length, inAreas (s.at t).moduleAreas (s.bar2Addr off i) = false) →
    (∀ i < bs.length, s.poisoned (s.bar2Addr off i) 1 = false) →
      ∃ u, exec (.bar2Write t off bs []) s = .next u ∧ (∀ o, u.reg o = s.reg o) ∧
        u = (List.range bs.length).foldl (fun x i => x.memWr (s.bar2Addr off i) (bs.getD i 0#8)) (s.at t)) ∧
  -- SCRUB_PASS
  (∀ (t : Nat) (h : EccHit) (s : State),
    h.correctable = true →
    h.region.val ≠ 7 →
      ∃ u, exec (.scrubPass t [h]) s = .next u ∧
        u.rd (FLT_ECC h.region) FLT_ECC_corr = min FLT_ECC_corr.top (s.rd (FLT_ECC h.region) FLT_ECC_corr + 1) ∧
        u.reg FLT_ECC_ADDR_LO = lo32 h.addr ∧ u.rd FLT_ECC_ADDR_HI FLT_ECC_ADDR_HI_addr = h.addr / 2 ^ 32 % 2 ^ FLT_ECC_ADDR_HI_addr.wd)

/-- What power-good and stages 2 to 8 of the start do, and the personality's choice (R56, R68, R69, R70, R74, R75, R76,
R460, R463, R464). -/
def Obligations.StartStagesReleaseAndLoad : Prop :=
  -- POWER_GOOD
  (∀ (t c : Nat) (strap : Fin 3) (s : State),
    s.pow.on = false →
    s.pow.wake = true →
    s.pow.cause (s.at t).cyc = some c →
      ∃ u, exec (.powerGood t strap) s = .next u ∧ u.pow.on = true ∧ u.pow.passed = [1] ∧ u.pow.t0 = max s.cyc t ∧
        u.rd SYS_START SYS_START_cause = c % 16 ∧ u.bit SYS_PERSONALITY SYS_PERSONALITY_strap_low = (strap == 0)) ∧
  -- BOOT_FAIL_TIMER
  (∀ (t : Nat) (s : State),
    s.pow.on = true →
    s.passed 11 = false →
    s.pow.bfailCounted = false →
    s.pow.t0 + sec 1 ≤ (s.at t).cyc →
      ∃ u, exec (.bootFailTimer t) s = .next u ∧ u.rd UPD_SLOT UPD_SLOT_bfail = min 3 (s.rd UPD_SLOT UPD_SLOT_bfail + 1) ∧ s.SameBut u [UPD_SLOT]) ∧
  -- OUTPUTS_SAFE_HOLD
  (∀ (t : Nat) (s : State),
    s.mayStage 2 = true →
      ∃ u, exec (.outputsSafeHold t) s = .next u ∧ u.pow.passed = 2 :: s.pow.passed ∧ u.rd SYS_START SYS_START_safe_hold = 1 ∧ s.SameBut u [SYS_START]) ∧
  -- FIRST_HOUSEKEEPING_END
  (∀ (t : Nat) (x : Round) (s : State),
    s.mayStage 3 = true →
      exec (.firstHousekeepingEnd t x) s = .next (((s.at t).round x).pass 3)) ∧
  -- DRAM_TRAINED
  (∀ (t : Nat) (s : State),
    s.mayStage 4 = true →
      ∃ u, exec (.dramTrained t) s = .next u ∧ u.pow.passed = 4 :: s.pow.passed ∧ s.SameBut u []) ∧
  -- TRIAD_IMAGE_VERIFIED
  (∀ (t : Nat) (okA okB : Bool) (s : State),
    s.mayStage 5 = true →
    s.kept.boot.next ≤ 1 →
    (s.imageGood s.kept.boot.next 1 0 (if s.kept.boot.next = 0 then okA else okB) = true) →
      ∃ u, exec (.triadImageVerified t okA okB true true) s = .next u ∧ u.pow.passed = 5 :: s.pow.passed ∧ u.actSlot = s.kept.boot.next ∧
        u.rd SYS_PERSONALITY SYS_PERSONALITY_src = s.kept.pers % 4 ∧
        u.isK12 = (s.kept.pers == 2 || (s.kept.pers == 0 && s.bit SYS_PERSONALITY SYS_PERSONALITY_strap_low))) ∧
  -- TRIAD_RELEASE
  (∀ (t : Nat) (s : State),
    s.mayStage 6 = true →
      ∃ u, exec (.triadRelease t) s = .next u ∧ u.pow.passed = 6 :: s.pow.passed ∧
      u.rd TRI_STAT TRI_STAT_live = 7 - s.rd FLT_FENCE FLT_FENCE_fenced % 8 ∧ s.SameBut u [TRI_STAT]) ∧
  -- CAN_CROAK_ALIVE
  (∀ (t : Nat) (s : State),
    s.mayStage 7 = true →
      exec (.canCroakAlive t) s
          = .next (((List.range 8).foldl State.canStart (((s.at t).pass 7).started SYS_START_croak_alive)).croakStart)) ∧
  -- PCIE_CONFIG_READY
  (∀ (t : Nat) (s : State),
    s.mayStage 8 = true →
      ∃ u, exec (.pcieConfigReady t) s = .next u ∧ u.pow.passed = 8 :: s.pow.passed ∧ u.rd SYS_START SYS_START_pcie_ready = 1 ∧ s.SameBut u [SYS_START])

/-- What stages 9 to 17 of the start do, from the settings to a native-ready module (R69, R71, R76, R77, R79, R316, R406,
R437, R460, R463, R464, R465). -/
def Obligations.StartStagesSettingsToNative : Prop :=
  -- SETTINGS_READ
  (∀ (t : Nat) (ok image : Bool) (s x y : State),
    s.mayStage 9 = true →
    (x = (if ok || ((s.img 0 9 0).valid && s.imageGood 0 9 0 image) then ((s.at t).useSettings image).storeVersion
        else ((s.at t).useSettings image).storeDefaults)) →
    (y = ((x.pass 9).started SYS_START_settings_ok).wr SYS_PERSONALITY SYS_PERSONALITY_pers_sel
        (if x.bit SYS_START SYS_START_defaults then 0 else x.kept.pers)) →
    y.loads 9 = true →
      exec (.settingsRead t ok image) s = .next (match cellGet (fun _ => none) (y.loadedAt 9).kept.setRegs SYS_STOP_CFG with
          | some w => (y.loadedAt 9).loadStop w
          | none => y.loadedAt 9)) ∧
  -- DEFAULT_SETTINGS_WRITTEN
  (∀ (t : Nat) (s : State),
    s.pow.defaultsDue = true →
    s.pow.persHost = false →
      ∃ x : State, exec (.defaultSettingsWritten t true) s = .next (x.clear2 0x0014) ∧ x.kept.pers = 0 ∧
        x.rd SYS_PERSONALITY SYS_PERSONALITY_pers_sel = 0 ∧ x.pow.defaultsDue = false ∧ s.SameBut x [SYS_PERSONALITY]) ∧
  -- CLASS_A_IMAGES_LOADED
  (∀ (t : Nat) (bad : List (Fin 12)) (s x z w : State),
    s.mayStage 10 = true →
    x = ((((s.at t).classA bad).guarSet SYS_GUAR_reload SYS_GUAR_reload_seen false).pass 10).recStart →
    x.loads 10 = true →
    (x.loadedAt 10).loadedBad = none →
    z = ((x.loadedAt 10).loadKept x.kept.setRegs).loopsStart →
    (w = (if z.isK12 then z.k12Claim else z)) →
      exec (.classAImagesLoaded t bad) s = .next (if w.k12Runs then w.k12Setup else w).triadStart) ∧
  -- AUTHORITY_POSSIBLE
  (∀ (t : Nat) (s : State),
    s.mayStage 11 = true →
      ∃ x, x = ((((s.at t).pass 11).started SYS_START_authority_ok).wr UPD_SLOT UPD_SLOT_bfail 0) ∧
        (let y := (if x.kept.boot.trying then x.confirmSlot x.actSlot else x).wr TRI_STAT TRI_STAT_mstate 1; exec (.authorityPossible t) s = .next ({ y with tri := { y.tri with stillFrom := y.cyc } }).k12Lease)) ∧
  -- NETWORK_PANEL_B_START
  (∀ (t : Nat) (present : Bool) (temp : Option Int) (waves copyOk mapOk : Bool) (s x : State),
    s.mayStage 12 = true →
    x = ((s.at t).onceImage 11 waves).pass 12 →
    x.loads 12 = true →
      (let v := x.loadedAt 12;
        exec (.networkPanelBStart t present temp waves copyOk mapOk) s
          = .next ((if v.bit NET_RP_CFG NET_RP_CFG_en ∧ v.net.rpRetry.isNone then v.rpRetry (some v.cyc) else v).netBegin.portBStart present temp
            (s.oncePay 11 waves) copyOk mapOk))) ∧
  -- GNSS_FIRMWARE_RUNNING
  (∀ (t : Nat) (s x : State),
    s.mayStage 13 = true →
    s.imageGood s.actSlot 6 0 true = true →
    x = ((s.at t).pass 13).setGns { s.gns with eph := s.kept.eph, lastPos := s.kept.lastPos } →
    x.loads 13 = true →
      exec (.gnssFirmwareRunning t true) s = .next (x.loadedAt 13)) ∧
  -- PORT_A_POWER_ON
  (∀ (t : Nat) (umap : Bool) (s x : State),
    s.mayStage 14 = true →
    x = ((s.at t).onceImage 10 umap).pass 14 →
    x.loads 14 = true →
      exec (.portAPowerOn t umap) s = .next ((x.loadedAt 14).portAOn (s.oncePay 10 umap))) ∧
  -- VISION_FIRMWARE_RUNNING
  (∀ (t : Nat) (s x : State),
    s.mayStage 15 = true →
    s.imageGood s.actSlot 7 0 true = true →
    x = (s.at t).pass 15 →
    x.loads 15 = true →
      exec (.visionFirmwareRunning t true) s = .next ((List.range 3).foldl State.linkStart (x.loadedAt 15))) ∧
  -- MODELS_LOADED
  (∀ (t : Nat) (named bad : List (Fin 8)) (s : State),
    s.mayStage 16 = true →
      exec (.modelsLoaded t named bad) s
        = .next ((((List.range 8).filter fun i => named.contains (Fin.ofNat 8 i)).foldl
            (fun s i => s.loadModel i (!bad.contains (Fin.ofNat 8 i))) (s.at t)).pass 16)) ∧
  -- NATIVE_READY
  (∀ (t : Nat) (s : State),
    s.mayStage 17 = true →
    s.pow.modelFail = false →
      ∃ u, exec (.nativeReady t true) s = .next u ∧ u.pow.passed = 17 :: s.pow.passed ∧ u.rd SYS_START SYS_START_native_ready = 1 ∧
        u.rd SYS_START SYS_START_ready_ms = min 0xFFFF ((max s.cyc t - s.pow.t0) / 200000)) ∧
  -- PERS_SEL_STORED
  (∀ (t v : Nat) (s : State),
    s.pow.persWrite = some v →
      ∃ u, exec (.persSelStored t) s = .next u ∧ u.kept.pers = v ∧ u.pow.persWrite = none ∧
        (s.passed 9 = true → u.rd SYS_PERSONALITY SYS_PERSONALITY_pers_sel = v % 4))

/-- What WAKE, SYS_STOP_CFG, SYS_RESTART, UPD_REQ and the orderly stop do (R76, R83, R84, R85, R86, R467, R496). -/
def Obligations.WakeAndOrderlyStopCommands : Prop :=
  -- WAKE_ON
  (∀ (t : Nat) (s : State),
    s.pow.wake = false →
    s.pow.wakeOffAt = none →
      ∃ u, exec (.wakeOn t) s = .next u ∧ u.pow.wake = true ∧ u.pow.wakeSince = max s.cyc t ∧ s.SameBut u [] ∧
        u.pow.stop = s.pow.stop.map fun x => { x with wakeAgain := true }) ∧
  -- WAKE_ON
  (∀ (t c : Nat) (s : State),
    s.pow.wake = false →
    s.pow.wakeOffAt = some c →
      ∃ x : State, x.pow.wake = true ∧ x.pow.wakeOffAt = none ∧ s.SameBut x [] ∧ exec (.wakeOn t) s = .next (x.note 0x0013 0)) ∧
  -- WAKE_OFF
  (∀ (t : Nat) (s : State),
    s.pow.wake = true →
      ∃ u, exec (.wakeOff t) s = .next u ∧ u.pow.wake = false ∧ u.pow.wakeSince = max s.cyc t ∧ s.SameBut u [] ∧
        u.pow.wakeOffAt = (if s.mayStop then some (max s.cyc t) else none)) ∧
  -- STOP_CFG_WRITE
  (∀ (t : Nat) (v : Word) (s : State),
    s.readyReg SYS_STOP_CFG = true →
    reservedOf SYS_STOP_CFG v = 0#32 →
      exec (.stopCfgWrite t v) s = .next ((s.at t).stopCfg v)) ∧
  -- STOP_DELAY_END
  (∀ (t : Nat) (s : State),
    (s.at t).stopDue = true →
      exec (.stopDelayEnd t) s = .next ((s.at t).stopBegin .wake)) ∧
  -- SYS_RESTART_RESTART
  (∀ (t : Nat) (s : State),
    s.readyReg SYS_RESTART = true →
    s.pow.axo = false →
    s.pow.holdUp = none →
    s.pow.stop = none →
      exec (.sysRestartRestart t) s = .next ((s.at t).stopBegin .restart)) ∧
  -- SYS_RESTART_OFF
  (∀ (t : Nat) (s : State),
    s.readyReg SYS_RESTART = true →
    s.pow.axo = false →
    s.pow.holdUp = none →
    s.pow.stop = none →
      exec (.sysRestartOff t) s = .next ((s.at t).stopBegin .off)) ∧
  -- UPD_REQ
  (∀ (t : Nat) (v : Word) (s : State),
    s.readyReg UPD_REQ = true →
    reservedOf UPD_REQ v = 0#32 →
    UPD_REQ_key.get v = 0xC35A →
    s.mayStop = true →
      exec (.updReq t v) s = .next ((s.at t).stopBegin .upd)) ∧
  -- STOP_FLUSH_DONE
  (∀ (t : Nat) (s : State) (x : StopRun),
    s.pow.stop = some x →
    x.flushed = false →
      exec (.stopFlushDone t) s = .next ((s.at t).stopFlush x)) ∧
  -- ORDERLY_STOP_END
  (∀ (t : Nat) (s : State) (x : StopRun),
    s.pow.stop = some x →
    x.flushed = true →
      ∃ u, exec (.orderlyStopEnd t) s = .next u ∧ u = (s.at t).portAOff.epdCopy.railsOff x.next ∧ u.pow.on = false ∧ u.pow.wait = x.next ∧
        u.mem = [] ∧ (∀ off, off ∉ [THM_CNT, UPD_SLOT] → u.reg off = regReset off)) ∧
  -- PERS_SEL_WRITE
  (∀ (t : Nat) (v : Word) (s : State),
    s.readyReg SYS_PERSONALITY = true →
    reservedOf SYS_PERSONALITY v = 0#32 →
    SYS_PERSONALITY_pers_sel.get v ≠ 3 →
      ∃ u, exec (.persSelWrite t v) s = .next u ∧ u.pow.persWrite = some (SYS_PERSONALITY_pers_sel.get v) ∧ s.SameBut u [])

/-- What the feeds, sensor supplies, hold-up, thermal shutdown and host-link events do (R45, R46, R51, R59, R60, R62, R81,
R82, R107, R382, R453, R454). -/
def Obligations.SupplyAndHostLinkCommands : Prop :=
  -- FEED_OUT_OF_RANGE
  (∀ (t : Nat) (n : Fin 6) (under : Bool) (s : State),
    s.pow.on = true →
    (s.feed n).out = false →
      exec (.feedOutOfRange t n under) s
          = .next ((((s.at t).setFeed n { s.feed n with out := true, under := under, backAt := none }).feedDown n).raise2 (0x1208 + n) 0)) ∧
  -- FEED_BACK_IN_RANGE
  (∀ (t : Nat) (n : Fin 6) (s : State),
    s.pow.on = true →
    (s.feed n).out = true →
      exec (.feedBackInRange t n) s
        = .next (((s.at t).setFeed n { s.feed n with out := false, backAt := some (max s.cyc t) }).clear2 (0x1208 + n))) ∧
  -- FEED_RESTART_DELAY_END
  (∀ (t c : Nat) (n : Fin 6) (s : State),
    (s.feed n).backAt = some c →
    c + ms 1 ≤ max s.cyc t →
    s.pow.lfOver = false →
      exec (.feedRestartDelayEnd t n) s = .next (((s.at t).setFeed n { s.feed n with backAt := none }).feedUp n)) ∧
  -- FEED_OVERVOLT_EXCURSION
  (∀ (t : Nat) (n : Fin 6) (s : State),
    s.pow.on = true →
    ((s.feed n).out && !(s.feed n).under) = false →
      exec (.feedOvervoltExcursion t n) s = .next ((s.at t).note (0x1228 + n) 0)) ∧
  -- LOGIC_FEED_OVERVOLTAGE
  (∀ (t : Nat) (s : State),
    s.pow.on = true →
    s.pow.lfOver = false →
      exec (.logicFeedOvervoltage t) s
          = .next (((List.range 6).foldl State.feedDown ((s.at t).setPow { s.pow with lfOver := true })).raise2 0x120E 0)) ∧
  -- LOGIC_FEED_OV_RECOVER
  (∀ (t : Nat) (s : State),
    s.pow.lfOver = true →
      exec (.logicFeedOvRecover t) s
          = .next ((((List.range 6).filter fun n => !(s.feed n).out && (s.feed n).backAt.isNone).foldl State.feedUp
              ((s.at t).setPow { s.pow with lfOver := false })).clear2 0x120E)) ∧
  -- SUPPLY_OVERLOAD
  (∀ (t : Nat) (n : Fin 8) (s : State),
    s.pow.on = true →
    s.pow.axo = false →
    s.pow.holdUp = none →
    s.rd SNS_SUP SNS_SUP_en / 2 ^ n.val % 2 = 1 →
    s.rd SNS_SUP SNS_SUP_off / 2 ^ n.val % 2 = 0 →
      ∃ x : State, x = ((s.at t).supBit SNS_SUP_off n true).supBit SNS_SUP_ovl_seen n true ∧
        exec (.supplyOverload t n) s
          = .next ((x.setPow { x.pow with supRetry := cellSet (fun _ => 0) x.pow.supRetry n (max s.cyc t + sec 1) }).raise2 (0x0780 + n) 0)) ∧
  -- SUPPLY_RETRY
  (∀ (t : Nat) (n : Fin 8) (s : State),
    (cellGet (fun _ => 0) s.pow.supRetry n ≠ 0) →
    (cellGet (fun _ => 0) s.pow.supRetry n ≤ max s.cyc t) →
      exec (.supplyRetry t n) s
          = .next ((((s.at t).setPow { s.pow with supRetry := cellSet (fun _ => 0) s.pow.supRetry n 0 }).supBit SNS_SUP_off n false).clear2 (0x0780 + n))) ∧
  -- HOUSEKEEPING_ROUND
  (∀ (t : Nat) (x : Round) (s : State),
    s.passed 3 = true →
    s.thm.roundAt + ms 10 ≤ max s.cyc t →
      exec (.housekeepingRound t x) s = .next ((s.at t).round x)) ∧
  -- POWER_FAIL_WARNING
  (∀ (t draw : Nat) (low : Bool) (s : State),
    s.pow.on = true →
    s.pow.holdUp = none →
      exec (.powerFailWarning t draw low) s = .next (({ s.at t with kept := { s.kept with secs := none } }).powerFail draw low)) ∧
  -- INTERNAL_POWER_CYCLE
  (∀ (t stored : Nat) (lf : Bool) (s : State) (c : Nat),
    s.pow.holdUp = some c →
      ∃ u, exec (.internalPowerCycle t lf stored) s = .next u ∧ u.pow.on = false ∧ u.mem = [] ∧
        (∀ off, off ∉ [THM_CNT, UPD_SLOT] → u.reg off = regReset off)) ∧
  -- HW_THERMAL_SHUTDOWN
  (∀ (t : Nat) (x : HwReading) (low : Bool) (s : State),
    s.pow.on = true →
    s.pow.hwShut = false →
    s.hwEnabled = true →
    s.pow.holdUp = none →
      (s.hwThreshold ≤ x.temp → exec (.hwThermalShutdown t x low) s
          = .next ((((s.at t).setPow { s.pow with hwShut := true }).bump THM_CNT THM_CNT_hw_cnt).powerFail x.draw low)) ∧
        (x.temp < s.hwThreshold → exec (.hwThermalShutdown t x low) s = .next (s.at t))) ∧
  -- COOLING_CHECK
  (∀ (t : Nat) (temp : Int) (s : State),
    s.pow.on = false →
    s.pow.wait = .cooling →
    s.thm.coolAt + sec 1 ≤ max s.cyc t →
      ∃ u, exec (.coolingCheck t temp) s = .next u ∧ s.SameBut u [] ∧
        (if temp < 16 * (THM_SHUT_t_rst.get s.thm.shut : Nat) then u.pow.wait = (if s.pow.wake then .cooled else .powerOn)
          else u.pow.wait = .cooling ∧ u.thm.coolAt = max s.cyc t)) ∧
  -- LOGIC_FEED_LOSS_WHILE_OFF
  (∀ (t : Nat) (s : State),
    s.pow.on = false →
      ∃ u, exec (.logicFeedLossWhileOff t) s = .next u ∧ u.kept.secs = none ∧ u.pow.wait = .powerOn ∧ u.reg THM_CNT = 0#32 ∧
        u.rd UPD_SLOT UPD_SLOT_bfail = 0 ∧ s.SameBut u [THM_CNT, UPD_SLOT]) ∧
  -- PCIE_LINK_TRAINED
  (∀ (t : Nat) (gen : Fin 4) (width : Fin 3) (s : State),
    s.passed 8 = true →
    s.pow.perst = false →
    s.pow.linkUp = false →
      ∃ u, exec (.pcieLinkTrained t gen width) s = .next u ∧ u.pow.linkUp = true ∧ u.pow.noLinkAt = none ∧ s.SameBut u [SYS_LINK] ∧
        u.rd SYS_LINK SYS_LINK_pcie_gen = gen.val + 1 ∧ u.rd SYS_LINK SYS_LINK_pcie_width = 2 ^ width.val) ∧
  -- PCIE_NO_LINK_TIMEOUT
  (∀ (t c : Nat) (s : State),
    s.pow.noLinkAt = some c →
    c ≤ max s.cyc t →
      exec (.pcieNoLinkTimeout t) s = .next (((s.at t).setPow { s.pow with noLinkAt := none }).note 0x0020 0)) ∧
  -- PERST_ASSERT
  (∀ (t : Nat) (s : State),
    s.pow.on = true →
      exec (.perstAssert t) s = .next (((s.at t).setPow { s.pow with perst := true, noLinkAt := none }).hostLost)) ∧
  -- PERST_DEASSERT
  (∀ (t : Nat) (s : State),
    s.pow.perst = true →
      ∃ u, exec (.perstDeassert t) s = .next u ∧ u.pow.perst = false ∧ s.SameBut u [] ∧
        u.pow.noLinkAt = (if s.pow.on then some (max s.cyc t + sec 1) else none)) ∧
  -- FUNCTION_LEVEL_RESET
  (∀ (t : Nat) (s : State),
    s.pow.linkUp = true →
      exec (.functionLevelReset t) s = .next (s.at t).hostLost) ∧
  -- HOST_LINK_LOSS
  (∀ (t : Nat) (s : State),
    s.pow.linkUp = true →
      exec (.hostLinkLoss t) s = .next (s.at t).hostLost) ∧
  -- ETH_LINK_CHANGE
  (∀ (t : Nat) (k : Fin 7) (up : Bool) (s : State),
    s.netRuns = true →
    s.netEn k = true →
    s.pow.holdUp = none →
      ∃ u, exec (.ethLinkChange t k up) s = .next u ∧ u.rd (NET_PSTAT k) NET_PSTAT_link = b2n up ∧
        u.rd SYS_LINK SYS_LINK_eth_up / 2 ^ k.val % 2 = b2n up ∧ s.SameBut u [NET_PSTAT k, SYS_LINK])

/-- What doorbell reads, descriptor arrival, NOP, completion entries and the ring interrupt do (R92, R94, R95, R96, R98,
R99, R100, R108, R109). -/
def Obligations.DoorbellDescriptorAndCompletionCommands : Prop :=
  -- DOORBELL_LINE_READ
  (∀ (t n : Nat) (m : Fin 4) (s : State),
    s.lineUs m = some n →
      ∃ u, exec (.doorbellLineRead t m) s = .next u ∧ s.Sent u [.hostRead (s.dbl m) 64] ∧ u.lineOut m = s.lineOut m + 1 ∧ s.SameBut u []) ∧
  -- LINE_READ_RETURN
  (∀ (t : Nat) (m : Fin 4) (slots : List Word) (s : State),
    s.lineOut m ≠ 0 →
    (((s.lineRings m false).any fun r => s.tailBad r (wAt slots (s.rd (RNG_CFG r) RNG_CFG_slot))) = false) →
      exec (.lineReadReturn t m slots) s
          = .next ((s.lineRings m false).foldl (fun s' r => s'.seeTail r (wAt slots (s.rd (RNG_CFG r) RNG_CFG_slot)))
              ((s.at t).setLineOut m (s.lineOut m - 1)))) ∧
  -- DESCRIPTOR_ARRIVAL
  (∀ (t : Nat) (r : Fin 64) (ws : List Word) (s : State) (d : RDesc),
    s.ringState r = rsRunning →
    s.ringAwait r ≠ 0 →
    (s.at t).ringStalled r = false →
    s.ringEth r = false →
    descBad ((List.range 16).map (wAt ws)) = false →
    opMisuse (s.ringTgt r) (s.ringFunc r) (s.rd (RNG_CFG r) RNG_CFG_dir) (bits (wAt ws 0) 31 24) = none →
    d = ⟨(s.ringHead r + (s.ring r).descs.length) % 2 ^ s.ringLog r + 2 ^ 16 * (s.ring r).epoch, (List.range 16).map (wAt ws), .read, false⟩ →
      exec (.descriptorArrival t r ws) s
          = .next (((s.at t).setRing r { s.ring r with descs := (s.ring r).descs ++ [{ d with late := (s.at t).dueLate d }] }).settleRing r)) ∧
  -- NOP
  (∀ (t : Nat) (r : Fin 64) (s : State) (d : RDesc),
    s.opFor r (s.ringTgt r) (s.ringFunc r) 0 = some d →
      exec (.nop t r) s = .next (((s.at t).endOp r d.slot stDone 0 0).settleRing r)) ∧
  -- COMPLETION_WRITE
  (∀ (t : Nat) (r : Fin 64) (s : State),
    (((s.at t).settleRing r).ring r).descs.takeWhile RDesc.done ≠ [] →
    ((s.at t).settleRing r).ringStalled r = false →
    ((s.at t).settleRing r).ringState r = rsRunning ∨ ((s.at t).settleRing r).ringState r = rsDraining →
      ∃ x, x = (s.at t).settleRing r ∧
        (let y := (((x.ring r).descs.takeWhile RDesc.done).foldl (fun s d => s.writeEntry r d) x).writeCdb r;
          exec (.completionWrite t r) s = .next ((if ((x.ring r).descs.takeWhile RDesc.done).any RDesc.irq && x.bit (RNG_POLL r) RNG_POLL_irq_en
            then y.ringIrq r else y).settleRing r))) ∧
  -- IRQ_HOLDOFF_END
  (∀ (t : Nat) (r : Fin 64) (s : State),
    (s.ring r).irqDue = true →
    (s.ring r).irqFree ≤ max s.cyc t →
    s.ringState r ≠ rsHalted →
      ∃ u, exec (.irqHoldoffEnd t r) s = .next u ∧ s.Sent u [.msix (s.rd (RNG_POLL r) RNG_POLL_vector)] ∧ (u.ring r).irqDue = false ∧
        (u.ring r).irqFree = max s.cyc t + s.holdoff r ∧ s.SameBut u []) ∧
  -- ETH_DOORBELL_FRAME
  (∀ (t : Nat) (src : FrameSource) (m : Fin 4) (image ws : List Word) (s : State),
    s.takesFrame src 1 68 = true →
    frameBytes src = 68 →
    ws = (List.range 16).map (wAt image) →
    (((s.lineRings m true).any fun r => s.tailBad r (wAt ws (s.rd (RNG_CFG r) RNG_CFG_slot))) = false) →
      exec (.ethDoorbellFrame t src m image) s
          = .next ((s.lineRings m true).foldl (fun s' r => s'.seeTail r (wAt ws (s.rd (RNG_CFG r) RNG_CFG_slot)))
              ((s.at t).memStore (s.dbl m) (wordsBytes ws)))) ∧
  -- ETH_WRITE_FRAME
  (∀ (t addr n : Nat) (src : FrameSource) (bs : List Byte) (s : State),
    s.takesFrame src 2 (8 + bs.length) = true →
    n = frameBytes src - 8 →
    1 ≤ n →
    n ≤ 1024 →
    addr + n ≤ sharedTop →
    (((s.at t).moduleAreas.any fun x => decide (addr < x.1 + x.2) && decide (x.1 < addr + n)) = false) →
    s.poisoned addr n = false →
      exec (.ethWriteFrame t src addr bs) s = .next (((s.at t).memStore addr (bs.take n)).poisonEnds addr n) ∧
        (∀ i (h : i < (bs.take n).length), ((s.at t).memStore addr (bs.take n)).memRd (addr + i) = (bs.take n)[i]) ∧
        (∀ c, c < addr ∨ addr + (bs.take n).length ≤ c → ((s.at t).memStore addr (bs.take n)).memRd c = s.memRd c)) ∧
  -- ETH_READ_FRAME
  (∀ (t addr len : Nat) (src : FrameSource) (lo hi : Word) (s : State),
    addr = u64 lo hi →
    s.takesFrame src 3 12 = true →
    frameBytes src = 12 →
    1 ≤ len →
    len ≤ 1024 →
    addr + len ≤ sharedTop →
    s.poisoned addr len = false →
    s.mirrorHit addr len = false →
      exec (.ethReadFrame t src lo hi len) s
          = .next ((s.at t).sendFrame (packW [(4, 28), (bits src.w0 15 0, 0)]) (packW [(len, 0)] :: bytesWords (s.memBytes addr len)))) ∧
  -- COMPLETION_FRAME_SEND
  (∀ (t : Nat) (r : Fin 64) (s : State) (e : Nat × List Word),
    (s.ring r).cqPend.head? = some e →
    32 ≤ (s.ring r).cqPend.length ∨ e.1 + s.holdoff r ≤ max s.cyc t →
    s.ringState r ≠ rsHalted →
      (let l := ((s.ring r).cqPend.take 32).map Prod.snd;
        let x := (s.at t).sendFrame (packW [(5, 28), (r.val, 22), (l.length, 16), (s.rng.frameSeq, 0)])
          (packW [(4 + 16 * l.length, 0)] :: s.cdbWord r :: l.flatten);
        ∃ u, exec (.completionFrameSend t r) s = .next u ∧ (u.ring r).cqPend = (s.ring r).cqPend.drop 32 ∧
          u.out = x.out ∧ u.net = x.net ∧ x.SameBut u [] ∧ u.rng.frameSeq = (x.rng.frameSeq + 1) % 2 ^ 16))

/-- RNG_CTL start, stop, stop and discard, the end of a drain, and a failed host read (R101, R102, R103, R106). -/
def Obligations.RingStateCommands : Prop :=
  -- RING_START
  (∀ (t : Nat) (r : Fin 64) (s : State),
    s.readyReg (RNG_CTL r) = true →
    s.ringState r = rsOff →
    4 ≤ s.ringLog r →
    s.ringLog r ≤ 16 →
    s.rd (RNG_CFG r) RNG_CFG_class ≠ 3 →
    s.ringClash r = false →
    s.ringOnDisplay r = false →
    (((List.range 64).any fun q => q != r.val && s.ringState q != rsOff && s.rd (RNG_CFG q) RNG_CFG_line == s.rd (RNG_CFG r) RNG_CFG_line && s.rd (RNG_CFG q) RNG_CFG_slot == s.rd (RNG_CFG r) RNG_CFG_slot) = false) →
      ∃ x : State, x.ringState r = rsRunning ∧ x.reg (RNG_HEAD r) = 0#32 ∧ x.reg (RNG_TAIL r) = 0#32 ∧ (x.ring r).descs = [] ∧
        s.SameBut x [RNG_CFG r, RNG_HEAD r, RNG_TAIL r] ∧ exec (.ringStart t r) s = .next ((List.range 64).foldl State.fillsBehind x).guarPoll) ∧
  -- RING_STOP
  (∀ (t : Nat) (r : Fin 64) (s : State),
    s.readyReg (RNG_CTL r) = true →
    s.ringState r = rsRunning →
      ∃ x : State, x = (((s.at t).readsLeft r).wr (RNG_CFG r) RNG_CFG_state rsDraining).abortUnstarted r ∧ x.ringState r = rsDraining ∧
        s.SameBut x [RNG_CFG r] ∧ exec (.ringStop t r) s = .next x.guarPoll ∧
        (x.ring r).descs = (s.ring r).descs.map fun d => if d.st = .read then { d with st := .ended stAborted 0 0 } else d) ∧
  -- RING_STOP_DISCARD
  (∀ (t : Nat) (r : Fin 64) (s : State),
    s.readyReg (RNG_CTL r) = true →
    s.ringState r = rsRunning ∨ s.ringState r = rsDraining →
      exec (.ringStopDiscard t r) s
          = .next (((if s.ringState r = rsRunning then ((((s.at t).readsLeft r).wr (RNG_CFG r) RNG_CFG_state rsDraining).abortUnstarted r).guarPoll
              else s.at t).abortFills r).dpyDiscard r)) ∧
  -- RING_DRAIN_END
  (∀ (t : Nat) (r : Fin 64) (s : State),
    s.ringState r = rsDraining →
    (s.ring r).descs = [] →
      exec (.ringDrainEnd t r) s = .next ((((s.at t).wr (RNG_CFG r) RNG_CFG_state rsOff).writeCdb r).guarPoll)) ∧
  -- HOST_READ_FAILURE
  (∀ (t : Nat) (s : State),
      (∀ r : Fin 64, (s.at t).descReads r = true →
          exec (.hostReadFailure t (.desc r)) s = .next (((s.at t).haltRing r).guarPoll.ringFault)) ∧
        exec (.hostReadFailure t .buffer) s = .next (s.at t).ringFault ∧
        ∀ m : Fin 4, s.lineOut m ≠ 0 → exec (.hostReadFailure t (.line m)) s
          = .next ((((List.range 64).filter fun r => s.ringState r != rsOff && s.rd (RNG_CFG r) RNG_CFG_line == m.val).foldl
              (fun s r => s.haltRing r) ((s.at t).setLineOut m (s.lineOut m - 1))).guarPoll.ringFault))

/-- What shafts, GROUND and the position snapshot do (R114, R117, R118, R119, R120, R123, R124, R125, R126). -/
def Obligations.ShaftAndGroundCommands : Prop :=
  -- SHAFT_ENABLE
  (∀ (t : Nat) (k : Fin 8) (v : Word) (s : State),
    s.readyReg (NYM_SHAFT_CFG k) = true →
    reservedOf (NYM_SHAFT_CFG k) v = 0#32 →
    s.shaftEn k = false →
    s.shaftK12 k = false →
    NYM_SHAFT_CFG_en.get v ≠ 0 →
    s.shaftBad k (shaftCfgOf v (s.rd (NYM_SHAFT_GEO k) NYM_SHAFT_GEO_offset)) = false →
      exec (.shaftEnable t k v) s = .next (((s.at t).store (NYM_SHAFT_CFG k) v).shaftSeek k)) ∧
  -- SHAFT_DISABLE
  (∀ (t : Nat) (k : Fin 8) (v : Word) (s : State),
    s.readyReg (NYM_SHAFT_CFG k) = true →
    reservedOf (NYM_SHAFT_CFG k) v = 0#32 →
    s.shaftEn k = true →
    s.shaftK12 k = false →
    NYM_SHAFT_CFG_en.get v ≠ 1 →
      exec (.shaftDisable t k v) s = .next (((s.at t).store (NYM_SHAFT_CFG k) v).shaftUnsync k)) ∧
  -- SHAFT_EDGE
  (∀ (t : Nat) (k : Fin 8) (edge : ShaftEdge) (s : State),
    s.shaftEn k = true →
      ∃ (h : Shaft) (p : Option Nat), h.fwd = (s.at t).edgeFwd (s.shaftCfg k) edge ∧ h.tEdge = some (max s.cyc t) ∧ h.stallFrom = max s.cyc t ∧
        h.cnt = (s.shaft k).cnt + dirSign h.fwd ∧
        (let r := if (s.shaftCfg k).mode = 0 then gapCheck (s.shaftCfg k) (s.shaftSync k) h else indexCheck (s.shaftCfg k) (s.shaftSync k) h;
          exec (.shaftEdge t k edge) s = .next (((s.at t).shaftFound k (s.shaftCfg k) r.1 r.2 p).shaftReport k (s.shaftCfg k)))) ∧
  -- SHAFT_INDEX_PULSE
  (∀ (t : Nat) (k : Fin 8) (s : State),
    s.shaftEn k = true →
    (s.shaftCfg k).mode ≠ 0 →
      ∃ u, exec (.shaftIndexPulse t k) s = .next u ∧ (u.shaft k).idx = some (s.shaft k).cnt ∧ (u.shaft k).cnt = 0 ∧ s.SameBut u []) ∧
  -- SHAFT_STALL
  (∀ (t : Nat) (k : Fin 8) (s : State),
    s.shaftEn k = true →
    s.bit (NYM_SHAFT_STAT k) NYM_SHAFT_STAT_stalled = false →
    (s.shaft k).stallFrom + s.stallTime k ≤ max s.cyc t →
      ∃ x, x = (s.at t).course (2 + k) (fun s => s.setShaft k ((s.shaft k).hold s.cyc).fresh) ∧
        exec (.shaftStall t k) s = .next ((x.wr (NYM_SHAFT_STAT k) NYM_SHAFT_STAT_stalled 1).wr (NYM_SHAFT_STAT k) NYM_SHAFT_STAT_speed 0)) ∧
  -- WHEEL_PULSE
  (∀ (t n c : Nat) (s : State),
    s.gndEn = true →
    s.wheelUsed = true →
    s.rd NYM_GND_CFG NYM_GND_CFG_wheel_in = n →
    s.nym.gnd.lastPulse = some c →
    c < max s.cyc t →
      ∃ x : State, exec (.wheelPulse t n) s = .next (x.gndRecalc.freeNext) ∧ x.nym.gnd.wheel = some (max s.cyc t - c) ∧
        x.nym.gnd.lastPulse = some (max s.cyc t) ∧ x.nym.gnd.dWheel = s.nym.gnd.dWheel + 1 ∧ s.SameBut x []) ∧
  -- WHEEL_TIMEOUT
  (∀ (t : Nat) (s : State),
    s.gndEn = true →
    s.wheelUsed = true →
    s.nym.gnd.wheel ≠ some 0 →
    (s.nym.gnd.lastPulse.getD s.nym.gnd.since) + s.wheelTimeout ≤ max s.cyc t →
      exec (.wheelTimeout t) s = .next (((s.at t).setGnd { s.nym.gnd with wheel := some 0, bothFast := false }).gndRecalc.freeNext)) ∧
  -- GROUND_SCALE_UPDATE
  (∀ (t : Nat) (s : State),
    s.gndEn = true →
    s.nym.gnd.secFrom + sec 1 ≤ max s.cyc t →
      (let g := s.nym.gnd;
          let x := (s.at t).setGnd { g with secFrom := max s.cyc t, dWheel := 0, dGnss := 0, bothFast := (s.at t).bothFast };
          let sc := nextScale g.scale g.dGnss (g.dWheel * 16000000 / s.ppm);
          exec (.groundScaleUpdate t) s = .next (
            if s.wheelUsed && s.gnssUsed && g.bothFast && g.wheel.isSome && g.gnss.isSome && g.dWheel != 0 then
              (((x.setGnd { x.nym.gnd with scale := sc }).wr NYM_GND_STAT NYM_GND_STAT_scale_dev ((((sc : Int) - 2 ^ 24) / 2 ^ 11) % 2 ^ 12).toNat).gndRecalc).freeNext
            else x))) ∧
  -- GROUND_COAST
  (∀ (t : Nat) (s : State),
    s.gndEn = true →
    s.bit NYM_GND_STAT NYM_GND_STAT_coast = false →
    (s.wheelUsed && s.nym.gnd.wheel.isSome) = false →
    (s.gnssUsed && s.nym.gnd.gnss.isSome) = false →
    s.nym.gnd.srcAt + ms 200 ≤ max s.cyc t →
      exec (.groundCoast t) s = .next (((((s.at t).gndRate 0).gndSpeed 0).wr NYM_GND_STAT NYM_GND_STAT_coast 1).raise2 0x0220 0)) ∧
  -- MTIME_SNAPSHOT_READ
  (∀ (t : Nat) (s : State),
    s.readyReg NYM_MTIME_LO = true →
      ∃ u, exec (.mtimeSnapshotRead t) s = .next u ∧ u.reg NYM_MTIME_HI = hi32 (s.at t).mtime ∧
        u.reg NYM_GND_POS_LO = lo32 (pos64 ((s.at t).pos 10)) ∧ u.reg NYM_GND_POS_HI = hi32 (pos64 ((s.at t).pos 10)) ∧
        (∀ k : Fin 8, u.reg (NYM_SHAFT_POS_LO k) = lo32 (pos64 ((s.at t).pos (2 + k.val))) ∧ u.reg (NYM_SHAFT_POS_HI k) = hi32 (pos64 ((s.at t).pos (2 + k.val)))) ∧
        ∀ a, u.memRd a = s.memRd a)

/-- What the event table's ring operations, window commands, hand-over and release do (R130, R131, R134, R137, R138, R139,
R141, R142, R143). -/
def Obligations.EventTableCommands : Prop :=
  -- NYM_WRITE
  (∀ (t : Nat) (r : Fin 64) (buf : List Word) (s : State) (d : RDesc),
    s.opFor r 0x02 0 1 = some d →
    bits (d.par 8) 13 0 + (d.len + 31) / 32 ≤ 16384 →
    bits (d.par 8) 17 16 ≠ 3 →
    d.len ≠ 0 →
    d.len % 32 = 0 →
    s.canTake r d (4 * buf.length) = true →
    s.evK12 (bits (d.par 8) 13 0) (d.len / 32) = false →
    (halves (s.bufWords r d buf) (d.len / 32)).any evBad = false →
      ∃ x, x = ((halves (s.bufWords r d buf) (d.len / 32)).zipIdx (bits (d.par 8) 13 0)).foldl (fun s p =>
            if bits (d.par 8) 17 16 = 0 then s.evWrite p.2 p.1 else (s.evWrite p.2 p.1).evCommit p.2 (bits (d.par 8) 17 16)) (s.at t) ∧
        exec (.nymWrite t r buf) s = .next ((x.endSeq 2 r d.slot d.len x.hoNym).settleRing r)) ∧
  -- NYM_COMMIT
  (∀ (t : Nat) (r : Fin 64) (s : State) (d : RDesc),
    s.opFor r 0x02 0 2 = some d →
    bits (d.par 8) 13 0 + bits (d.par 9) 14 0 ≤ 16384 →
    bits (d.par 9) 17 16 ≠ 0 →
    bits (d.par 9) 17 16 ≠ 3 →
    s.evK12 (bits (d.par 8) 13 0) (bits (d.par 9) 14 0) = false →
      ∃ x, x = (List.range (bits (d.par 9) 14 0)).foldl (fun s k => s.evCommit (bits (d.par 8) 13 0 + k) (bits (d.par 9) 17 16)) (s.at t) ∧
        exec (.nymCommit t r) s = .next ((x.endSeq 2 r d.slot 0 x.hoNym).settleRing r)) ∧
  -- NYM_READ
  (∀ (t : Nat) (r : Fin 64) (s : State) (d : RDesc),
    s.opFor r 0x02 0 3 = some d →
    bits (d.par 8) 13 0 + (d.len + 31) / 32 ≤ 16384 →
    bits (d.par 8) 17 16 ≠ 3 →
    d.len ≠ 0 →
    d.len % 32 = 0 →
    s.bufBad r d = false →
    s.evK12 (bits (d.par 8) 13 0) (d.len / 32) = false →
      exec (.nymRead t r) s = .next ((((s.at t).bufOut r d 0 ((List.range (d.len / 32)).flatMap fun k =>
            (s.at t).evItem (bits (d.par 8) 13 0 + k) (bits (d.par 8) 17 16))).endSeq 2 r d.slot d.len s.hoNym).settleRing r)) ∧
  -- NYM_DISARM
  (∀ (t : Nat) (r : Fin 64) (s : State) (d : RDesc),
    s.opFor r 0x02 0 4 = some d →
    bits (d.par 8) 13 0 + bits (d.par 9) 14 0 ≤ 16384 →
    s.evK12 (bits (d.par 8) 13 0) (bits (d.par 9) 14 0) = false →
      ∃ x, x = (List.range (bits (d.par 9) 14 0)).foldl (fun s k => s.evDisarm (bits (d.par 8) 13 0 + k)) (s.at t) ∧
        exec (.nymDisarm t r) s = .next ((x.endSeq 2 r d.slot 0 x.hoNym).settleRing r)) ∧
  -- TBL_WRITE_SHADOW, TBL_WRITE_COMMIT_ARM, TBL_WRITE_COMMIT_NOW
  (∀ (t : Nat) (s : State),
    s.readyReg NYM_TBL_CMD = true →
    s.evK12 (s.rd NYM_TBL_IDX NYM_TBL_IDX_index) 1 = false →
    evBad s.tblData = false →
      (let i := s.rd NYM_TBL_IDX NYM_TBL_IDX_index;
          let x := (s.at t).evWrite i s.tblData;
          let latch := fun z : State => (z.setReg NYM_TBL_SEQ (z.reg NYM_HO_SEQ)).hoNote 2 (.reg NYM_TBL_SEQ);
          exec (.tblWriteShadow t) s = .next (latch x) ∧ exec (.tblWriteCommitArm t) s = .next (latch (x.evCommit i 1)) ∧
            exec (.tblWriteCommitNow t) s = .next (latch (x.evCommit i 2)))) ∧
  -- TBL_READ_SHADOW, TBL_READ_ACTIVE, TBL_READ_RUN_STATE, TBL_DISARM
  (∀ (t : Nat) (s : State),
    s.readyReg NYM_TBL_CMD = true →
    s.evK12 (s.rd NYM_TBL_IDX NYM_TBL_IDX_index) 1 = false →
      (let i := s.rd NYM_TBL_IDX NYM_TBL_IDX_index;
          let latch := fun z : State => (z.setReg NYM_TBL_SEQ (z.reg NYM_HO_SEQ)).hoNote 2 (.reg NYM_TBL_SEQ);
          let read := fun k : Nat => latch ((s.at t).setTblData ((s.at t).evItem i k));
          exec (.tblReadShadow t) s = .next (read 0) ∧ exec (.tblReadActive t) s = .next (read 1) ∧
            exec (.tblReadRunState t) s = .next (read 2) ∧ exec (.tblDisarm t) s = .next (latch ((s.at t).evDisarm i)))) ∧
  -- EVENT_HANDOVER
  (∀ (t : Nat) (i : Fin 16384) (s : State),
    ((s.at t).evNow i).due (max s.cyc t) = 2 ∨ (((s.at t).evNow i).due (max s.cyc t) = 1 ∧ ((s.at t).evNow i).armed = false) →
      exec (.eventHandover t i) s = .next ((s.at t).evCopy i false)) ∧
  -- EVENT_RELEASE
  (∀ (t i : Nat) (s : State),
    (s.at t).relCount < 4 →
    (s.at t).evNextRelease = some i →
    (s.at t).evForeign i = false →
      exec (.eventRelease t) s = .next ((s.at t).evRelease i))

/-- What triggers, evaluations, the hand-over and the load window of the loops do (R18, R19, R32, R147, R148, R151, R158,
R166, R169). -/
def Obligations.LoopEngineCommands : Prop :=
  -- LOOP_TRIGGER
  (∀ (t : Nat) (n : Fin 64) (s : State),
    (s.at t).loopRuns n = true →
    (s.loop n).trigged = false →
    (s.loop n).trig ≤ (s.at t).mtime →
    ¬ ((lpInKind (s.loop n).act = 1 ∧ s.ainEn (lpInNum (s.loop n).act) = false) ∨ (lpInKind (s.loop n).act = 2 ∧ s.finEn (lpInNum (s.loop n).act) = false)) →
      ∃ x : State, x = (s.at t).setLoop n { s.loop n with trigged := true, sample := none } ∧
        (lpInKind (s.loop n).act = 1 → s.ainK12 (lpInNum (s.loop n).act) = false →
          exec (.loopTrigger t n) s = .next (x.ainTrigger (lpInNum (s.loop n).act) [n])) ∧
        (lpInKind (s.loop n).act = 2 → s.finK12 (lpInNum (s.loop n).act) = false →
          exec (.loopTrigger t n) s = .next (x.finLatch (lpInNum (s.loop n).act) [n])) ∧
        (lpInKind (s.loop n).act ∉ [1, 2, 3, 5] →
          exec (.loopTrigger t n) s = .next (x.setLoop n { x.loop n with sample := some ((s.at t).latchOf (lpInKind (s.loop n).act) (lpInNum (s.loop n).act)) }))) ∧
  -- LOOP_EVALUATION
  (∀ (t : Nat) (n : Fin 64) (ecc hits : List EccHit) (s x : State),
    (hits = ecc.filter fun h => h.region.val == 0) →
    x = (s.at t).eccAll hits →
    x.loopRuns n = true →
    eccBad hits = true →
      exec (.loopEvaluation t n ecc) s = .next x) ∧
  -- LOOP_EVALUATION
  (∀ (t : Nat) (n : Fin 64) (ecc hits : List EccHit) (raw : Int) (s x : State),
    (hits = ecc.filter fun h => h.region.val == 0) →
    x = (s.at t).eccAll hits →
    x.loopRuns n = true →
    eccBad hits = false →
    (x.loop n).flight = none →
    (x.loop n).cu = false →
    (x.loop n).nom + 24000 ≤ x.mtime →
    x.mtime < (x.loop n).nom + 24005 →
    (x.loop n).trig = (x.loop n).nom →
    (x.loop n).sample = some raw →
    ((x.loop n).due x.cyc && x.outBad n ((x.loop n).source x.cyc)) = false →
      exec (.loopEvaluation t n ecc) s = .next (x.evaluated n raw (x.loop n).trig ((x.loop n).nom + 24000) true)) ∧
  -- LOOP_EVALUATION
  (∀ (t : Nat) (n : Fin 64) (ecc hits : List EccHit) (raw : Int) (f : Flight) (s x y : State),
    (hits = ecc.filter fun h => h.region.val == 0) →
    x = (s.at t).eccAll hits →
    x.loopRuns n = true →
    eccBad hits = false →
    (x.loop n).flight = some f →
    f.lane = false →
    f.start = x.cyc →
    f.sample = some raw →
    y = x.setLoop n { x.loop n with flight := none } →
    ((y.loop n).due y.cyc && y.outBad n ((y.loop n).source y.cyc)) = false →
      exec (.loopEvaluation t n ecc) s = .next (y.evaluated n raw f.trig y.mtime false)) ∧
  -- LOOP_EVALUATION
  (∀ (t : Nat) (n : Fin 64) (ecc hits : List EccHit) (s x : State),
    (hits = ecc.filter fun h => h.region.val == 0) →
    x = (s.at t).eccAll hits →
    x.loopRuns n = true →
    eccBad hits = false →
    (x.loop n).flight = none →
    (x.loop n).cu = false →
    (x.loop n).nom + 24000 ≤ x.mtime →
    (x.loop n).sample = none →
      exec (.loopEvaluation t n ecc) s = .next (x.setLoop n { x.loop n with cu := true })) ∧
  -- CATCHUP_EVALUATION
  (∀ (t : Nat) (n : Fin 64) (trig : Nat) (raw : Int) (own : Bool) (s x y : State),
    (s.at t).loopRuns n = true →
    s.cle.laneFree ≤ max s.cyc t →
    (s.at t).laneJob n = some (trig, raw, own) →
    (s.at t).laneAhead n trig = false →
    x = { s.at t with cle := { (s.at t).cle with laneFree := (s.at t).cyc + 625 } } →
    (y = (if own then x else x.setLoop n { x.loop n with flight := none })) →
    ((y.loop n).due y.cyc && y.outBad n ((y.loop n).source y.cyc)) = false →
      exec (.catchupEvaluation t n) s = .next (y.evaluated n raw trig x.mtime own)) ∧
  -- LOOP_HANDOVER
  (∀ (t : Nat) (n : Fin 64) (s : State),
    (s.loop n).due (max s.cyc t) = true →
    lpEn (s.loop n).act = false →
    s.outBad n ((s.loop n).source (max s.cyc t)) = false →
      exec (.loopHandover t n) s = .next ((s.at t).loopCopy n)) ∧
  -- LOAD_WINDOW_END
  (∀ (t : Nat) (s : State),
    s.ready 3 = true →
    s.cle.winFrom + ms 1 ≤ max s.cyc t →
      ∃ x : State, exec (.loadWindowEnd t) s = .next (x.guarSet SYS_GUAR_load_over SYS_GUAR_load_seen (decide (1280 < s.cle.evals))) ∧
        x.rd CLE_LOAD CLE_LOAD_last = min 0xFFFF s.cle.evals ∧ x.cle.evals = 0 ∧ x.cle.winFrom = max s.cyc t ∧ s.SameBut x [CLE_LOAD])

/-- What the loop engine's ring operations and window commands do (R152, R172, R173, R174). -/
def Obligations.LoopRingAndWindowCommands : Prop :=
  -- SET_TARGET
  (∀ (t : Nat) (r : Fin 64) (s : State) (d : RDesc),
    s.opFor r 0x03 0 1 = some d →
    s.hostLoop (bits (d.par 8) 5 0) = true →
      exec (.setTarget t r) s = .next ((((s.at t).startOp r d.slot).writeTarget (bits (d.par 8) 5 0) 0 (sInt (d.par 9)) (some (r, d.slot))).settleRing r)) ∧
  -- SET_TARGETS
  (∀ (t : Nat) (r : Fin 64) (buf : List Word) (s : State) (d : RDesc) (ps : List (Nat × Int)),
    s.opFor r 0x03 0 2 = some d →
    d.len % 8 = 0 →
    d.len ≠ 0 →
    s.canTake r d (4 * buf.length) = true →
    (ps = (List.range (d.len / 8)).map fun i => (bits (wAt (s.bufWords r d buf) (2 * i)) 5 0, sInt (wAt (s.bufWords r d buf) (2 * i + 1)))) →
    ((ps.all fun p => s.hostLoop p.1) = true) →
      ∃ x : State, x = (let y := (s.at t).startOp r d.slot; { y with cle := { y.cle with tgts := y.cle.tgts ++ [⟨(r, d.slot), (ps.map Prod.fst).dedup, ps.length, false⟩] } }) ∧
        exec (.setTargets t r buf) s = .next ((ps.foldl (fun s p =>
          let l := s.loop p.1
          (s.setLoop p.1 { l with tgtOps := l.tgtOps.filter fun o => o.1 != (r.val, d.slot) }).writeTarget p.1 0 p.2 (some (r, d.slot))) x).settleRing r)) ∧
  -- CLE_WRITE
  (∀ (t : Nat) (r : Fin 64) (buf : List Word) (s : State) (d : RDesc) (hs : List (List Word × Nat)),
    s.opFor r 0x03 1 0x10 = some d →
    bits (d.par 8) 5 0 + (d.len + 127) / 128 ≤ 64 →
    bits (d.par 8) 17 16 ≤ 1 →
    d.len % 128 = 0 →
    s.canTake r d (4 * buf.length) = true →
    hs = (itemsOf (s.bufWords r d buf) 32 (d.len / 128)).zipIdx (bits (d.par 8) 5 0) →
    ((hs.any fun p => lpBad p.2 p.1) = false) →
      ∃ x, x = hs.foldl (fun s p => if bits (d.par 8) 17 16 = 1 then (s.loopWrite p.2 p.1).loopCommit p.2 else s.loopWrite p.2 p.1) (s.at t) ∧
        exec (.cleWrite t r buf) s = .next ((x.endSeq 3 r d.slot d.len x.hoCle).settleRing r)) ∧
  -- CLE_COMMIT
  (∀ (t : Nat) (r : Fin 64) (s : State) (d : RDesc),
    s.opFor r 0x03 1 0x11 = some d →
    bits (d.par 8) 5 0 + bits (d.par 9) 6 0 ≤ 64 →
      exec (.cleCommit t r) s = .next ((((List.range (bits (d.par 9) 6 0)).foldl (fun s k => s.loopCommit (bits (d.par 8) 5 0 + k)) (s.at t)).endSeq 3 r d.slot 0 s.hoCle).settleRing r)) ∧
  -- CLE_READ
  (∀ (t : Nat) (r : Fin 64) (s : State) (d : RDesc),
    s.opFor r 0x03 1 0x12 = some d →
    bits (d.par 8) 5 0 + (d.len + 127) / 128 ≤ 64 →
    bits (d.par 8) 17 16 ≠ 3 →
    d.len % 128 = 0 →
    s.bufBad r d = false →
      exec (.cleRead t r) s = .next ((((s.at t).bufOut r d 0 ((List.range (d.len / 128)).flatMap fun k => s.loopItem (bits (d.par 8) 5 0 + k) (bits (d.par 8) 17 16))).endSeq
            3 r d.slot d.len s.hoCle).settleRing r)) ∧
  -- CLEAR_STATE
  (∀ (t : Nat) (r : Fin 64) (s : State) (d : RDesc),
    s.opFor r 0x03 1 0x13 = some d →
    bits (d.par 8) 5 0 + bits (d.par 9) 6 0 ≤ 64 →
      exec (.clearState t r) s = .next ((((List.range (bits (d.par 9) 6 0)).foldl (fun s k => s.loopClear (bits (d.par 8) 5 0 + k)) (s.at t)).endSeq 3 r d.slot 0 s.hoCle).settleRing r)) ∧
  -- POOL_WRITE
  (∀ (t : Nat) (r : Fin 64) (buf : List Word) (s : State) (d : RDesc),
    s.opFor r 0x03 1 0x14 = some d →
    bits (d.par 8) 12 0 + (d.len + 3) / 4 ≤ 8192 →
    d.len % 4 = 0 →
    s.canTake r d (4 * buf.length) = true →
      exec (.poolWrite t r buf) s = .next (((((s.bufWords r d buf).zipIdx (bits (d.par 8) 12 0)).foldl (fun s p => s.setPool p.2 p.1) (s.at t)).endSeq 3 r d.slot d.len
            s.hoCle).settleRing r)) ∧
  -- POOL_READ
  (∀ (t : Nat) (r : Fin 64) (s : State) (d : RDesc),
    s.opFor r 0x03 1 0x15 = some d →
    bits (d.par 8) 12 0 + (d.len + 3) / 4 ≤ 8192 →
    d.len % 4 = 0 →
    s.bufBad r d = false →
      exec (.poolRead t r) s = .next ((((s.at t).bufOut r d 0 ((List.range (d.len / 4)).map fun k => s.poolAt (bits (d.par 8) 12 0 + k))).endSeq 3 r d.slot d.len
            s.hoCle).settleRing r)) ∧
  -- WIN_WRITE_SHADOW, WIN_WRITE_COMMIT
  (∀ (t : Nat) (s : State),
    s.readyReg CLE_WIN_CMD = true →
    lpBad (s.rd CLE_WIN_IDX CLE_WIN_IDX_loop) s.winData = false →
      (let n := s.rd CLE_WIN_IDX CLE_WIN_IDX_loop;
          let x := (s.at t).loopWrite n s.winData;
          let latch := fun z : State => (z.setReg CLE_WIN_SEQ (z.reg CLE_HO_SEQ)).hoNote 3 (.reg CLE_WIN_SEQ);
          exec (.winWriteShadow t) s = .next (latch x) ∧ exec (.winWriteCommit t) s = .next (latch (x.loopCommit n)))) ∧
  -- WIN_READ_SHADOW, WIN_READ_ACTIVE, WIN_READ_RUN_STATE, WIN_CLEAR_STATE
  (∀ (t : Nat) (s : State),
    s.readyReg CLE_WIN_CMD = true →
      (let n := s.rd CLE_WIN_IDX CLE_WIN_IDX_loop;
          let latch := fun z : State => (z.setReg CLE_WIN_SEQ (z.reg CLE_HO_SEQ)).hoNote 3 (.reg CLE_WIN_SEQ);
          let read := fun k : Nat => latch ((s.at t).setWinData (s.loopItem n k));
          exec (.winReadShadow t) s = .next (read 0) ∧ exec (.winReadActive t) s = .next (read 1) ∧
            exec (.winReadRunState t) s = .next (read 2) ∧ exec (.winClearState t) s = .next (latch ((s.at t).loopClear n)))) ∧
  -- POOL_DATA_ACCESS
  (∀ (t : Nat) (v : Option Word) (s : State),
    s.readyReg CLE_POOL_DATA = true →
      (let i := s.rd CLE_POOL_IDX CLE_POOL_IDX_index;
          let x := match v with
            | some w => (s.at t).setPool i w
            | none => s.at t
          exec (.poolDataAccess t v) s = .next (if s.bit CLE_POOL_IDX CLE_POOL_IDX_autoinc then x.wr CLE_POOL_IDX CLE_POOL_IDX_index ((i + 1) % 8192) else x)))

/-- What a commit's vote, a lapsed lease, limp-home's safe states and the steering override do (R177, R179, R181, R182,
R186, R188, R189). -/
def Obligations.CommitAndLeaseEndCommands : Prop :=
  -- COMMIT_VOTE
  (∀ (t : Nat) (c0 c1 c2 : CoreRec) (s : State) (p : Plan) (mine ws : List Word),
    (s.at t).ready 4 = true →
    s.triMode ≠ modeLimp →
    s.tri.due ≤ max s.cyc t →
    (((s.liveRecs ((s.at t).planRecord ((s.at t).expireAll.plan (s.at t).tracked.2)) c0 c1 c2).any fun x => x.2.isNone) = false ∨ s.tri.due + us 100 ≤ max s.cyc t) →
    p = (s.at t).expireAll.plan (s.at t).tracked.2 →
    mine = (s.at t).planRecord p →
    verdict (s.liveRecs mine c0 c1 c2) = .apply ws →
    ((State.applyRecord (s.at t) p mine ws (s.at t).tracked.1).commitNext.tstUnsafe && !(s.at t).tstUnsafe) = false →
      exec (.commitVote t c0 c1 c2) s = .next (State.applyRecord (s.at t) p mine ws (s.at t).tracked.1).commitNext) ∧
  -- COMMIT_VOTE
  (∀ (t : Nat) (c0 c1 c2 : CoreRec) (s : State) (p : Plan) (mine ws : List Word) (c : Nat),
    (s.at t).ready 4 = true →
    s.triMode ≠ modeLimp →
    s.tri.due ≤ max s.cyc t →
    (((s.liveRecs ((s.at t).planRecord ((s.at t).expireAll.plan (s.at t).tracked.2)) c0 c1 c2).any fun x => x.2.isNone) = false ∨ s.tri.due + us 100 ≤ max s.cyc t) →
    p = (s.at t).expireAll.plan (s.at t).tracked.2 →
    mine = (s.at t).planRecord p →
    verdict (s.liveRecs mine c0 c1 c2) = .drop ws c →
    (((State.applyRecord (s.at t) p mine ws (s.at t).tracked.1).tailDrop c).commitNext.tstUnsafe && !(s.at t).tstUnsafe) = false →
      exec (.commitVote t c0 c1 c2) s = .next ((State.applyRecord (s.at t) p mine ws (s.at t).tracked.1).tailDrop c).commitNext) ∧
  -- COMMIT_VOTE
  (∀ (t : Nat) (c0 c1 c2 : CoreRec) (s : State) (code : Nat),
    (s.at t).ready 4 = true →
    s.triMode ≠ modeLimp →
    s.tri.due ≤ max s.cyc t →
    (((s.liveRecs ((s.at t).planRecord ((s.at t).expireAll.plan (s.at t).tracked.2)) c0 c1 c2).any fun x => x.2.isNone) = false ∨ s.tri.due + us 100 ≤ max s.cyc t) →
    verdict (s.liveRecs ((s.at t).planRecord ((s.at t).expireAll.plan (s.at t).tracked.2)) c0 c1 c2) = .escalate code →
      exec (.commitVote t c0 c1 c2) s = .next ((s.at t).raise0 code 0 0)) ∧
  -- LIMP_SAFE_STATE_APPLY
  (∀ (t : Nat) (s : State),
    s.triMode = modeLimp →
    s.tri.limpDone = false →
    s.pow.holdUp = none →
      exec (.limpSafeStateApply t) s = .next ((List.range 32).foldl (fun u g =>
            if u.limpHeld g && (u.group g).granted && !(g == 0 && (s.bit TRI_OVR_STAT TRI_OVR_STAT_act0 || s.bit TRI_OVR_STAT TRI_OVR_STAT_act1))
            then u.applySafe g else u) { s.at t with tri := { s.tri with limpDone := true } })) ∧
  -- LEASE_EXPIRY
  (∀ (t : Nat) (g : Fin 32) (s : State),
    s.holder g ≠ 0 →
    (s.group g).expiry ≤ max s.cyc t →
      exec (.leaseExpiry t g) s
          = .next ((((((s.at t).keepEnded g).leaseRelease g).wr (TRI_GRP g) TRI_GRP_exp_seen 1).bump (TRI_GCNT g) TRI_GCNT_expire_cnt).note 0x0421 0)) ∧
  -- HOLD_LIMIT_END
  (∀ (t c : Nat) (g : Fin 32) (s : State),
    (s.group g).holdEnd = some c →
    c ≤ max s.cyc t →
      exec (.holdLimitEnd t g) s = .next ((((s.at t).keepLease g).setGroup g { s.group g with holdEnd := none }).safeOff g)) ∧
  -- OVERRIDE_ACTIVE
  (∀ (t : Nat) (n : Fin 2) (s : State),
    (s.at t).ready 4 = true →
    s.bit (TRI_OVR_CFG n) TRI_OVR_CFG_en = true →
    s.bit TRI_OVR_STAT (ovrAct n) = false →
      exec (.overrideActive t n) s = .next (((s.at t).keepOvr.wr TRI_OVR_STAT (ovrAct n) 1).overrideRevoke n)) ∧
  -- OVERRIDE_INACTIVE
  (∀ (t : Nat) (n : Fin 2) (s : State),
    s.bit TRI_OVR_STAT (ovrAct n) = true →
      exec (.overrideInactive t n) s = .next ((s.at t).ovrOff n) ∧
      (((s.at t).ovrOff n).bit TRI_OVR_STAT (ovrAct n) = false) ∧ s.SameBut ((s.at t).ovrOff n) [TRI_OVR_STAT]) ∧
  -- OVERRIDE_REARM
  (∀ (t : Nat) (s : State),
    s.bit TRI_OVR_STAT TRI_OVR_STAT_act0 = false →
    s.bit TRI_OVR_STAT TRI_OVR_STAT_act1 = false →
    s.bit TRI_OVR_STAT TRI_OVR_STAT_armed = false →
    s.tri.ovrFrom + ms (10 * TRI_CFG_rearm.get s.tri.cfg) ≤ max s.cyc t →
      exec (.overrideRearm t) s = .next ((s.at t).keepOvr.wr TRI_OVR_STAT TRI_OVR_STAT_armed 1) ∧
        ((s.at t).keepOvr.wr TRI_OVR_STAT TRI_OVR_STAT_armed 1).overridden = false ∧
        ((s.at t).keepOvr.wr TRI_OVR_STAT TRI_OVR_STAT_armed 1).overriddenThen = (s.at t).overriddenThen)

/-- What the ring operations of TRI and a write of the group map do (R183, R190, R192, R193, R195). -/
def Obligations.TriadRingCommands : Prop :=
  -- SET_SP
  (∀ (t : Nat) (r : Fin 64) (s : State) (d : RDesc),
    s.opFor r 0x04 0 1 = some d →
    s.limp = false →
    bits (d.par 8) 1 0 < 3 →
    ¬ (bits (d.par 8) 1 0 = 0 ∧ TRI_CFG_track.get s.tri.cfg = 1) →
      exec (.setSp t r) s = .next (((s.at t).triWait r d.slot (.setSp (bits (d.par 8) 1 0) (d.par 9))).settleRing r)) ∧
  -- PATH_APPEND
  (∀ (t : Nat) (r : Fin 64) (buf : List Word) (s : State) (d : RDesc),
    s.opFor r 0x04 0 2 = some d →
    d.len % 16 = 0 →
    s.canTake r d (4 * buf.length) = true →
    s.limp = false →
    pathBad (s.bufWords r d buf) (d.len / 16) = false →
    s.tri.path.length + d.len / 16 ≤ 4096 →
      exec (.pathAppend t r buf) s
          = .next (({ s.at t with tri := { s.tri with path := s.tri.path ++ pathPts (s.bufWords r d buf) (d.len / 16) } }.endOp r d.slot stDone d.len 0).settleRing r)) ∧
  -- PATH_CLEAR
  (∀ (t : Nat) (r : Fin 64) (s : State) (d : RDesc),
    s.opFor r 0x04 0 3 = some d →
    ¬ (TRI_CFG_track.get s.tri.cfg = 1 ∧ d.par 10 = 0#32) →
    s.limp = false →
      exec (.pathClear t r) s = .next (((s.at t).triWait r d.slot (.pathClear (d.par 8) (d.par 9) (d.par 10).toNat)).settleRing r)) ∧
  -- GRANT
  (∀ (t : Nat) (r : Fin 64) (s : State) (d : RDesc),
    s.opFor r 0x04 1 0x10 = some d →
    s.limp = false →
    s.passed 11 = true →
    bits (d.par 8) 9 8 ≠ 0 →
    s.holderFenced (bits (d.par 8) 9 8) = false →
      exec (.grant t r) s = .next (((s.at t).triWait r d.slot (.grant (bits (d.par 8) 4 0) (bits (d.par 8) 9 8))).settleRing r)) ∧
  -- RELEASE
  (∀ (t : Nat) (r : Fin 64) (s : State) (d : RDesc),
    s.opFor r 0x04 1 0x11 = some d →
    s.limp = false →
    s.passed 11 = true →
      exec (.release t r) s = .next (((s.at t).triWait r d.slot (.release (bits (d.par 8) 4 0))).settleRing r)) ∧
  -- SET_STATE
  (∀ (t : Nat) (r : Fin 64) (s : State) (d : RDesc),
    s.opFor r 0x04 1 0x12 = some d →
    s.limp = false →
    s.passed 11 = true →
      exec (.setState t r) s = .next (((s.at t).triWait r d.slot (.setState (bits (d.par 8) 7 0))).settleRing r)) ∧
  -- DRIVE
  (∀ (t : Nat) (r : Fin 64) (s : State) (d : RDesc),
    s.opFor r 0x04 2 0x20 = some d →
    s.limp = false →
    s.passed 11 = true →
    bits (d.par 8) 7 0 < 48 →
    s.holds (bits (d.par 8) 7 0) 3 = true →
      exec (.drive t r) s = .next (((((s.at t).valveWrite (bits (d.par 8) 7 0) (bits (d.par 9) 13 0) false false).driven
            (s.groupOf (bits (d.par 8) 7 0))).endOp r d.slot stDone 0 0).settleRing r)) ∧
  -- DRIVE
  (∀ (t : Nat) (r : Fin 64) (s : State) (d : RDesc),
    s.opFor r 0x04 2 0x20 = some d →
    s.limp = false →
    s.passed 11 = true →
    64 ≤ bits (d.par 8) 7 0 →
    bits (d.par 8) 7 0 < 128 →
    s.holds (bits (d.par 8) 7 0) 3 = true →
    bits (d.par 9) 17 16 ≠ 3 →
      exec (.drive t r) s = .next (((((s.at t).switchWrite (bits (d.par 8) 7 0 - 64) (bits (d.par 9) 17 16) (bits (d.par 9) 15 0) false false).driven
            (s.groupOf (bits (d.par 8) 7 0))).endOp r d.slot stDone 0 0).settleRing r)) ∧
  -- RENEW
  (∀ (t : Nat) (r : Fin 64) (s : State) (d : RDesc),
    s.opFor r 0x04 2 0x21 = some d →
    s.limp = false →
    s.passed 11 = true →
    s.holder (bits (d.par 8) 4 0) = 3 →
    s.limpHeld (bits (d.par 8) 4 0) = false →
      exec (.renew t r) s = .next ((((s.at t).driven (bits (d.par 8) 4 0)).endOp r d.slot stDone 0 0).settleRing r)) ∧
  -- TRI_GMAP_WRITE
  (∀ (t : Nat) (v : Word) (s : State),
    s.readyReg TRI_GMAP_DATA = true →
    reservedOf TRI_GMAP_DATA v = 0#32 →
    (s.at t).gmapLocked (s.rd TRI_GMAP_IDX TRI_GMAP_IDX_item) (TRI_GMAP_DATA_group.get v) = false →
      ∃ u, exec (.triGmapWrite t v) s = .next u ∧ u.groupOf (s.rd TRI_GMAP_IDX TRI_GMAP_IDX_item) = TRI_GMAP_DATA_group.get v ∧
          (∀ i, i ≠ s.rd TRI_GMAP_IDX TRI_GMAP_IDX_item → u.groupOf i = s.groupOf i) ∧ s.SameBut u [])

/-- What enabling, period ends, trips, retries and checks of a valve channel do (R199, R205, R207, R208, R209, R210, R211,
R212, R214, R215, R217). -/
def Obligations.ValveCommands : Prop :=
  -- VALVE_ENABLE
  (∀ (t : Nat) (n : Fin 48) (v : Word) (s : State),
    s.readyReg (VDR_CFGn n) = true →
    reservedOf (VDR_CFGn n) v = 0#32 →
    s.valveEn n = false →
    s.valveK12 n = false →
    valveCfgBad v = false →
    VDR_CFGn_en.get v = 1 →
      exec (.valveEnable t n v) s = .next ((s.at t).valveEnable n v)) ∧
  -- VALVE_DISABLE
  (∀ (t : Nat) (n : Fin 48) (v : Word) (s : State),
    s.readyReg (VDR_CFGn n) = true →
    reservedOf (VDR_CFGn n) v = 0#32 →
    s.valveEn n = true →
    s.valveK12 n = false →
    valveCfgBad v = false →
    VDR_CFGn_en.get v = 0 →
      exec (.valveDisable t n v) s = .next ((s.at t).valveDisable n v)) ∧
  -- VALVE_PERIOD_END
  (∀ (t cur mv : Nat) (n : Fin 48) (s : State),
    (s.at t).valveEnds n = true →
      exec (.valvePeriodEnd t n cur mv) s = .next (if s.paired n then (s.at t).pairPeriodEnd n cur mv
            else (s.at t).valvePeriodEnd n cur mv)) ∧
  -- VALVE_OFFTIME_END
  (∀ (t : Nat) (n : Fin 48) (s : State),
    (s.valve n).offEnd ≤ max s.cyc t →
      exec (.valveOfftimeEnd t n) s = .next ((s.at t).valveRestart n)) ∧
  -- VALVE_TRIP
  (∀ (t : Nat) (n : Fin 48) (rtn : Bool) (s : State),
    s.valveOn n = true →
    (∀ c, (s.valve n).restartAt = some c → c + ms 100 ≤ max s.cyc t) →
      (let u := (((s.at t).valveOff n).wr (VDR_STAT n) VDR_STAT_short 1).raise2 ((if rtn then 0x0530 else 0x0500) + n) 0;
          exec (.valveTrip t n rtn) s = .next (u.setValve n { u.valve n with
            tripped := if rtn then 2 else 1, retryAt := some (max s.cyc t + s.valveRetry) }))) ∧
  -- VALVE_TRIP
  (∀ (t c : Nat) (n : Fin 48) (rtn : Bool) (s : State),
    s.valveOn n = true →
    (s.valve n).restartAt = some c →
    max s.cyc t < c + ms 100 →
      (let w := ((((s.at t).valveOff n).wr (VDR_STAT n) VDR_STAT_short 1).raise2 ((if rtn then 0x0530 else 0x0500) + n) 0).bump (VDR_STAT n) VDR_STAT_retry_cnt;
          let x := { w.valve n with tripped := if rtn then 2 else 1 };
          exec (.valveTrip t n rtn) s = .next (if s.valveRmax ≤ w.rd (VDR_STAT n) VDR_STAT_retry_cnt
            then (w.setValve n { x with latched := true }).raise2 (0x0560 + n) 0
            else w.setValve n { x with retryAt := some (max s.cyc t + s.valveRetry) }))) ∧
  -- VALVE_RETRY_END
  (∀ (t c : Nat) (n : Fin 48) (s : State),
    (s.valve n).retryAt = some c →
    c ≤ max s.cyc t →
    (s.valve n).therm = false →
      exec (.valveRetryEnd t n) s = .next (((s.at t).setValve n { s.valve n with retryAt := none }).valveRestart n)) ∧
  -- VALVE_RESTART_OK
  (∀ (t c : Nat) (n : Fin 48) (s : State),
    (s.valve n).restartAt = some c →
    c + ms 100 ≤ max s.cyc t →
    s.valveOn n = true →
      exec (.valveRestartOk t n) s = .next (((((s.at t).setValve n { s.valve n with restartAt := none, tripped := 0 }).wr
            (VDR_STAT n) VDR_STAT_retry_cnt 0).clear2 (0x0500 + n)).clear2 (0x0530 + n))) ∧
  -- VALVE_CLR_LATCH
  (∀ (t : Nat) (n : Fin 48) (v : Word) (s : State),
    s.readyReg (VDR_STAT n) = true →
    reservedOf (VDR_STAT n) v = 0#32 →
    s.valveK12 n = false →
    clrLatch v = true →
      exec (.valveClrLatch t n v) s = .next (((s.at t).store (VDR_STAT n) v).valveClear n)) ∧
  -- VALVE_OPEN_LOAD
  (∀ (t c : Nat) (n : Fin 48) (s : State),
    (s.valve n).lowAt = some c →
    c + ms 10 ≤ max s.cyc t →
    (s.valve n).lowTold = false →
      exec (.valveOpenLoad t n) s
          = .next ((((s.at t).setValve n { s.valve n with lowTold := true }).wr (VDR_STAT n) VDR_STAT_open 1).note (0x0590 + n) 0)) ∧
  -- VALVE_HEADROOM
  (∀ (t c : Nat) (n : Fin 48) (s : State),
    (s.valve n).headAt = some c →
    c + ms 20 ≤ max s.cyc t →
    (s.valve n).headTold = false →
      exec (.valveHeadroom t n) s
          = .next ((((s.at t).setValve n { s.valve n with headTold := true }).wr (VDR_STAT n) VDR_STAT_head 1).note (0x05C0 + n) 0))

/-- What period ends, trips, retries, latches and phases of a load switch do (R222, R225, R227, R228, R229, R230, R231,
R232, R233, R234, R237). -/
def Obligations.LoadSwitchCommands : Prop :=
  -- LSW_PERIOD_END
  (∀ (t cur : Nat) (n : Fin 64) (s : State),
    (s.at t).switchEnds n = true →
      exec (.lswPeriodEnd t n cur) s = .next (((((s.at t).wr (LSW_MEAS n) LSW_MEAS_cur (min 0xFFFF cur)).openCount n cur).switchHand n).edgeMark n
            ((s.switch n).on && decide ((s.at t).periodLen n ≤ (s.at t).onPast n)))) ∧
  -- LSW_DISABLE
  (∀ (t : Nat) (n : Fin 64) (v : Word) (s : State),
    s.readyReg (LSW_CFG n) = true →
    reservedOf (LSW_CFG n) v = 0#32 →
    s.switchEn n = true →
    s.switchK12 n = false →
    switchCfgBad n v = false →
    LSW_CFG_en.get v = 0 →
      exec (.lswDisable t n v) s = .next ((s.at t).switchDisable n v)) ∧
  -- INRUSH_END
  (∀ (t c : Nat) (n : Fin 64) (s : State),
    (s.switch n).inrushEnd = some c →
    c ≤ max s.cyc t →
      exec (.inrushEnd t n) s = .next ((s.at t).setSwitch n { s.switch n with
            inrushEnd := none, throttled := (s.switch n).throttled && !(s.switch n).thrInrush, thrInrush := false })) ∧
  -- LSW_SHORT_TRIP
  (∀ (t : Nat) (n : Fin 64) (s : State),
    ((s.at t).shortCan n || (s.at t).hotNow n && (s.switch n).shortOk) = true →
      exec (.lswShortTrip t n) s = .next ((s.at t).switchTrip n LSW_STAT_short)) ∧
  -- LSW_OVERLOAD_TRIP
  (∀ (t : Nat) (n : Fin 64) (s : State),
    ((s.at t).ovlCan n || (s.at t).hotNow n && (s.switch n).ovlOk) = true →
      exec (.lswOverloadTrip t n) s = .next ((s.at t).switchTrip n LSW_STAT_ovl)) ∧
  -- LSW_RETRY_END
  (∀ (t c : Nat) (n : Fin 64) (s : State),
    (s.switch n).retryAt = some c →
    c ≤ max s.cyc t →
    (s.switch n).therm = false →
      exec (.lswRetryEnd t n) s = .next (((s.at t).setSwitch n { s.switch n with retryAt := none }).switchTurnOn n true)) ∧
  -- LSW_RESTART_OK
  (∀ (t c : Nat) (n : Fin 64) (s : State),
    (s.switch n).restartAt = some c →
    c + ms 100 ≤ max s.cyc t →
    (s.switch n).on = true →
      exec (.lswRestartOk t n) s = .next ((((s.at t).setSwitch n { s.switch n with restartAt := none, tripped := false }).wr
            (LSW_STAT n) LSW_STAT_retry_cnt 0).clear2 (0x0600 + n))) ∧
  -- LSW_CLR_LATCH, LSW_CLR_THERM
  (∀ (t : Nat) (n : Fin 64) (v : Word) (s : State),
    s.readyReg (LSW_STAT n) = true →
    reservedOf (LSW_STAT n) v = 0#32 →
    s.switchK12 n = false →
      exec (.lswClrLatch t n v) s = .next ((s.at t).switchStatWrite n v) ∧ exec (.lswClrTherm t n v) s = .next ((s.at t).switchStatWrite n v)) ∧
  -- PROTECTED_PHASE_END
  (∀ (t c : Nat) (n : Fin 64) (s : State),
    (s.switch n).protEnd = some c →
    c ≤ max s.cyc t →
      exec (.protectedPhaseEnd t n) s = .next ((s.at t).setSwitch n { s.switch n with protEnd := none })) ∧
  -- LSW_OPEN_LOAD
  (∀ (t : Nat) (n : Fin 64) (s : State),
    (s.switch n).on = true →
    (s.switch n).inrushEnd = none →
    10000000 ≤ (s.switch n).olAcc →
    (s.switch n).olTold = false →
      exec (.lswOpenLoad t n) s = .next ((((s.at t).setSwitch n { s.switch n with olTold := true }).wr (LSW_STAT n) LSW_STAT_open 1).note (0x06C0 + n) 0))

/-- What the triggers, conversions and samples of the sensor front ends do (R243, R244, R245, R246, R247, R248, R249,
R251). -/
def Obligations.SensorFrontEndCommands : Prop :=
  -- AIN_PERIODIC_TRIGGER
  (∀ (t : Nat) (n : Fin 64) (s : State),
    s.bit (SNS_AIN_CFG n) SNS_AIN_CFG_periodic = true →
    0 < s.rd (SNS_AIN_CFG n) SNS_AIN_CFG_interval →
    (s.at t).mtime % (1000 * s.rd (SNS_AIN_CFG n) SNS_AIN_CFG_interval) < 5 →
      exec (.ainPeriodicTrigger t n) s = .next ((s.at t).ainTrigger n [])) ∧
  -- AIN_DEFERRED_CONVERSION
  (∀ (t c : Nat) (w : List Nat) (n : Fin 64) (s : State),
    (s.ain n).last = some c →
    (s.ain n).wait = some w →
    c + us 100 ≤ max s.cyc t →
    s.snsRuns = true →
    s.ainEn n = true →
      exec (.ainDeferredConversion t n) s = .next ((s.at t).ainStart n w true)) ∧
  -- AIN_CONVERSION_DONE
  (∀ (t ref : Nat) (n : Fin 64) (edge : Fin 201) (nv : Int) (v : AinConv) (rest : List AinConv) (s : State),
    (s.ain n).conv = v :: rest →
      (let x := ainCode nv (s.ainFull n ref);
          let sat := decide (nv < 0) || decide ((s.ainFull n ref : Int) < nv);
          let a := ((s.at t).setAin n { s.ain n with conv := rest }).wr (SNS_AIN_DATA n) SNS_AIN_DATA_value x;
          let b := if sat then a.wr (SNS_AIN_DATA n) SNS_AIN_DATA_sat 1 else a;
          let y := (if v.defer then b.wr (SNS_AIN_DATA n) SNS_AIN_DATA_defer_seen 1 else b).headerSeen;
          exec (.ainConversionDone t n edge ⟨nv, ref⟩) s = .next (((if s.ainK12 n then s.loopsOn 1 n else v.loops).foldl (fun z m => z.loopSample ((x : Int) * 2 ^ 8) m) y).sampleIn
            ⟨n, (v.stamp + edge) % 2 ^ 64, [(x : Int) * 2 ^ 8], v.speeds, false⟩ (s.bit (SNS_AIN_CFG n) SNS_AIN_CFG_raw)
            ((if v.defer then rfDefer else 0) ||| (if sat then rfSat else 0)) (word x)))) ∧
  -- FIN_EDGE
  (∀ (t peak since : Nat) (n : Fin 24) (mv : Int) (level : Bool) (s y : State),
    level = decide ((s.finThr n peak : Int) ≤ 2 * mv) →
    (level == (s.fin n).level) = false →
    max s.cyc t = since + us (s.rd (SNS_FIN_CFG n) SNS_FIN_CFG_glitch) →
    y = ((s.at t).setFin n { s.fin n with level := level }).gndFin n →
      exec (.finEdge t n ⟨mv, peak, since⟩) s = .next (if y.snsRuns && level then y.setFin n { y.fin n with
            rise := some (max s.cyc t)
            per := match (s.fin n).rise with
              | some r => max s.cyc t - r
              | none => 0 } else y)) ∧
  -- FIN_DATA_UPDATE
  (∀ (t : Nat) (n : Fin 24) (s : State),
    s.snsRuns = true →
      exec (.finDataUpdate t n) s = .next ((s.at t).setReg (SNS_FIN_DATA n) (word ((s.at t).finMilli n)))) ∧
  -- DIN_SAMPLE
  (∀ (t : Nat) (lo hi : Word) (s : State),
    s.snsRuns = true →
      (let x := ofBits fun i => bitAt hi i || (bitAt s.sns.din i && !bitAt lo i);
          let run := fun i => if bitAt x i == bitAt s.sns.din i then min 255 (cellGet (fun _ => 0) s.sns.run i + 1) else 1;
          ∃ u, exec (.dinSample t lo hi) s = .next u.gndTurn.headerSeen ∧ u.sns.din = x ∧ s.SameBut u [SNS_DIN_STATE] ∧
            u.reg SNS_DIN_STATE = ofBits fun i => if s.rd SNS_CFG SNS_CFG_din_filt ≤ run i then bitAt x i else bitAt (s.reg SNS_DIN_STATE) i)) ∧
  -- LOSS_SAMPLE
  (∀ (t : Nat) (n : Fin 16) (x : Int) (s : State),
    s.snsRuns = true →
    s.lossEn n = true →
    s.rd (SNS_LOSS_CFG n) SNS_LOSS_CFG_raw ≠ 2 →
    (s.lossCh n).st = 0 →
      (let hp := x - (s.lossCh n).xPrev + (s.lossCh n).h * s.hpOf n / 2 ^ 16;
          let e := max (hp.natAbs / 2 ^ 8) ((s.lossCh n).env * 65280 / 2 ^ 16);
          let env := if e < 2 ^ 16 then e else Config.freeNat s.free % 2 ^ 16;
          let c := { s.lossCh n with h := hp, xPrev := x, env := env };
          let y := (s.at t).freeNext;
          exec (.lossSample t n x) s = .next (if s.rd (SNS_LOSS_THR n) SNS_LOSS_THR_thr_on ≤ env
            then y.setLoss n { c with tImp := lossGrid ((s.at t).mtime - 80000), peak := env, k := 0, st := 1 } else y.setLoss n c))) ∧
  -- LOSS_EXC_FAULT
  (∀ (t : Nat) (n : Fin 16) (s : State),
    s.snsRuns = true →
    s.bit (SNS_LOSS_CFG n) SNS_LOSS_CFG_exc = true →
      (let x := ((s.at t).wr (SNS_LOSS_CFG n) SNS_LOSS_CFG_excf 1).note (0x0740 + n) 0;
          exec (.lossExcFault t n) s = .next (x.setLoss n { x.lossCh n with excs := (x.lossCh n).excs + 1 }))) ∧
  -- MAP_BANK_SWAP
  (∀ (t : Nat) (k : Fin 16) (s : State),
    s.fusRuns = true →
      exec (.mapBankSwap t k) s = .next (((List.range 16).filter fun n => s.lossSched n == k.val).foldl (fun u n =>
            match (u.lossCh n).swaps with
            | w :: rest => if u.swapDue k w then u.swapChannel n w rest else u
            | [] => u) (s.at t))) ∧
  -- READ_MAP
  (∀ (t took : Nat) (r : Fin 64) (s : State) (d : RDesc) (n k : Nat),
    s.opFor r 0x08 1 0x10 = some d →
    s.bufBad r d = false →
    2080 ≤ d.len →
    n = bits (d.par 8) 3 0 →
    k = bits (d.par 8) 6 4 →
      ((s.hitMap n k).swapAt.any (fun c => decide (max s.cyc t ≤ c + took)) = false →
          exec (.readMap t ⟨r, took⟩) s = .next ((((s.at t).bufOut r d 0 (s.mapWords n k)).endOp r d.slot stDone 2080 ((s.hitMap n k).seq % 2 ^ 24)).settleRing r)) ∧
        (∀ c, (s.hitMap n k).swapAt = some c → max s.cyc t ≤ c + took →
          exec (.readMap t ⟨r, took⟩) s = .next (((s.at t).endOp r d.slot stAborted 0 0).settleRing r)))

/-- What fusion units, the collector, the position history, the delay measurement and receive rings do (R96, R254, R259,
R260, R266, R269, R270, R271, R272). -/
def Obligations.FusionAndYieldCommands : Prop :=
  -- FU_ISSUE
  (∀ (t : Nat) (u : Fin 16) (x : UInst) (rest : List UInst) (s : State),
    (s.fu u).pend = x :: rest →
    s.fusRuns = true →
    s.fuEn u = true →
    s.fuKind u ≠ 0 →
    s.fuKind u ≠ 5 →
    x.cyc + us (s.rd (FUS_FU_SET u) FUS_FU_SET_settle) ≤ max s.cyc t →
      (let f := s.fu u;
          let y := (s.at t).setFu u { f with
            prev := x.at_, prevCyc := x.cyc, prevGnd := x.gnd, pend := rest, late := false
            smps := f.smps.filter fun q => decide (x.at_ < q.cap) }
          exec (.fuIssue t u) s = .next ({ y with fus := { y.fus with
            wait := y.fus.wait ++ [(⟨u, s.fuSched u, x.seq, f.prev, x.at_, (s.at t).fuWords u x, 2 * max s.cyc t⟩ : FRes)] } }.freeAdd 9))) ∧
  -- LATE_SAMPLE
  (∀ (t cap : Nat) (src : Fin 256) (v : HeldSample) (value : Word) (s : State),
    s.fusRuns = true →
    (s.at t).lateUnits ⟨src, cap, v.vals, v.speeds, false⟩ ≠ [] →
      exec (.lateSample t src cap v value) s = .next ((s.at t).sampleIn ⟨src, cap, v.vals, v.speeds, false⟩ false
        ((if v.defer then rfDefer else 0) ||| (if v.sat then rfSat else 0)) value)) ∧
  -- COLLECTOR_COMMIT
  (∀ (t : Nat) (k : Fin 16) (i : OpenInst) (s : State),
    s.fusRuns = true →
    ((s.at t).collect.sched k).inst = some i →
    (s.at t).collect.commitDue k i = true →
      exec (.collectorCommit t k) s = .next ((s.at t).collect.commitSched k)) ∧
  -- HISTORY_ENTRY
  (∀ (t : Nat) (s : State),
    s.fusRuns = true →
    s.fus.histAt + ms 10 ≤ max s.cyc t →
      ∃ u, exec (.historyEntry t) s = .next u ∧ u.fus.hist = ((s.at t).histNow :: s.fus.hist).take 4096 ∧ u.fus.histAt = max s.cyc t ∧
          u.fus.yld.down = ((s.at t).headerDown || s.fus.yld.down) ∧ s.SameBut u []) ∧
  -- YIELD_FLASH_WRITE
  (∀ (t : Nat) (s : State),
    s.fus.yld.wait ≠ [] →
      exec (.yieldFlashWrite t) s = .next (s.at t).yieldFlush) ∧
  -- HEADER_LIFT
  (∀ (t : Nat) (e : Hist) (fl : List (Nat × Int)) (s : State),
    s.fusRuns = true →
    (s.at t).headerDown = false →
    s.fus.yld.down = true →
    s.bit FUS_YLD_DLY FUS_YLD_DLY_adapt = true →
    (fl = s.fus.yld.flows.filter fun f => decide ((s.at t).mtime < f.1 + 5000000000)) →
    fl ≠ [] →
    s.fus.hist.getLast? = some e →
    e.t + 5000000000 ≤ (s.at t).mtime →
    (s.rd FUS_YLD_HDR FUS_YLD_HDR_fmin : Int) * 2 ^ 24 ≤ 10 * meanI (fl.map Prod.snd) →
      exec (.headerLift t) s = .next ((s.at t).setYld { s.fus.yld with down := false, meas := some ((s.at t).mtime, meanI (fl.map Prod.snd)) })) ∧
  -- HEADER_LIFT
  (∀ (t : Nat) (s : State),
    s.fusRuns = true →
    (s.at t).headerDown = false →
    s.fus.yld.down = true →
    s.bit FUS_YLD_DLY FUS_YLD_DLY_adapt = false →
      exec (.headerLift t) s = .next ((s.at t).setYld { s.fus.yld with down := false })) ∧
  -- DELAY_MEASUREMENT_END
  (∀ (t m : Nat) (x : Int) (s : State),
    s.fus.yld.meas = some (m, x) →
    (s.at t).headerDown = true ∨ m + 100000000 * s.rd FUS_YLD_DLY FUS_YLD_DLY_dmax ≤ (s.at t).mtime →
      exec (.delayMeasurementEnd t) s = .next (s.at t).delayReject) ∧
  -- RAW_FILL, FUSED_FILL
  (∀ (t : Nat) (r : Fin 64) (s : State) (d : RDesc),
    s.bufBad r d = false →
    16 ≤ d.len →
      (s.opFor r 7 0 0x01 = some d → exec (.rawFill t r) s = .next ((((s.at t).startOp r d.slot).pumpAll 0x70).settleRing r)) ∧
        (s.opFor r 8 0 0x01 = some d → exec (.fusedFill t r) s = .next ((((s.at t).startOp r d.slot).pumpAll 0x80).settleRing r))) ∧
  -- YIELD_FILL
  (∀ (t : Nat) (r : Fin 64) (s : State) (d : RDesc),
    s.opFor r 8 2 0x01 = some d →
    s.bufBad r d = false →
    32 ≤ d.len →
      exec (.yieldFill t r) s = .next ((((s.at t).startOp r d.slot).pumpAll 0x82).settleRing r).yieldPump) ∧
  -- RECEIVE_BUFFER_TIMEOUT
  (∀ (t len recs since : Nat) (r : Fin 64) (s : State) (d : RDesc),
    s.filling r = some d →
    d.st = .started len recs since →
    isRecv (s.ringTgt r) (s.ringFunc r) = true →
    recs ≠ 0 →
    since + (s.recvInfo (s.ringTgt r * 16 + s.ringFunc r)).time ≤ max s.cyc t →
    s.ringTgt r * 16 + s.ringFunc r ≠ 0x82 →
      exec (.receiveBufferTimeout t r) s
          = .next ((((s.at t).endOp r d.slot stDone len recs).pumpAll (s.ringTgt r * 16 + s.ringFunc r)).settleRing r))

/-- What the setting loop's trigger, step end, mode write and ring operations do (R279, R280, R282, R283, R284, R286,
R287, R289, R290, R291). -/
def Obligations.SettingLoopCommands : Prop :=
  -- HSL_TRIGGER_RELEASE
  (∀ (t : Nat) (s : State),
    s.hslRuns = true →
    HSL_CFG_mode.get (s.at t).hslCfgNow ≠ 0 →
    s.hsl.run = none →
    (s.at t).hslReached = true →
    s.hslFrozen = false →
    HSL_CFG_mode.get (s.at t).hslCfgNow ≠ 3 →
    (s.at t).hslDue = false →
      (let m := HSL_CFG_mode.get (s.at t).hslCfgNow;
          let x := (s.at t).incReg HSL_SEQ;
          exec (.hslTriggerRelease t) s = .next ((x.setHsl { x.hsl with mode := m }).hslStart m (s.at t).hslBypNow))) ∧
  -- HSL_TRIGGER_RELEASE
  (∀ (t : Nat) (s : State),
    s.hslRuns = true →
    HSL_CFG_mode.get (s.at t).hslCfgNow ≠ 0 →
    s.hsl.run = none →
    (s.at t).hslReached = true →
    s.hslFrozen = false →
    HSL_CFG_mode.get (s.at t).hslCfgNow ≠ 3 →
    (s.at t).hslDue = true →
    problemBad (s.at t).hslSource = false →
      (let m := HSL_CFG_mode.get (s.at t).hslCfgNow;
          let x := ((s.at t).incReg HSL_SEQ).hslCopy (s.at t).hslSource true;
          exec (.hslTriggerRelease t) s = .next ((x.setHsl { x.hsl with mode := m }).hslStart m (s.at t).hslBypNow))) ∧
  -- HSL_STEP_END
  (∀ (t : Nat) (x : HslRun) (s : State),
    s.hsl.run = some x →
    s.hslRuns = true →
    x.cyc + us 16 ≤ max s.cyc t →
    problemBad s.hsl.sh = false →
      (let harv := s.rd TRI_STAT TRI_STAT_mstate == 4;
          let a := if x.run && harv then (s.at t).hslWrite x.set else (s.at t, []);
          let n := (a.1.setHsl { a.1.hsl with run := none }).hslNext x;
          let flags := x.flags + hfLate * b2n (n.2.1 != 0) + hfNotHarv * b2n (x.run && !harv) + hfShort * b2n n.2.2;
          let b := n.1.deliver 0x91 (x.report (s.at t).mtime flags n.2.1 (maskOf a.2));
          let y := if b.2 then (b.1.bump HSL_NCNT HSL_NCNT_drop_cnt).noteSlow 0x0920 0 else b.1;
          let z := y.setHsl { y.hsl with mode := 0, armed := false };
          exec (.hslStepEnd t) s = .next (if y.rd HSL_CFG HSL_CFG_mode = 0 then (if s.hsl.pending then z.hslCopy s.hsl.sh false else z) else y))) ∧
  -- HSL_MODE_WRITE
  (∀ (t : Nat) (v : Word) (s : State),
    s.readyReg HSL_CFG = true →
    reservedOf HSL_CFG v = 0#32 →
    s.rd HSL_CFG HSL_CFG_mode = 0 →
    HSL_CFG_mode.get v ≠ 0 →
    s.hslTrgBad = false →
      (let h := s.hsl;
          let x := ((s.at t).store HSL_CFG v).setHsl { h with
            cfgAt := max s.cyc t, cfgPrev := if h.cfgAt = max s.cyc t then h.cfgPrev else s.reg HSL_CFG }
          exec (.hslModeWrite t v) s = .next (if s.hsl.run.isSome then x.hslArm else (x.setHsl { x.hsl with mode := HSL_CFG_mode.get v }).hslArm))) ∧
  -- HSL_MODE_WRITE
  (∀ (t : Nat) (v : Word) (s : State),
    s.readyReg HSL_CFG = true →
    reservedOf HSL_CFG v = 0#32 →
    s.rd HSL_CFG HSL_CFG_mode ≠ 0 ∨ HSL_CFG_mode.get v = 0 →
    s.hsl.pending = false →
      (let h := s.hsl;
          let x := ((s.at t).store HSL_CFG v).setHsl { h with
            cfgAt := max s.cyc t, cfgPrev := if h.cfgAt = max s.cyc t then h.cfgPrev else s.reg HSL_CFG }
          exec (.hslModeWrite t v) s = .next (if HSL_CFG_mode.get v = 0 ∧ s.hsl.run.isNone then x.setHsl { x.hsl with mode := 0 } else x))) ∧
  -- HSL_WRITE
  (∀ (t : Nat) (r : Fin 64) (buf : List Word) (s : State) (d : RDesc),
    s.opFor r 0x09 0 1 = some d →
    bits (d.par 8) 10 0 + (d.len + 3) / 4 ≤ probSize →
    bits (d.par 8) 17 16 = 0 →
    d.len ≠ 0 →
    d.len % 4 = 0 →
    s.canTake r d (4 * buf.length) = true →
    ((((s.bufWords r d buf).zipIdx (bits (d.par 8) 10 0)).any fun p => probBad p.2 p.1) = false) →
      exec (.hslWrite t r buf) s = .next ((((s.at t).hslWords
            (((s.bufWords r d buf).zipIdx (bits (d.par 8) 10 0)).map fun p => (p.2, p.1))).endSeq 9 r d.slot d.len
            ((s.at t).hslWords (((s.bufWords r d buf).zipIdx (bits (d.par 8) 10 0)).map fun p => (p.2, p.1))).hoHsl).settleRing r)) ∧
  -- HSL_COMMIT
  (∀ (t : Nat) (r : Fin 64) (s : State) (d : RDesc),
    s.opFor r 0x09 0 2 = some d →
    s.hsl.mode ≠ 0 →
      exec (.hslCommit t r) s = .next ((((s.at t).endSeq 9 r d.slot 0 s.hoHsl).hslCommit).settleRing r)) ∧
  -- HSL_READ
  (∀ (t : Nat) (r : Fin 64) (s : State) (d : RDesc),
    s.opFor r 0x09 0 3 = some d →
    bits (d.par 8) 10 0 + (d.len + 3) / 4 ≤ probSize →
    bits (d.par 8) 17 16 < 2 →
    d.len % 4 = 0 →
    s.bufBad r d = false →
      exec (.hslRead t r) s = .next ((((s.at t).bufOut r d 0 ((List.range (d.len / 4)).map fun i =>
            prob (if bits (d.par 8) 17 16 = 0 then s.hsl.sh else s.hsl.act) (bits (d.par 8) 10 0 + i))).endSeq 9 r d.slot d.len
            s.hoHsl).settleRing r)) ∧
  -- SET_OBJ
  (∀ (t : Nat) (r : Fin 64) (buf : List Word) (s : State) (d : RDesc) (l : List (Nat × Word)),
    s.opFor r 0x09 0 4 = some d →
    d.len % 8 = 0 →
    d.len ≠ 0 →
    s.canTake r d (4 * buf.length) = true →
    s.hsl.mode ≠ 0 →
    (l = (List.range (d.len / 8)).map fun i => (bits (wAt (s.bufWords r d buf) (2 * i)) 4 0, wAt (s.bufWords r d buf) (2 * i + 1))) →
    ((l.any fun p => decide (24 ≤ p.1)) = false) →
      (let x := (s.at t).hslWords (l.map fun p => (249 + 4 * p.1, p.2));
          exec (.setObj t r buf) s = .next (((x.endSeq 9 r d.slot d.len x.hoHsl).hslCommit).settleRing r))) ∧
  -- REPORT_FILL
  (∀ (t : Nat) (r : Fin 64) (s : State) (d : RDesc),
    s.opFor r 9 1 0x01 = some d →
    s.bufBad r d = false →
    272 ≤ d.len →
      exec (.reportFill t r) s = .next ((((s.at t).startOp r d.slot).pumpAll 0x91).settleRing r))

/-- What triggers, lines, frames, links, enables and display buffers of the cameras do (R81, R296, R297, R299, R300, R302,
R304, R305, R308, R313). -/
def Obligations.CameraCommands : Prop :=
  -- TRIGGER_MESSAGE_SEND
  (∀ (t i : Nat) (c : Fin 12) (x : VTrig) (s : State),
    ((s.cam c).trigs.findIdx? (fun x => !x.sent) = some i) →
    (s.cam c).trigs[i]? = some x →
    s.visRuns = true →
    x.at_ ≤ (s.at t).ns + 1000 * s.rd (VIS_CAM_WIN c) VIS_CAM_WIN_trig_lat →
    s.camEarly c x = true →
      exec (.triggerMessageSend t c) s = .next (((s.at t).setCam c { s.cam c with trigs := (s.cam c).trigs.eraseIdx i }).issueGap c x true)) ∧
  -- TRIGGER_MESSAGE_SEND
  (∀ (t i : Nat) (c : Fin 12) (x : VTrig) (s : State),
    ((s.cam c).trigs.findIdx? (fun x => !x.sent) = some i) →
    (s.cam c).trigs[i]? = some x →
    s.visRuns = true →
    x.at_ ≤ (s.at t).ns + 1000 * s.rd (VIS_CAM_WIN c) VIS_CAM_WIN_trig_lat →
    s.camEarly c x = false →
    s.winClash c x = false →
      (let y := (s.at t).setCam c { s.cam c with trigs := modAt (fun y => { y with sent := true }) i (s.cam c).trigs, lastExp := some x.at_ };
          exec (.triggerMessageSend t c) s = .next (if s.bit (VIS_LINK (c / 4)) VIS_LINK_lock then y.emit (.cameraTrigger c) else y))) ∧
  -- PAIRING_WINDOW_CLOSE
  (∀ (t : Nat) (c : Fin 12) (x : VTrig) (rest : List VTrig) (s : State),
    (s.cam c).trigs = x :: rest →
    s.visRuns = true →
    x.sent = true →
    (s.at t).winHi c x ≤ (s.at t).ns →
      exec (.pairingWindowClose t c) s = .next (((s.at t).setCam c { s.cam c with trigs := rest }).issueGap c x false)) ∧
  -- FRAME_START
  (∀ (t fnum : Nat) (c : Fin 12) (ecc : List EccHit) (s z y : State),
    z = (s.at t).camsNow →
    y = z.closeRead c ecc →
    z.visRuns = true →
    z.camEn c = true →
    z.bit (VIS_LINK (c / 4)) VIS_LINK_lock = true →
    z.linkOver (c / 4) = false →
    ((y.cam c).trigs.findIdx? (fun x => y.winOpen c x) = none) →
      exec (.frameStart t c ⟨fnum, ecc⟩) s = .next ((y.bump (VIS_CAM_CNT0 c) VIS_CAM_CNT0_stray_cnt).noteSlow (0x0A10 + c) 0)) ∧
  -- FRAME_START
  (∀ (t fnum i : Nat) (c : Fin 12) (ecc : List EccHit) (x : VTrig) (s z y w : State),
    z = (s.at t).camsNow →
    y = z.closeRead c ecc →
    z.visRuns = true →
    z.camEn c = true →
    z.bit (VIS_LINK (c / 4)) VIS_LINK_lock = true →
    z.linkOver (c / 4) = false →
    ((y.cam c).trigs.findIdx? (fun x => y.winOpen c x) = some i) →
    (y.cam c).trigs[i]? = some x →
    (w = (if (y.cam c).due y.cyc then y.camCopy c else y).tokenStep c) →
      (let k := w.cam c;
          exec (.frameStart t c ⟨fnum, ecc⟩) s = .next ((w.setCam c { k with
            trigs := k.trigs.eraseIdx i
            frame := some ⟨{ x with exp := k.exp }, w.cyc, w.mtime, fnum, k.token, [], 0, w.reg (VIS_CAM_SEQ c)⟩ }).wr (VIS_CAM_TOK c) VIS_CAM_TOK_tok_frame k.token))) ∧
  -- LINE_RECEIVED
  (∀ (t : Nat) (c : Fin 12) (px : List Nat) (f : VFrame) (s : State),
    s.visRuns = true →
    s.camEn c = true →
    (s.cam c).frame = some f →
      exec (.lineReceived t c px false) s = .next ((s.at t).setCam c { s.cam c with
            frame := some { f with lines := if f.got < s.camH c then f.lines ++ [some px] else f.lines, got := f.got + 1 } })) ∧
  -- FRAME_END
  (∀ (t : Nat) (c : Fin 12) (ecc : List EccHit) (s : State),
    s.visRuns = true →
      exec (.frameEnd t c ecc) s = .next ((s.at t).closeRead c ecc)) ∧
  -- FRAME_CLOSE_TIMEOUT
  (∀ (t : Nat) (c : Fin 12) (f : VFrame) (ecc : List EccHit) (s : State),
    (s.cam c).frame = some f →
    s.visRuns = true →
    sec 1 ≤ (max s.cyc t - f.fsCyc) * s.camRate c →
      exec (.frameCloseTimeout t ⟨c, ecc⟩) s = .next ((s.at t).closeRead c ecc)) ∧
  -- APHY_LOCK
  (∀ (t gear : Nat) (n : Fin 3) (s : State),
    s.visRuns = true →
    (s.alink n).st = 1 →
      exec (.aphyLock t n gear) s = .next ((((((((s.at t).wr (VIS_LINK n) VIS_LINK_lock 1).wr (VIS_LINK n) VIS_LINK_gear
            (min gear (s.alink n).gmax)).linkBit SYS_LINK_aphy_up n true).setAlink n { s.alink n with st := 2, since := max s.cyc t, fails := 0, retryAt := none }).clear2 (0x0A04 + n)).clear2 (0x0A08 + n)))) ∧
  -- APHY_LOCK_TIMEOUT
  (∀ (t : Nat) (n : Fin 3) (s : State),
    s.visRuns = true →
    (s.alink n).st = 1 →
    (s.alink n).since + ms 300 ≤ max s.cyc t →
      exec (.aphyLockTimeout t n) s = .next ((s.at t).linkFailed n)) ∧
  -- APHY_RETRY
  (∀ (t c : Nat) (n : Fin 3) (s : State),
    s.visRuns = true →
    (s.alink n).retryAt = some c →
    c ≤ max s.cyc t →
      exec (.aphyRetry t n) s = .next ((s.at t).linkStart n)) ∧
  -- APHY_LOCK_LOSS
  (∀ (t : Nat) (n : Fin 3) (s : State),
    s.visRuns = true →
    (s.alink n).st = 2 →
      exec (.aphyLockLoss t n) s = .next ((((s.at t).linkDown n).raise2 (0x0A04 + n) 0).linkStart n)) ∧
  -- APHY_OVERCURRENT
  (∀ (t : Nat) (n : Fin 3) (s : State),
    s.visRuns = true →
    (s.alink n).st ≠ 0 →
      exec (.aphyOvercurrent t n) s = .next ((((s.at t).linkDown n).wr (VIS_LINK n) VIS_LINK_ocp 1).linkFailed n)) ∧
  -- CAMERA_ENABLE
  (∀ (t : Nat) (c : Fin 12) (v : Word) (s z : State),
    z = (s.at t).camsNow →
    z.readyReg (VIS_CAM_CFG c) = true →
    reservedOf (VIS_CAM_CFG c) v = 0#32 →
    z.camEn c = false →
    VIS_CAM_CFG_en.get v = 1 →
    z.camBad c v = false →
    z.camLoad c (VIS_CAM_CFG_rate_cap.get v) ≤ 248832000 →
    z.camSum + z.camLoad c (VIS_CAM_CFG_rate_cap.get v) ≤ 1500000000 →
      exec (.cameraEnable t c v) s = .next (((z.store (VIS_CAM_CFG c) v).setCam c { z.cam c with
            trigs := [], lastExp := none, frame := none, token := 0, exp := 0 }).mpix)) ∧
  -- ENCODER_ENABLE
  (∀ (t : Nat) (e : Fin 4) (v : Word) (s : State),
    s.readyReg (VIS_ENC_CFG e) = true →
    reservedOf (VIS_ENC_CFG e) v = 0#32 →
    s.bit (VIS_ENC_CFG e) VIS_ENC_CFG_en = false →
    VIS_ENC_CFG_en.get v = 1 →
    s.encBad e v = false →
    s.encLoad (VIS_ENC_CFG_cam.get v) ≤ 248832000 →
      exec (.encoderEnable t e v) s = .next (((s.at t).store (VIS_ENC_CFG e) v).setEnc e Enc.init)) ∧
  -- DISPLAY_BUFFER_READY
  (∀ (t i : Nat) (c : Fin 12) (bs : List Byte) (rest : List (List Byte)) (s : State),
    (s.cam c).disp = bs :: rest →
    s.visRuns = true →
    (i = (if ((s.cam c).ready != some 0 && (s.cam c).held != some 0) = true then 0 else if ((s.cam c).ready != some 1 && (s.cam c).held != some 1) = true then 1 else 2)) →
    s.rd (VIS_CAM_DISP c) VIS_CAM_DISP_base * 0x200000 + i * bs.length + bs.length ≤ sharedTop →
    areasMeet [(s.rd (VIS_CAM_DISP c) VIS_CAM_DISP_base * 0x200000 + i * bs.length, bs.length)] s.ethMem = false →
      exec (.displayBufferReady t c) s = .next (((s.at t).memStore (s.rd (VIS_CAM_DISP c) VIS_CAM_DISP_base * 0x200000 + i * bs.length) bs).setCam c
            { s.cam c with disp := rest, ready := some i })) ∧
  -- ACCESS_UNIT_DONE
  (∀ (t : Nat) (e : Fin 4) (nal : List Byte) (i : VItem) (rest : List VItem) (s : State),
    (s.enc e).q = i :: rest →
    s.visRuns = true →
    s.bit (VIS_ENC_CFG e) VIS_ENC_CFG_en = true →
    sliceNal (s.nextIdr e i) nal = true →
      ∃ u, exec (.accessUnitDone t e nal) s = .next u ∧ (u.enc e).q = rest ∧ u.vis.cams = s.vis.cams ∧
          (i.gap = true → (u.enc e).since = (s.enc e).since.map (· + 1)) ∧
          (i.gap = false → (s.enc e).since = none → (u.enc e).since = some 1))

/-- What inference and the ring operations of VIS do (R304, R307, R313, R315, R316, R317, R319, R320, R321). -/
def Obligations.VisionRingCommands : Prop :=
  -- TENSOR_READY
  (∀ (t m : Nat) (c : Fin 12) (i : VItem) (rest : List (Nat × VItem)) (s : State),
    (s.cam c).tens = (m, i) :: rest →
    s.inferRuns = true →
    (s.slot m).q.length < 4 →
      exec (.tensorReady t c) s = .next ((((s.at t).setCam c { s.cam c with tens := rest }).setSlot m { s.slot m with q := (s.slot m).q ++ [i] }).inferStart)) ∧
  -- INFERENCE_RUN_DONE
  (∀ (t m k : Nat) (scal : List Word) (blob : List Byte) (ecc : List EccHit) (h : List Word) (i : VItem) (s : State),
    s.vis.run = some (m, h, i, k) →
    s.inferRuns = true →
    max s.cyc t - k ≤ us (2 * mdMaxUs h) →
      (let n := (max s.cyc t - k) / 200;
          let x := ({ s.at t with vis := { s.vis with run := none } } : State).wr (VIS_MOD_STAT m) VIS_MOD_STAT_last_us (min 0xFFFFFF n);
          exec (.inferenceRunDone t ⟨scal, blob⟩ ecc) s = .next (if eccBad (sramHits ecc)
            then (((x.bump (VIS_MOD_CNT m) VIS_MOD_CNT_drop_cnt).inferResult m h i ifDrop n [] []).eccDone (sramHits ecc)).inferStart
            else (((x.eccAll (sramHits ecc)).inferResult m h i 0 n scal blob).clear2 (0x0A28 + m)).inferStart))) ∧
  -- INFERENCE_TIMEOUT
  (∀ (t m k : Nat) (h : List Word) (i : VItem) (s : State),
    s.vis.run = some (m, h, i, k) →
    s.inferRuns = true →
    us (2 * mdMaxUs h) < max s.cyc t - k →
      exec (.inferenceTimeout t) s = .next ((((({ s.at t with vis := { s.vis with run := none } } : State).bump (VIS_MOD_CNT m) VIS_MOD_CNT_tmo_cnt).inferResult
            m h i ifTimeout ((max s.cyc t - k) / 200) [] []).raise2 (0x0A28 + m) 0).inferStart)) ∧
  -- SET_EXPOSURE
  (∀ (t : Nat) (r : Fin 64) (buf : List Word) (s : State) (d : RDesc),
    s.opFor r 0x0A 0 1 = some d →
    d.len % 4 = 0 →
    d.len ≠ 0 →
    s.canTake r d (4 * buf.length) = true →
    bits (d.par 8) 3 0 < 12 →
    d.len ≤ 128 →
    s.camEn (bits (d.par 8) 3 0) = true →
      (let c := bits (d.par 8) 3 0;
          exec (.setExposure t ⟨r, buf⟩) s = .next ((((s.at t).startOp r d.slot).setCam c { s.cam c with
            exps := (s.cam c).exps ++ [⟨(r, d.slot), bits (d.par 8) 31 16, (d.par 9).toNat, s.bufWords r d buf⟩] }).settleRing r))) ∧
  -- EXPOSURE_ACCEPTED
  (∀ (t : Nat) (c : Fin 12) (nack : Option Nat) (x : VExp) (rest : List VExp) (s y : State),
    (s.cam c).exps = x :: rest →
    s.visRuns = true →
    (s.cam c).frame = none →
    y = (s.at t).sendItems c x.items nack →
      exec (.exposureAccepted t c nack) s = .next (match nack with
          | some i => ((y.setCam c { s.cam c with exps := rest }).endRunning x.op false stAborted 0 i).settleRing x.op.1
          | none => ((((y.setCam c { s.cam c with exps := rest, toks := (s.cam c).toks ++ [⟨x.token, x.exp, y.cyc, 0⟩] }).relock c).wr
            (VIS_CAM_TOK c) VIS_CAM_TOK_tok_acc x.token).endRunning x.op false stDone (4 * x.items.length) (y.mtime % 2 ^ 32)).settleRing x.op.1)) ∧
  -- SENSOR_XFER
  (∀ (t : Nat) (r : Fin 64) (buf : List Word) (reads : List Byte) (s : State) (d : RDesc),
    s.pow.holdUp = none →
    s.opFor r 0x0A 0 2 = some d →
    d.len % 4 = 0 →
    d.len ≠ 0 →
    s.canTake r d (4 * buf.length) = true →
    bits (d.par 8) 3 0 < 12 →
    d.len ≤ 128 →
      (let c := bits (d.par 8) 3 0;
          let ws := s.bufWords r d buf;
          let put := fun (n : Nat) (x : State) => (List.range ws.length).foldl (fun x i => if decide (i < n) && bits (wAt ws i) 31 31 == 1
            then x.bufOut r d (4 * i) [packW [(bits (wAt ws i) 31 8, 8), ((reads.getD i 0#8).toNat, 0)]] else x) x
          exec (.sensorXfer t r buf reads none) s = .next (((put ws.length ((s.at t).sendItems c ws none)).endOp r d.slot stDone d.len 0).settleRing r) ∧
            ∀ k, exec (.sensorXfer t r buf reads (some k)) s = .next (((put k ((s.at t).sendItems c ws (some k))).endOp r d.slot stAborted 0 k).settleRing r))) ∧
  -- PARAM_READ
  (∀ (t : Nat) (r : Fin 64) (s z : State) (d : RDesc),
    z = (s.at t).camsNow →
    z.opFor r 0x0A 0 4 = some d →
    d.len % 4 = 0 →
    d.len ≠ 0 →
    z.bufBad r d = false →
    bits (d.par 8) 3 0 < 12 →
    bits (d.par 8) 27 16 + d.len / 4 ≤ 4096 →
      exec (.paramRead t r) s = .next (((z.bufOut r d 0 ((List.range (d.len / 4)).map fun i => cellGet (fun _ => 0#32)
            (if bits (d.par 8) 30 30 = 1 then (z.cam (bits (d.par 8) 3 0)).act else (z.cam (bits (d.par 8) 3 0)).sh) (bits (d.par 8) 27 16 + i))).endOp
            r d.slot stDone d.len 0).settleRing r)) ∧
  -- PARAM_WRITE
  (∀ (t : Nat) (r : Fin 64) (buf : List Word) (s z : State) (d : RDesc) (l : List (Word × Nat)),
    z = (s.at t).camsNow →
    z.opFor r 0x0A 0 3 = some d →
    d.len % 4 = 0 →
    d.len ≠ 0 →
    z.canTake r d (4 * buf.length) = true →
    bits (d.par 8) 3 0 < 12 →
    bits (d.par 8) 27 16 + d.len / 4 ≤ 4096 →
    l = (z.bufWords r d buf).zipIdx (bits (d.par 8) 27 16) →
    ((l.any fun p => paramBad p.2 p.1) = false) →
      exec (.paramWrite t r buf) s = .next (((z.camWrite (bits (d.par 8) 3 0) l (bits (d.par 8) 31 31 == 1)).endSeq 0x0A r d.slot d.len
            (z.reg VIS_HO_SEQ).toNat).settleRing r)) ∧
  -- LOAD_MODEL
  (∀ (t : Nat) (r : Fin 64) (buf : List Word) (s : State) (d : RDesc) (ws h : List Word),
    s.opFor r 0x0A 0 5 = some d →
    s.canTake r d (4 * buf.length) = true →
    d.len ≠ 0 →
    s.slotBound (bits (d.par 8) 2 0) = false →
    ws = s.bufWords r d buf →
    (h = (List.range 16).map fun i => wAt ws (16 + i)) →
    containerOk ws 0x08 d.len = true →
    mdBad h = false →
    s.modelFits (bits (d.par 8) 2 0) h = true →
      exec (.loadModel t r buf true) s = .next (((((s.at t).putModel (bits (d.par 8) 2 0) (some h)).inferStart).endOp r d.slot stDone d.len 0).settleRing r)) ∧
  -- UNLOAD_MODEL
  (∀ (t : Nat) (r : Fin 64) (s : State) (d : RDesc),
    s.opFor r 0x0A 0 6 = some d →
    s.slotBound (bits (d.par 8) 2 0) = false →
      (let m := bits (d.par 8) 2 0;
          exec (.unloadModel t r) s = .next (((((s.slot m).q.foldl (fun x i => x.inferDrop m i) ((s.at t).setSlot m { s.slot m with q := [] })).putModel m none).endOp
            r d.slot stDone 0 0).settleRing r))) ∧
  -- FORCE_IDR
  (∀ (t : Nat) (r : Fin 64) (s : State) (d : RDesc),
    s.opFor r 0x0A 0 7 = some d →
    s.bit (VIS_ENC_CFG (bits (d.par 8) 1 0)) VIS_ENC_CFG_en = true →
      (let e := bits (d.par 8) 1 0;
          exec (.forceIdr t r) s = .next ((((s.at t).setEnc e { s.enc e with force := true }).endOp r d.slot stDone 0 0).settleRing r))) ∧
  -- FRAME_RECORD_FILL, INFERENCE_FILL, ACCESS_UNIT_FILL
  (∀ (t : Nat) (r : Fin 64) (e : Fin 4) (s : State) (d : RDesc),
    s.bufBad r d = false →
    0 < d.len →
      (s.opFor r 0x0A 1 0x01 = some d → exec (.frameRecordFill t r) s = .next ((((s.at t).startOp r d.slot).pumpAll 0xA1).settleRing r)) ∧
        (s.opFor r 0x0A 2 0x01 = some d → exec (.inferenceFill t r) s = .next ((((s.at t).startOp r d.slot).pumpAll 0xA2).settleRing r)) ∧
        (s.opFor r 0x0A (3 + e) 0x01 = some d → exec (.accessUnitFill t r e) s = .next ((((s.at t).startOp r d.slot).pumpAll (0xA * 16 + (3 + e))).settleRing r)))

/-- What fixes, antenna supplies, checks, corrections and snapshots of GNS do (R327, R330, R331, R333, R335, R336, R345,
R346, R347, R348). -/
def Obligations.PositioningCommands : Prop :=
  -- FIX_EPOCH
  (∀ (t : Nat) (x : GnssFix) (s z : State),
    z = s.at t →
    z.gnsRuns = true →
    z.gns.epoch ≠ some (z.mtime / 10000000 * 10000000) →
    z.antMisuse 0 x.cur0 = false →
    z.antMisuse 1 x.cur1 = false →
      (let epoch := z.mtime / 10000000 * 10000000;
          let s0 := (z.antCurrent 0 x.cur0).antCurrent 1 x.cur1;
          let hd := s0.fixHeading x;
          let s1 := if hd.2.2.2 ≠ 0 then s0.setGns { s0.gns with heading := some (hd.1, hd.2.2.1, z.cyc) } else s0;
          let f := s1.fixType x;
          let l := s1.tracksOf f x.sky;
          let ws := s1.pvtWords x hd epoch l;
          let usable := decide (0 < f) && !z.suspect;
          let sent := z.bit GNS_CFG GNS_CFG_pvt100 || epoch % 50000000 == 0;
          let s2 := (s1.setGns { s1.gns with
            epoch := some epoch, pvt := ws, usable := usable, newBase := s1.gns.newBase && !sent, tracks := l,
            useful := if usable then some (epoch, ws) else s1.gns.useful,
            lastPos := if f = 0 then s1.gns.lastPos else (ws.drop 2).take 4 }).freeNext
          let s3 := (((s2.wr GNS_STAT GNS_STAT_fix f).wr GNS_STAT GNS_STAT_hd_valid (b2n (hd.2.2.2 != 0))).wr GNS_STAT
            GNS_STAT_nsv (min 0xFF (usedCount l))).wr GNS_STAT GNS_STAT_ntrk (trackCount l)
          let s4 := s3.gndGnss (if usable && decide (x.sAcc ≤ 100) then
            some ((x.vn * x.vn + x.ve * x.ve).toNat, x.back) else none)
          exec (.fixEpoch t x) s = .next (if sent then s4.gnsSend 1 ws else s4))) ∧
  -- ANTENNA_OPEN
  (∀ (t ma : Nat) (a : Fin 2) (s z : State),
    z = s.at t →
    z.antOn a = true →
      exec (.antennaOpen t ⟨a, ma⟩) s = .next (
          let s1 := (z.wr GNS_ANT (antCur a) (min 0xFF ma)).antLimit a (decide (100 ≤ ma))
          if 3 ≤ ma then s1.wr GNS_ANT (antOpen a) 0
          else if z.bit GNS_ANT (antOpen a) then s1
          else ((s1.wr GNS_ANT (antOpen a) 1).antSeen a false).note (0x0B01 + 2 * a) 0)) ∧
  -- ANTENNA_SHORT
  (∀ (t : Nat) (a : Fin 2) (s y : State),
    s.antOn a = true →
    (cellGet (fun _ => 0) s.gns.antShortAt a = 0 ∨ cellGet (fun _ => 0) s.gns.antShortAt a + ms 10 ≤ max s.cyc t) →
    y = (s.at t).antLimit a true →
      exec (.antennaShort t a) s = .next ((((y.setGns { y.gns with antRetry := cellSet (fun _ => 0) y.gns.antRetry a (max s.cyc t + sec 1) }).antShortTime a 0).wr
            GNS_ANT (antCur a) 0).raise2 (0x0B02 + 2 * a) 0)) ∧
  -- ANTENNA_RETRY
  (∀ (t : Nat) (a : Fin 2) (s : State),
    (cellGet (fun _ => 0) s.gns.antRetry a ≠ 0) →
    s.pow.holdUp = none →
    (cellGet (fun _ => 0) s.gns.antRetry a ≤ max s.cyc t) →
      exec (.antennaRetry t a) s = .next ((s.at t).antOff a)) ∧
  -- GNSS_CHECK_SECOND
  (∀ (t : Nat) (chk : GnssCheck) (s z : State),
    z = s.at t →
    z.gnsRuns = true →
    ionoFails chk = [] ∧ z.codeFails chk = [] ∧ z.powerFails chk = [] ∧ z.consFails chk = [] ∧ chk.noAgree = false →
    z.oscFails chk = false →
    z.gns.excl = [] →
      ∃ u, exec (.gnssCheckSecond t chk) s = .next u ∧ u.gns.excl = [] ∧ u.gns.calm = z.gns.calm + 1 ∧
          u.suspect = (z.suspect && decide (z.gns.calm + 1 < 3))) ∧
  -- EXCLUSION_EXPIRY
  (∀ (t id : Nat) (con : Bool) (s : State),
      exec (.exclusionExpiry t con id) s = .next ((s.at t).setGns { s.gns with excl := s.gns.excl.filter fun x =>
            !(x.con == con && x.id == id && x.until_.any fun c => decide (c ≤ max s.cyc t)) }).exclSync) ∧
  -- GNSS_DISABLE
  (∀ (t : Nat) (v : Word) (s : State),
    s.readyReg GNS_CFG = true →
    reservedOf GNS_CFG v = 0#32 →
    s.gnsLocked v = false →
      exec (.gnssDisable t v) s = .next ((s.at t).gnsConfig v)) ∧
  -- RTCM_IN
  (∀ (t : Nat) (r : Fin 64) (buf : List Byte) (s : State) (d : RDesc) (bs : List Byte),
    s.opFor r 0x0B 0 1 = some d →
    s.canTake r d buf.length = true →
    bs = s.gns.rtcm ++ s.bufIn r d buf →
      (let f := rtcmFrames bs.length bs;
          exec (.rtcmIn t r buf) s = .next (((f.1.foldl (fun x p => if p.2 then x.rtcmGood p.1 else x.rtcmBad) ((s.at t).setGns { s.gns with rtcm := f.2 })).endOp
            r d.slot stDone d.len (f.1.filter Prod.snd).length).settleRing r))) ∧
  -- SNAPSHOT
  (∀ (t : Nat) (r : Fin 64) (s : State) (d : RDesc),
    s.opFor r 0x0B 0 2 = some d →
    s.bufBad r d = false →
    s.pow.holdUp = none →
    2 ≤ bits (d.par 8) 5 0 →
    bits (d.par 8) 5 0 ≤ 32 →
    bits (d.par 8) 11 8 ≠ 0 →
    64 + streams (bits (d.par 8) 11 8) * bits (d.par 8) 5 0 * 81840 ≤ d.len →
    s.gns.snap = none →
    ¬ (4 ≤ bits (d.par 8) 11 8 ∧ s.bit GNS_CFG GNS_CFG_head = false) →
    u64 (d.par 9) (d.par 10) = 0 →
      exec (.snapshot t r) s = .next ((((s.at t).startOp r d.slot).setGns { s.gns with
            snap := some ⟨(r.val, d.slot), (s.at t).mtime, bits (d.par 8) 5 0, bits (d.par 8) 11 8, some (max s.cyc t), false, some (s.gns.foffThen (max s.cyc t))⟩ }).settleRing r)) ∧
  -- SNAPSHOT_DONE
  (∀ (t : Nat) (agc0 agc1 : BitVec 16) (samples : List Byte) (x : SnapRun) (s z : State) (d : RDesc),
    z = s.at t →
    z.gns.snap = some x →
    z.pow.holdUp = none →
    x.begun ≠ none →
    z.snapBegan x + ms x.len ≤ z.cyc →
    z.running x.op.1 x.op.2 = some d →
      (let n := streams x.mask * x.len * 81840;
          exec (.snapshotDone t agc0 agc1 samples) s = .next (((z.setGns { z.gns with snap := none }).bufOutBytes x.op.1 d 0
            (wordsBytes ([lo32 x.start, hi32 x.start, packW [(x.len, 24), (x.mask, 20), (b2n x.stepped, 19)], word 163680000, agc1 ++ agc0,
              wInt (x.foff.getD (z.gns.foffThen (z.snapBegan x)))] ++ List.replicate 10 0#32) ++ (List.range n).map fun i => samples.getD i 0#8)).finish x.op false stDone (64 + n) 0))) ∧
  -- PVT_FILL, TIME_FILL
  (∀ (t : Nat) (r : Fin 64) (s : State) (d : RDesc),
    s.bufBad r d = false →
    64 ≤ d.len →
      (s.opFor r 0x0B 1 0x01 = some d → exec (.pvtFill t r) s = .next ((((s.at t).startOp r d.slot).pumpAll 0xB1).settleRing r)) ∧
        (s.opFor r 0x0B 2 0x01 = some d → exec (.timeFill t r) s = .next ((((s.at t).startOp r d.slot).pumpAll 0xB2).settleRing r)))

/-- What the second boundary, the end of a slew and the end of the PPS pulse do (R338, R339, R342, R343). -/
def Obligations.ModuleTimeCommands : Prop :=
  -- TIME_SECOND_BOUNDARY
  (∀ (t : Nat) (sol : TimeSol) (s z : State),
    z = s.at t →
    z.pow.on = true →
    z.mtime % 1000000000 < 5 →
    z.gns.second ≠ some (z.mtime / 1000000000 * 1000000000) →
      ∃ u, exec (.timeSecondBoundary t sol) s = .next u ∧ u.gns.second = some (z.mtime / 1000000000 * 1000000000) ∧
          u.tstate = (z.timeDecide sol (z.mtime / 1000000000 * 1000000000)).1.tstate) ∧
  -- SLEW_END
  (∀ (t : Nat) (x : Nat × Nat) (s : State),
    s.tstate = tsSlew →
    s.gns.slew = some x →
    x.2 * sec 1 < 20 * (max s.cyc t - x.1) + 5 * sec 1 →
      exec (.slewEnd t) s = .next (((s.at t).setGns { s.gns with slew := none }).wr GNS_STAT GNS_STAT_tstate tsLocked)) ∧
  -- PPS_PULSE_END
  (∀ (t c : Nat) (s : State),
    s.gns.ppsEnd = some c →
    c ≤ max s.cyc t →
      exec (.ppsPulseEnd t) s = .next ((s.at t).setGns { s.gns with ppsEnd := none }))

/-- What enabling, receiving, arbitration, errors, recovery and ring operations of a CAN channel do (R352, R353, R357,
R359, R360, R362, R364, R365, R369, R370). -/
def Obligations.CanCommands : Prop :=
  -- CAN_ENABLE
  (∀ (t : Nat) (n : Fin 8) (v : Word) (s : State),
    s.readyReg (CAN_CFG n) = true →
    reservedOf (CAN_CFG n) v = 0#32 →
    s.canEn n = false →
    s.canK12 n = false →
    CAN_CFG_en.get v = 1 →
    s.canTimingBad n = false →
      exec (.canEnable t n v) s = .next (((s.at t).store (CAN_CFG n) v).setCan n { s.canCh n with left := none }).canSave) ∧
  -- CAN_DISABLE
  (∀ (t : Nat) (n : Fin 8) (v : Word) (s : State),
    s.readyReg (CAN_CFG n) = true →
    reservedOf (CAN_CFG n) v = 0#32 →
    s.canEn n = true →
    s.canK12 n = false →
    CAN_CFG_en.get v = 0 →
      exec (.canDisable t n v) s = .next (((s.at t).store (CAN_CFG n) v).canLeave n)) ∧
  -- CAN_FRAME_RECEIVED
  (∀ (t : Nat) (n : Fin 8) (frame : CanFrame) (s z x : State),
    z = s.at t →
    z.canHears n frame.sof = true →
    x = (z.bump (CAN_CNT0 n) CAN_CNT0_rx_cnt).canGood n →
      exec (.canFrameReceived t n frame) s = .next (((x.setCan n { x.canCh n with left := none }).canDeliver n frame false).k12Heard n frame)) ∧
  -- CAN_TX_OPPORTUNITY
  (∀ (t q : Nat) (n : Fin 8) (s : State),
    s.canEn n = true →
    s.bit (CAN_CFG n) CAN_CFG_listen = false →
    s.canState n < csBusOff →
    (s.canCh n).cur = none →
    (s.canCh n).best = some q →
      (let c := s.canCh n;
          let x := if (c.queue q).head?.any TxFrame.again then (s.at t).bump (CAN_CNT1 n) CAN_CNT1_retry_cnt else s.at t;
          exec (.canTxOpportunity t n) s = .next (x.setCan n { c.setQueue q (modAt (fun f => { f with again := false }) 0 (c.queue q)) with
            cur := some q, curGone := false }))) ∧
  -- CAN_FRAME_TRANSMITTED
  (∀ (t sof q : Nat) (n : Fin 8) (f : TxFrame) (rest : List TxFrame) (s z : State),
    z = s.at t →
    25 * sof ≤ 10 * z.cyc →
    (z.canCh n).cur = some q →
    (z.canCh n).queue q = f :: rest →
      (let c := z.canCh n;
          let x := (z.setCan n (CanCh.setQueue { c with cur := none, behind := none, curGone := false, left := none } q (c.behind.toList ++ rest))).bump
            (CAN_CNT0 n) CAN_CNT0_tx_cnt
          let y := ((x.wr (CAN_STAT n) CAN_STAT_tec (x.rd (CAN_STAT n) CAN_STAT_tec - 1)).canConfine n).txDone f stDone (z.canStamp sof % 2 ^ 32);
          exec (.canFrameTransmitted t n sof) s = .next (if y.canEcho n then
            y.canDeliver n (f.onBus (z.canState n == csPassive && f.fdf) sof) true else y))) ∧
  -- CAN_ARBITRATION_LOST
  (∀ (t : Nat) (n : Fin 8) (s : State),
      exec (.canArbitrationLost t n) s = .next ((s.at t).canMissed n false)) ∧
  -- CAN_ERROR
  (∀ (t : Nat) (n : Fin 8) (err : CanFault) (s : State),
    s.canOnBus n = true →
    err.own = false →
    err.forced = false →
      exec (.canError t n err) s = .next (((((s.at t).bump (CAN_CNT1 n) CAN_CNT1_err_cnt).canCount n false err.add).canConfine n).canGone n)) ∧
  -- CAN_ERROR
  (∀ (t : Nat) (n : Fin 8) (err : CanFault) (s : State),
    s.canOnBus n = true →
    err.own = true →
    err.forced = false →
    (s.canCh n).cur ≠ none →
      exec (.canError t n err) s = .next ((((((s.at t).bump (CAN_CNT1 n) CAN_CNT1_err_cnt).canCount n true err.add).canMissed n true).canConfine n).canGone n)) ∧
  -- CAN_RECOVER, CAN_FLUSH
  (∀ (t : Nat) (n : Fin 8) (v : Word) (s : State),
    s.readyReg (CAN_CTL n) = true →
    reservedOf (CAN_CTL n) v = 0#32 →
    s.canK12 n = false →
      exec (.canRecover t n v) s = .next ((s.at t).canCtl n v) ∧ exec (.canFlush t n v) s = .next ((s.at t).canCtl n v)) ∧
  -- CAN_RECOVERY_DONE
  (∀ (t : Nat) (n : Fin 8) (s : State),
    s.canState n = csRecovering →
      exec (.canRecoveryDone t n) s = .next ((s.at t).canReset n)) ∧
  -- CAN_FILL
  (∀ (t : Nat) (r : Fin 64) (s : State) (d : RDesc),
    s.ringFunc r < 8 →
    s.behindRing r = false →
    s.opFor r 0x0C (s.ringFunc r) 1 = some d →
    s.bufBad r d = false →
    0 < d.len →
      exec (.canFill t r) s = .next ((((s.at t).startOp r d.slot).pumpAll (0x0C * 16 + s.ringFunc r)).settleRing r)) ∧
  -- CAN_SEND
  (∀ (t n q : Nat) (fdf brs : Bool) (r : Fin 64) (buf : List Byte) (s : State) (d : RDesc) (bs : List Byte) (h0 h1 : Word),
    s.ringFunc r = 8 + n →
    s.opFor r 0x0C (8 + n) 1 = some d →
    s.canTake r d buf.length = true →
    q = bits (d.par 8) 1 0 →
    bs = s.bufIn r d buf →
    h0 = wAt (bytesWords bs) 0 →
    h1 = wAt (bytesWords bs) 1 →
    fdf = (bits h0 31 31 == 1) →
    brs = (bits h0 30 30 == 1) →
    8 ≤ d.len →
    fdf = true ∨ (bits h1 3 0 ≤ 8 ∧ brs = false) →
    d.len = 8 + dlcLen fdf (bits h1 3 0) →
    s.queueClass n q = s.rd (RNG_CFG r) RNG_CFG_class →
    bits h1 31 4 = 0 →
    s.canEn n = true →
    s.bit (CAN_CFG n) CAN_CFG_listen = false →
    s.canK12 n = false →
    fdf = false ∨ s.bit (CAN_CFG n) CAN_CFG_fd = true →
    (((s.canCh n).queue q).length < (if q = 0 then 16 else 64)) →
      exec (.canSend t r buf) s = .next ((((s.at t).startOp r d.slot).setCan n ((s.canCh n).setQueue q ((s.canCh n).queue q ++
            [{ fdf := fdf, brs := brs, ide := bits h0 29 29 == 1, id := bits h0 28 0, dlc := bits h1 3 0
               data := bs.drop 8, tmpl := none, op := some (r.val, d.slot), again := false }]))).settleRing r))

/-- What frames, gates, time messages and ring operations of the Ethernet switch do (R374, R375, R377, R378, R379, R381,
R384, R385). -/
def Obligations.SwitchCommands : Prop :=
  -- SWITCH_FRAME_INGRESS
  (∀ (t : Nat) (k : Fin 8) (bs : List Byte) (s : State),
    s.netRuns = true →
    s.netUp k = true →
    14 ≤ bs.length →
      exec (.switchFrameIngress t k bs) s = .next ((s.at t).ingress k bs)) ∧
  -- ADDRESS_AGE_OUT
  (∀ (t : Nat) (s : State),
      exec (.addressAgeOut t) s = .next (s.at t).ageOut) ∧
  -- GATE_INTERVAL_END
  (∀ (t : Nat) (k : Fin 7) (s : State),
    s.netRuns = true →
      exec (.gateIntervalEnd t k) s = .next ((((s.at t).portCatch k).gateEnd k).portCatch k)) ∧
  -- GCL_HANDOVER
  (∀ (t : Nat) (k : Fin 7) (s x : State),
    s.netRuns = true →
    x = (s.at t).portCatch k →
    (x.nport k).oper = none →
      exec (.gclHandover t k) s = .next ((x.gclFirst k).portCatch k)) ∧
  -- GCL_HANDOVER
  (∀ (t : Nat) (k : Fin 7) (g : Gcl) (s x : State),
    s.netRuns = true →
    x = (s.at t).portCatch k →
    (x.nport k).oper = some g →
    (x.nport k).endM ≤ x.mtime →
    (x.nport k).cut = true ∨ g.es.length ≤ (x.nport k).idx + 1 →
      exec (.gclHandover t k) s = .next ((x.gclStart k (x.nport k).endM).portCatch k)) ∧
  -- GPTP_SYNC_SEND
  (∀ (t : Nat) (s x : State),
    s.netRuns = true →
    (∀ c, s.net.syncAt = some c → c + ms 125 ≤ max s.cyc t) →
    x = ({ s.at t with net := { s.net with syncAt := some (max s.cyc t) } } : State).portsCatch →
      ∃ u, exec (.gptpSyncSend t) s = .next u ∧ u.net = x.net ∧ x.SameBut u [] ∧
          x.Sent u (((List.range 7).filter s.netUp).flatMap fun k => [.sync k x.netStamp,
            .announce k x.clockClass (clockAccuracy (x.reg GNS_UNC).toNat) 0x20]).reverse) ∧
  -- PDELAY_MEASURE
  (∀ (t : Nat) (s x : State),
    s.netRuns = true →
    (∀ c, s.net.pdAt = some c → c + sec 1 ≤ max s.cyc t) →
    x = ({ s.at t with net := { s.net with pdAt := some (max s.cyc t) } } : State).portsCatch →
      ∃ u, exec (.pdelayMeasure t) s = .next u ∧ u.net = x.net ∧ x.SameBut u [] ∧
          x.Sent u (((List.range 7).filter s.netUp).map fun k => .pdelay k (s.at t).netStamp).reverse) ∧
  -- ANNOUNCE_RECEIVED
  (∀ (t : Nat) (k : Fin 7) (s : State),
    s.netRuns = true →
    s.netUp k = true →
      exec (.announceReceived t k) s = .next ((s.at t).bump (NET_PSTAT k) NET_PSTAT_ann_cnt)) ∧
  -- SVC_DET_EDGE
  (∀ (t : Nat) (grounded : Bool) (s : State),
    s.netRuns = true →
    s.pow.svc = !grounded →
      (let x := ({ s.at t with pow := { s.pow with svc := grounded } } : State);
          exec (.svcDetEdge t grounded) s = .next (((x.portCatch 3).wr (NET_PSTAT 3) NET_PSTAT_svc (b2n grounded)).portTrain 3))) ∧
  -- NET_SEND
  (∀ (t : Nat) (r : Fin 64) (buf : List Byte) (s : State) (d : RDesc),
    s.opFor r 0x0D 0 1 = some d →
    s.canTake r d buf.length = true →
    14 ≤ d.len →
    d.len ≤ 2000 →
      exec (.netSend t r buf) s = .next ((((s.at t).ingress 7 (s.bufIn r d buf)).endOp r d.slot stDone d.len 0).settleRing r)) ∧
  -- NET_FILL
  (∀ (t : Nat) (r : Fin 64) (s : State) (d : RDesc),
    s.opFor r 0x0D 1 0x01 = some d →
    s.bufBad r d = false →
    0 < d.len →
      exec (.netFill t r) s = .next ((((s.at t).startOp r d.slot).pumpAll 0xD1).settleRing r)) ∧
  -- GCL_WRITE
  (∀ (t : Nat) (r : Fin 64) (buf : List Word) (s : State) (d : RDesc) (l : List (Word × Word)) (g : Gcl) (p p1 p2 : NPort),
    s.opFor r 0x0D 2 0x10 = some d →
    d.len % 8 = 0 →
    s.canTake r d (4 * buf.length) = true →
    d.len ≠ 0 →
    d.len ≤ 1024 →
    bits (d.par 8) 2 0 ≠ 7 →
    l = gatePairs (s.bufWords r d buf) →
    (g = ⟨u64 (d.par 9) (d.par 10), l.map fun e => (bits e.1 31 24, e.2.toNat)⟩) →
    l.any gateBad = false →
    g.cycle ≤ 1000000000 →
    p = s.nport (bits (d.par 8) 2 0) →
    (p1 = { p with adm := g, wroteAt := max s.cyc t, prevAdm := if p.wroteAt = max s.cyc t then p.prevAdm else p.adm }) →
    (p2 = if bits (d.par 8) 7 7 = 1 then { p1 with pending := true, pendAt := max s.cyc t, pendM := (s.at t).mtime, prevPend := if p.pendAt = max s.cyc t then p.prevPend else p.pending } else p1) →
      exec (.gclWrite t r buf) s = .next (((((s.at t).setNport (bits (d.par 8) 2 0) p2).wr
            (NET_PSTAT (bits (d.par 8) 2 0)) NET_PSTAT_pend (b2n p2.pending)).endOp r d.slot stDone d.len (s.reg NET_HO_SEQ).toNat).settleRing r)) ∧
  -- SF_WRITE
  (∀ (t : Nat) (r : Fin 64) (buf : List Word) (s : State) (d : RDesc) (x : State),
    s.opFor r 0x0D 2 0x11 = some d →
    d.len % 16 = 0 →
    s.canTake r d (4 * buf.length) = true →
    d.len ≠ 0 →
    bits (d.par 8) 7 0 + d.len / 16 ≤ 256 →
    (x = ((filterQuads (s.bufWords r d buf)).zipIdx (bits (d.par 8) 7 0)).foldl (fun x e =>
          x.setSfilt e.2 { (⟨e.1, (x.sfilt e.2).blocked, 0, max s.cyc t⟩ : SFilter) with tok := SFilter.burst ⟨e.1, (x.sfilt e.2).blocked, 0, max s.cyc t⟩ }) (s.at t)) →
    (((filterQuads (s.bufWords r d buf)).any fun q => bits (wAt q 0) 29 12 != 0) = false) →
    x.filtersClash = false →
      exec (.sfWrite t r buf) s = .next ((x.endOp r d.slot stDone d.len 0).settleRing r)) ∧
  -- UNBLOCK
  (∀ (t : Nat) (r : Fin 64) (s : State) (d : RDesc),
    s.opFor r 0x0D 2 0x12 = some d →
      (let i := bits (d.par 8) 7 0;
          exec (.unblock t r) s = .next ((((s.at t).setSfilt i { s.sfilt i with blocked := false }).endOp r d.slot stDone 0 0).settleRing r)))

/-- What reads, writes, requests and the link of the modem root port do (R383). -/
def Obligations.ModemPortCommands : Prop :=
  -- RP_DATA_READ
  (∀ (t : Nat) (v : Option Word) (s : State),
    s.netRuns = true →
    (s.reg NET_RP_ADDR).toNat % 4 = 0 →
      (let x := if s.rpUp then v.getD 0xFFFFFFFF#32 else 0xFFFFFFFF#32;
          exec (.rpDataRead t v) s = .next (((s.at t).setReg NET_RP_DATA x).emit (.modem false (s.rd NET_RP_CFG NET_RP_CFG_space) (s.reg NET_RP_ADDR).toNat x)))) ∧
  -- RP_DATA_WRITE
  (∀ (t : Nat) (v : Word) (s : State),
    s.netRuns = true →
    (s.reg NET_RP_ADDR).toNat % 4 = 0 →
      (let x := (s.at t).setReg NET_RP_DATA v;
          exec (.rpDataWrite t v) s = .next (if s.rpUp then x.emit (.modem true (s.rd NET_RP_CFG NET_RP_CFG_space) (s.reg NET_RP_ADDR).toNat v) else x))) ∧
  -- MODEM_MEMORY_REQUEST
  (∀ (t addr len : Nat) (bs : List Byte) (s : State),
    s.netRuns = true →
    s.rpUp = true →
    addr + bs.length ≤ sharedTop →
    addr + len ≤ sharedTop →
    areasMeet [(addr, bs.length)] (s.at t).writtenAreas = false →
    (s.at t).poisoned addr len = false →
      exec (.modemMemoryRequest t true addr len bs) s = .next ((s.at t).memStore addr bs) ∧
        exec (.modemMemoryRequest t false addr len bs) s = .next ((s.at t).emit (.modemData (some (s.memBytes addr len))))) ∧
  -- MODEM_MEMORY_REQUEST
  (∀ (t addr len : Nat) (bs : List Byte) (s : State),
    s.netRuns = true →
    s.rpUp = true →
    sharedTop < addr + bs.length →
    sharedTop < addr + len →
      exec (.modemMemoryRequest t true addr len bs) s = .next ((s.at t).note 0x0D30 0) ∧
        exec (.modemMemoryRequest t false addr len bs) s = .next (((s.at t).note 0x0D30 0).emit (.modemData none))) ∧
  -- MODEM_MSI
  (∀ (t : Nat) (s : State),
    s.netRuns = true →
    s.rpUp = true →
      exec (.modemMsi t) s = .next ((s.at t).emit (.msix (s.rd NET_RP_CFG NET_RP_CFG_vector)))) ∧
  -- MODEM_LINK_LOSS
  (∀ (t : Nat) (s : State),
    s.netRuns = true →
    s.rpUp = true →
      exec (.modemLinkLoss t) s = .next ((((s.at t).rpDown.bump NET_RP_STAT NET_RP_STAT_retry_cnt).note 0x0D40 0).rpRetry (some (max s.cyc t + sec 5)))) ∧
  -- MODEM_LINK_RETRY
  (∀ (t c : Nat) (gen : Fin 5) (s : State),
    s.net.rpRetry = some c →
    s.netRuns = true →
    s.bit NET_RP_CFG NET_RP_CFG_en = true →
    c ≤ max s.cyc t →
      exec (.modemLinkRetry t gen) s = .next (if gen.val = 0 then (s.at t).rpRetry (some (max s.cyc t + sec 5))
            else (((s.at t).wr NET_RP_STAT NET_RP_STAT_link 1).wr NET_RP_STAT NET_RP_STAT_gen gen).rpRetry none))

/-- What kicks, descriptors, pauses, stops, errors and request lines of the DMA engine do (R386, R387, R389, R391, R392,
R393, R394, R395, R396, R397). -/
def Obligations.DmaCommands : Prop :=
  -- DMA_KICK
  (∀ (t : Nat) (n : Fin 32) (beaten : List (Fin 32)) (s : State),
    s.readyReg (DMA_CH_CTL n) = true →
    ((s.at t).dmaKick n (beaten.map Fin.val)).dmaShared n = false →
      exec (.dmaKick t n beaten) s = .next ((s.at t).dmaKick n (beaten.map Fin.val))) ∧
  -- DMA_NEXT_WRITE
  (∀ (t : Nat) (n : Fin 32) (v : Word) (s : State),
    s.readyReg (DMA_CH_NEXT_LO n) = true →
    reservedOf (DMA_CH_NEXT_LO n) v = 0#32 →
    s.dmaState n = dmaIdle →
      exec (.dmaNextWrite t n v) s = .next ((((s.at t).store (DMA_CH_NEXT_LO n) v).wr (DMA_CH_STAT n) DMA_CH_STAT_nv 1).dmaPend n)) ∧
  -- DMA_DESCRIPTOR_ARRIVAL
  (∀ (t : Nat) (n : Fin 32) (ws : List Word) (beaten : List (Fin 32)) (ecc : List EccHit) (d : List Word) (x : DChan) (s z y : State),
    z = s.at t →
    x = z.dch n →
    x.fetch = true →
    z.dmaState n ≠ dmaIdle →
    z.dmaStalled n = false →
    (x.host = false → z.dmaDescAddr n + 64 ≤ sharedTop) →
    (d = if x.host then (List.range 16).map (wAt ws) else z.memWords (z.dmaDescAddr n) 16) →
    eccBad ecc = false →
    (x.host = false → z.poisoned (z.dmaDescAddr n) 64 = false) →
    dBad d = false →
    y = (z.eccAll ecc).setDch n { x with
            fetch := false, desc := some d, put := 0, got := 0, owned := x.owned ++ descAreas (z.dmaDescAddr n) x.host d, past := x.past ++ [(z.dmaDescAddr n, x.host)] } →
    y.dmaShared n = false →
    z.dmaClash n d = false →
    z.mirrorMisused n d = false →
      exec (.dmaDescriptorArrival t n ws beaten ecc) s = .next (((y.dmaMove n 0 []).dmaReadOn n).dmaLeap n false (beaten.map Fin.val))) ∧
  -- DMA_DESCRIPTOR_ARRIVAL
  (∀ (t : Nat) (n : Fin 32) (ws : List Word) (beaten : List (Fin 32)) (ecc : List EccHit) (s z : State),
    z = s.at t →
    (z.dch n).fetch = true →
    z.dmaState n ≠ dmaIdle →
    z.dmaStalled n = false →
    ((z.dch n).host = false → z.dmaDescAddr n + 64 ≤ sharedTop) →
    eccBad ecc = true →
      exec (.dmaDescriptorArrival t n ws beaten ecc) s = .next (((ecc.foldl State.eccEnd (((z.eccAll ecc).dmaErr n).dmaAbort n 0 [] true)).poisonEnds
            (z.dmaDescAddr n) 64).wr (DMA_CH_STAT n) DMA_CH_STAT_nv 0)) ∧
  -- DMA_DESCRIPTOR_END
  (∀ (t put : Nat) (n : Fin 32) (bs : List Byte) (ecc : List EccHit) (ws : List Word) (s z : State),
    z = s.at t →
    (z.dch n).desc = some ws →
    z.dmaState n ≠ dmaIdle →
    z.dmaState n ≠ dmaPaused →
    z.dmaStalled n = false →
    z.dmaReq n = 0 ∨ dLen ws = (z.dch n).put ∨ z.dmaLineOn (z.dmaReq n) = true →
    eccBad ecc = false →
    dLen ws ≤ z.dmaClean ws →
    z.dmaOverfeeds n (dLen ws) = false →
      exec (.dmaDescriptorEnd t n put bs ecc) s
          = .next (((((z.eccAll ecc).dmaMove n (dLen ws) bs).dmaBack n stDone (dLen ws) (dBit ws dIrq))).dmaGoOn n ws)) ∧
  -- DMA_DESCRIPTOR_END
  (∀ (t put : Nat) (n : Fin 32) (bs : List Byte) (ecc : List EccHit) (ws : List Word) (s z : State),
    z = s.at t →
    (z.dch n).desc = some ws →
    z.dmaState n ≠ dmaIdle →
    z.dmaState n ≠ dmaPaused →
    z.dmaStalled n = false →
    z.dmaReq n = 0 ∨ dLen ws = (z.dch n).put ∨ z.dmaLineOn (z.dmaReq n) = true →
    eccBad ecc = true ∨ z.dmaClean ws < dLen ws →
    z.dmaOverfeeds n put = false →
      exec (.dmaDescriptorEnd t n put bs ecc) s = .next ((ecc.foldl State.eccEnd (((z.eccAll ecc).dmaErr n).dmaAbort n put bs false)).poisonEnds (dSrc ws) (dSpan ws (dBit ws dFixSrc)))) ∧
  -- DMA_PAUSE
  (∀ (t : Nat) (n : Fin 32) (s : State),
    s.readyReg (DMA_CH_CTL n) = true →
      exec (.dmaPause t n) s = .next ((s.at t).dmaPauseSet n)) ∧
  -- DMA_PAUSED
  (∀ (t put : Nat) (n : Fin 32) (bs : List Byte) (s : State),
    s.dmaState n = dmaPausing →
    (s.at t).dmaOverfeeds n put = false →
      exec (.dmaPaused t n put bs) s = .next (((s.at t).dmaMove n put bs).setDmaState n dmaPaused)) ∧
  -- DMA_RESUME
  (∀ (t : Nat) (n : Fin 32) (s : State),
    s.readyReg (DMA_CH_CTL n) = true →
      exec (.dmaResume t n) s = .next ((s.at t).dmaPauseClear n)) ∧
  -- DMA_STOP
  (∀ (t put : Nat) (n : Fin 32) (bs : List Byte) (s : State),
    s.readyReg (DMA_CH_CTL n) = true →
    (s.at t).dmaOverfeeds n put = false →
      exec (.dmaStop t n put bs) s = .next (if s.dmaState n = dmaIdle then (s.at t).wr (DMA_CH_STAT n) DMA_CH_STAT_pend 0 else (s.at t).dmaAbort n put bs false)) ∧
  -- DMA_READ_ERROR
  (∀ (t put : Nat) (n : Fin 32) (bs : List Byte) (s : State),
    s.dmaState n ≠ dmaIdle →
    (s.at t).dmaOverfeeds n put = false →
      exec (.dmaReadError t n put bs) s = .next (((((s.at t).wr (DMA_CH_STAT n) DMA_CH_STAT_err_seen 1).raise2 (0x0E00 + n) 0).dmaAbort n put bs true).clear2 (0x0E00 + n))) ∧
  -- DMA_REQUEST_ASSERT
  (∀ (t : Nat) (q : Fin 4) (s z : State),
    z = s.at t →
    z.dmaLineOn (q + 1) = false →
    z.lineAsks (q + 1) = true →
      (let mine := (List.range 32).filter fun n => z.dmaReq n == q + 1 && z.dmaState n == dmaRun;
          exec (.dmaRequestAssert t q) s = .next (mine.foldl (fun x n => (x.dmaReadOn n).dmaLeap n true [])
            { z with dmaLine := cellSet (fun _ => false) z.dmaLine (q + 1) true }))) ∧
  -- DMA_REQUEST_WITHDRAW
  (∀ (t : Nat) (q : Fin 4) (done : List (Nat × Nat × List Byte)) (s z : State),
    z = s.at t →
    z.dmaLineOn (q + 1) = true →
    (¬ (q.val = 3 ∧ z.sessWritten = true ∧ done.any (fun e => decide ((z.dch e.1).put < z.burstEnd e.1 e.2.1)) = true)) →
      (let mine := (List.range 32).filter fun n => z.dmaReq n == q + 1 && z.bit (DMA_CH_CFG n) DMA_CH_CFG_en;
          let y := done.foldl (fun x e => if mine.contains e.1 && x.dmaState e.1 != dmaIdle then x.dmaMove e.1 (x.burstEnd e.1 e.2.1) e.2.2 else x) z;
          exec (.dmaRequestWithdraw t q done) s = .next (y.lineDrop (q + 1))))

/-- What rectangles, frames, panel readings and store checks of the two display ports do (R400, R401, R403, R405, R407,
R408, R409, R411, R412, R414, R415, R419). -/
def Obligations.DisplayCommands : Prop :=
  -- RECT
  (∀ (t p : Nat) (r : Fin 64) (s z : State) (d : RDesc) (x : DRect),
    z = s.at t →
    p = z.ringFunc r →
    z.opFor r 0x0F p 1 = some d →
    d.area.w ≠ 0 →
    d.area.h ≠ 0 →
    z.bufBad r d = false →
    z.rectBad p d = false →
    (p = 1 → z.dpy.wavesOk = true) →
    (p = 1 → z.bit DPY_STAT DPY_STAT_clearing = false ∧ z.dpy.ckClear = false ∧ z.dpy.decided = false) →
    z.rectHeld p d = false →
    z.portDown p = false →
    z.mayFly p d.area = true →
    x = ⟨some (r, d.slot), d.area, bits (d.par 10) 29 28, [], [], .fetching, false⟩ →
      (let y := (z.startOp r d.slot).setRects p (z.rects p ++ [x.launch p z.cyc]);
          exec (.rect t r) s = .next ((if p = 1 then y.railsUp else y).settleRing r))) ∧
  -- RECT
  (∀ (t : Nat) (r : Fin 64) (s z : State) (d : RDesc) (x : DRect),
    z = s.at t →
    z.ringFunc r = 1 →
    z.opFor r 0x0F 1 1 = some d →
    d.area.w ≠ 0 →
    d.area.h ≠ 0 →
    z.bufBad r d = false →
    z.rectBad 1 d = false →
    z.dpy.wavesOk = true →
    z.bit DPY_STAT DPY_STAT_clearing = false →
    z.rectHeld 1 d = true →
    z.portDown 1 = false →
    z.dpy.held.length < 32 →
    z.pow.stop = none →
    x = ⟨some (r, d.slot), d.area, bits (d.par 10) 29 28, [], [], .fetching, true⟩ →
      exec (.rect t r) s = .next (((z.startOp r d.slot).setDpy { (z.startOp r d.slot).dpy with held := (z.startOp r d.slot).dpy.held ++ [x] }).settleRing r)) ∧
  -- RECT_FETCH_DONE
  (∀ (t i slot : Nat) (p : Fin 2) (r : Nat) (buf : List Byte) (x : DRect) (d : RDesc) (s : State),
    (((s.rects p).findIdx? fun r => r.st == .fetching) = some i) →
    (s.rects p)[i]? = some x →
    s.bit (DPY_INTAKE p) DPY_INTAKE_en = false →
    x.op = some (r, slot) →
    s.running r slot = some d →
    (s.ringEth r = false → d.len ≤ buf.length) →
    (s.ringEth r = true → s.poisoned d.addr d.len = false) →
      exec (.rectFetchDone t p buf) s = .next ((s.at t).setRects p (modAt (fun z => { z with
            pix := pixOf p x.area d.pitch (s.bufIn r d buf), fed := [], st := .fetched (max s.cyc t) }) i (s.rects p)))) ∧
  -- RECT_FETCH_DONE
  (∀ (t i : Nat) (p : Fin 2) (buf : List Byte) (x : DRect) (s : State),
    (((s.rects p).findIdx? fun r => r.st == .fetching) = some i) →
    (s.rects p)[i]? = some x →
    s.bit (DPY_INTAKE p) DPY_INTAKE_en = true →
    rowBytes p x.area.w * x.area.h ≤ x.fed.length →
      exec (.rectFetchDone t p buf) s = .next ((s.at t).setRects p (modAt (fun z => { z with
            pix := pixOf p x.area (rowBytes p x.area.w) x.fed, fed := [], st := .fetched (max s.cyc t) }) i (s.rects p)))) ∧
  -- PORT_A_FRAME_START
  (∀ (t : Nat) (s z : State),
    z = s.at t →
    z.dpy.pa = 3 →
    z.frameDue = true →
    z.dpy.black ≠ 0 →
      exec (.portAFrameStart t) s = .next (((z.setDpy { z.dpy with black := z.dpy.black - 1, frameA := z.cyc, idle := 0 }).takeCfgA).emit (.cabFrame none))) ∧
  -- PORT_A_FRAME_START
  (∀ (t : Nat) (s z : State),
    z = s.at t →
    z.dpy.pa = 3 →
    z.frameDue = true →
    z.dpy.black = 0 →
      (let l := z.showA;
          let x := (z.wr DPY_STAT DPY_STAT_a_on 1).takeWindows.takeCfgA;
          let y := x.setDpy { x.dpy with
            storeA := l.foldl (fun m r => putPix 0 m r.area r.pix) x.dpy.storeA
            frameA := z.cyc, idle := if z.changeA then 0 else z.dpy.idle + 1 }
          let w := if l.isEmpty then y else y.incReg DPY_A_SEQ;
          exec (.portAFrameStart t) s = .next ((l.foldl (fun x r => x.rectEnd r stDone (w.reg DPY_A_SEQ).toNat)
            (w.setRects 0 (w.dpy.rectA.filter fun r => !l.contains r))).emit (.cabFrame (some y.cabPix))))) ∧
  -- HPD_RISE
  (∀ (t : Nat) (s : State),
    s.dpy.pa ≠ 0 →
      exec (.hpdRise t) s = .next (((s.at t).setDpy { s.dpy with pa := 2 }).wr SYS_LINK SYS_LINK_edp_up 0)) ∧
  -- EDP_TRAINING_RESULT
  (∀ (t : Nat) (vrr : Bool) (s : State),
    s.dpy.pa = 1 ∨ s.dpy.pa = 2 →
      (let x := ((s.at t).setDpy { s.dpy with pa := 1 }).wr SYS_LINK SYS_LINK_edp_fail 1;
          exec (.edpTrainingResult t none vrr) s = .next (if x.isOpen 0x0F02 then x else x.raise2 0x0F02 0))) ∧
  -- EDP_TRAINING_RESULT
  (∀ (t w k : Nat) (vrr : Bool) (s z x y : State),
    z = s.at t →
    z.dpy.pa = 1 ∨ z.dpy.pa = 2 →
    (x = z.setDpy { z.dpy with pa := 3, vrr := vrr, black := if z.bit DPY_STAT DPY_STAT_a_on then 0 else 3 }) →
    y = (x.setReg DPY_GEO0 (packW [(w % 2 ^ 16, 16), (k % 2 ^ 16, 0)])).wr SYS_LINK SYS_LINK_edp_up 1 →
      exec (.edpTrainingResult t (some (w, k)) vrr) s = .next ((if z.dpy.umap.isSome then y.umapCheck else y).takeCfgA.clear2 0x0F02)) ∧
  -- CRACK_MEASURE
  (∀ (t res thr up dn : Nat) (s z : State),
    z = s.at t →
    z.passed 14 = true →
    z.dpy.crackAt + ms 100 ≤ z.cyc →
    (thr = if z.dpy.pa = 3 then z.dpy.thrA else z.rd DPY_A_CRACK DPY_A_CRACK_thr) →
    (up = if thr < res then z.dpy.above + 1 else 0) →
    (dn = if thr < res then 0 else z.dpy.below + 1) →
      (let x := (z.setDpy { z.dpy with crackAt := z.cyc, above := up, below := dn }).wr DPY_A_CRACK DPY_A_CRACK_res (min 0xFFFF res);
          exec (.crackMeasure t res) s = .next (if up = 3 ∧ z.bit DPY_STAT DPY_STAT_crack = false then
              let y := ((x.wr DPY_STAT DPY_STAT_crack 1).wr DPY_STAT DPY_STAT_crack_seen 1).raise2 0x0F01 0
              if DPY_A_CFG_crack_off.get y.cfgA = 1 then y.setDpy { y.dpy with dead := true } else y
            else if dn = 3 ∧ z.bit DPY_STAT DPY_STAT_crack = true then (x.wr DPY_STAT DPY_STAT_crack 0).clear2 0x0F01
            else x))) ∧
  -- PORT_A_POWER_OFF
  (∀ (t : Nat) (s : State),
    s.dpy.pa ≠ 0 →
    s.pow.stop.isSome = true ∨ s.pow.holdUp.isSome = true ∨ s.dpy.dead = true ∨ s.bit DPY_A_CFG DPY_A_CFG_en = false →
      exec (.portAPowerOff t) s = .next (s.at t).portAOff) ∧
  -- PORT_B_FRAME_START
  (∀ (t : Nat) (fresh : Bool) (s z x : State),
    z = s.at t →
    (∀ c, z.dpy.frameB = some c → c + z.fper ≤ z.cyc) →
    z.dpy.rectB.any DRect.spent = false →
    fresh = z.dpy.rectB.any (DRect.ripe z.cyc) →
    fresh = true ∨ z.dpy.rectB.any DRect.drives = true →
    z.rd DPY_B_STAT DPY_B_STAT_rails ≠ 0 →
    z.rd DPY_B_STAT DPY_B_STAT_rails ≠ 3 →
    (x = if fresh && !z.dpy.railsEnd then (z.wr DPY_B_STAT DPY_B_STAT_rails 2).beginWaves.clear2 0x0F10 else z.wr DPY_B_STAT DPY_B_STAT_rails 2) →
      (let y := x.setRects 1 (x.dpy.rectB.map DRect.step);
          exec (.portBFrameStart t) s = .next ((y.setDpy { y.dpy with frameB := some z.cyc, cfgB := z.reg DPY_B_CFG, idleB := none }).emit
            (.panelFrame (x.dpy.rectB.flatMap x.codes))))) ∧
  -- WAVEFORM_COMPLETE
  (∀ (t c : Nat) (s : State),
    s.dpy.frameB = some c →
    c + s.fper ≤ max s.cyc t →
    s.dpy.rectB.any DRect.spent = true →
      (let x := (((s.dpy.rectB.filter DRect.spent).foldl State.waveEnd (s.at t)).clearsEnd).flyB;
          exec (.waveformComplete t) s = .next (if x.dpy.rectB.any DRect.drives then x
            else if x.dpy.railsEnd then x.railsFall else x.setDpy { x.dpy with frameB := none, idleB := some (max s.cyc t) }))) ∧
  -- RAIL_FAULT
  (∀ (t : Nat) (s z y : State),
    z = s.at t →
    z.rd DPY_B_STAT DPY_B_STAT_rails = 1 ∨ z.rd DPY_B_STAT DPY_B_STAT_rails = 2 →
    y = (z.dpy.rectB.filter DRect.drives).foldl State.rectStop ((z.wr DPY_STAT DPY_STAT_rail_seen 1).raise2 0x0F10 0) →
      exec (.railFault t) s = .next y.railsStop) ∧
  -- RAIL_HOLD_END
  (∀ (t : Nat) (s : State),
    (s.at t).railsNow = 3 →
    s.dpy.rectB.any DRect.drives = false →
      exec (.railHoldEnd t) s = .next (((s.at t).wr DPY_B_STAT DPY_B_STAT_rails 0).setDpy { s.dpy with idleB := none }).railsAgain) ∧
  -- EPD_PANEL_POLL
  (∀ (t : Nat) (present : Bool) (temp : Option Int) (s : State),
    s.passed 12 = true →
    s.dpy.pollAt + sec 10 ≤ max s.cyc t →
      (let x := (s.at t).panelSeen present temp;
          exec (.epdPanelPoll t present temp) s = .next (x.setDpy { x.dpy with pollAt := max s.cyc t }))) ∧
  -- STORE_CRC_CHECK
  (∀ (t : Nat) (bad : List (Nat × Nat)) (st : Cells Nat) (s : State),
    s.passed 12 = true →
    s.dpy.ckAt + sec 10 ≤ max s.cyc t →
    (st = bad.foldl (fun m k => cellSet (storeReset 1) m k.1 (k.2 % 16)) s.dpy.storeB) →
    crc32 (s.storeBytes st) = s.dpy.crcB →
      exec (.storeCrcCheck t bad) s = .next ((s.at t).setDpy { s.dpy with ckAt := max s.cyc t, storeB := st })) ∧
  -- STORE_CRC_CHECK
  (∀ (t : Nat) (bad : List (Nat × Nat)) (st : Cells Nat) (s : State),
    s.passed 12 = true →
    s.dpy.ckAt + sec 10 ≤ max s.cyc t →
    s.dpy.ckClear = false →
    (st = bad.foldl (fun m k => cellSet (storeReset 1) m k.1 (k.2 % 16)) s.dpy.storeB) →
    crc32 (s.storeBytes st) ≠ s.dpy.crcB →
      (let x := ((((s.at t).setDpy { s.dpy with ckAt := max s.cyc t, storeB := st }).wr DPY_STAT DPY_STAT_cks_err 1).raise2 0x0F20 0).markAll;
          exec (.storeCrcCheck t bad) s = .next (x.setDpy { x.dpy with ckClear := true, clears := x.dpy.clears ++ [x.panel 1] }).flyB)) ∧
  -- STORE_FLASH_COPY
  (∀ (t : Nat) (s : State),
    s.dpy.unsaved ≠ [] →
    s.pow.holdUp = none →
      ∃ u, exec (.storeFlashCopy t) s = .next u ∧ u.kept = { s.kept with epd := some (s.dpy.storeB, s.dpy.crcB) } ∧ u.dpy = { s.dpy with unsaved := [] } ∧ s.SameBut u []) ∧
  -- FINAL_IMAGE_CUTOFF
  (∀ (t : Nat) (x : StopRun) (s : State),
    s.pow.stop = some x →
    x.ts + ms 2900 ≤ max s.cyc t →
    ((s.dpy.rectB.all fun r => !r.final) = true) →
      (let y := s.dpy.held.foldl (fun y r => y.rectEnd r stAborted 0) (s.at t);
          exec (.finalImageCutoff t) s = .next (y.setDpy { y.dpy with held := [] })))

/-- What flushes, records of persisting faults and the recorder's ring operations do (R427, R430, R435, R436, R437, R440,
R441, R443). -/
def Obligations.RecorderCommands : Prop :=
  -- FAULT_PERSISTING
  (∀ (t code detail i : Nat) (s : State),
    s.passed 10 = true →
    ((s.flt.wins.findIdx? fun w : FltWin => w.code == code && w.detail == detail && w.cls == 2 && !w.told && decide (w.since + (s.at t).plim ≤ max s.cyc t)) = some i) →
      exec (.faultPersisting t code detail) s = .next (({ s.at t with flt := { s.flt with wins := modAt (fun w => { w with told := true }) i s.flt.wins } }).fltPut code 2 detail 2 false)) ∧
  -- CROAK_TOGGLE
  (∀ (t : Nat) (s : State),
    s.bit FLT_STAT FLT_STAT_alive = true →
    s.flt.croakAt ≤ max s.cyc t →
      ∃ u, exec (.croakToggle t) s = .next u ∧ u.rd FLT_STAT FLT_STAT_level = 1 - s.rd FLT_STAT FLT_STAT_level ∧
          u.flt.croakAt = s.flt.croakAt + 100000 ∧ s.SameBut u [FLT_STAT]) ∧
  -- FAULT_FILL
  (∀ (t : Nat) (r : Fin 64) (s : State) (d : RDesc),
    s.opFor r 0x10 0 1 = some d →
    s.bufBad r d = false →
    32 ≤ d.len →
      exec (.faultFill t r) s = .next ((((s.at t).startOp r d.slot).pumpAll 256).settleRing r)) ∧
  -- RECORDER_FLUSH_START
  (∀ (t : Nat) (s x : State),
    s.recr.flushDue = true →
    s.recr.flush = none →
    s.passed 10 = true →
    ((s.pow.stop = none ∧ x = s.at t) ∨ (∃ y, s.pow.stop = some y ∧ x = (s.at t).stopTold y)) →
      ∃ u, exec (.recorderFlushStart t) s = .next u ∧ u.recr.flush = some x.recr.buf.length ∧ u.recr.flushDue = false ∧
          u.recr.flushRun = x.recr.flushOps ∧ u.recr.flushOps = [] ∧ u.recr.buf = x.recr.buf ∧ u.recr.store = x.recr.store ∧
          (x.bitThen REC_CFG REC_CFG_mirror = true → x.recr.mirrorGap = 0 → u.recr.mirror = x.recr.buf) ∧ x.SameBut u []) ∧
  -- FLUSH_PERIOD_END
  (∀ (t : Nat) (s : State),
    (s.at t).rdThen REC_CFG REC_CFG_per ≠ 0 →
    s.passed 10 = true →
    s.recr.perFrom + sec ((s.at t).rdThen REC_CFG REC_CFG_per) ≤ max s.cyc t →
      exec (.flushPeriodEnd t) s = .next ((s.at t).setRecr { s.recr with flushDue := true, perFrom := max s.cyc t })) ∧
  -- FLUSH_END
  (∀ (t : Nat) (s : State),
      exec (.flushEnd t) s = .next (s.at t).flushFinish) ∧
  -- REC_READ
  (∀ (t next : Nat) (r : Fin 64) (ecc : List (Nat × EccHit)) (s : State) (d : RDesc) (l fit : List RecEntry) (hits : List (Nat × EccHit)) (ws : List Word),
    s.opFor r 0x11 0 1 = some d →
    s.bufBad r d = false →
    d.len ≠ 0 →
    (l = s.recr.store.filter fun e => decide ((d.par 8).toNat ≤ e.seq)) →
    fit = takeFit d.len l →
    fit ≠ [] →
    ((∃ e, l[fit.length]? = some e ∧ next = e.seq) ∨ (l.length ≤ fit.length ∧ ∃ e, fit.getLast? = some e ∧ next = e.seq + 1)) →
    (hits = ecc.filter fun x => x.2.region.val == 6) →
    (ws = fit.flatMap fun e => e.out (hits.any fun x => x.1 == e.seq && !x.2.correctable)) →
      exec (.recRead t r ecc) s = .next (((((s.at t).bufOut r d 0 ws).eccAll (hits.map Prod.snd)).endOp r d.slot stDone (4 * ws.length) next).settleRing r)) ∧
  -- FLUSH
  (∀ (t : Nat) (r : Fin 64) (s : State) (d : RDesc),
    s.opFor r 0x11 0 2 = some d →
      exec (.flush t r) s = .next ((((s.at t).startOp r d.slot).setRecr { s.recr with flushDue := true, flushOps := s.recr.flushOps ++ [(r.val, d.slot)] }).settleRing r)) ∧
  -- MARK
  (∀ (t : Nat) (r : Fin 64) (buf : List Word) (s : State) (d : RDesc),
    s.opFor r 0x11 0 3 = some d →
    s.canTake r d (4 * buf.length) = true →
    d.len = 16 →
      exec (.mark t r buf) s = .next ((((s.at t).addEntry (s.at t).mtime 7 (s.bufWords r d buf)).1.endOp r d.slot stDone 16 0).settleRing r)) ∧
  -- SNAP
  (∀ (t : Nat) (r : Fin 64) (s z : State) (d : RDesc) (a : State × Bool),
    z = s.at t →
    z.opFor r 0x11 0 4 = some d →
    z.bitThen (REC_TRG_A (bits (d.par 8) 5 0)) REC_TRG_A_en = true →
    a = z.snap (bits (d.par 8) 5 0) 0xFFFFFFFF →
      exec (.snap t r) s = .next ((if a.2 then a.1.endOp r d.slot stDone 0 0
            else (a.1.snapNotes 1).freeNext.endOp r d.slot (freeStatus z) 0 0).settleRing r)) ∧
  -- CHALLENGE
  (∀ (t : Nat) (r : Fin 64) (s : State) (d : RDesc),
    s.opFor r 0x11 0 5 = some d →
    s.bufBad r d = false →
    64 ≤ d.len →
      ∃ ws, ws.length = 16 ∧ wAt ws 8 = s.reg SYS_ID ∧ wAt ws 13 = lo32 (((s.at t).mtime + 60000000000) % 2 ^ 64) ∧
          exec (.challenge t r) s = .next ((((((s.at t).freeAdd 9).setRecr { s.recr with
            chal := some ((s.at t).mtime, max s.cyc t + sec 60) }).bufOut r d 0 ws).endOp r d.slot stDone 64 0).settleRing r)) ∧
  -- CHALLENGE_EXPIRY
  (∀ (t m c : Nat) (s : State),
    s.recr.chal = some (m, c) →
    c ≤ max s.cyc t →
      exec (.challengeExpiry t) s = .next ((s.at t).setRecr { s.recr with chal := none })) ∧
  -- CLEAR
  (∀ (t m c : Nat) (r : Fin 64) (s z x : State) (d : RDesc),
    z = s.at t →
    z.opFor r 0x11 0 6 = some d →
    z.canTake r d d.len = true →
    d.len = 96 →
    z.recr.chal = some (m, c) →
    z.cyc < c →
    x = z.setRecr { z.recr with chal := none } →
      exec (.clear t r false) s = .next (((x.note 0x1103 0).endOp r d.slot stBadParam 0 0).settleRing r) ∧
        exec (.clear t r true) s = .next ((if z.recr.flush.isSome then (x.startOp r d.slot).setRecr { x.recr with clearOps := x.recr.clearOps ++ [((r.val, d.slot), m)] }
            else (x.recClear m).endOp r d.slot stDone 96 0).settleRing r))

/-- What an update of the thermal model and of the derating factors does (R221, R232, R235, R446, R450, R452). -/
def Obligations.ThermalUpdates : Prop :=
  -- MODEL_UPDATE
  (∀ (t : Nat) (heat : List (Nat × Nat)) (s z : State),
    z = s.at t →
    z.passed 10 = true →
    z.thm.modelAt + us 50 ≤ z.cyc →
      exec (.modelUpdate t heat) s = .next ((List.range 16).foldl State.cluster ((List.range 64).foldl State.switchTherm
            ((List.range 48).foldl State.valveTherm ((List.range 48).foldl State.clampTaken
              (z.setThm { z.thm with temps := z.network heat, est := z.estimates (z.network heat), modelAt := z.cyc, tcfg := z.reg LSW_TCFG })))))) ∧
  -- DERATING_UPDATE
  (∀ (t : Nat) (s : State),
    s.passed 10 = true →
    s.thm.derAt + ms 1 ≤ max s.cyc t →
      exec (.deratingUpdate t) s = .next (((List.range 48).map nodeValve ++ (List.range 64).map nodeSwitch).foldl State.derateSet ((s.at t).setThm { s.thm with derAt := max s.cyc t })))

/-- What the operations of the update ring do (R461, R463, R464, R466). -/
def Obligations.UpdateRingCommands : Prop :=
  -- UPD_BEGIN
  (∀ (t : Nat) (r : Fin 64) (s : State) (d : RDesc),
    s.opFor r 0x13 0 1 = some d →
    s.upd.sess = none →
    1 ≤ bits (d.par 8) 7 0 →
    bits (d.par 8) 7 0 ≤ 0x0B →
    slotType (bits (d.par 8) 7 0) = false ∨ s.slotMoved = false →
      exec (.updBegin t r) s = .next ((((s.at t).sessOpen (bits (d.par 8) 7 0) (bits (d.par 8) 10 8) (1 - s.actSlot)).endOp r d.slot stDone 0 0).settleRing r)) ∧
  -- UPD_WRITE
  (∀ (t : Nat) (r : Fin 64) (buf : List Byte) (s z : State) (d : RDesc) (a : State × Nat),
    z = s.at t →
    z.opFor r 0x13 0 2 = some d →
    z.canTake r d buf.length = true →
    d.len ≠ 0 →
    a = z.sessWrite (d.par 9).toNat (z.bufIn r d buf) →
    a.2 ≠ stDone ∨ z.sessFed = false →
      exec (.updWrite t r buf) s = .next ((a.1.endOp r d.slot a.2 (if a.2 = stDone then d.len else 0) 0).settleRing r)) ∧
  -- FINISH
  (∀ (t : Nat) (r : Fin 64) (sig : Bool) (s : State) (d : RDesc) (y : Sess),
    s.opFor r 0x13 0 3 = some d →
    s.upd.sess = some y →
      exec (.finish t r sig) s = .next (((((s.at t).sessFinish y sig).1).endOp r d.slot stDone 0 ((s.at t).sessFinish y sig).2).settleRing r)) ∧
  -- ABORT
  (∀ (t : Nat) (r : Fin 64) (s : State) (d : RDesc),
    s.opFor r 0x13 0 4 = some d →
      exec (.abort t r) s = .next (((s.at t).sessClose.endOp r d.slot stDone 0 0).settleRing r)) ∧
  -- COPY
  (∀ (t : Nat) (r : Fin 64) (s : State) (d : RDesc),
    s.opFor r 0x13 0 5 = some d →
    s.upd.sess = none →
    s.slotMoved = false →
    slotType (bits (d.par 8) 7 0) = true →
      exec (.copy t r) s = .next ((((s.at t).setImg (1 - s.actSlot) (bits (d.par 8) 7 0) (bits (d.par 8) 10 8) (s.img s.actSlot (bits (d.par 8) 7 0) (bits (d.par 8) 10 8))).endOp r d.slot stDone 0 0).settleRing r)) ∧
  -- ACTIVATE
  (∀ (t : Nat) (r : Fin 64) (s : State) (d : RDesc),
    s.opFor r 0x13 0 6 = some d →
    s.upd.sess = none →
    (bits (d.par 8) 0 0 = s.actSlot ∧ s.slotFloors (bits (d.par 8) 0 0) = true) ∨ (bits (d.par 8) 0 0 ≠ s.actSlot ∧ s.slotReady (bits (d.par 8) 0 0) = true) →
      exec (.activate t r) s = .next ((((s.at t).setBoot { s.kept.boot with
            act := s.actSlot, next := bits (d.par 8) 0 0, trial := decide (bits (d.par 8) 0 0 ≠ s.actSlot), trying := false }).endOp r d.slot stDone 0 0).settleRing r)) ∧
  -- REPORT
  (∀ (t : Nat) (r : Fin 64) (s : State) (d : RDesc),
    s.opFor r 0x13 0 7 = some d →
    s.bufBad r d = false →
    4 * s.reportWords.length ≤ d.len →
      exec (.report t r) s = .next ((((s.at t).bufOut r d 0 s.reportWords).endOp r d.slot stDone (4 * s.reportWords.length) 0).settleRing r))

/-- What the commands of axolotl, the recovery mode, do on the path that holds the session (R468, R469). -/
def Obligations.RecoveryCommands : Prop :=
  -- AXO_HELLO
  (∀ (t : Nat) (via : AxoVia) (s : State),
    s.axoRuns via.path = true →
    ((s.upd.path.any fun p => p != via.path.val) = false) →
    via.path = 2 →
      exec (.axoHello t via) s = .next (((s.at t).setUpd { s.upd with path := some 2, canSeq := (via.seq + 1) % 256, canFd := via.fd }).axoReply
            via stDone 0 [s.reg SYS_ID, word (s.rd UPD_AXO_STAT UPD_AXO_STAT_reason), s.reg UPD_SLOT])) ∧
  -- AXO_HELLO
  (∀ (t : Nat) (via : AxoVia) (s : State),
    s.axoRuns via.path = true →
    ((s.upd.path.any fun p => p != via.path.val) = false) →
    via.path ≠ 2 →
    (via.path = 1 → s.upd.lastSeq ≠ some via.seq) →
      exec (.axoHello t via) s = .next (((s.at t).setUpd { s.upd with path := some via.path.val }).axoReply
            via stDone 0 [s.reg SYS_ID, word (s.rd UPD_AXO_STAT UPD_AXO_STAT_reason), s.reg UPD_SLOT])) ∧
  -- AXO_BEGIN
  (∀ (t : Nat) (via : AxoVia) (arg : Word) (a : Word) (s : State),
    s.axoRuns via.path = true →
    s.upd.path = some via.path.val →
    (via.path = 1 → s.upd.lastSeq ≠ some via.seq) →
    (via.path = 2 → via.seq % 256 = s.upd.canSeq) →
    (a = if via.path = 0 then s.reg (UPD_AXO_ARG 0) else arg) →
    1 ≤ bits a 7 0 →
    bits a 7 0 ≤ 9 →
    s.upd.sess = none →
      (let x := if via.path = 2 then (s.at t).setUpd { s.upd with canSeq := (via.seq + 1) % 256 } else s.at t;
          exec (.axoBegin t via arg) s = .next ((x.sessOpen (bits a 7 0) (bits a 11 9) (bits a 8 8)).axoReply via stDone 0 []))) ∧
  -- AXO_DATA
  (∀ (t off : Nat) (via : AxoVia) (bs : List Byte) (s : State),
    s.axoRuns via.path = true →
    s.upd.path = some via.path.val →
    (via.path = 1 → s.upd.lastSeq ≠ some via.seq) →
    (via.path = 2 → via.seq % 256 = s.upd.canSeq) →
    via.path = 0 →
    1 ≤ (s.reg (UPD_AXO_ARG 1)).toNat →
    (s.reg (UPD_AXO_ARG 1)).toNat < 2 ^ 24 →
      (let x := if via.path = 2 then (s.at t).setUpd { s.upd with canSeq := (via.seq + 1) % 256 } else s.at t;
          let a := x.sessWrite (s.reg (UPD_AXO_ARG 0)).toNat (s.memBytes 0 (s.reg (UPD_AXO_ARG 1)).toNat);
          exec (.axoData t via off bs) s = .next (a.1.axoReply via a.2 0 []))) ∧
  -- AXO_DATA
  (∀ (t off : Nat) (via : AxoVia) (bs : List Byte) (s : State),
    s.axoRuns via.path = true →
    s.upd.path = some via.path.val →
    (via.path = 1 → s.upd.lastSeq ≠ some via.seq) →
    (via.path = 2 → via.seq % 256 = s.upd.canSeq) →
    via.path ≠ 0 →
    (via.path = 1 → bs.length ≤ 1024) →
      (let x := if via.path = 2 then (s.at t).setUpd { s.upd with canSeq := (via.seq + 1) % 256 } else s.at t;
          let a := x.sessWrite (if via.path = 2 then (s.reg UPD_SESS_CNT).toNat else off) bs;
          exec (.axoData t via off bs) s = .next (a.1.axoDataReply via a.2))) ∧
  -- AXO_FINISH
  (∀ (t : Nat) (via : AxoVia) (sig : Bool) (y : Sess) (s : State),
    s.axoRuns via.path = true →
    s.upd.path = some via.path.val →
    (via.path = 1 → s.upd.lastSeq ≠ some via.seq) →
    (via.path = 2 → via.seq % 256 = s.upd.canSeq) →
    s.upd.sess = some y →
      (let x := if via.path = 2 then (s.at t).setUpd { s.upd with canSeq := (via.seq + 1) % 256 } else s.at t;
          let a := x.sessFinish y sig;
          exec (.axoFinish t via sig) s = .next (a.1.axoReply via stDone a.2 [word a.2]))) ∧
  -- AXO_ACTIVATE
  (∀ (t k : Nat) (via : AxoVia) (arg : Word) (s : State),
    s.axoRuns via.path = true →
    s.upd.path = some via.path.val →
    (via.path = 1 → s.upd.lastSeq ≠ some via.seq) →
    (via.path = 2 → via.seq % 256 = s.upd.canSeq) →
    (k = bits (if via.path = 0 then s.reg (UPD_AXO_ARG 0) else arg) 0 0) →
    (s.slotReady k) = true →
      (let x := if via.path = 2 then (s.at t).setUpd { s.upd with canSeq := (via.seq + 1) % 256 } else s.at t;
          exec (.axoActivate t via arg) s = .next ((x.setBoot { s.kept.boot with next := k, trial := decide (k ≠ s.kept.boot.act), trying := false }).axoReply via stDone 0 []))) ∧
  -- AXO_BOOT
  (∀ (t : Nat) (via : AxoVia) (s : State),
    s.axoRuns via.path = true →
    s.upd.path = some via.path.val →
    (via.path = 1 → s.upd.lastSeq ≠ some via.seq) →
    (via.path = 2 → via.seq % 256 = s.upd.canSeq) →
      (let x := if via.path = 2 then (s.at t).setUpd { s.upd with canSeq := (via.seq + 1) % 256 } else s.at t;
          exec (.axoBoot t via) s = .next ((x.axoReply via stDone 0 []).railsOff (.after 5)))) ∧
  -- AXO_CAN_SILENCE_REPLY
  (∀ (t c : Nat) (s : State),
    s.upd.canAt = some c →
    c + ms 20 ≤ max s.cyc t →
      exec (.axoCanSilenceReply t) s = .next ((s.at t).axoReply ⟨2, (s.upd.canSeq + 255) % 256, s.upd.canFd, 0#48⟩ stDone 0 []))

/-- What a write and a read frame on the legacy host port of the K12 engine do (R475, R477, R478, R483, R485). -/
def Obligations.LegacyPortCommands : Prop :=
  -- K12_PORT_WRITE
  (∀ (t : Nat) (a v : BitVec 16) (s : State),
    s.k12Answers = true →
    s.fenced 6 = false →
    16 ≤ a.toNat →
    a.toNat < 32 →
      (let y := ((s.at t).bump K12_PORT K12_PORT_frm_cnt).k12Keep;
          let x := y.setK12 { y.k12 with lastFrame := max s.cyc t };
          exec (.k12PortWrite t 36 9 a v) s = .next (if 3000 < v.toNat then (x.k12Set a.toNat v.toNat).k12Flag 0x1000 else x.k12Set a.toNat v.toNat))) ∧
  -- K12_PORT_WRITE
  (∀ (t : Nat) (a v : BitVec 16) (s : State),
    s.k12Answers = true →
    s.fenced 6 = false →
    k12Ro a.toNat = false →
    s.k12Bad a.toNat v.toNat = false →
    (a.toNat = 6 ∨ 0x38 ≤ a.toNat) →
    ([0x70, 0x71, 0xB5, 0xC4].contains a.toNat) = false →
      (let y := ((s.at t).bump K12_PORT K12_PORT_frm_cnt).k12Keep;
          let x := y.setK12 { y.k12 with lastFrame := max s.cyc t };
          exec (.k12PortWrite t 36 9 a v) s = .next ((x.k12Set a.toNat v.toNat).k12Spread a.toNat v.toNat))) ∧
  -- K12_PORT_READ
  (∀ (t : Nat) (a v : BitVec 16) (s : State),
    s.k12Answers = true →
    a.toNat ≠ 0xA2 →
    a.toNat ≠ 0xC0 →
      exec (.k12PortRead t 36 6 a v) s = .next (((s.at t).bump K12_PORT K12_PORT_frm_cnt).emit (.k12Data ((s.at t).k12Read a.toNat)))) ∧
  -- K12_PORT_WRITE, K12_PORT_READ
  (∀ (t clocks : Nat) (op : Fin 16) (a v : BitVec 16) (s : State),
    s.k12Answers = true →
    clocks ≠ 36 ∨ (op ≠ 9 ∧ op ≠ 6) →
      exec (.k12PortWrite t clocks op a v) s = .next ((s.at t).bump K12_PORT K12_PORT_bad_cnt) ∧
        exec (.k12PortRead t clocks op a v) s = .next ((s.at t).bump K12_PORT K12_PORT_bad_cnt)) ∧
  -- K12_STATUS_CLEAR
  (∀ (t : Nat) (v : BitVec 16) (s : State),
    s.k12Answers = true →
    s.fenced 6 = false →
      (let y := ((s.at t).bump K12_PORT K12_PORT_frm_cnt).k12Keep;
          let x := y.setK12 { y.k12 with lastFrame := max s.cyc t };
          exec (.k12StatusClear t v) s = .next (x.k12Set 0x004 (s.k12Get 0x004 &&& (65535 - (v.toNat &&& (65535 - (x.hotBits (K12_MAP 4)).toNat % 65536))))))) ∧
  -- K12_HTO_CLEAR
  (∀ (t : Nat) (v : BitVec 16) (s : State),
    s.k12Answers = true →
    s.fenced 6 = false →
    v.toNat / 2 % 2 ^ 13 = 0 →
      (let y := ((s.at t).bump K12_PORT K12_PORT_frm_cnt).k12Keep;
          let x := y.setK12 { y.k12 with lastFrame := max s.cyc t };
          exec (.k12HtoClear t v) s = .next (x.k12Ctrl v.toNat))) ∧
  -- EV_WRITE_COMMIT_ARM
  (∀ (t : Nat) (s : State),
    s.k12Answers = true →
    s.fenced 6 = false →
    s.k12Get 0x0B0 < 3000 →
    ((let w := s.k12Get 0x0B1; w / 2 ^ 12 % 4 ≠ 3 ∧ (w / 2 ^ 12 % 4 = 0 → w % 32 < 16) ∧ (w / 2 ^ 12 % 4 = 1 → w % 32 < 24))) →
    evBad (s.k12Half (s.k12Get 0x0B0)) = false →
      (let y := ((s.at t).bump K12_PORT K12_PORT_frm_cnt).k12Keep;
          let x := y.setK12 { y.k12 with lastFrame := max s.cyc t };
          exec (.evWriteCommitArm t) s = .next ((x.evWrite (s.k12Get 0x0B0) (s.k12Half (s.k12Get 0x0B0))).evCommit (s.k12Get 0x0B0) 1))) ∧
  -- EV_WRITE_COMMIT_NOW
  (∀ (t : Nat) (s : State),
    s.k12Answers = true →
    s.fenced 6 = false →
    s.k12Get 0x0B0 < 3000 →
    ((let w := s.k12Get 0x0B1; w / 2 ^ 12 % 4 ≠ 3 ∧ (w / 2 ^ 12 % 4 = 0 → w % 32 < 16) ∧ (w / 2 ^ 12 % 4 = 1 → w % 32 < 24))) →
    evBad (s.k12Half (s.k12Get 0x0B0)) = false →
      (let y := ((s.at t).bump K12_PORT K12_PORT_frm_cnt).k12Keep;
          let x := y.setK12 { y.k12 with lastFrame := max s.cyc t };
          exec (.evWriteCommitNow t) s = .next ((x.evWrite (s.k12Get 0x0B0) (s.k12Half (s.k12Get 0x0B0))).evCommit (s.k12Get 0x0B0) 2))) ∧
  -- EV_READ
  (∀ (t : Nat) (s : State),
    s.k12Answers = true →
    s.fenced 6 = false →
    s.k12Get 0x0B0 < 3000 →
      (let y := ((s.at t).bump K12_PORT K12_PORT_frm_cnt).k12Keep;
          let x := y.setK12 { y.k12 with lastFrame := max s.cyc t };
          exec (.evRead t) s = .next ((k12Back (x.ev (s.k12Get 0x0B0)).act).zipIdx.foldl (fun s p => s.k12Set (0x0B1 + p.2) p.1) x))) ∧
  -- EV_DISARM
  (∀ (t : Nat) (s : State),
    s.k12Answers = true →
    s.fenced 6 = false →
    s.k12Get 0x0B0 < 3000 →
      (let y := ((s.at t).bump K12_PORT K12_PORT_frm_cnt).k12Keep;
          let x := y.setK12 { y.k12 with lastFrame := max s.cyc t };
          exec (.evDisarm t) s = .next (x.evDisarm (s.k12Get 0x0B0))))

/-- What happens in a K12 cycle: the latch, the refresh, cyclic traffic, re-alignment, the host's timeout and address
claims (R479, R481, R482, R484, R485). -/
def Obligations.EngineCycleCommands : Prop :=
  -- K12_LATCH
  (∀ (t : Nat) (s : State),
    s.k12Runs = true →
    (s.at t).k12Latches = true →
      (let m := if s.k12.wroteAt = max s.cyc t then s.k12.prev else s.k12.map;
          let x := (((s.at t).setK12 { s.k12 with latchAt := some (max s.cyc t) }).k12Phase (s.at t).k12LatchErr false).k12Opwm;
          exec (.k12Latch t) s = .next (if s.k12.hto then x else
            (List.range 40).foldl (fun y c => if y.k12Want m c = y.k12Taken c then y else y.k12Put c (y.k12Want m c)) x))) ∧
  -- K12_INPUT_REFRESH
  (∀ (t : Nat) (s : State),
    s.k12Runs = true →
    (s.at t).k12On 200000 = true →
    s.k12.refreshAt ≠ some (max s.cyc t) →
      (let x := (List.range 4).foldl (fun y n => y.finLatch n (y.loopsOn 2 n)) (s.at t);
          exec (.k12InputRefresh t) s = .next (x.k12Inputs.foldl (fun y p => y.k12Set p.1 p.2) (x.setK12 { x.k12 with refreshAt := some (max s.cyc t) })))) ∧
  -- K12_CYCLIC_CAN
  (∀ (t : Nat) (frames : List (Fin 2 × Nat × List Byte)) (s : State),
    s.k12Runs = true →
    (s.at t).k12On 750000 = true →
    s.k12Get 0x0C4 / 256 ≠ 0xFE →
      exec (.k12CyclicCan t frames) s = .next (frames.foldl (fun y f => y.k12Send f.1 f.2.1 f.2.2) (s.at t))) ∧
  -- K12_PAIR_REALIGN
  (∀ (t : Nat) (p : Fin 8) (s : State),
    s.k12Runs = true →
    (s.at t).k12On 0 = true →
    s.k12.stale.contains p.val = true →
    s.valveActive (2 * p) = 0 →
    s.valveActive (2 * p + 1) = 0 →
    (s.valve (2 * p)).offEnd ≤ max s.cyc t →
    (s.valve (2 * p + 1)).offEnd ≤ max s.cyc t →
      exec (.k12PairRealign t p) s = .next (((s.at t).setValve (2 * p) { s.valve (2 * p) with since := max s.cyc t }).setK12 { s.k12 with stale := s.k12.stale.filter (· != p.val) })) ∧
  -- K12_HOST_TIMEOUT
  (∀ (t : Nat) (s : State),
    s.k12Runs = true →
    s.k12.hto = false →
    s.k12Get 0x002 / 2 ^ 14 % 2 = 1 →
    s.k12.lastFrame + ms (s.k12Get 0x006) ≤ max s.cyc t →
      (let x := ((s.at t).k12Flag 0x4000).k12Off;
          exec (.k12HostTimeout t) s = .next (x.setK12 { x.k12 with hto := true }))) ∧
  -- K12_ADDRESS_CLAIM
  (∀ (t : Nat) (won : Option (Fin 254)) (s : State),
    s.k12Runs = true →
      (let a : Nat := (won.map Fin.val).getD 0xFE;
          let x := (s.at t).k12Set 0x0C4 (a * 256 + s.k12Get 0x0C4 % 256);
          exec (.k12AddressClaim t won) s = .next ((x.k12Send 0 (0x18EEFF00 + a) x.k12Name).k12Send 1 (0x18EEFF00 + a) (x.k12Send 0 (0x18EEFF00 + a) x.k12Name).k12Name))) ∧
  -- K12_BUSOFF_RECOVER
  (∀ (t : Nat) (n : Fin 2) (s : State),
    s.k12Runs = true →
    s.canState n = csBusOff →
    (cellGet (fun _ => 0) s.k12.busOff n + ms 100 ≤ max s.cyc t) →
      exec (.k12BusoffRecover t n) s = .next ((s.at t).canCtl n 1#32))

/-- What unlocking, locking and writing the test perturbation registers does (R490, R491, R492, R495). -/
def Obligations.PerturbationCommands : Prop :=
  -- TST_UNLOCK
  (∀ (t : Nat) (s : State),
    s.readyReg TST_UNLOCK = true →
    s.tstOpen = false →
      exec (.tstUnlock t 0xD5A1#32) s = .next { s.at t with tst := { s.tst with key := some (max s.cyc t) } }) ∧
  -- TST_UNLOCK
  (∀ (t c : Nat) (s : State),
    s.readyReg TST_UNLOCK = true →
    s.tstOpen = false →
    s.tst.key = some c →
    max s.cyc t ≤ c + ms 1 →
      ∃ u, exec (.tstUnlock t 0x2A5E#32) s = .next u ∧ u.tstOpen = true ∧ u.bit SYS_STATUS SYS_STATUS_tst_open = true ∧ u.tst.key = none ∧
          s.SameBut u [TST_UNLOCK, SYS_STATUS]) ∧
  -- TST_UNLOCK, TST_LOCK
  (∀ (t : Nat) (s : State),
    s.readyReg TST_UNLOCK = true →
    s.tstOpen = true →
      exec (.tstLock t) s = .next (s.at t).tstLock ∧ exec (.tstUnlock t 0#32) s = .next (s.at t).tstLock) ∧
  -- TST_JIT_WRITE
  (∀ (t : Nat) (v : Word) (s : State),
    s.readyReg TST_JIT = true →
    reservedOf TST_JIT v = 0#32 →
    s.tstOpen = true →
    ((s.at t).store TST_JIT v).tstUnsafe = false →
      (let x := (s.at t).store TST_JIT v;
          exec (.tstJitWrite t v) s = .next ({ x with tst := { x.tst with gen := if s.reg TST_SEED = 0#32 then 1#32 else s.reg TST_SEED } }).tstSync)) ∧
  -- PERTURB_END
  (∀ (t c : Nat) (s : State),
    s.tst.endAt = some c →
    c ≤ max s.cyc t →
    s.tstLive = false →
      exec (.perturbEnd t) s = .next (({ s.at t with tst := { s.tst with endAt := none } }).perturbSet false))

/-- A step takes the command at the front of the queue and carries it out on the state with the queue's rest
(95_what_each_step_holds.md). -/
def Obligations.StepCarriesOutTheFrontCommand : Prop :=
  (∀ (c : Instr) (s : State),
      step (s.setPending (c :: s.pending)) = exec c s) ∧
  (∀ (c : Instr) (rest : List Instr) (s : State),
    s.pending = c :: rest →
      step s = exec c (s.setPending rest))

/-- With no command waiting a step is one cycle of the timebase clock, and MTIME advances by 5 ns (the model's choice, log
entry 2) (R22). -/
def Obligations.IdleCycleAdvancesTime : Prop :=
  (∀ (s : State),
    s.pending = [] →
      step s = .next { s with cyc := s.cyc + 1 } ∧ ({ s with cyc := s.cyc + 1 } : State).mtime = (s.mtime + 5) % 2 ^ 64) ∧
  (∀ (t : Nat) (s : State),
      (s.at t).mtime = (s.mtime + 5 * (max s.cyc t - s.cyc)) % 2 ^ 64)

/-- The registers whose reset value the register tables give other than 0, at reset (R19, R123, R174, R195, R218, R240,
R370, R397, R421, R444, R455, R493). -/
def Obligations.ResetRegisterValues : Prop :=
  (      State.reset.pending = [] ∧ State.reset.mem = [] ∧ State.reset.regs = [] ∧ State.reset.pow.on = false ∧ State.reset.cyc = 0) ∧
  (      State.reset.reg SYS_ID = 0x32000100#32 ∧ State.reset.reg SYS_GUAR = 0x80000088#32 ∧ State.reset.reg TRI_CFG = 0x32#32 ∧
        State.reset.reg VDR_CFG = 0xA03#32 ∧ State.reset.reg LSW_TCFG = 0x3C0F9614#32 ∧ State.reset.reg DPY_A_CFG = 0x3C3C02#32 ∧
        State.reset.reg DPY_B_CFG = 0x96C83E8#32 ∧ State.reset.reg FLT_CFG = 0x40003C#32 ∧ State.reset.reg REC_CFG = 0x8000003C#32 ∧
        State.reset.reg THM_CFG = 0x8CA50000#32 ∧ State.reset.reg THM_SHUT = 0xC0645A46#32) ∧
  (      (∀ k : Fin 8, State.reset.reg (NYM_SHAFT_CFG k) = 0x3E7C#32 ∧ State.reset.reg (CAN_NBT k) = 0x43F1010#32 ∧
            State.reset.reg (CAN_DBT k) = 0x81FC4020#32) ∧
        (∀ g : Fin 32, State.reset.reg (TRI_GRP g) = 0x1020000#32 ∧ State.reset.reg (DMA_CH_CFG g) = 0x40000000#32) ∧
        (∀ n : Fin 48, State.reset.reg (VDR_CFGn n) = 0x2710#32 ∧ State.reset.reg (VDR_DITH n) = 0x640000#32 ∧
            State.reset.reg (VDR_SAFE n) = 0x320000#32) ∧
        (∀ n : Fin 64, State.reset.reg (LSW_CFG n) = 0x1F4#32 ∧ State.reset.reg (LSW_PROT n) = 0x14530A04#32))

/-- At reset the register file and module memory are in their canonical form (R7, R26). -/
def Obligations.ResetIsCanonical : Prop :=
        State.reset.Canonical

/-- Every step keeps the register file and module memory in canonical form, from every state that has it and for every
command (R7, R26, 95_what_each_step_holds.md). -/
def Obligations.StepKeepsCanonicalForm : Prop :=
  ∀ (s u : State),
    s.Canonical →
    step s = .next u →
      u.Canonical

/-- A step takes exactly the front command from the queue, adds none, and time never runs back (R22,
95_what_each_step_holds.md). -/
def Obligations.CommandsComeInOrderAndTimeNeverRunsBack : Prop :=
  ∀ (s u : State),
    step s = .next u →
      u.pending = s.pending.tail ∧ s.cyc ≤ u.cyc

/-- A BAR2 access at an offset reaches the module address base x 2 MiB + offset, byte by byte, with the wrap at the top
(R27). -/
def Obligations.Bar2ReachesModuleMemory : Prop :=
  (∀ (t off : Nat) (bs : List Byte) (s : State),
    bar2Bad off bs.length = false →
    off < bar2Top →
    s.readyReg 0 = true →
    s.bit SYS_BAR2_BASE SYS_BAR2_BASE_win_en = true →
    (∀ i, i < bs.length → (s.rd SYS_BAR2_BASE SYS_BAR2_BASE_base * 0x200000 + off + i) % 2 ^ 36 < sharedTop ∨ sramTop ≤ (s.rd SYS_BAR2_BASE SYS_BAR2_BASE_base * 0x200000 + off + i) % 2 ^ 36) →
    (∀ i, i < bs.length → inAreas (s.at t).moduleAreas ((s.rd SYS_BAR2_BASE SYS_BAR2_BASE_base * 0x200000 + off + i) % 2 ^ 36) = false) →
    s.bar2Poison off bs.length = false →
      ∃ u, exec (.bar2Write t off bs []) s = .next u ∧
          (∀ i, i < bs.length → (s.rd SYS_BAR2_BASE SYS_BAR2_BASE_base * 0x200000 + off + i) % 2 ^ 36 < sharedTop →
            u.memRd ((s.rd SYS_BAR2_BASE SYS_BAR2_BASE_base * 0x200000 + off + i) % 2 ^ 36) = bs.getD i 0#8) ∧
          ∀ a, (∀ i, i < bs.length → (s.rd SYS_BAR2_BASE SYS_BAR2_BASE_base * 0x200000 + off + i) % 2 ^ 36 ≠ a) → u.memRd a = s.memRd a) ∧
  (∀ (t off len : Nat) (s : State),
    bar2Bad off len = false →
    off < bar2Top →
    s.readyReg 0 = true →
    s.bit SYS_BAR2_BASE SYS_BAR2_BASE_win_en = true →
    s.bar2Poison off len = false →
    (∀ i, i < len → s.mirrorHit ((s.rd SYS_BAR2_BASE SYS_BAR2_BASE_base * 0x200000 + off + i) % 2 ^ 36) 1 = false) →
      ∃ u l, exec (.bar2Read t off len []) s = .next u ∧ s.Sent u [.bar2Data l false] ∧ l.length = len ∧ (∀ a, u.memRd a = s.memRd a) ∧
          ∀ i, i < len → ((s.rd SYS_BAR2_BASE SYS_BAR2_BASE_base * 0x200000 + off + i) % 2 ^ 36 < sharedTop →
              l.getD i 0#8 = s.memRd ((s.rd SYS_BAR2_BASE SYS_BAR2_BASE_base * 0x200000 + off + i) % 2 ^ 36)) ∧
            (sramTop ≤ (s.rd SYS_BAR2_BASE SYS_BAR2_BASE_base * 0x200000 + off + i) % 2 ^ 36 → l.getD i 0#8 = 0#8))

/-- The poll interval of a ring by its register and its class, and the guarantee monitor's use of it (R93). -/
def Obligations.PollIntervalOfARing : Prop :=
  (∀ (r : Nat) (s : State),
      (1 ≤ s.rd (RNG_POLL r) RNG_POLL_interval → s.rd (RNG_POLL r) RNG_POLL_interval ≤ 1000 → s.pollUs r = s.rd (RNG_POLL r) RNG_POLL_interval) ∧
        (1000 < s.rd (RNG_POLL r) RNG_POLL_interval → s.pollUs r = 1000) ∧
        (s.rd (RNG_POLL r) RNG_POLL_interval = 0 → s.rd (RNG_CFG r) RNG_CFG_class = 0 → s.pollUs r = 1) ∧
        (s.rd (RNG_POLL r) RNG_POLL_interval = 0 → s.rd (RNG_CFG r) RNG_CFG_class = 1 → s.pollUs r = 50) ∧
        (s.rd (RNG_POLL r) RNG_POLL_interval = 0 → s.rd (RNG_CFG r) RNG_CFG_class = 2 → s.pollUs r = 1000)) ∧
  (∀ (s : State),
      (s.guarPoll.bit SYS_GUAR SYS_GUAR_poll_over = true ↔ ∃ r, r < 64 ∧ s.ringState r = rsRunning ∧ s.ringEth r = false ∧
          s.rd (RNG_CFG r) RNG_CFG_class = 0 ∧ 10 < s.pollUs r))

/-- Starts and stops that the state of a ring ignores, and the stops that HALTED and DRAINING answer at once (R102). -/
def Obligations.IgnoredRingCommands : Prop :=
  -- RING_START
  (∀ (t : Nat) (r : Fin 64) (s : State),
    s.readyReg (RNG_CTL r) = true →
    s.ringState r ≠ rsOff →
      exec (.ringStart t r) s = .next ((s.at t).bump (RNG_CNT r) RNG_CNT_ign_cnt)) ∧
  -- RING_STOP, RING_STOP_DISCARD
  (∀ (t : Nat) (r : Fin 64) (s : State),
    s.readyReg (RNG_CTL r) = true →
    s.ringState r = rsOff →
      exec (.ringStop t r) s = .next ((s.at t).bump (RNG_CNT r) RNG_CNT_ign_cnt) ∧
        exec (.ringStopDiscard t r) s = .next ((s.at t).bump (RNG_CNT r) RNG_CNT_ign_cnt)) ∧
  -- RING_STOP, RING_STOP_DISCARD
  (∀ (t : Nat) (r : Fin 64) (s : State),
    s.readyReg (RNG_CTL r) = true →
    s.ringState r = rsDraining →
      exec (.ringStop t r) s = .next ((s.at t).bump (RNG_CNT r) RNG_CNT_ign_cnt) ∧
        exec (.ringStopDiscard t r) s = .next (((s.at t).abortFills r).dpyDiscard r)) ∧
  -- RING_STOP, RING_STOP_DISCARD
  (∀ (t : Nat) (r : Fin 64) (s : State),
    s.readyReg (RNG_CTL r) = true →
    s.ringState r = rsHalted →
      ∃ u, exec (.ringStop t r) s = .next u ∧ exec (.ringStopDiscard t r) s = .next u ∧ u.ringState r = rsOff ∧ (u.ring r).descs = [] ∧ s.Sent u [] ∧
          ∀ a, u.memRd a = s.memRd a)

/-- The data length a DLC gives in classical and in FD frames (R356). -/
def Obligations.DlcLengths : Prop :=
        (∀ (fd : Bool) (n : Fin 9), dlcLen fd n = n.val) ∧ (List.range 7).map (fun i => dlcLen true (9 + i)) = [12, 16, 20, 24, 32, 48, 64] ∧
        ∀ n : Fin 7, dlcLen false (9 + n) = 8

/-- What the voter makes of the records of three and of two live cores (R177, R179, R180, R181). -/
def Obligations.VotingTakesTheMajority : Prop :=
  (∀ (a b c : Option (List Word)) (w : List Word),
      (verdict [(0, a), (1, b), (2, c)] = .apply w ↔ a = some w ∧ b = some w ∧ c = some w) ∧
        (verdict [(0, a), (1, b), (2, c)] = .drop w 0 ↔ b = some w ∧ c = some w ∧ a ≠ some w) ∧
        (verdict [(0, a), (1, b), (2, c)] = .drop w 1 ↔ a = some w ∧ c = some w ∧ b ≠ some w) ∧
        (verdict [(0, a), (1, b), (2, c)] = .drop w 2 ↔ a = some w ∧ b = some w ∧ c ≠ some w) ∧
        (verdict [(0, a), (1, b), (2, c)] = .escalate 0x0411 ↔ ¬ (a ≠ none ∧ a = b) ∧ ¬ (a ≠ none ∧ a = c) ∧ ¬ (b ≠ none ∧ b = c))) ∧
  (∀ (i j : Nat) (a b : Option (List Word)) (w : List Word),
      (verdict [(i, a), (j, b)] = .apply w ↔ a = some w ∧ b = some w) ∧
        (verdict [(i, a), (j, b)] = .escalate 0x0410 ↔ ¬ (a ≠ none ∧ a = b)))

/-- The K12 engine's conversions of a current and of an output value lose nothing on the way to the channel and back
(R483, R486). -/
def Obligations.EngineConversionsRoundTrip : Prop :=
  (∀ (ma : Nat),
      (ma ≤ 3000 → k12Milli (k12Code ma) = ma ∧ k12Code ma ≤ 12288) ∧ (3000 ≤ ma → k12Code ma = 12288) ∧ ∀ m, ma ≤ m → k12Code ma ≤ k12Code m) ∧
  (∀ (d : Nat),
    d < 1000 →
      k12OutVal (k12Out true (0xC000 + d)).1 (k12Out true (0xC000 + d)).2 = 0xC000 + d ∧ k12OutVal (k12Out true 0).1 (k12Out true 0).2 = 0 ∧
        k12OutVal (k12Out false 0x8000).1 (k12Out false 0x8000).2 = 0x8000 ∧ (k12Out true (0xC000 + d)).2 < 65536)

/-- A channel's derating factor stays between a quarter and one, falls with its temperature, and is one below the start of
derating (R450, R451). -/
def Obligations.DeratingFactorBounds : Prop :=
  (∀ (tj tder : Int),
      320 ≤ derateJunction tj tder ∧ derateJunction tj tder ≤ 1280 ∧ (derateJunction tj tder = 1280 ↔ tj ≤ tder) ∧
        (tder + 320 ≤ tj → derateJunction tj tder = 320) ∧ ∀ tk, tj ≤ tk → derateJunction tk tder ≤ derateJunction tj tder) ∧
  (∀ (n : Nat) (s : State),
      s.derateOf n ≤ derateJunction (s.nodeTemp n) s.tder ∧ s.derateOf n ≤ derateBand (s.rd THM_STAT THM_STAT_band) ∧ 320 ≤ s.derateOf n)

/-- What one evaluation of a loop guarantees of its output, its integrator and its profile (R153, R158, R159, R163). -/
def Obligations.LoopOutputStaysInItsLimits : Prop :=
  (∀ (ws : List Word) (pool : Nat → Int) (st : LawState) (y tgt f : Int) (auth : Bool) (range : Int × Int),
    lpS ws 13 ≤ lpS ws 14 →
    range.1 ≤ range.2 →
    0 ≤ lpS ws 12 →
      (let o := lawStep ws pool st y tgt auth range f;
          lpS ws 13 ≤ o.uLim ∧ o.uLim ≤ lpS ws 14 ∧ range.1 ≤ o.code ∧ o.code ≤ range.2 ∧
          -(lpS ws 12) ≤ o.st.integ ∧ o.st.integ ≤ lpS ws 12)) ∧
  (∀ (ws : List Word) (pool : Nat → Int) (st : LawState) (y tgt f : Int) (range : Int × Int),
    -(lpS ws 12) ≤ st.integ →
    st.integ ≤ lpS ws 12 →
      (lawStep ws pool st y tgt false range f).st.prof = ⟨y * 2 ^ 24, 0, 0⟩ ∧ (lawStep ws pool st y tgt false range f).st.integ = st.integ)

/-- What the power-fail warning does first: every valve and every load switch is off, its shadow and active value 0, and
no group has a holder (R59, R207, R227). -/
def Obligations.PowerFailTurnsEveryOutputOff : Prop :=
  ∀ (s : State),
      (∀ n, n < 48 → (s.killAll.valve n).shadow = 0 ∧ (s.killAll.valve n).wrote = false ∧ s.killAll.valveOn n = false) ∧
        ∀ n, n < 64 → (s.killAll.switch n).on = false ∧ (s.killAll.switch n).shMode = 0 ∧ (s.killAll.switch n).actMode = 0 ∧ (s.killAll.switch n).wrote = false

/-- The commands of the recorder and of CROAK change no engine: they record, and nothing else (R423, R430, R435, R441,
R443). -/
def Obligations.RecorderCommandsChangeNoEngine : Prop :=
  ∀ (t : Nat) (r : Fin 64) (ok : Bool) (buf : List Word) (c : Instr) (s u : State),
    c ∈ [.croakToggle t, .recorderFlushStart t, .flushPeriodEnd t, .flushEnd t, .faultFill t r, .flush t r, .mark t r buf, .challenge t r, .challengeExpiry t, .clear t r ok] →
    exec c s = .next u →
      s.SameEngines u

/-- A DRIVE of an item whose lease the host does not hold completes NO_AUTH and changes no engine; the K12 engine writes
no shadow of an item it does not hold (R183, R193, R485). -/
def Obligations.OutputsObeyTheLeaseHolder : Prop :=
  -- DRIVE
  (∀ (t : Nat) (r : Fin 64) (s : State) (d : RDesc),
    s.opFor r 4 2 0x20 = some d →
    s.passed 11 = true →
    bits (d.par 8) 7 0 < 48 ∨ (64 ≤ bits (d.par 8) 7 0 ∧ bits (d.par 8) 7 0 < 128) →
    s.limp = true ∨ s.holds (bits (d.par 8) 7 0) 3 = false →
      ∃ u, exec (.drive t r) s = .next u ∧ u = ((s.at t).endOp r d.slot stNoAuth 0 0).settleRing r ∧ s.SameEngines u) ∧
  (∀ (c v : Nat) (s : State),
    (s.holds (if c < 16 then itemValve c else itemSwitch c) 2 = false) →
      s.k12Put c v = s)

/-- The state of a CAN channel on its bus after its error counters are judged (R364). -/
def Obligations.ErrorCountersSelectTheState : Prop :=
  (∀ (n : Nat) (s : State),
    n < 8 →
    s.canState n ≠ csBusOff →
    s.canState n ≠ csRecovering →
      (s.canConfine n).canState n = (if 255 < s.rd (CAN_STAT n) CAN_STAT_tec then csBusOff
              else if 127 < s.rd (CAN_STAT n) CAN_STAT_tec ∨ 127 < s.rd (CAN_STAT n) CAN_STAT_rec then csPassive else csActive) ∧
          (s.canConfine n).rd (CAN_STAT n) CAN_STAT_tec = s.rd (CAN_STAT n) CAN_STAT_tec ∧
          (s.canConfine n).rd (CAN_STAT n) CAN_STAT_rec = s.rd (CAN_STAT n) CAN_STAT_rec) ∧
  (∀ (n : Nat) (s : State),
    s.canState n = csBusOff ∨ s.canState n = csRecovering →
      s.canConfine n = s)

/-- What a release makes of the schedule of a periodic event entry: its lag, its next nominal and its next release
position (R132, R136). -/
def Obligations.CatchUpRegainsTheSchedule : Prop :=
  ∀ (e : EvEntry) (p : Int) (onTime : Bool) (f c : Nat),
    evRepeat e.act = repPeriodic →
      (let x := (e.advance p onTime f c).1;
          let lag := max 0 (dirSign e.fwd * ((if onTime then e.arm else p) - e.nom))
          (x.lag : Int) = lag ∧ x.nom = e.nom + dirSign e.fwd * (evPeriod e.act : Int) ∧ x.hit = (if atOrPast e.fwd x.arm p then some c else none) ∧
          dirSign e.fwd * (x.arm - x.nom) = max 0 (dirSign e.fwd * ((if onTime then e.arm else p) - e.nom) - (evPeriod e.act * f / 256 : Nat)) ∧
          (f = 0 → dirSign e.fwd * (x.arm - x.nom) = lag) ∧ dirSign e.fwd * (x.arm - x.nom) ≤ lag)

/-- What a rectangle's pixels change in a frame store: exactly the pixels of its area (R399, R404, R413). -/
def Obligations.DrawnPixelsEnterTheStore : Prop :=
  ∀ (p : Nat) (st : Cells Nat) (a : Area) (pix : List Nat),
    a.x + a.w ≤ 65536 →
    pix.length = a.w * a.h →
      (∀ i j, i < a.w → j < a.h → cellGet (storeReset p) (putPix p st a pix) (pixKey (a.x + i) (a.y + j)) = pix.getD (a.w * j + i) 0) ∧
        ∀ x y, x < 65536 → ¬ (a.x ≤ x ∧ x < a.x + a.w ∧ a.y ≤ y ∧ y < a.y + a.h) → cellGet (storeReset p) (putPix p st a pix) (pixKey x y) = cellGet (storeReset p) st (pixKey x y)

/-- What a channel's writes to module memory change: the bytes of their own destination and nothing else (R386, R389). -/
def Obligations.DmaWritesItsDestination : Prop :=
  ∀ (n i : Nat) (ws : List Word) (bs : List Byte) (s : State),
    dBit ws dFixDst = false →
    dBit ws dDstHost = false →
    dDst ws + i + bs.length ≤ 2 ^ 36 →
      (∀ k, k < bs.length → (s.dmaWrite n ws i bs).memRd (dDst ws + i + k) = bs.getD k 0#8) ∧
        ∀ a, a < dDst ws + i ∨ dDst ws + i + bs.length ≤ a → (s.dmaWrite n ws i bs).memRd a = s.memRd a

/-- Accesses whose behaviour the specification calls undefined stop with a fault of their own name (R6, R9, R34). -/
def Obligations.MisuseStopsByName : Prop :=
  -- REGISTER_WRITE, UNMAPPED_BAR0_ACCESS
  (∀ (t off : Nat) (v : Word) (s : State),
    off % 4 ≠ 0 →
      exec (.registerWrite t off v) s = .fault .registerAccess ∧ exec (.unmappedBar0Access t off) s = .fault .registerAccess) ∧
  -- BAR2_READ, BAR2_WRITE
  (∀ (t off len : Nat) (bs : List Byte) (ecc : List EccHit) (s : State),
    off < bar2Top →
    s.readyReg 0 = true →
    bar2Bad off len = true →
    bs.length = len →
      exec (.bar2Read t off len ecc) s = .fault .bar2Misuse ∧ exec (.bar2Write t off bs ecc) s = .fault .bar2Misuse) ∧
  -- SYS_BAR2_BASE_WRITE
  (∀ (t : Nat) (v : Word) (s : State),
    s.readyReg SYS_BAR2_BASE = true →
    bits v 22 15 ≠ 0 →
      exec (.sysBar2BaseWrite t v) s = .fault .reservedField) ∧
  (∀ (off : Nat) (v : Word) (s : State) (k : State → Out) (locked : Bool),
    s.readyReg off = true →
    reservedOf off v ≠ 0#32 →
      s.hostWrite off v locked k = .fault .reservedField)
end

