-- ==== Sys2Proof/Laws/Cells.lean ====
section
/-! SUPPORT. Laws of the sparse tables: what a read finds after a write, and the canonical form. -/

namespace Sys2Proof.Machine

variable {α : Type}

theorem cellGet_del (d : Nat → α) (c : Cells α) (k j : Nat) :
    cellGet d (cellDel k c) j = if j = k then d j else cellGet d c j := by
  induction c with
  | nil => simp [cellDel, cellGet]
  | cons p t ih =>
    obtain ⟨i, v⟩ := p
    by_cases h : i = k
    · subst h
      simp only [cellDel, if_true, ih, cellGet]
      by_cases hj : j = i
      · simp [hj]
      · simp [hj, Ne.symm hj]
    · simp only [cellDel, h, if_false, cellGet, ih]
      by_cases hj : i = j
      · subst hj; simp [h]
      · simp [hj]

theorem cellDel_of_get (d : Nat → α) (c : Cells α) (k : Nat) : ∀ p ∈ cellDel k c, p.1 ≠ k := by
  induction c with
  | nil => simp [cellDel]
  | cons p t ih =>
    obtain ⟨i, v⟩ := p
    by_cases h : i = k
    · simpa [cellDel, h] using ih
    · simp only [cellDel, h, if_false, List.mem_cons]
      rintro q (rfl | hq)
      · exact h
      · exact ih q hq

theorem cellGet_ins (d : Nat → α) (c : Cells α) (k : Nat) (v : α) (j : Nat) (hc : ∀ p ∈ c, p.1 ≠ k) :
    cellGet d (cellIns k v c) j = if j = k then v else cellGet d c j := by
  induction c with
  | nil => by_cases h : k = j <;> simp [cellIns, cellGet, h, eq_comm]
  | cons p t ih =>
    obtain ⟨i, w⟩ := p
    have hi : i ≠ k := hc (i, w) (by simp)
    have ht := ih fun q hq => hc q (by simp [hq])
    by_cases h : k < i
    · by_cases hj : k = j
      · subst hj; simp [cellIns, h, cellGet]
      · simp [cellIns, h, cellGet, hj, Ne.symm hj]
    · simp only [cellIns, h, if_false, cellGet, ht]
      by_cases hj : i = j
      · subst hj; simp [hi]
      · simp [hj]

/-- A read after a write: the value written at its key, and elsewhere what was there before. -/
theorem cellGet_set [DecidableEq α] (d : Nat → α) (c : Cells α) (k : Nat) (v : α) (j : Nat) :
    cellGet d (cellSet d c k v) j = if j = k then v else cellGet d c j := by
  unfold cellSet
  by_cases h : v = d k
  · simp only [h, if_true, cellGet_del]
    by_cases hj : j = k <;> simp [hj]
  · rw [if_neg h, cellGet_ins d _ k v j (cellDel_of_get d c k), cellGet_del]
    by_cases hj : j = k <;> simp [hj]

@[simp] theorem cellGet_set_same [DecidableEq α] (d : Nat → α) (c : Cells α) (k : Nat) (v : α) :
    cellGet d (cellSet d c k v) k = v := by simp [cellGet_set]

theorem cellGet_set_ne [DecidableEq α] (d : Nat → α) (c : Cells α) {k j : Nat} (v : α) (h : j ≠ k) :
    cellGet d (cellSet d c k v) j = cellGet d c j := by simp [cellGet_set, h]

/-- The canonical form, said of all pairs at once. -/
theorem cellWf_iff [DecidableEq α] (d : Nat → α) (c : Cells α) :
    cellWf d c = true ↔ (∀ p ∈ c, p.2 ≠ d p.1) ∧ c.Pairwise fun p q => p.1 < q.1 := by
  induction c with
  | nil => simp [cellWf]
  | cons p t ih =>
    obtain ⟨k, v⟩ := p
    cases t with
    | nil => simp [cellWf]
    | cons q t' =>
      obtain ⟨j, w⟩ := q
      simp only [cellWf, Bool.and_eq_true, decide_eq_true_eq, ih, List.mem_cons, List.pairwise_cons]
      constructor
      · rintro ⟨⟨hv, hk⟩, hall, hjt, ht⟩
        refine ⟨?_, ?_, hjt, ht⟩
        · rintro p (rfl | hp)
          · exact hv
          · exact hall p (by simpa using hp)
        · rintro p (rfl | hp)
          · exact hk
          · exact lt_trans hk (hjt p hp)
      · rintro ⟨hall, hkt, hjt, ht⟩
        exact ⟨⟨hall (k, v) (by simp), hkt (j, w) (by simp)⟩, fun p hp => hall p (by simpa using Or.inr hp), hjt, ht⟩

theorem cellDel_sublist (k : Nat) (c : Cells α) : (cellDel k c).Sublist c := by
  induction c with
  | nil => simp [cellDel]
  | cons p t ih =>
    obtain ⟨i, v⟩ := p
    by_cases h : i = k
    · simpa [cellDel, h] using ih.trans (List.sublist_cons_self _ _)
    · simpa [cellDel, h] using ih

theorem cellDel_wf [DecidableEq α] (d : Nat → α) (k : Nat) (c : Cells α) (h : cellWf d c = true) :
    cellWf d (cellDel k c) = true := by
  rw [cellWf_iff] at h ⊢
  exact ⟨fun p hp => h.1 p ((cellDel_sublist k c).subset hp), h.2.sublist (cellDel_sublist k c)⟩

theorem mem_cellIns (k : Nat) (v : α) (c : Cells α) (p : Nat × α) (h : p ∈ cellIns k v c) : p = (k, v) ∨ p ∈ c := by
  induction c with
  | nil => simpa [cellIns] using h
  | cons q t ih =>
    obtain ⟨i, w⟩ := q
    by_cases hk : k < i
    · simpa [cellIns, hk] using h
    · simp only [cellIns, hk, if_false, List.mem_cons] at h ⊢
      rcases h with rfl | h
      · exact Or.inr (Or.inl rfl)
      · rcases ih h with rfl | h
        · exact Or.inl rfl
        · exact Or.inr (Or.inr h)

theorem cellIns_wf [DecidableEq α] (d : Nat → α) (k : Nat) (v : α) (c : Cells α) (hv : v ≠ d k)
    (hc : ∀ p ∈ c, p.1 ≠ k) (h : cellWf d c = true) : cellWf d (cellIns k v c) = true := by
  induction c with
  | nil => simpa [cellIns, cellWf] using hv
  | cons q t ih =>
    obtain ⟨i, w⟩ := q
    have hi : i ≠ k := hc (i, w) (by simp)
    have h' := (cellWf_iff d _).1 h
    have ht : cellWf d t = true := (cellWf_iff d t).2 ⟨fun p hp => h'.1 p (by simp [hp]), h'.2.of_cons⟩
    by_cases hk : k < i
    · simp only [cellIns, hk, if_true, cellWf_iff, List.pairwise_cons]
      refine ⟨?_, ?_, List.pairwise_cons.1 h'.2⟩
      · intro p hp
        rcases List.mem_cons.1 hp with rfl | hp
        · exact hv
        · exact h'.1 p hp
      · intro p hp
        rcases List.mem_cons.1 hp with rfl | hp
        · exact hk
        · exact lt_trans hk ((List.pairwise_cons.1 h'.2).1 p hp)
    · have hik : i < k := by omega
      have ih' := (cellWf_iff d _).1 (ih (fun p hp => hc p (by simp [hp])) ht)
      simp only [cellIns, hk, if_false, cellWf_iff, List.pairwise_cons]
      refine ⟨?_, ?_, ih'.2⟩
      · intro p hp
        rcases List.mem_cons.1 hp with rfl | hp
        · exact h'.1 (i, w) (by simp)
        · exact ih'.1 p hp
      · intro p hp
        rcases mem_cellIns k v t p hp with rfl | hp
        · exact hik
        · exact (List.pairwise_cons.1 h'.2).1 p hp

/-- Every write keeps the canonical form. -/
theorem cellSet_wf [DecidableEq α] (d : Nat → α) (c : Cells α) (k : Nat) (v : α) (h : cellWf d c = true) :
    cellWf d (cellSet d c k v) = true := by
  unfold cellSet
  by_cases hv : v = d k
  · simpa [hv] using cellDel_wf d k c h
  · simpa [hv] using cellIns_wf d k v _ hv (cellDel_of_get d c k) (cellDel_wf d k c h)

end Sys2Proof.Machine
end

