-- ==== Sys2Proof/Laws/Keep.lean ====
section
/-! SUPPORT. What every operation keeps: the queue, the time, and the canonical form of registers and memory. One law
for each operation, in Keep*.lean, says that it keeps them; from those the laws of the commands follow. -/

namespace Sys2Proof.Machine

/-- `t` has the queue and the cycle of `s`, and registers and memory in canonical form if `s` has. -/
structure Keep (s t : State) : Prop where
  pending : t.pending = s.pending
  cyc : t.cyc = s.cyc
  canon : s.Canonical → t.Canonical

/-- An answer that is a next state keeps them too. -/
def OutKeep (s : State) (o : Out) : Prop := ∀ t, o = .next t → Keep s t

@[simp] theorem Keep.refl (s : State) : Keep s s := ⟨rfl, rfl, id⟩

theorem Keep.trans {s t u : State} (h : Keep s t) (k : Keep t u) : Keep s u :=
  ⟨k.pending.trans h.pending, k.cyc.trans h.cyc, fun x => k.canon (h.canon x)⟩

theorem OutKeep.trans {s t : State} {o : Out} (h : Keep s t) (k : OutKeep t o) : OutKeep s o :=
  fun u e => h.trans (k u e)

/-- Time that has come already changes nothing. -/
theorem State.at_of_le {s : State} {t : Nat} (h : t ≤ s.cyc) : s.at t = s := by simp [State.at, h]

@[simp] theorem State.cyc_of_freeNext (s : State) : s.freeNext.cyc = s.cyc := rfl

@[simp] theorem outKeep_next (s t : State) : OutKeep s (.next t) ↔ Keep s t :=
  ⟨fun h => h t rfl, fun h u e => by cases e; exact h⟩

@[simp] theorem outKeep_fault (s : State) (f : Fault) : OutKeep s (.fault f) := fun _ h => by cases h

@[simp] theorem outKeep_refused (s : State) (r : Refusal) : OutKeep s (.refused r) := fun _ h => by cases h

@[simp] theorem keep_ite (s a b : State) (c : Prop) [Decidable c] :
    Keep s (if c then a else b) ↔ (c → Keep s a) ∧ (¬c → Keep s b) := by split <;> simp [*]

@[simp] theorem outKeep_ite (s : State) (a b : Out) (c : Prop) [Decidable c] :
    OutKeep s (if c then a else b) ↔ (c → OutKeep s a) ∧ (¬c → OutKeep s b) := by split <;> simp [*]

@[simp] theorem keep_ite_fst {α : Type} (s : State) (a b : State × α) (c : Prop) [Decidable c] :
    Keep s (if c then a else b).1 ↔ (c → Keep s a.1) ∧ (¬c → Keep s b.1) := by split <;> simp [*]

/-- An update of other fields keeps all three. -/
theorem keep_of (s0 s t : State) (h : Keep s0 s) (hp : t.pending = s.pending) (hc : t.cyc = s.cyc)
    (hr : t.regs = s.regs) (hm : t.mem = s.mem) : Keep s0 t :=
  ⟨hp.trans h.pending, hc.trans h.cyc, fun x => by
    have := h.canon x
    exact ⟨by rw [hr]; exact this.regs, by rw [hm]; exact this.mem⟩⟩

@[simp] theorem keep_mk (s0 s : State) (h : Keep s0 s)
    (mtOff' : Nat) (free' : Nat) (out' : List Emission) (hot' : Nat × Cells Word) (poison' : List Nat) (pow' : Power) (rng' : Rings) (flt' : Flt) (recr' : Recorder)
    (nym' : Nym) (valves' : Cells Valve) (switches' : Cells Switch) (lamps' : Cells Lamp)
    (handed' : Cells (Nat × List Nat)) (stepAt' : Nat) (mtWas' : Nat) (thm' : Thm)
    (can' : Cells CanCh) (gns' : Gns) (kept' : Store) (tst' : Tst) (cle' : Cle) (tri' : Tri) (sns' : Sns) (fus' : Fus)
    (hsl' : Hsl) (vis' : Vis) (net' : Net) (dma' : Cells DChan) (dmaLine' : Cells Bool) (dpy' : Dpy) (upd' : Upd)
    (k12' : K12) :
    Keep s0 { s with
      mtOff := mtOff', free := free', out := out', hot := hot', poison := poison', pow := pow', rng := rng', flt := flt', recr := recr', nym := nym',
      valves := valves', switches := switches', lamps := lamps', handed := handed', stepAt := stepAt', mtWas := mtWas', thm := thm', can := can', gns :=
      gns', kept := kept', tst := tst', cle := cle', tri := tri', sns := sns', fus := fus', hsl := hsl', vis := vis',
      net := net', dma := dma', dmaLine := dmaLine', dpy := dpy', upd := upd', k12 := k12' } :=
  keep_of s0 s _ h rfl rfl rfl rfl

/-- Writes of registers and of memory keep the canonical form. -/
@[simp] theorem State.setReg_keep (s0 s : State) (off : Nat) (w : Word) (h : Keep s0 s) : Keep s0 (s.setReg off w) :=
  ⟨h.pending, h.cyc, fun x => ⟨cellSet_wf _ _ _ _ (h.canon x).regs, (h.canon x).mem⟩⟩

@[simp] theorem State.memWr_keep (s0 s : State) (a : Nat) (b : Byte) (h : Keep s0 s) : Keep s0 (s.memWr a b) :=
  ⟨h.pending, h.cyc, fun x => ⟨(h.canon x).regs, cellSet_wf _ _ _ _ (h.canon x).mem⟩⟩

/-- A fold of steps that keep them keeps them. -/
@[simp] theorem keep_foldl {α : Type} (s0 s : State) (l : List α) (f : State → α → State) (h : Keep s0 s)
    (hf : ∀ s a, Keep s (f s a)) : Keep s0 (l.foldl f s) := by
  induction l generalizing s with
  | nil => exact h
  | cons a t ih => exact ih _ (h.trans (hf s a))

@[simp] theorem keep_foldl_fst {α β : Type} (s0 : State) (p : State × β) (l : List α) (f : State × β → α → State × β)
    (h : Keep s0 p.1) (hf : ∀ p a, Keep p.1 (f p a).1) : Keep s0 (l.foldl f p).1 := by
  induction l generalizing p with
  | nil => exact h
  | cons a t ih => exact ih _ (h.trans (hf p a))

theorem outKeep_foldl {α : Type} (sK : State) (o : Out) (l : List α) (f : Out → α → Out) (h : OutKeep sK o)
    (hf : ∀ o a, OutKeep sK o → OutKeep sK (f o a)) : OutKeep sK (l.foldl f o) := by
  induction l generalizing o with
  | nil => exact h
  | cons a t ih => exact ih _ (hf o a h)

end Sys2Proof.Machine
end

