-- ==== Sys2Proof/Laws/KeepCore.lean ====
section
/-! SUPPORT. The operations over registers, memory, rings, faults, the output path and leases keep the queue, the time and the canonical form: one law for
each operation (Laws/Keep.lean says what is kept). -/

set_option linter.all false

namespace Sys2Proof.Machine

/-! ## Ops -/

@[simp] theorem State.heat_keep (sK : State) (s : State) (off : Nat) (w : Word) (hk : Keep sK s) :
    Keep sK (State.heat s off w) := by
  unfold State.heat; simp (maxDischargeDepth := 60) [hk]

@[simp] theorem State.wr_keep (sK : State) (s : State) (off : Nat) (f : Fld) (v : Nat) (hk : Keep sK s) :
    Keep sK (State.wr s off f v) := by
  unfold State.wr; simp (maxDischargeDepth := 60) [hk]

@[simp] theorem State.orBits_keep (sK : State) (s : State) (off : Nat) (f : Fld) (v : Nat) (hk : Keep sK s) :
    Keep sK (State.orBits s off f v) := by
  unfold State.orBits; simp (maxDischargeDepth := 60) [hk]

@[simp] theorem State.bitTo_keep (sK : State) (s : State) (off : Nat) (f : Fld) (n : Nat) (v : Bool) (hk : Keep sK s) :
    Keep sK (State.bitTo s off f n v) := by
  unfold State.bitTo; simp (maxDischargeDepth := 60) [hk]

@[simp] theorem State.bumpBy_keep (sK : State) (s : State) (off : Nat) (f : Fld) (n : Nat) (hk : Keep sK s) :
    Keep sK (State.bumpBy s off f n) := by
  unfold State.bumpBy; simp (maxDischargeDepth := 60) [hk]

@[simp] theorem State.bump_keep (sK : State) (s : State) (off : Nat) (f : Fld) (hk : Keep sK s) :
    Keep sK (State.bump s off f) := by
  unfold State.bump; simp (maxDischargeDepth := 60) [hk]

@[simp] theorem State.wrMax_keep (sK : State) (s : State) (off : Nat) (f : Fld) (v : Nat) (hk : Keep sK s) :
    Keep sK (State.wrMax s off f v) := by
  unfold State.wrMax; simp (maxDischargeDepth := 60) [hk]

@[simp] theorem State.incReg_keep (sK : State) (s : State) (off : Nat) (hk : Keep sK s) :
    Keep sK (State.incReg s off) := by
  unfold State.incReg; simp (maxDischargeDepth := 60) [hk]

@[simp] theorem State.memStore_keep (sK : State) (s : State) (a : Nat) (xs : List Byte) (hk : Keep sK s) :
    Keep sK (State.memStore s a xs) := by
  induction xs generalizing s a with
  | nil => simpa [State.memStore] using hk
  | cons b l ih => unfold State.memStore; exact ih _ _ (by simp [hk])

@[simp] theorem State.emit_keep (sK : State) (s : State) (e : Emission) (hk : Keep sK s) :
    Keep sK (State.emit s e) := by
  unfold State.emit; simp (maxDischargeDepth := 60) [hk]

@[simp] theorem State.handNote_keep (sK : State) (s : State) (b i : Nat) (hk : Keep sK s) :
    Keep sK (State.handNote s b i) := by
  unfold State.handNote; simp (maxDischargeDepth := 60) [hk]

@[simp] theorem State.freeNext_keep (sK : State) (s : State) (hk : Keep sK s) : Keep sK (State.freeNext s) := by
  unfold State.freeNext; simp (maxDischargeDepth := 60) [hk]

@[simp] theorem State.freeAdd_keep (sK : State) (s : State) (n : Nat) (hk : Keep sK s) :
    Keep sK (State.freeAdd s n) := by
  unfold State.freeAdd; simp (maxDischargeDepth := 60) [hk]

@[simp] theorem State.guarSet_keep (sK : State) (s : State) (f seen : Fld) (v : Bool) (hk : Keep sK s) :
    Keep sK (State.guarSet s f seen v) := by
  unfold State.guarSet; simp (maxDischargeDepth := 60) [hk]

/-! ## Domain -/

@[simp] theorem State.setShaft_keep (sK : State) (s : State) (k : Nat) (h : Shaft) (hk : Keep sK s) :
    Keep sK (State.setShaft s k h) := by
  unfold State.setShaft; simp (maxDischargeDepth := 60) [hk]

@[simp] theorem State.setEv_keep (sK : State) (s : State) (i : Nat) (e : EvEntry) (hk : Keep sK s) :
    Keep sK (State.setEv s i e) := by
  unfold State.setEv; simp (maxDischargeDepth := 60) [hk]

@[simp] theorem State.keepBefore_keep (sK : State) (s : State) (d : Nat) (hk : Keep sK s) :
    Keep sK (State.keepBefore s d) := by
  unfold State.keepBefore; simp (maxDischargeDepth := 60) [hk]

/-! ## RingCore -/

@[simp] theorem State.setRing_keep (sK : State) (s : State) (r : Nat) (x : Ring) (hk : Keep sK s) :
    Keep sK (State.setRing s r x) := by
  unfold State.setRing; simp (maxDischargeDepth := 60) [hk]

@[simp] theorem State.setLineOut_keep (sK : State) (s : State) (m n : Nat) (hk : Keep sK s) :
    Keep sK (State.setLineOut s m n) := by
  unfold State.setLineOut; simp (maxDischargeDepth := 60) [hk]

@[simp] theorem State.setPtr_keep (sK : State) (s : State) (off n p : Nat) (hk : Keep sK s) :
    Keep sK (State.setPtr s off n p) := by
  unfold State.setPtr; simp (maxDischargeDepth := 60) [hk]

@[simp] theorem State.guarPoll_keep (sK : State) (s : State) (hk : Keep sK s) : Keep sK (State.guarPoll s) := by
  unfold State.guarPoll; simp (maxDischargeDepth := 60) [hk]

@[simp] theorem State.latchDue_keep (sK : State) (s : State) (k : Nat) (p : Int) (hk : Keep sK s) :
    Keep sK (State.latchDue s k p) := by
  unfold State.latchDue; simp (maxDischargeDepth := 60) [hk]

@[simp] theorem State.setDesc_keep (sK : State) (s : State) (r slot : Nat) (st : DescSt) (hk : Keep sK s) :
    Keep sK (State.setDesc s r slot st) := by
  unfold State.setDesc; simp (maxDischargeDepth := 60) [hk]

@[simp] theorem State.endOp_keep (sK : State) (s : State) (r slot status len result : Nat) (hk : Keep sK s) :
    Keep sK (State.endOp s r slot status len result) := by
  unfold State.endOp; simp (maxDischargeDepth := 60) [hk]

@[simp] theorem State.hoNote_keep (sK : State) (s : State) (b : Nat) (x : HoRef) (hk : Keep sK s) :
    Keep sK (State.hoNote s b x) := by
  unfold State.hoNote; simp (maxDischargeDepth := 60) [hk]

@[simp] theorem State.hoUp_keep (sK : State) (s : State) (xs : HoRef) (hk : Keep sK s) :
    Keep sK (State.hoUp s xs) := by
  induction xs generalizing s <;> unfold State.hoUp <;> (try dsimp only) <;> (repeat' split) <;> simp (maxDischargeDepth := 60) [*]

@[simp] theorem State.hoMend_keep (sK : State) (s : State) (b : Nat) (hk : Keep sK s) :
    Keep sK (State.hoMend s b) := by
  unfold State.hoMend; simp (maxDischargeDepth := 60) [hk]

@[simp] theorem State.endSeq_keep (sK : State) (s : State) (b r slot len seq : Nat) (hk : Keep sK s) :
    Keep sK (State.endSeq s b r slot len seq) := by
  unfold State.endSeq; simp (maxDischargeDepth := 60) [hk]

@[simp] theorem State.startOp_keep (sK : State) (s : State) (r slot : Nat) (hk : Keep sK s) :
    Keep sK (State.startOp s r slot) := by
  unfold State.startOp; simp (maxDischargeDepth := 60) [hk]

@[simp] theorem State.endRunning_keep (sK : State) (s : State) (k : Nat × Nat) (honours : Bool) (status len result : Nat) (hk : Keep sK s) :
    Keep sK (State.endRunning s k honours status len result) := by
  unfold State.endRunning; split <;> simp (maxDischargeDepth := 60) [hk]

@[simp] theorem State.settle_keep (sK : State) (s : State) (r : Nat) (xs : Nat) (hk : Keep sK s) :
    Keep sK (State.settle s r xs) := by
  induction xs generalizing s <;> unfold State.settle <;> (try dsimp only) <;> (repeat' split) <;> simp (maxDischargeDepth := 60) [*]

@[simp] theorem State.settleRing_keep (sK : State) (s : State) (r : Nat) (hk : Keep sK s) :
    Keep sK (State.settleRing s r) := by
  unfold State.settleRing; simp (maxDischargeDepth := 60) [hk]

@[simp] theorem State.ringOp_keep (sK : State) (s : State) (r tgt func op : Nat) (k : State → RDesc → Out) (hk : Keep sK s)
    (hf : ∀ s d, OutKeep s (k s d)) : OutKeep sK (s.ringOp r tgt func op k) := by
  unfold State.ringOp
  split
  · simp [hk]
  · rename_i d _
    have h := OutKeep.trans hk (hf s d)
    cases e : k s d with
    | next u => simpa using State.settleRing_keep _ _ _ (h u e)
    | fault f => simp
    | refused f => simp

@[simp] theorem State.bufOutBytes_keep (sK : State) (s : State) (r : Nat) (d : RDesc) (off : Nat) (bs : List Byte) (hk : Keep sK s) :
    Keep sK (State.bufOutBytes s r d off bs) := by
  unfold State.bufOutBytes; simp (maxDischargeDepth := 60) [hk]

@[simp] theorem State.bufOut_keep (sK : State) (s : State) (r : Nat) (d : RDesc) (off : Nat) (ws : List Word) (hk : Keep sK s) :
    Keep sK (State.bufOut s r d off ws) := by
  unfold State.bufOut; simp (maxDischargeDepth := 60) [hk]

@[simp] theorem State.setStaged_keep (sK : State) (s : State) (key : Nat) (l : List (List Word)) (hk : Keep sK s) :
    Keep sK (State.setStaged s key l) := by
  unfold State.setStaged; simp (maxDischargeDepth := 60) [hk]

theorem State.pumpOne_keep (s t : State) (key : Nat) (h : s.pumpOne key = some t) : Keep s t := by
  unfold State.pumpOne at h
  dsimp only at h
  split at h
  · split at h
    · split at h
      · repeat' split at h
        all_goals (injection h with h; subst h; simp (maxDischargeDepth := 60))
      · cases h
    · cases h
  · cases h

@[simp] theorem State.pump_keep (sK : State) (s : State) (key : Nat) (xs : Nat) (hk : Keep sK s) :
    Keep sK (State.pump s key xs) := by
  induction xs generalizing s with
  | zero => simpa [State.pump] using hk
  | succ n ih =>
    unfold State.pump; split
    · exact hk
    · rename_i s1 e
      exact ih _ (hk.trans (State.pumpOne_keep s s1 key e))

@[simp] theorem State.pumpAll_keep (sK : State) (s : State) (key : Nat) (hk : Keep sK s) :
    Keep sK (State.pumpAll s key) := by
  unfold State.pumpAll; simp (maxDischargeDepth := 60) [hk]

@[simp] theorem State.deliver_keep (sK : State) (s : State) (key : Nat) (x : List Word) (hk : Keep sK s) :
    Keep sK (State.deliver s key x).1 := by
  unfold State.deliver; simp (maxDischargeDepth := 60) [hk]

@[simp] theorem State.fill_keep (sK : State) (s : State) (r func tgt least : Nat) (hk : Keep sK s) :
    OutKeep sK (State.fill s r func tgt least) := by
  unfold State.fill; simp (maxDischargeDepth := 60) [hk]

/-! ## CamCore -/

@[simp] theorem State.setCam_keep (sK : State) (s : State) (c : Nat) (x : Cam) (hk : Keep sK s) :
    Keep sK (State.setCam s c x) := by
  unfold State.setCam; simp (maxDischargeDepth := 60) [hk]

@[simp] theorem State.camShift_keep (sK : State) (s : State) (c : Nat) (hk : Keep sK s) :
    Keep sK (State.camShift s c) := by
  unfold State.camShift; simp (maxDischargeDepth := 60) [hk]

@[simp] theorem State.camNumber_keep (sK : State) (s : State) (c : Nat) (now : Bool) (hk : Keep sK s) :
    Keep sK (State.camNumber s c now).1 := by
  unfold State.camNumber; simp (maxDischargeDepth := 60) [hk]

@[simp] theorem State.camCopy_keep (sK : State) (s : State) (c : Nat) (hk : Keep sK s) :
    Keep sK (State.camCopy s c) := by
  unfold State.camCopy; simp (maxDischargeDepth := 60) [hk]

@[simp] theorem State.camIdle_keep (sK : State) (s : State) (c : Nat) (hk : Keep sK s) :
    Keep sK (State.camIdle s c) := by
  unfold State.camIdle; simp (maxDischargeDepth := 60) [hk]

@[simp] theorem State.camsNow_keep (sK : State) (s : State) (hk : Keep sK s) : Keep sK (State.camsNow s) := by
  unfold State.camsNow; simp (maxDischargeDepth := 60) [hk]

/-! ## View -/

@[simp] theorem State.setCan_keep (sK : State) (s : State) (n : Nat) (c : CanCh) (hk : Keep sK s) :
    Keep sK (State.setCan s n c) := by
  unfold State.setCan; simp (maxDischargeDepth := 60) [hk]

@[simp] theorem State.k12Set_keep (sK : State) (s : State) (a v : Nat) (hk : Keep sK s) :
    Keep sK (State.k12Set s a v) := by
  unfold State.k12Set; simp (maxDischargeDepth := 60) [hk]

@[simp] theorem State.k12Flag_keep (sK : State) (s : State) (m : Nat) (hk : Keep sK s) :
    Keep sK (State.k12Flag s m) := by
  unfold State.k12Flag; simp (maxDischargeDepth := 60) [hk]

@[simp] theorem State.k12Phase_keep (sK : State) (s : State) (err : Nat) (stale : Bool) (hk : Keep sK s) :
    Keep sK (State.k12Phase s err stale) := by
  unfold State.k12Phase; simp (maxDischargeDepth := 60) [hk]

@[simp] theorem State.lineDrop_keep (sK : State) (s : State) (q : Nat) (hk : Keep sK s) :
    Keep sK (State.lineDrop s q) := by
  unfold State.lineDrop; simp (maxDischargeDepth := 60) [hk]

/-! ## FltCore -/

@[simp] theorem State.keepThen_keep (sK : State) (s : State) (off : Nat) (hk : Keep sK s) :
    Keep sK (State.keepThen s off) := by
  unfold State.keepThen; simp (maxDischargeDepth := 60) [hk]

@[simp] theorem State.addRaw_keep (sK : State) (s : State) (time ty : Nat) (ws : List Word) (hk : Keep sK s) :
    Keep sK (State.addRaw s time ty ws).1 := by
  unfold State.addRaw; simp (maxDischargeDepth := 60) [hk]

@[simp] theorem State.addEntry_keep (sK : State) (s : State) (time ty : Nat) (ws : List Word) (hk : Keep sK s) :
    Keep sK (State.addEntry s time ty ws).1 := by
  unfold State.addEntry; simp (maxDischargeDepth := 60) [hk]

@[simp] theorem State.snap_keep (sK : State) (s : State) (i seq : Nat) (hk : Keep sK s) :
    Keep sK (State.snap s i seq).1 := by
  unfold State.snap; simp (maxDischargeDepth := 60) [hk]

@[simp] theorem State.fltRecord_keep (sK : State) (s : State) (e : FltEv) (hk : Keep sK s) :
    Keep sK (State.fltRecord s e).1 := by
  unfold State.fltRecord; simp (maxDischargeDepth := 60) [hk]

@[simp] theorem State.fltTell_keep (sK : State) (s : State) (cls code : Nat) (hk : Keep sK s) :
    Keep sK (State.fltTell s cls code) := by
  unfold State.fltTell; simp (maxDischargeDepth := 60) [hk]

@[simp] theorem State.fltCount_keep (sK : State) (s : State) (cls code : Nat) (hk : Keep sK s) :
    Keep sK (State.fltCount s cls code) := by
  unfold State.fltCount; simp (maxDischargeDepth := 60) [hk]

@[simp] theorem State.snapAll_keep (sK : State) (s : State) (code cls seq : Nat) (hk : Keep sK s) :
    Keep sK (State.snapAll s code cls seq).1 := by
  unfold State.snapAll; simp (maxDischargeDepth := 60) [hk]

@[simp] theorem State.fltFlush_keep (sK : State) (s : State) (cls : Nat) (hk : Keep sK s) :
    Keep sK (State.fltFlush s cls) := by
  unfold State.fltFlush; simp (maxDischargeDepth := 60) [hk]

@[simp] theorem State.fltRaiseRec_keep (sK : State) (s : State) (e : FltEv) (hk : Keep sK s) :
    Keep sK (State.fltRaiseRec s e).1 := by
  unfold State.fltRaiseRec; simp (maxDischargeDepth := 60) [hk]

@[simp] theorem State.snapNotes_keep (sK : State) (s : State) (xs : Nat) (hk : Keep sK s) :
    Keep sK (State.snapNotes s xs) := by
  induction xs generalizing s <;> unfold State.snapNotes <;> (try dsimp only) <;> (repeat' split) <;> simp (maxDischargeDepth := 60) [*]

@[simp] theorem State.fltSnap_keep (sK : State) (s : State) (e : FltEv) (q : Nat) (hk : Keep sK s) :
    Keep sK (State.fltSnap s e q) := by
  unfold State.fltSnap; simp (maxDischargeDepth := 60) [hk]

@[simp] theorem State.fltApply_keep (sK : State) (s : State) (e : FltEv) (hk : Keep sK s) :
    Keep sK (State.fltApply s e) := by
  unfold State.fltApply; simp (maxDischargeDepth := 60) [hk]

@[simp] theorem State.fltHold_keep (sK : State) (s : State) (e : FltEv) (hk : Keep sK s) :
    Keep sK (State.fltHold s e) := by
  unfold State.fltHold; simp (maxDischargeDepth := 60) [hk]

@[simp] theorem State.k12Fault_keep (sK : State) (s : State) (code : Nat) (hk : Keep sK s) :
    Keep sK (State.k12Fault s code) := by
  unfold State.k12Fault; simp (maxDischargeDepth := 60) [hk]

@[simp] theorem State.fltPut_keep (sK : State) (s : State) (code cls detail kind : Nat) (fenced : Bool) (hk : Keep sK s) :
    Keep sK (State.fltPut s code cls detail kind fenced) := by
  unfold State.fltPut; simp (maxDischargeDepth := 60) [hk]

@[simp] theorem State.fltEscalate_keep (sK : State) (s : State) (code cls detail : Nat) (hk : Keep sK s) :
    Keep sK (State.fltEscalate s code cls detail) := by
  unfold State.fltEscalate; simp (maxDischargeDepth := 60) [hk]

@[simp] theorem State.note_keep (sK : State) (s : State) (code detail : Nat) (hk : Keep sK s) :
    Keep sK (State.note s code detail) := by
  unfold State.note; simp (maxDischargeDepth := 60) [hk]

@[simp] theorem State.noteSlow_keep (sK : State) (s : State) (code detail : Nat) (hk : Keep sK s) :
    Keep sK (State.noteSlow s code detail) := by
  unfold State.noteSlow; split <;> simp (maxDischargeDepth := 60) [hk]

@[simp] theorem State.raise2_keep (sK : State) (s : State) (code detail : Nat) (hk : Keep sK s) :
    Keep sK (State.raise2 s code detail) := by
  unfold State.raise2; simp (maxDischargeDepth := 60) [hk]

@[simp] theorem State.clear2_keep (sK : State) (s : State) (code : Nat) (hk : Keep sK s) :
    Keep sK (State.clear2 s code) := by
  unfold State.clear2; simp (maxDischargeDepth := 60) [hk]

@[simp] theorem State.clearAt_keep (sK : State) (s : State) (code detail : Nat) (hk : Keep sK s) :
    Keep sK (State.clearAt s code detail) := by
  unfold State.clearAt; simp (maxDischargeDepth := 60) [hk]

@[simp] theorem State.ignored_keep (sK : State) (s : State) (off : Nat) (hk : Keep sK s) :
    Keep sK (State.ignored s off) := by
  unfold State.ignored; simp (maxDischargeDepth := 60) [hk]

@[simp] theorem State.frameDropped_keep (sK : State) (s : State) (hk : Keep sK s) :
    Keep sK (State.frameDropped s) := by
  unfold State.frameDropped; simp (maxDischargeDepth := 60) [hk]

/-! ## Output -/

@[simp] theorem State.setValve_keep (sK : State) (s : State) (n : Nat) (v : Valve) (hk : Keep sK s) :
    Keep sK (State.setValve s n v) := by
  unfold State.setValve; simp (maxDischargeDepth := 60) [hk]

@[simp] theorem State.valveSetActive_keep (sK : State) (s : State) (n code : Nat) (hk : Keep sK s) :
    Keep sK (State.valveSetActive s n code) := by
  unfold State.valveSetActive; simp (maxDischargeDepth := 60) [hk]

@[simp] theorem State.valveWrite_keep (sK : State) (s : State) (n code : Nat) (byNym byLoop : Bool) (hk : Keep sK s) :
    Keep sK (State.valveWrite s n code byNym byLoop) := by
  unfold State.valveWrite; simp (maxDischargeDepth := 60) [hk]

@[simp] theorem State.valveOff_keep (sK : State) (s : State) (n : Nat) (hk : Keep sK s) :
    Keep sK (State.valveOff s n) := by
  unfold State.valveOff; simp (maxDischargeDepth := 60) [hk]

@[simp] theorem State.deferEnd_keep (sK : State) (s : State) (n : Nat) (hk : Keep sK s) :
    Keep sK (State.deferEnd s n) := by
  unfold State.deferEnd; split <;> simp (maxDischargeDepth := 60) [hk]

@[simp] theorem State.valveKill_keep (sK : State) (s : State) (n : Nat) (hk : Keep sK s) :
    Keep sK (State.valveKill s n) := by
  unfold State.valveKill; simp (maxDischargeDepth := 60) [hk]

@[simp] theorem State.valveRestart_keep (sK : State) (s : State) (n : Nat) (hk : Keep sK s) :
    Keep sK (State.valveRestart s n) := by
  unfold State.valveRestart; simp (maxDischargeDepth := 60) [hk]

@[simp] theorem State.setSwitch_keep (sK : State) (s : State) (n : Nat) (w : Switch) (hk : Keep sK s) :
    Keep sK (State.setSwitch s n w) := by
  unfold State.setSwitch; simp (maxDischargeDepth := 60) [hk]

@[simp] theorem State.switchWrite_keep (sK : State) (s : State) (n mode duty : Nat) (byNym byLoop : Bool) (hk : Keep sK s) :
    Keep sK (State.switchWrite s n mode duty byNym byLoop) := by
  unfold State.switchWrite; simp (maxDischargeDepth := 60) [hk]

@[simp] theorem State.switchOff_keep (sK : State) (s : State) (n : Nat) (hk : Keep sK s) :
    Keep sK (State.switchOff s n) := by
  unfold State.switchOff; simp (maxDischargeDepth := 60) [hk]

@[simp] theorem State.switchKill_keep (sK : State) (s : State) (n : Nat) (hk : Keep sK s) :
    Keep sK (State.switchKill s n) := by
  unfold State.switchKill; simp (maxDischargeDepth := 60) [hk]

@[simp] theorem State.switchTurnOn_keep (sK : State) (s : State) (n : Nat) (recovery : Bool) (hk : Keep sK s) :
    Keep sK (State.switchTurnOn s n recovery) := by
  unfold State.switchTurnOn; simp (maxDischargeDepth := 60) [hk]

@[simp] theorem State.killAll_keep (sK : State) (s : State) (hk : Keep sK s) : Keep sK (State.killAll s) := by
  unfold State.killAll; simp (maxDischargeDepth := 60) [hk]

@[simp] theorem State.canRelease_keep (sK : State) (s : State) (g : Nat) (hk : Keep sK s) :
    Keep sK (State.canRelease s g) := by
  unfold State.canRelease; simp (maxDischargeDepth := 60) [hk]

/-! ## Lease -/

@[simp] theorem State.setGroup_keep (sK : State) (s : State) (g : Nat) (x : Group) (hk : Keep sK s) :
    Keep sK (State.setGroup s g x) := by
  unfold State.setGroup; simp (maxDischargeDepth := 60) [hk]

@[simp] theorem State.finish_keep (sK : State) (s : State) (k : Nat × Nat) (honours : Bool) (status len result : Nat) (hk : Keep sK s) :
    Keep sK (State.finish s k honours status len result) := by
  unfold State.finish; simp (maxDischargeDepth := 60) [hk]

@[simp] theorem State.safeOff_keep (sK : State) (s : State) (g : Nat) (hk : Keep sK s) :
    Keep sK (State.safeOff s g) := by
  unfold State.safeOff; simp (maxDischargeDepth := 60) [hk]

@[simp] theorem State.applySafe_keep (sK : State) (s : State) (g : Nat) (hk : Keep sK s) :
    Keep sK (State.applySafe s g) := by
  unfold State.applySafe; simp (maxDischargeDepth := 60) [hk]

@[simp] theorem State.leaseClear_keep (sK : State) (s : State) (g : Nat) (hk : Keep sK s) :
    Keep sK (State.leaseClear s g) := by
  unfold State.leaseClear; simp (maxDischargeDepth := 60) [hk]

@[simp] theorem State.keepLease_keep (sK : State) (s : State) (g : Nat) (hk : Keep sK s) :
    Keep sK (State.keepLease s g) := by
  unfold State.keepLease; simp (maxDischargeDepth := 60) [hk]

@[simp] theorem State.keepEnded_keep (sK : State) (s : State) (g : Nat) (hk : Keep sK s) :
    Keep sK (State.keepEnded s g) := by
  unfold State.keepEnded; simp (maxDischargeDepth := 60) [hk]

@[simp] theorem State.leaseRelease_keep (sK : State) (s : State) (g : Nat) (hk : Keep sK s) :
    Keep sK (State.leaseRelease s g) := by
  unfold State.leaseRelease; simp (maxDischargeDepth := 60) [hk]

@[simp] theorem State.unexpire_keep (sK : State) (s : State) (hk : Keep sK s) : Keep sK (State.unexpire s) := by
  unfold State.unexpire; simp (maxDischargeDepth := 60) [hk]

@[simp] theorem State.leaseExpire_keep (sK : State) (s : State) (g : Nat) (hk : Keep sK s) :
    Keep sK (State.leaseExpire s g) := by
  unfold State.leaseExpire; simp (maxDischargeDepth := 60) [hk]

@[simp] theorem State.keepOvr_keep (sK : State) (s : State) (hk : Keep sK s) : Keep sK (State.keepOvr s) := by
  unfold State.keepOvr; simp (maxDischargeDepth := 60) [hk]

@[simp] theorem State.leaseRenew_keep (sK : State) (s : State) (g : Nat) (hk : Keep sK s) :
    Keep sK (State.leaseRenew s g) := by
  unfold State.leaseRenew; simp (maxDischargeDepth := 60) [hk]

@[simp] theorem State.unmap_keep (sK : State) (s : State) (g : Nat) (hk : Keep sK s) : Keep sK (State.unmap s g) := by
  unfold State.unmap; simp (maxDischargeDepth := 60) [hk]

@[simp] theorem State.leaseGrant_keep (sK : State) (s0 s : State) (g h : Nat) (hk : Keep sK s) :
    Keep sK (State.leaseGrant s0 s g h) := by
  unfold State.leaseGrant; simp (maxDischargeDepth := 60) [hk]

@[simp] theorem State.abortTri_keep (sK : State) (s : State) (hk : Keep sK s) : Keep sK (State.abortTri s) := by
  unfold State.abortTri; simp (maxDischargeDepth := 60) [hk]

@[simp] theorem State.limpHome_keep (sK : State) (s : State) (hk : Keep sK s) : Keep sK (State.limpHome s) := by
  unfold State.limpHome; simp (maxDischargeDepth := 60) [hk]

@[simp] theorem State.croakStop_keep (sK : State) (s : State) (hk : Keep sK s) : Keep sK (State.croakStop s) := by
  unfold State.croakStop; simp (maxDischargeDepth := 60) [hk]

@[simp] theorem State.raise0_keep (sK : State) (s : State) (code detail kind : Nat) (hk : Keep sK s) :
    Keep sK (State.raise0 s code detail kind) := by
  unfold State.raise0; simp (maxDischargeDepth := 60) [hk]

@[simp] theorem State.k12Freeze_keep (sK : State) (s : State) (u : Nat) (hk : Keep sK s) :
    Keep sK (State.k12Freeze s u) := by
  unfold State.k12Freeze; simp (maxDischargeDepth := 60) [hk]

@[simp] theorem State.raise1_keep (sK : State) (s : State) (code detail u : Nat) (hk : Keep sK s) :
    Keep sK (State.raise1 s code detail u) := by
  unfold State.raise1; simp (maxDischargeDepth := 60) [hk]

@[simp] theorem State.tailDrop_keep (sK : State) (s : State) (c : Nat) (hk : Keep sK s) :
    Keep sK (State.tailDrop s c) := by
  unfold State.tailDrop; simp (maxDischargeDepth := 60) [hk]

@[simp] theorem State.coreFault_keep (sK : State) (s : State) (code c detail : Nat) (hk : Keep sK s) :
    Keep sK (State.coreFault s code c detail) := by
  unfold State.coreFault; simp (maxDischargeDepth := 60) [hk]

@[simp] theorem State.coreError_keep (sK : State) (s : State) (c detail : Nat) (hk : Keep sK s) :
    Keep sK (State.coreError s c detail) := by
  unfold State.coreError; simp (maxDischargeDepth := 60) [hk]

@[simp] theorem State.revokeAll_keep (sK : State) (s : State) (hk : Keep sK s) : Keep sK (State.revokeAll s) := by
  unfold State.revokeAll; simp (maxDischargeDepth := 60) [hk]

@[simp] theorem State.overrideRevoke_keep (sK : State) (s : State) (n : Nat) (hk : Keep sK s) :
    Keep sK (State.overrideRevoke s n) := by
  unfold State.overrideRevoke; simp (maxDischargeDepth := 60) [hk]

/-! ## Ecc -/

@[simp] theorem State.eccFault_keep (sK : State) (s : State) (h : EccHit) (hk : Keep sK s) :
    Keep sK (State.eccFault s h) := by
  unfold State.eccFault; simp (maxDischargeDepth := 60) [hk]

@[simp] theorem State.poisonWord_keep (sK : State) (s : State) (a : Nat) (hk : Keep sK s) :
    Keep sK (State.poisonWord s a) := by
  unfold State.poisonWord; simp (maxDischargeDepth := 60) [hk]

@[simp] theorem State.eccHit_keep (sK : State) (s : State) (h : EccHit) (hk : Keep sK s) :
    Keep sK (State.eccHit s h) := by
  unfold State.eccHit; simp (maxDischargeDepth := 60) [hk]

@[simp] theorem State.eccAll_keep (sK : State) (s : State) (l : List EccHit) (hk : Keep sK s) :
    Keep sK (State.eccAll s l) := by
  unfold State.eccAll; simp (maxDischargeDepth := 60) [hk]

@[simp] theorem State.eccEnd_keep (sK : State) (s : State) (h : EccHit) (hk : Keep sK s) :
    Keep sK (State.eccEnd s h) := by
  unfold State.eccEnd; simp (maxDischargeDepth := 60) [hk]

@[simp] theorem State.eccDone_keep (sK : State) (s : State) (l : List EccHit) (hk : Keep sK s) :
    Keep sK (State.eccDone s l) := by
  unfold State.eccDone; simp (maxDischargeDepth := 60) [hk]

@[simp] theorem State.poisonEnds_keep (sK : State) (s : State) (a n : Nat) (hk : Keep sK s) :
    Keep sK (State.poisonEnds s a n) := by
  unfold State.poisonEnds; simp (maxDischargeDepth := 60) [hk]

@[simp] theorem State.takesBuf_keep (sK : State) (s : State) (r : Nat) (d : RDesc) (n : Nat) (k : Out) (hk : Keep sK s)
    (ho : OutKeep sK k) : OutKeep sK (s.takesBuf r d n k) := by
  unfold State.takesBuf
  repeat' split
  all_goals first | exact ho | simp [hk]

@[simp] theorem State.givesBuf_keep (sK : State) (s : State) (r : Nat) (d : RDesc) (k : Out) (ho : OutKeep sK k) :
    OutKeep sK (s.givesBuf r d k) := by
  unfold State.givesBuf
  split
  · simp
  · exact ho

/-! ## RegCore -/

@[simp] theorem State.store_keep (sK : State) (s : State) (off : Nat) (v : Word) (hk : Keep sK s) :
    Keep sK (State.store s off v) := by
  unfold State.store; split <;> simp (maxDischargeDepth := 60) [hk]

@[simp] theorem State.hostWrite_keep (sK : State) (s : State) (off : Nat) (v : Word) (locked : Bool) (k : State → Out)
    (hk : Keep sK s) (hf : ∀ s, OutKeep s (k s)) : OutKeep sK (s.hostWrite off v locked k) := by
  unfold State.hostWrite
  repeat' split
  all_goals first | exact OutKeep.trans hk (hf s) | simp [hk]

end Sys2Proof.Machine
end

