-- ==== Sys2Proof/Laws/KeepSystem.lean ====
section
/-! SUPPORT. The bus and register access, the recorder, the update and display stores keep the queue, the time and the canonical form: one law for
each operation (Laws/Keep.lean says what is kept). -/

set_option linter.all false

namespace Sys2Proof.Machine

/-! ## UpdCore -/

@[simp] theorem State.slotSync_keep (sK : State) (s : State) (hk : Keep sK s) : Keep sK (State.slotSync s) := by
  unfold State.slotSync; simp (maxDischargeDepth := 60) [hk]

@[simp] theorem State.setImg_keep (sK : State) (s : State) (slot ty idx : Nat) (x : Image) (hk : Keep sK s) :
    Keep sK (State.setImg s slot ty idx x) := by
  unfold State.setImg; simp (maxDischargeDepth := 60) [hk]

@[simp] theorem State.setBoot_keep (sK : State) (s : State) (b : Boot) (hk : Keep sK s) :
    Keep sK (State.setBoot s b) := by
  unfold State.setBoot; simp (maxDischargeDepth := 60) [hk]

@[simp] theorem State.raiseFloor_keep (sK : State) (s : State) (ty idx c : Nat) (hk : Keep sK s) :
    Keep sK (State.raiseFloor s ty idx c) := by
  unfold State.raiseFloor; simp (maxDischargeDepth := 60) [hk]

@[simp] theorem State.confirmFloor_keep (sK : State) (s : State) (ty idx : Nat) (hk : Keep sK s) :
    Keep sK (State.confirmFloor s ty idx) := by
  unfold State.confirmFloor; simp (maxDischargeDepth := 60) [hk]

@[simp] theorem State.confirmSlot_keep (sK : State) (s : State) (k : Nat) (hk : Keep sK s) :
    Keep sK (State.confirmSlot s k) := by
  unfold State.confirmSlot; simp (maxDischargeDepth := 60) [hk]

@[simp] theorem State.setSess_keep (sK : State) (s : State) (x : Option Sess) (hk : Keep sK s) :
    Keep sK (State.setSess s x) := by
  unfold State.setSess; split <;> simp (maxDischargeDepth := 60) [hk]

@[simp] theorem State.sessOpen_keep (sK : State) (s : State) (ty idx slot : Nat) (hk : Keep sK s) :
    Keep sK (State.sessOpen s ty idx slot) := by
  unfold State.sessOpen; simp (maxDischargeDepth := 60) [hk]

@[simp] theorem State.sessClose_keep (sK : State) (s : State) (hk : Keep sK s) : Keep sK (State.sessClose s) := by
  unfold State.sessClose; simp (maxDischargeDepth := 60) [hk]

@[simp] theorem State.sessWrite_keep (sK : State) (s : State) (off : Nat) (bs : List Byte) (hk : Keep sK s) :
    Keep sK (State.sessWrite s off bs).1 := by
  unfold State.sessWrite; split <;> simp (maxDischargeDepth := 60) [hk]

@[simp] theorem State.sessFinish_keep (sK : State) (s : State) (y : Sess) (sig : Bool) (hk : Keep sK s) :
    Keep sK (State.sessFinish s y sig).1 := by
  unfold State.sessFinish; simp (maxDischargeDepth := 60) [hk]

@[simp] theorem State.updIntake_keep (sK : State) (s : State) (bs : List Byte) (hk : Keep sK s) :
    Keep sK (State.updIntake s bs) := by
  unfold State.updIntake; split <;> simp (maxDischargeDepth := 60) [hk]

/-! ## DpyCore -/

@[simp] theorem State.setDpy_keep (sK : State) (s : State) (d : Dpy) (hk : Keep sK s) :
    Keep sK (State.setDpy s d) := by
  unfold State.setDpy; simp (maxDischargeDepth := 60) [hk]

@[simp] theorem State.setRects_keep (sK : State) (s : State) (p : Nat) (l : List DRect) (hk : Keep sK s) :
    Keep sK (State.setRects s p l) := by
  unfold State.setRects; simp (maxDischargeDepth := 60) [hk]

@[simp] theorem State.dirtyRead_keep (sK : State) (s : State) (ok : Bool) (hk : Keep sK s) :
    Keep sK (State.dirtyRead s ok) := by
  unfold State.dirtyRead; simp (maxDischargeDepth := 60) [hk]

@[simp] theorem State.markDirty_keep (sK : State) (s : State) (a : Area) (hk : Keep sK s) :
    Keep sK (State.markDirty s a) := by
  unfold State.markDirty; simp (maxDischargeDepth := 60) [hk]

@[simp] theorem State.markAll_keep (sK : State) (s : State) (hk : Keep sK s) : Keep sK (State.markAll s) := by
  unfold State.markAll; simp (maxDischargeDepth := 60) [hk]

@[simp] theorem State.emptyDirty_keep (sK : State) (s : State) (hk : Keep sK s) : Keep sK (State.emptyDirty s) := by
  unfold State.emptyDirty; simp (maxDischargeDepth := 60) [hk]

@[simp] theorem State.rectEnd_keep (sK : State) (s : State) (r : DRect) (status result : Nat) (hk : Keep sK s) :
    Keep sK (State.rectEnd s r status result) := by
  unfold State.rectEnd; (try dsimp only); repeat' split
  all_goals simp (maxDischargeDepth := 60) [hk]

@[simp] theorem State.rectAbort_keep (sK : State) (s : State) (r : DRect) (hk : Keep sK s) :
    Keep sK (State.rectAbort s r) := by
  unfold State.rectAbort; simp (maxDischargeDepth := 60) [hk]

@[simp] theorem State.rectStop_keep (sK : State) (s : State) (r : DRect) (hk : Keep sK s) :
    Keep sK (State.rectStop s r) := by
  unfold State.rectStop; simp (maxDischargeDepth := 60) [hk]

@[simp] theorem State.railsFall_keep (sK : State) (s : State) (hk : Keep sK s) : Keep sK (State.railsFall s) := by
  unfold State.railsFall; simp (maxDischargeDepth := 60) [hk]

@[simp] theorem State.railsStop_keep (sK : State) (s : State) (hk : Keep sK s) : Keep sK (State.railsStop s) := by
  unfold State.railsStop; simp (maxDischargeDepth := 60) [hk]

@[simp] theorem State.dpyPowerFail_keep (sK : State) (s : State) (draw : Nat) (low : Bool) (hk : Keep sK s) :
    Keep sK (State.dpyPowerFail s draw low) := by
  unfold State.dpyPowerFail; simp (maxDischargeDepth := 60) [hk]

@[simp] theorem State.dpyDiscard_keep (sK : State) (s : State) (k : Nat) (hk : Keep sK s) :
    Keep sK (State.dpyDiscard s k) := by
  unfold State.dpyDiscard; simp (maxDischargeDepth := 60) [hk]

@[simp] theorem State.railsUp_keep (sK : State) (s : State) (hk : Keep sK s) : Keep sK (State.railsUp s) := by
  unfold State.railsUp; simp (maxDischargeDepth := 60) [hk]

@[simp] theorem State.flyClears_keep (sK : State) (s : State) (hk : Keep sK s) : Keep sK (State.flyClears s) := by
  unfold State.flyClears; simp (maxDischargeDepth := 60) [hk]

@[simp] theorem State.flyHeld_keep (sK : State) (s : State) (xs : Nat) (hk : Keep sK s) :
    Keep sK (State.flyHeld s xs) := by
  induction xs generalizing s <;> unfold State.flyHeld <;> (try dsimp only) <;> (repeat' split) <;> simp (maxDischargeDepth := 60) [*]

@[simp] theorem State.flyB_keep (sK : State) (s : State) (hk : Keep sK s) : Keep sK (State.flyB s) := by
  unfold State.flyB; simp (maxDischargeDepth := 60) [hk]

@[simp] theorem State.dpyIntake_keep (sK : State) (s : State) (p : Nat) (bs : List Byte) (hk : Keep sK s) :
    Keep sK (State.dpyIntake s p bs) := by
  unfold State.dpyIntake; (try dsimp only); repeat' split
  all_goals simp (maxDischargeDepth := 60) [hk]

@[simp] theorem State.epdCopy_keep (sK : State) (s : State) (hk : Keep sK s) : Keep sK (State.epdCopy s) := by
  unfold State.epdCopy; simp (maxDischargeDepth := 60) [hk]

/-! ## VisCore -/

@[simp] theorem State.relock_keep (sK : State) (s : State) (c : Nat) (hk : Keep sK s) :
    Keep sK (State.relock s c) := by
  unfold State.relock; simp (maxDischargeDepth := 60) [hk]

@[simp] theorem State.lampMoved_keep (sK : State) (s : State) (n : Nat) (hk : Keep sK s) :
    Keep sK (State.lampMoved s n) := by
  unfold State.lampMoved; simp (maxDischargeDepth := 60) [hk]

/-! ## Display -/

theorem execRect_keep (t : Nat) (r : Fin 64) (s : State) : OutKeep (s.at t) (execRect t r s) := by
  unfold execRect; simp (maxDischargeDepth := 60)

theorem execRectFetchDone_keep (t : Nat) (p : Fin 2) (buf : List Byte) (s : State) :
    OutKeep (s.at t) (execRectFetchDone t p buf s) := by
  unfold execRectFetchDone; (try dsimp only); repeat' split
  all_goals simp (maxDischargeDepth := 60)

@[simp] theorem State.takeCfgA_keep (sK : State) (s : State) (hk : Keep sK s) : Keep sK (State.takeCfgA s) := by
  unfold State.takeCfgA; simp (maxDischargeDepth := 60) [hk]

@[simp] theorem State.takeWindows_keep (sK : State) (s : State) (hk : Keep sK s) : Keep sK (State.takeWindows s) := by
  unfold State.takeWindows; simp (maxDischargeDepth := 60) [hk]

theorem execPortAFrameStart_keep (t : Nat) (s : State) : OutKeep (s.at t) (execPortAFrameStart t s) := by
  unfold execPortAFrameStart; simp (maxDischargeDepth := 60)

@[simp] theorem State.umapCheck_keep (sK : State) (s : State) (hk : Keep sK s) : Keep sK (State.umapCheck s) := by
  unfold State.umapCheck; simp (maxDischargeDepth := 60) [hk]

theorem execHpdRise_keep (t : Nat) (s : State) : OutKeep (s.at t) (execHpdRise t s) := by
  unfold execHpdRise; simp (maxDischargeDepth := 60)

theorem execEdpTrainingResult_keep (t : Nat) (geo : Option (Nat × Nat)) (vrr : Bool) (s : State) :
    OutKeep (s.at t) (execEdpTrainingResult t geo vrr s) := by
  unfold execEdpTrainingResult; split <;> simp (maxDischargeDepth := 60)

@[simp] theorem State.portAOn_keep (sK : State) (s : State) (umap : Option (List Byte)) (hk : Keep sK s) :
    Keep sK (State.portAOn s umap) := by
  unfold State.portAOn; simp (maxDischargeDepth := 60) [hk]

@[simp] theorem State.portAOff_keep (sK : State) (s : State) (hk : Keep sK s) : Keep sK (State.portAOff s) := by
  unfold State.portAOff; simp (maxDischargeDepth := 60) [hk]

@[simp] theorem State.dpyStored_keep (sK : State) (s : State) (off : Nat) (v : Word) (hk : Keep sK s) :
    Keep sK (State.dpyStored s off v) := by
  unfold State.dpyStored; simp (maxDischargeDepth := 60) [hk]

theorem execPortAPowerOff_keep (t : Nat) (s : State) : OutKeep (s.at t) (execPortAPowerOff t s) := by
  unfold execPortAPowerOff; simp (maxDischargeDepth := 60)

theorem execCrackMeasure_keep (t : Nat) (res : Nat) (s : State) : OutKeep (s.at t) (execCrackMeasure t res s) := by
  unfold execCrackMeasure; simp (maxDischargeDepth := 60)

@[simp] theorem State.beginWaves_keep (sK : State) (s : State) (hk : Keep sK s) : Keep sK (State.beginWaves s) := by
  unfold State.beginWaves; simp (maxDischargeDepth := 60) [hk]

theorem execPortBFrameStart_keep (t : Nat) (s : State) : OutKeep (s.at t) (execPortBFrameStart t s) := by
  unfold execPortBFrameStart; simp (maxDischargeDepth := 60)

@[simp] theorem State.waveEnd_keep (sK : State) (s : State) (r : DRect) (hk : Keep sK s) :
    Keep sK (State.waveEnd s r) := by
  unfold State.waveEnd; split <;> simp (maxDischargeDepth := 60) [hk]

@[simp] theorem State.clearsEnd_keep (sK : State) (s : State) (hk : Keep sK s) : Keep sK (State.clearsEnd s) := by
  unfold State.clearsEnd; simp (maxDischargeDepth := 60) [hk]

theorem execWaveformComplete_keep (t : Nat) (s : State) : OutKeep (s.at t) (execWaveformComplete t s) := by
  unfold execWaveformComplete; simp (maxDischargeDepth := 60)

@[simp] theorem State.railsAgain_keep (sK : State) (s : State) (hk : Keep sK s) : Keep sK (State.railsAgain s) := by
  unfold State.railsAgain; simp (maxDischargeDepth := 60) [hk]

theorem execRailFault_keep (t : Nat) (s : State) : OutKeep (s.at t) (execRailFault t s) := by
  unfold execRailFault; simp (maxDischargeDepth := 60)

theorem execRailHoldEnd_keep (t : Nat) (s : State) : OutKeep (s.at t) (execRailHoldEnd t s) := by
  unfold execRailHoldEnd; (try dsimp only); repeat' split
  all_goals simp (maxDischargeDepth := 60)

@[simp] theorem State.panelSeen_keep (sK : State) (s : State) (present : Bool) (temp : Option Int) (hk : Keep sK s) :
    Keep sK (State.panelSeen s present temp) := by
  unfold State.panelSeen; (try dsimp only); repeat' split
  all_goals simp (maxDischargeDepth := 60) [hk]

theorem execEpdPanelPoll_keep (t : Nat) (present : Bool) (temp : Option Int) (s : State) :
    OutKeep (s.at t) (execEpdPanelPoll t present temp s) := by
  unfold execEpdPanelPoll; simp (maxDischargeDepth := 60)

theorem execStoreCrcCheck_keep (t : Nat) (bad : List (Nat × Nat)) (s : State) :
    OutKeep (s.at t) (execStoreCrcCheck t bad s) := by
  unfold execStoreCrcCheck; simp (maxDischargeDepth := 60)

theorem execStoreFlashCopy_keep (t : Nat) (s : State) : OutKeep (s.at t) (execStoreFlashCopy t s) := by
  unfold execStoreFlashCopy; simp (maxDischargeDepth := 60)

theorem execFinalImageCutoff_keep (t : Nat) (s : State) : OutKeep (s.at t) (execFinalImageCutoff t s) := by
  unfold execFinalImageCutoff; (try dsimp only); repeat' split
  all_goals simp (maxDischargeDepth := 60)

@[simp] theorem State.storeLoad_keep (sK : State) (s : State) (ok : Bool) (hk : Keep sK s) :
    Keep sK (State.storeLoad s ok) := by
  unfold State.storeLoad; simp (maxDischargeDepth := 60) [hk]

@[simp] theorem State.portBStart_keep (sK : State) (s : State) (present : Bool) (temp : Option Int) (waves : Option (List Byte)) (copyOk mapOk : Bool) (hk : Keep sK s) :
    Keep sK (State.portBStart s present temp waves copyOk mapOk) := by
  unfold State.portBStart; simp (maxDischargeDepth := 60) [hk]

/-! ## Bus -/

theorem execScrubPass_keep (t : Nat) (ecc : List EccHit) (s : State) : OutKeep (s.at t) (execScrubPass t ecc s) := by
  unfold execScrubPass; simp (maxDischargeDepth := 60)

theorem execUnmappedBar0Access_keep (t : Nat) (off : Nat) (s : State) :
    OutKeep (s.at t) (execUnmappedBar0Access t off s) := by
  unfold execUnmappedBar0Access; simp (maxDischargeDepth := 60)

@[simp] theorem State.bar2Flag_keep (sK : State) (s : State) (off len : Nat) (hk : Keep sK s) :
    Keep sK (State.bar2Flag s off len) := by
  unfold State.bar2Flag; simp (maxDischargeDepth := 60) [hk]

theorem execBar2Read_keep (t : Nat) (off len : Nat) (ecc : List EccHit) (s : State) :
    OutKeep (s.at t) (execBar2Read t off len ecc s) := by
  unfold execBar2Read; simp (maxDischargeDepth := 60)

theorem execBar2Write_keep (t : Nat) (off : Nat) (bs : List Byte) (ecc : List EccHit) (s : State) :
    OutKeep (s.at t) (execBar2Write t off bs ecc s) := by
  unfold execBar2Write; simp (maxDischargeDepth := 60)

theorem execSysBar2BaseWrite_keep (t : Nat) (v : Word) (s : State) :
    OutKeep (s.at t) (execSysBar2BaseWrite t v s) := by
  unfold execSysBar2BaseWrite; simp (maxDischargeDepth := 60)

/-! ## Recorder -/

@[simp] theorem State.setRecr_keep (sK : State) (s : State) (r : Recorder) (hk : Keep sK s) :
    Keep sK (State.setRecr s r) := by
  unfold State.setRecr; simp (maxDischargeDepth := 60) [hk]

theorem execFaultPersisting_keep (t : Nat) (code detail : Nat) (s : State) :
    OutKeep (s.at t) (execFaultPersisting t code detail s) := by
  unfold execFaultPersisting; (try dsimp only); repeat' split
  all_goals simp (maxDischargeDepth := 60)

theorem execCroakToggle_keep (t : Nat) (s : State) : OutKeep (s.at t) (execCroakToggle t s) := by
  unfold execCroakToggle; simp (maxDischargeDepth := 60)

theorem execFaultFill_keep (t : Nat) (r : Fin 64) (s : State) : OutKeep (s.at t) (execFaultFill t r s) := by
  unfold execFaultFill; simp (maxDischargeDepth := 60)

@[simp] theorem State.flushBegin_keep (sK : State) (s : State) (hk : Keep sK s) : Keep sK (State.flushBegin s) := by
  unfold State.flushBegin; simp (maxDischargeDepth := 60) [hk]

theorem execFlushPeriodEnd_keep (t : Nat) (s : State) : OutKeep (s.at t) (execFlushPeriodEnd t s) := by
  unfold execFlushPeriodEnd; simp (maxDischargeDepth := 60)

@[simp] theorem State.recClear_keep (sK : State) (s : State) (issued : Nat) (hk : Keep sK s) :
    Keep sK (State.recClear s issued) := by
  unfold State.recClear; simp (maxDischargeDepth := 60) [hk]

@[simp] theorem State.storeEntries_keep (sK : State) (s : State) (l : List RecEntry) (hk : Keep sK s) :
    Keep sK (State.storeEntries s l) := by
  unfold State.storeEntries; simp (maxDischargeDepth := 60) [hk]

@[simp] theorem State.flushFinish_keep (sK : State) (s : State) (hk : Keep sK s) : Keep sK (State.flushFinish s) := by
  unfold State.flushFinish; (try dsimp only); repeat' split
  all_goals simp (maxDischargeDepth := 60) [hk]

theorem execFlushEnd_keep (t : Nat) (s : State) : OutKeep (s.at t) (execFlushEnd t s) := by
  unfold execFlushEnd; simp (maxDischargeDepth := 60)

theorem execRecRead_keep (t : Nat) (r : Fin 64) (ecc : List (Nat × EccHit)) (s : State) :
    OutKeep (s.at t) (execRecRead t r ecc s) := by
  unfold execRecRead; simp (maxDischargeDepth := 60)

theorem execFlush_keep (t : Nat) (r : Fin 64) (s : State) : OutKeep (s.at t) (execFlush t r s) := by
  unfold execFlush; simp (maxDischargeDepth := 60)

theorem execMark_keep (t : Nat) (r : Fin 64) (buf : List Word) (s : State) :
    OutKeep (s.at t) (execMark t r buf s) := by
  unfold execMark; simp (maxDischargeDepth := 60)

theorem execSnap_keep (t : Nat) (r : Fin 64) (s : State) : OutKeep (s.at t) (execSnap t r s) := by
  unfold execSnap; simp (maxDischargeDepth := 60)

theorem execChallenge_keep (t : Nat) (r : Fin 64) (s : State) : OutKeep (s.at t) (execChallenge t r s) := by
  unfold execChallenge; simp (maxDischargeDepth := 60)

theorem execChallengeExpiry_keep (t : Nat) (s : State) : OutKeep (s.at t) (execChallengeExpiry t s) := by
  unfold execChallengeExpiry; (try dsimp only); repeat' split
  all_goals simp (maxDischargeDepth := 60)

theorem execClear_keep (t : Nat) (r : Fin 64) (ok : Bool) (s : State) : OutKeep (s.at t) (execClear t r ok s) := by
  unfold execClear; (try dsimp only)
  refine State.ringOp_keep _ _ _ _ _ _ _ (by simp (maxDischargeDepth := 60)) ?_
  intro s d; (try dsimp only); repeat' split
  all_goals simp (maxDischargeDepth := 60)

end Sys2Proof.Machine
end

