-- ==== Sys2Proof/Laws/KeepLoops.lean ====
section
/-! SUPPORT. Loops, events, shafts, grounds and sensors keep the queue, the time and the canonical form: one law for
each operation (Laws/Keep.lean says what is kept). -/

set_option linter.all false

namespace Sys2Proof.Machine

/-! ## CleCore -/

@[simp] theorem State.setLoop_keep (sK : State) (s : State) (n : Nat) (l : Loop) (hk : Keep sK s) :
    Keep sK (State.setLoop s n l) := by
  unfold State.setLoop; simp (maxDischargeDepth := 60) [hk]

@[simp] theorem State.setPool_keep (sK : State) (s : State) (i : Nat) (w : Word) (hk : Keep sK s) :
    Keep sK (State.setPool s i w) := by
  unfold State.setPool; simp (maxDischargeDepth := 60) [hk]

@[simp] theorem State.gecko_keep (sK : State) (s : State) (n : Nat) (flags : Nat) (hk : Keep sK s) :
    Keep sK (State.gecko s n flags) := by
  unfold State.gecko; simp (maxDischargeDepth := 60) [hk]

@[simp] theorem State.dropTgtOps_keep (sK : State) (s : State) (n : Nat) (hk : Keep sK s) :
    Keep sK (State.dropTgtOps s n) := by
  unfold State.dropTgtOps; (try dsimp only); repeat' split
  all_goals (repeat' first | exact hk | (apply keep_foldl) | simp (maxDischargeDepth := 60) [hk] | (intro s a; (try dsimp only); repeat' split))

@[simp] theorem State.countIgn_keep (sK : State) (s : State) (n : Nat) (hk : Keep sK s) :
    Keep sK (State.countIgn s n) := by
  unfold State.countIgn; simp (maxDischargeDepth := 60) [hk]

@[simp] theorem State.writeTarget_keep (sK : State) (s : State) (n src : Nat) (v : Int) (op : Option (Nat × Nat)) (hk : Keep sK s) :
    Keep sK (State.writeTarget s n src v op) := by
  unfold State.writeTarget; simp (maxDischargeDepth := 60) [hk]

@[simp] theorem State.tgtTaken_keep (sK : State) (s : State) (n trig : Nat) (sat : Bool) (o : Nat × Nat) (hk : Keep sK s) :
    Keep sK (State.tgtTaken s n trig sat o) := by
  unfold State.tgtTaken; split <;> simp (maxDischargeDepth := 60) [hk]

@[simp] theorem State.takeTarget_keep (sK : State) (s : State) (n trig : Nat) (hk : Keep sK s) :
    Keep sK (State.takeTarget s n trig) := by
  unfold State.takeTarget; (try dsimp only); repeat' split
  all_goals simp (maxDischargeDepth := 60) [hk]

@[simp] theorem State.loopShift_keep (sK : State) (s : State) (n : Nat) (hk : Keep sK s) :
    Keep sK (State.loopShift s n) := by
  unfold State.loopShift; simp (maxDischargeDepth := 60) [hk]

@[simp] theorem State.loopCopy_keep (sK : State) (s : State) (n : Nat) (hk : Keep sK s) :
    Keep sK (State.loopCopy s n) := by
  unfold State.loopCopy; simp (maxDischargeDepth := 60) [hk]

@[simp] theorem State.loopsStep_keep (sK : State) (s : State) (old : Nat) (hk : Keep sK s) :
    Keep sK (State.loopsStep s old) := by
  unfold State.loopsStep; simp (maxDischargeDepth := 60) [hk]

@[simp] theorem State.loopWrite_keep (sK : State) (s : State) (n : Nat) (ws : List Word) (hk : Keep sK s) :
    Keep sK (State.loopWrite s n ws) := by
  unfold State.loopWrite; simp (maxDischargeDepth := 60) [hk]

@[simp] theorem State.loopCommit_keep (sK : State) (s : State) (n : Nat) (hk : Keep sK s) :
    Keep sK (State.loopCommit s n) := by
  unfold State.loopCommit; simp (maxDischargeDepth := 60) [hk]

@[simp] theorem State.sendTmpl_keep (sK : State) (s : State) (n m : Nat) (code : Int) (hk : Keep sK s) :
    Keep sK (State.sendTmpl s n m code) := by
  unfold State.sendTmpl; (try dsimp only); repeat' split
  all_goals simp (maxDischargeDepth := 60) [hk]

@[simp] theorem State.deliverOut_keep (sK : State) (s : State) (n : Nat) (code : Int) (hk : Keep sK s) :
    Keep sK (State.deliverOut s n code) := by
  unfold State.deliverOut; simp (maxDischargeDepth := 60) [hk]

@[simp] theorem State.loopLag_keep (sK : State) (s : State) (n m : Nat) (hk : Keep sK s) :
    Keep sK (State.loopLag s n m) := by
  unfold State.loopLag; simp (maxDischargeDepth := 60) [hk]

@[simp] theorem State.evalLaw_keep (sK : State) (s : State) (n trig : Nat) (raw : Int) (hk : Keep sK s) :
    Keep sK (State.evalLaw s n trig raw) := by
  unfold State.evalLaw; simp (maxDischargeDepth := 60) [hk]

@[simp] theorem State.evaluated_keep (sK : State) (s : State) (n : Nat) (raw : Int) (trig m : Nat) (own : Bool) (hk : Keep sK s) :
    Keep sK (State.evaluated s n raw trig m own) := by
  unfold State.evaluated; simp (maxDischargeDepth := 60) [hk]

@[simp] theorem State.evaluate_keep (sK : State) (s : State) (n : Nat) (raw : Int) (trig m : Nat) (own : Bool) (hk : Keep sK s) :
    OutKeep sK (State.evaluate s n raw trig m own) := by
  unfold State.evaluate; simp (maxDischargeDepth := 60) [hk]

/-! ## Cle -/

theorem execLoadWindowEnd_keep (t : Nat) (s : State) : OutKeep (s.at t) (execLoadWindowEnd t s) := by
  unfold execLoadWindowEnd; simp (maxDischargeDepth := 60)

@[simp] theorem State.toLane_keep (sK : State) (s : State) (n : Nat) (hk : Keep sK s) :
    Keep sK (State.toLane s n) := by
  unfold State.toLane; simp (maxDischargeDepth := 60) [hk]

@[simp] theorem State.slotStart_keep (sK : State) (s : State) (n : Nat) (hk : Keep sK s) :
    OutKeep sK (State.slotStart s n) := by
  unfold State.slotStart; (try dsimp only); repeat' split
  all_goals simp (maxDischargeDepth := 60) [hk]

theorem execLoopEvaluation_keep (t : Nat) (n : Fin 64) (ecc : List EccHit) (s : State) :
    OutKeep (s.at t) (execLoopEvaluation t n ecc s) := by
  unfold execLoopEvaluation; (try dsimp only); repeat' split
  all_goals simp (maxDischargeDepth := 60)

theorem execCatchupEvaluation_keep (t : Nat) (n : Fin 64) (s : State) :
    OutKeep (s.at t) (execCatchupEvaluation t n s) := by
  unfold execCatchupEvaluation; (try dsimp only); repeat' split
  all_goals simp (maxDischargeDepth := 60)

theorem execLoopHandover_keep (t : Nat) (n : Fin 64) (s : State) : OutKeep (s.at t) (execLoopHandover t n s) := by
  unfold execLoopHandover; simp (maxDischargeDepth := 60)

theorem execSetTarget_keep (t : Nat) (r : Fin 64) (s : State) : OutKeep (s.at t) (execSetTarget t r s) := by
  unfold execSetTarget; simp (maxDischargeDepth := 60)

theorem execSetTargets_keep (t : Nat) (r : Fin 64) (buf : List Word) (s : State) :
    OutKeep (s.at t) (execSetTargets t r buf s) := by
  unfold execSetTargets; simp (maxDischargeDepth := 60)

theorem execCleWrite_keep (t : Nat) (r : Fin 64) (buf : List Word) (s : State) :
    OutKeep (s.at t) (execCleWrite t r buf s) := by
  unfold execCleWrite; simp (maxDischargeDepth := 60)

theorem execCleCommit_keep (t : Nat) (r : Fin 64) (s : State) : OutKeep (s.at t) (execCleCommit t r s) := by
  unfold execCleCommit; simp (maxDischargeDepth := 60)

theorem execCleRead_keep (t : Nat) (r : Fin 64) (s : State) : OutKeep (s.at t) (execCleRead t r s) := by
  unfold execCleRead; simp (maxDischargeDepth := 60)

@[simp] theorem State.loopClear_keep (sK : State) (s : State) (n : Nat) (hk : Keep sK s) :
    Keep sK (State.loopClear s n) := by
  unfold State.loopClear; simp (maxDischargeDepth := 60) [hk]

theorem execClearState_keep (t : Nat) (r : Fin 64) (s : State) : OutKeep (s.at t) (execClearState t r s) := by
  unfold execClearState; simp (maxDischargeDepth := 60)

theorem execPoolWrite_keep (t : Nat) (r : Fin 64) (buf : List Word) (s : State) :
    OutKeep (s.at t) (execPoolWrite t r buf s) := by
  unfold execPoolWrite; simp (maxDischargeDepth := 60)

theorem execPoolRead_keep (t : Nat) (r : Fin 64) (s : State) : OutKeep (s.at t) (execPoolRead t r s) := by
  unfold execPoolRead; simp (maxDischargeDepth := 60)

@[simp] theorem State.winCmd_keep (sK : State) (s : State) (k : State → Nat → Out) (hk : Keep sK s)
    (hf : ∀ s n, OutKeep s (k s n)) : OutKeep sK (s.winCmd k) := by
  unfold State.winCmd
  split
  · simp [hk]
  · have h := OutKeep.trans hk (hf s (s.rd CLE_WIN_IDX CLE_WIN_IDX_loop))
    cases e : k s (s.rd CLE_WIN_IDX CLE_WIN_IDX_loop) with
    | next u => simp [h u e]
    | fault f => simp
    | refused f => simp

@[simp] theorem State.setWinData_keep (sK : State) (s : State) (ws : List Word) (hk : Keep sK s) :
    Keep sK (State.setWinData s ws) := by
  unfold State.setWinData; simp (maxDischargeDepth := 60) [hk]

@[simp] theorem State.winWrite_keep (sK : State) (s : State) (commit : Bool) (hk : Keep sK s) :
    OutKeep sK (State.winWrite s commit) := by
  unfold State.winWrite; simp (maxDischargeDepth := 60) [hk]

@[simp] theorem State.winRead_keep (sK : State) (s : State) (item : Nat) (hk : Keep sK s) :
    OutKeep sK (State.winRead s item) := by
  unfold State.winRead; simp (maxDischargeDepth := 60) [hk]

theorem execWinWriteShadow_keep (t : Nat) (s : State) : OutKeep (s.at t) (execWinWriteShadow t s) := by
  unfold execWinWriteShadow; simp (maxDischargeDepth := 60)

theorem execWinWriteCommit_keep (t : Nat) (s : State) : OutKeep (s.at t) (execWinWriteCommit t s) := by
  unfold execWinWriteCommit; simp (maxDischargeDepth := 60)

theorem execWinReadShadow_keep (t : Nat) (s : State) : OutKeep (s.at t) (execWinReadShadow t s) := by
  unfold execWinReadShadow; simp (maxDischargeDepth := 60)

theorem execWinReadActive_keep (t : Nat) (s : State) : OutKeep (s.at t) (execWinReadActive t s) := by
  unfold execWinReadActive; simp (maxDischargeDepth := 60)

theorem execWinReadRunState_keep (t : Nat) (s : State) : OutKeep (s.at t) (execWinReadRunState t s) := by
  unfold execWinReadRunState; simp (maxDischargeDepth := 60)

theorem execWinClearState_keep (t : Nat) (s : State) : OutKeep (s.at t) (execWinClearState t s) := by
  unfold execWinClearState; simp (maxDischargeDepth := 60)

theorem execPoolDataAccess_keep (t : Nat) (v : Option Word) (s : State) :
    OutKeep (s.at t) (execPoolDataAccess t v s) := by
  unfold execPoolDataAccess; split <;> simp (maxDischargeDepth := 60)

/-! ## EvCore -/

@[simp] theorem State.mapDom_keep (sK : State) (s : State) (d : Nat) (f : EvEntry → EvEntry) (hk : Keep sK s) :
    Keep sK (State.mapDom s d f) := by
  unfold State.mapDom; simp (maxDischargeDepth := 60) [hk]

@[simp] theorem State.course_keep (sK : State) (s : State) (d : Nat) (f : State → State) (hk : Keep sK s)
    (hf : ∀ s, Keep s (f s)) : Keep sK (s.course d f) := by
  unfold State.course
  dsimp only
  refine State.latchDue_keep _ _ _ _ (State.mapDom_keep _ _ _ _ (Keep.trans ?_ (hf _)))
  exact State.latchDue_keep _ _ _ _ (State.mapDom_keep _ _ _ _ (State.keepBefore_keep _ _ _ hk))

@[simp] theorem State.hslArm_keep (sK : State) (s : State) (hk : Keep sK s) : Keep sK (State.hslArm s) := by
  unfold State.hslArm; simp (maxDischargeDepth := 60) [hk]

@[simp] theorem State.hslJump_keep (sK : State) (s : State) (d : Nat) (delta : Int) (hk : Keep sK s) :
    Keep sK (State.hslJump s d delta) := by
  unfold State.hslJump; simp (maxDischargeDepth := 60) [hk]

@[simp] theorem State.firstSync_keep (sK : State) (s : State) (d : Nat) (hk : Keep sK s) :
    Keep sK (State.firstSync s d) := by
  unfold State.firstSync; simp (maxDischargeDepth := 60) [hk]

@[simp] theorem State.jump_keep (sK : State) (s : State) (d : Nat) (old delta : Int) (hk : Keep sK s) :
    Keep sK (State.jump s d old delta) := by
  unfold State.jump; simp (maxDischargeDepth := 60) [hk]

@[simp] theorem State.evShift_keep (sK : State) (s : State) (i : Nat) (hk : Keep sK s) :
    Keep sK (State.evShift s i) := by
  unfold State.evShift; simp (maxDischargeDepth := 60) [hk]

@[simp] theorem State.evCopy_keep (sK : State) (s : State) (i : Nat) (strict : Bool) (hk : Keep sK s) :
    Keep sK (State.evCopy s i strict) := by
  unfold State.evCopy; simp (maxDischargeDepth := 60) [hk]

@[simp] theorem State.evWrite_keep (sK : State) (s : State) (i : Nat) (ws : List Word) (hk : Keep sK s) :
    Keep sK (State.evWrite s i ws) := by
  unfold State.evWrite; simp (maxDischargeDepth := 60) [hk]

@[simp] theorem State.evCommit_keep (sK : State) (s : State) (i mode : Nat) (hk : Keep sK s) :
    Keep sK (State.evCommit s i mode) := by
  unfold State.evCommit; simp (maxDischargeDepth := 60) [hk]

@[simp] theorem State.evDisarm_keep (sK : State) (s : State) (i : Nat) (hk : Keep sK s) :
    Keep sK (State.evDisarm s i) := by
  unfold State.evDisarm; simp (maxDischargeDepth := 60) [hk]

/-! ## Shafts -/

@[simp] theorem State.shaftSeek_keep (sK : State) (s : State) (k : Nat) (hk : Keep sK s) :
    Keep sK (State.shaftSeek s k) := by
  unfold State.shaftSeek; simp (maxDischargeDepth := 60) [hk]

theorem execShaftEnable_keep (t : Nat) (k : Fin 8) (v : Word) (s : State) :
    OutKeep (s.at t) (execShaftEnable t k v s) := by
  unfold execShaftEnable; simp (maxDischargeDepth := 60)

@[simp] theorem State.shaftUnsync_keep (sK : State) (s : State) (k : Nat) (hk : Keep sK s) :
    Keep sK (State.shaftUnsync s k) := by
  unfold State.shaftUnsync; simp (maxDischargeDepth := 60) [hk]

theorem execShaftDisable_keep (t : Nat) (k : Fin 8) (v : Word) (s : State) :
    OutKeep (s.at t) (execShaftDisable t k v s) := by
  unfold execShaftDisable; simp (maxDischargeDepth := 60)

@[simp] theorem State.shaftReport_keep (sK : State) (s : State) (k : Nat) (c : ShaftCfg) (hk : Keep sK s) :
    Keep sK (State.shaftReport s k c) := by
  unfold State.shaftReport; simp (maxDischargeDepth := 60) [hk]

@[simp] theorem State.shaftFound_keep (sK : State) (s : State) (k : Nat) (c : ShaftCfg) (f : EdgeFinding) (h : Shaft) (p : Option Nat) (hk : Keep sK s) :
    Keep sK (State.shaftFound s k c f h p) := by
  unfold State.shaftFound; split <;> simp (maxDischargeDepth := 60) [hk]

theorem execShaftEdge_keep (t : Nat) (k : Fin 8) (edge : ShaftEdge) (s : State) :
    OutKeep (s.at t) (execShaftEdge t k edge s) := by
  unfold execShaftEdge; simp (maxDischargeDepth := 60)

theorem execShaftIndexPulse_keep (t : Nat) (k : Fin 8) (s : State) :
    OutKeep (s.at t) (execShaftIndexPulse t k s) := by
  unfold execShaftIndexPulse; simp (maxDischargeDepth := 60)

theorem execShaftStall_keep (t : Nat) (k : Fin 8) (s : State) : OutKeep (s.at t) (execShaftStall t k s) := by
  unfold execShaftStall; simp (maxDischargeDepth := 60)

/-! ## Grounds -/

@[simp] theorem State.setGnd_keep (sK : State) (s : State) (g : Ground) (hk : Keep sK s) :
    Keep sK (State.setGnd s g) := by
  unfold State.setGnd; simp (maxDischargeDepth := 60) [hk]

@[simp] theorem State.gndSpeed_keep (sK : State) (s : State) (v : Nat) (hk : Keep sK s) :
    Keep sK (State.gndSpeed s v) := by
  unfold State.gndSpeed; simp (maxDischargeDepth := 60) [hk]

@[simp] theorem State.gndRate_keep (sK : State) (s : State) (rate : Int) (hk : Keep sK s) :
    Keep sK (State.gndRate s rate) := by
  unfold State.gndRate; simp (maxDischargeDepth := 60) [hk]

@[simp] theorem State.gndTurn_keep (sK : State) (s : State) (hk : Keep sK s) : Keep sK (State.gndTurn s) := by
  unfold State.gndTurn; simp (maxDischargeDepth := 60) [hk]

@[simp] theorem State.gndFin_keep (sK : State) (s : State) (n : Nat) (hk : Keep sK s) :
    Keep sK (State.gndFin s n) := by
  unfold State.gndFin; simp (maxDischargeDepth := 60) [hk]

@[simp] theorem State.gndRecalc_keep (sK : State) (s : State) (hk : Keep sK s) : Keep sK (State.gndRecalc s) := by
  unfold State.gndRecalc; simp (maxDischargeDepth := 60) [hk]

theorem execWheelPulse_keep (t n : Nat) (s : State) : OutKeep (s.at t) (execWheelPulse t n s) := by
  unfold execWheelPulse; simp (maxDischargeDepth := 60)

theorem execWheelTimeout_keep (t : Nat) (s : State) : OutKeep (s.at t) (execWheelTimeout t s) := by
  unfold execWheelTimeout; simp (maxDischargeDepth := 60)

theorem execGroundScaleUpdate_keep (t : Nat) (s : State) : OutKeep (s.at t) (execGroundScaleUpdate t s) := by
  unfold execGroundScaleUpdate; simp (maxDischargeDepth := 60)

theorem execGroundCoast_keep (t : Nat) (s : State) : OutKeep (s.at t) (execGroundCoast t s) := by
  unfold execGroundCoast; simp (maxDischargeDepth := 60)

@[simp] theorem State.gndGnss_keep (sK : State) (s : State) (v : Option (Nat × Bool)) (hk : Keep sK s) :
    Keep sK (State.gndGnss s v) := by
  unfold State.gndGnss; split <;> simp (maxDischargeDepth := 60) [hk]

@[simp] theorem State.gndConfig_keep (sK : State) (s : State) (v : Word) (hk : Keep sK s) :
    Keep sK (State.gndConfig s v) := by
  unfold State.gndConfig; simp (maxDischargeDepth := 60) [hk]

theorem execMtimeSnapshotRead_keep (t : Nat) (s : State) : OutKeep (s.at t) (execMtimeSnapshotRead t s) := by
  unfold execMtimeSnapshotRead; simp (maxDischargeDepth := 60)

/-! ## FusCore -/

@[simp] theorem State.setFu_keep (sK : State) (s : State) (u : Nat) (x : FUnit) (hk : Keep sK s) :
    Keep sK (State.setFu s u x) := by
  unfold State.setFu; simp (maxDischargeDepth := 60) [hk]

@[simp] theorem State.setSched_keep (sK : State) (s : State) (k : Nat) (x : Sched) (hk : Keep sK s) :
    Keep sK (State.setSched s k x) := by
  unfold State.setSched; simp (maxDischargeDepth := 60) [hk]

@[simp] theorem State.setYld_keep (sK : State) (s : State) (y : Yield) (hk : Keep sK s) :
    Keep sK (State.setYld s y) := by
  unfold State.setYld; simp (maxDischargeDepth := 60) [hk]

@[simp] theorem State.setMap_keep (sK : State) (s : State) (n k : Nat) (m : HitMap) (hk : Keep sK s) :
    Keep sK (State.setMap s n k m) := by
  unfold State.setMap; simp (maxDischargeDepth := 60) [hk]

@[simp] theorem State.setLoss_keep (sK : State) (s : State) (n : Nat) (x : LossCh) (hk : Keep sK s) :
    Keep sK (State.setLoss s n x) := by
  unfold State.setLoss; simp (maxDischargeDepth := 60) [hk]

@[simp] theorem State.rawRec_keep (sK : State) (s : State) (cap src flags : Nat) (value : Word) (hk : Keep sK s) :
    Keep sK (State.rawRec s cap src flags value) := by
  unfold State.rawRec; simp (maxDischargeDepth := 60) [hk]

@[simp] theorem State.fold_keep (sK : State) (s : State) (x : Arrival) (hk : Keep sK s) :
    Keep sK (State.fold s x) := by
  unfold State.fold; simp (maxDischargeDepth := 60) [hk]

@[simp] theorem State.countLate_keep (sK : State) (s : State) (x : Arrival) (hk : Keep sK s) :
    Keep sK (State.countLate s x) := by
  unfold State.countLate; simp (maxDischargeDepth := 60) [hk]

@[simp] theorem State.sampleIn_keep (sK : State) (s : State) (x : Arrival) (raw : Bool) (flags : Nat) (value : Word) (hk : Keep sK s) :
    Keep sK (State.sampleIn s x raw flags value) := by
  unfold State.sampleIn; simp (maxDischargeDepth := 60) [hk]

theorem execLateSample_keep (t : Nat) (src : Fin 256) (cap : Nat) (v : HeldSample) (value : Word) (s : State) :
    OutKeep (s.at t) (execLateSample t src cap v value s) := by
  unfold execLateSample; simp (maxDischargeDepth := 60)

@[simp] theorem State.headerSeen_keep (sK : State) (s : State) (hk : Keep sK s) : Keep sK (State.headerSeen s) := by
  unfold State.headerSeen; simp (maxDischargeDepth := 60) [hk]

theorem execFuIssue_keep (t : Nat) (u : Fin 16) (s : State) : OutKeep (s.at t) (execFuIssue t u s) := by
  unfold execFuIssue; (try dsimp only); repeat' split
  all_goals simp (maxDischargeDepth := 60)

@[simp] theorem State.fuEnable_keep (sK : State) (s : State) (u : Nat) (hk : Keep sK s) :
    Keep sK (State.fuEnable s u) := by
  unfold State.fuEnable; simp (maxDischargeDepth := 60) [hk]

/-! ## Sensors -/

@[simp] theorem State.setAin_keep (sK : State) (s : State) (n : Nat) (a : Ain) (hk : Keep sK s) :
    Keep sK (State.setAin s n a) := by
  unfold State.setAin; simp (maxDischargeDepth := 60) [hk]

@[simp] theorem State.setFin_keep (sK : State) (s : State) (n : Nat) (f : FreqIn) (hk : Keep sK s) :
    Keep sK (State.setFin s n f) := by
  unfold State.setFin; simp (maxDischargeDepth := 60) [hk]

@[simp] theorem State.ainStart_keep (sK : State) (s : State) (n : Nat) (loops : List Nat) (defer : Bool) (hk : Keep sK s) :
    Keep sK (State.ainStart s n loops defer) := by
  unfold State.ainStart; simp (maxDischargeDepth := 60) [hk]

@[simp] theorem State.ainForget_keep (sK : State) (s : State) (n : Nat) (hk : Keep sK s) :
    Keep sK (State.ainForget s n) := by
  unfold State.ainForget; split <;> simp (maxDischargeDepth := 60) [hk]

@[simp] theorem State.ainTrigger_keep (sK : State) (s : State) (n : Nat) (loops : List Nat) (hk : Keep sK s) :
    Keep sK (State.ainTrigger s n loops) := by
  unfold State.ainTrigger; (try dsimp only); repeat' split
  all_goals simp (maxDischargeDepth := 60) [hk]

theorem execAinPeriodicTrigger_keep (t : Nat) (n : Fin 64) (s : State) :
    OutKeep (s.at t) (execAinPeriodicTrigger t n s) := by
  unfold execAinPeriodicTrigger; simp (maxDischargeDepth := 60)

theorem execAinDeferredConversion_keep (t : Nat) (n : Fin 64) (s : State) :
    OutKeep (s.at t) (execAinDeferredConversion t n s) := by
  unfold execAinDeferredConversion; (try dsimp only); repeat' split
  all_goals simp (maxDischargeDepth := 60)

@[simp] theorem State.loopSample_keep (sK : State) (s : State) (raw : Int) (m : Nat) (hk : Keep sK s) :
    Keep sK (State.loopSample s raw m) := by
  unfold State.loopSample; (try dsimp only); repeat' split
  all_goals simp (maxDischargeDepth := 60) [hk]

theorem execAinConversionDone_keep (t : Nat) (n : Fin 64) (edge : Fin 201) (y : AinLevel) (s : State) :
    OutKeep (s.at t) (execAinConversionDone t n edge y s) := by
  unfold execAinConversionDone; (try dsimp only); repeat' split
  all_goals simp (maxDischargeDepth := 60)

theorem execFinEdge_keep (t : Nat) (n : Fin 24) (x : FinCross) (s : State) :
    OutKeep (s.at t) (execFinEdge t n x s) := by
  unfold execFinEdge; simp (maxDischargeDepth := 60)

theorem execFinDataUpdate_keep (t : Nat) (n : Fin 24) (s : State) : OutKeep (s.at t) (execFinDataUpdate t n s) := by
  unfold execFinDataUpdate; simp (maxDischargeDepth := 60)

@[simp] theorem State.finLatchNew_keep (sK : State) (s : State) (n : Nat) (give : State → Int → State) (hk : Keep sK s)
    (hf : ∀ s i, Keep s (give s i)) : Keep sK (s.finLatchNew n give) := by
  unfold State.finLatchNew
  dsimp only
  apply State.sampleIn_keep
  exact Keep.trans (by simp [hk]) (hf _ _)

@[simp] theorem State.finLatch_keep (sK : State) (s : State) (n : Nat) (loops : List Nat) (hk : Keep sK s) :
    Keep sK (State.finLatch s n loops) := by
  unfold State.finLatch; (try dsimp only); repeat' split
  all_goals simp (maxDischargeDepth := 60) [hk]

theorem execDinSample_keep (t : Nat) (lo hi : Word) (s : State) : OutKeep (s.at t) (execDinSample t lo hi s) := by
  unfold execDinSample; simp (maxDischargeDepth := 60)

@[simp] theorem State.sampleTrigger_keep (sK : State) (s : State) (m : Nat) (hk : Keep sK s) :
    Keep sK (State.sampleTrigger s m) := by
  unfold State.sampleTrigger; simp (maxDischargeDepth := 60) [hk]

@[simp] theorem State.serveWaiting_keep (sK : State) (s : State) (kind n : Nat) (hk : Keep sK s) :
    Keep sK (State.serveWaiting s kind n) := by
  unfold State.serveWaiting; simp (maxDischargeDepth := 60) [hk]

theorem execLoopTrigger_keep (t : Nat) (n : Fin 64) (s : State) : OutKeep (s.at t) (execLoopTrigger t n s) := by
  unfold execLoopTrigger; simp (maxDischargeDepth := 60)

@[simp] theorem State.binImpact_keep (sK : State) (s : State) (n : Nat) (x : Impact) (hk : Keep sK s) :
    Keep sK (State.binImpact s n x) := by
  unfold State.binImpact; simp (maxDischargeDepth := 60) [hk]

@[simp] theorem State.placeImpact_keep (sK : State) (s : State) (n : Nat) (x : Impact) (hk : Keep sK s) :
    Keep sK (State.placeImpact s n x) := by
  unfold State.placeImpact; split <;> simp (maxDischargeDepth := 60) [hk]

@[simp] theorem State.emitImpact_keep (sK : State) (s : State) (n tImp peak : Nat) (hk : Keep sK s) :
    Keep sK (State.emitImpact s n tImp peak) := by
  unfold State.emitImpact; simp (maxDischargeDepth := 60) [hk]

theorem execLossSample_keep (t : Nat) (n : Fin 16) (x : Int) (s : State) :
    OutKeep (s.at t) (execLossSample t n x s) := by
  unfold execLossSample; simp (maxDischargeDepth := 60)

theorem execLossExcFault_keep (t : Nat) (n : Fin 16) (s : State) : OutKeep (s.at t) (execLossExcFault t n s) := by
  unfold execLossExcFault; simp (maxDischargeDepth := 60)

@[simp] theorem State.lossEnable_keep (sK : State) (s : State) (n : Nat) (hk : Keep sK s) :
    Keep sK (State.lossEnable s n) := by
  unfold State.lossEnable; simp (maxDischargeDepth := 60) [hk]

@[simp] theorem State.mapInstant_keep (sK : State) (s : State) (k seq : Nat) (hk : Keep sK s) :
    Keep sK (State.mapInstant s k seq) := by
  unfold State.mapInstant; simp (maxDischargeDepth := 60) [hk]

@[simp] theorem State.swapChannel_keep (sK : State) (s : State) (n : Nat) (w : Swap) (rest : List Swap) (hk : Keep sK s) :
    Keep sK (State.swapChannel s n w rest) := by
  unfold State.swapChannel; simp (maxDischargeDepth := 60) [hk]

theorem execMapBankSwap_keep (t : Nat) (k : Fin 16) (s : State) : OutKeep (s.at t) (execMapBankSwap t k s) := by
  unfold execMapBankSwap; (try dsimp only); repeat' split
  all_goals (repeat' first | (apply keep_foldl) | simp (maxDischargeDepth := 60) | (intro s a; (try dsimp only); repeat' split))

theorem execReadMap_keep (t : Nat) (x : MapCopy) (s : State) : OutKeep (s.at t) (execReadMap t x s) := by
  unfold execReadMap; simp (maxDischargeDepth := 60)

end Sys2Proof.Machine
end

