-- ==== Sys2Proof/Laws/KeepField.lean ====
section
/-! SUPPORT. Yield, network, perturbation, CAN, GNSS, rings and vision keep the queue, the time and the canonical form: one law for
each operation (Laws/Keep.lean says what is kept). -/

set_option linter.all false

namespace Sys2Proof.Machine

/-! ## Yield -/

@[simp] theorem State.keepCrossed_keep (sK : State) (s : State) (hk : Keep sK s) : Keep sK (State.keepCrossed s) := by
  unfold State.keepCrossed; (try dsimp only); repeat' split
  all_goals simp (maxDischargeDepth := 60) [hk]

theorem execHistoryEntry_keep (t : Nat) (s : State) : OutKeep (s.at t) (execHistoryEntry t s) := by
  unfold execHistoryEntry; simp (maxDischargeDepth := 60)

@[simp] theorem State.delayReject_keep (sK : State) (s : State) (hk : Keep sK s) : Keep sK (State.delayReject s) := by
  unfold State.delayReject; simp (maxDischargeDepth := 60) [hk]

@[simp] theorem State.delayMeasured_keep (sK : State) (s : State) (dm : Int) (hk : Keep sK s) :
    Keep sK (State.delayMeasured s dm) := by
  unfold State.delayMeasured; simp (maxDischargeDepth := 60) [hk]

theorem execHeaderLift_keep (t : Nat) (s : State) : OutKeep (s.at t) (execHeaderLift t s) := by
  unfold execHeaderLift; simp (maxDischargeDepth := 60)

theorem execDelayMeasurementEnd_keep (t : Nat) (s : State) : OutKeep (s.at t) (execDelayMeasurementEnd t s) := by
  unfold execDelayMeasurementEnd; (try dsimp only); repeat' split
  all_goals simp (maxDischargeDepth := 60)

@[simp] theorem State.delayCommit_keep (sK : State) (s : State) (i : Nat) (flow : Int) (hk : Keep sK s) :
    Keep sK (State.delayCommit s i flow) := by
  unfold State.delayCommit; (try dsimp only); repeat' split
  all_goals simp (maxDischargeDepth := 60) [hk]

@[simp] theorem State.yieldPump_keep (sK : State) (s : State) (hk : Keep sK s) : Keep sK (State.yieldPump s) := by
  unfold State.yieldPump; simp (maxDischargeDepth := 60) [hk]

@[simp] theorem State.yieldRecord_keep (sK : State) (s : State) (b : YBin) (x : Option (Hist × Hist)) (part : Bool) (hk : Keep sK s) :
    Keep sK (State.yieldRecord s b x part) := by
  unfold State.yieldRecord; simp (maxDischargeDepth := 60) [hk]

@[simp] theorem State.closeBin_keep (sK : State) (s : State) (b : YBin) (hk : Keep sK s) :
    Keep sK (State.closeBin s b) := by
  unfold State.closeBin; split <;> simp (maxDischargeDepth := 60) [hk]

@[simp] theorem State.yieldCommit_keep (sK : State) (s : State) (i0 i1 : Nat) (m : Int) (w : Option Int) (hk : Keep sK s) :
    Keep sK (State.yieldCommit s i0 i1 m w) := by
  unfold State.yieldCommit; (try dsimp only); repeat' split
  all_goals simp (maxDischargeDepth := 60) [hk]

@[simp] theorem State.yieldStop_keep (sK : State) (s : State) (hk : Keep sK s) : Keep sK (State.yieldStop s) := by
  unfold State.yieldStop; (try dsimp only); repeat' split
  all_goals (repeat' first | exact hk | (apply keep_foldl) | simp (maxDischargeDepth := 60) [hk] | (intro s a; (try dsimp only); repeat' split))

@[simp] theorem State.yieldStore_keep (sK : State) (s : State) (hk : Keep sK s) : Keep sK (State.yieldStore s) := by
  unfold State.yieldStore; simp (maxDischargeDepth := 60) [hk]

@[simp] theorem State.yieldFlush_keep (sK : State) (s : State) (hk : Keep sK s) : Keep sK (State.yieldFlush s) := by
  unfold State.yieldFlush; simp (maxDischargeDepth := 60) [hk]

theorem execYieldFlashWrite_keep (t : Nat) (s : State) : OutKeep (s.at t) (execYieldFlashWrite t s) := by
  unfold execYieldFlashWrite; simp (maxDischargeDepth := 60)

theorem execYieldFill_keep (t : Nat) (r : Fin 64) (s : State) : OutKeep (s.at t) (execYieldFill t r s) := by
  have h := State.fill_keep (s.at t) (s.at t) r 2 8 32 (Keep.refl _)
  unfold execYieldFill
  cases e : (s.at t).fill r 2 8 32 with
  | next u => simpa using State.yieldPump_keep _ _ (h u e)
  | fault f => simp
  | refused f => simp

theorem execReceiveBufferTimeout_keep (t : Nat) (r : Fin 64) (s : State) :
    OutKeep (s.at t) (execReceiveBufferTimeout t r s) := by
  unfold execReceiveBufferTimeout; (try dsimp only); repeat' split
  all_goals simp (maxDischargeDepth := 60)

/-! ## NetCore -/

@[simp] theorem State.setNport_keep (sK : State) (s : State) (k : Nat) (p : NPort) (hk : Keep sK s) :
    Keep sK (State.setNport s k p) := by
  unfold State.setNport; simp (maxDischargeDepth := 60) [hk]

@[simp] theorem State.netLink_keep (sK : State) (s : State) (k : Nat) (up : Bool) (hk : Keep sK s) :
    Keep sK (State.netLink s k up) := by
  unfold State.netLink; simp (maxDischargeDepth := 60) [hk]

@[simp] theorem State.portTrain_keep (sK : State) (s : State) (k : Nat) (hk : Keep sK s) :
    Keep sK (State.portTrain s k) := by
  unfold State.portTrain; simp (maxDischargeDepth := 60) [hk]

@[simp] theorem State.netBegin_keep (sK : State) (s : State) (hk : Keep sK s) : Keep sK (State.netBegin s) := by
  unfold State.netBegin; simp (maxDischargeDepth := 60) [hk]

@[simp] theorem State.portSend_keep (sK : State) (s : State) (k : Nat) (xs : Nat) (hk : Keep sK s) :
    Keep sK (State.portSend s k xs) := by
  induction xs generalizing s <;> unfold State.portSend <;> (try dsimp only) <;> (repeat' split) <;> simp (maxDischargeDepth := 60) [*]

@[simp] theorem State.portCatch_keep (sK : State) (s : State) (k : Nat) (hk : Keep sK s) :
    Keep sK (State.portCatch s k) := by
  unfold State.portCatch; simp (maxDischargeDepth := 60) [hk]

@[simp] theorem State.portsCatch_keep (sK : State) (s : State) (hk : Keep sK s) : Keep sK (State.portsCatch s) := by
  unfold State.portsCatch; simp (maxDischargeDepth := 60) [hk]

@[simp] theorem State.portQueue_keep (sK : State) (s : State) (k tc : Nat) (bs : List Byte) (hk : Keep sK s) :
    Keep sK (State.portQueue s k tc bs) := by
  unfold State.portQueue; simp (maxDischargeDepth := 60) [hk]

@[simp] theorem State.gclCopy_keep (sK : State) (s : State) (k m : Nat) (g : Gcl) (hk : Keep sK s) :
    Keep sK (State.gclCopy s k m g) := by
  unfold State.gclCopy; simp (maxDischargeDepth := 60) [hk]

@[simp] theorem State.gclFirst_keep (sK : State) (s : State) (k : Nat) (hk : Keep sK s) :
    Keep sK (State.gclFirst s k) := by
  unfold State.gclFirst; simp (maxDischargeDepth := 60) [hk]

@[simp] theorem State.gclStart_keep (sK : State) (s : State) (k m : Nat) (hk : Keep sK s) :
    Keep sK (State.gclStart s k m) := by
  unfold State.gclStart; (try dsimp only); repeat' split
  all_goals simp (maxDischargeDepth := 60) [hk]

@[simp] theorem State.gateEnd_keep (sK : State) (s : State) (k : Nat) (hk : Keep sK s) :
    Keep sK (State.gateEnd s k) := by
  unfold State.gateEnd; (try dsimp only); repeat' split
  all_goals simp (maxDischargeDepth := 60) [hk]

@[simp] theorem State.netStep_keep (sK : State) (s : State) (hk : Keep sK s) : Keep sK (State.netStep s) := by
  unfold State.netStep; (try dsimp only); repeat' split
  all_goals (repeat' first | exact hk | (apply keep_foldl) | simp (maxDischargeDepth := 60) [hk] | (intro s a; (try dsimp only); repeat' split))

@[simp] theorem State.setSfilt_keep (sK : State) (s : State) (i : Nat) (x : SFilter) (hk : Keep sK s) :
    Keep sK (State.setSfilt s i x) := by
  unfold State.setSfilt; simp (maxDischargeDepth := 60) [hk]

@[simp] theorem State.police_keep (sK : State) (s : State) (k : Nat) (bs : List Byte) (hk : Keep sK s) :
    Keep sK (State.police s k bs).1 := by
  unfold State.police; split <;> simp (maxDischargeDepth := 60) [hk]

@[simp] theorem State.learn_keep (sK : State) (s : State) (mac vid k : Nat) (hk : Keep sK s) :
    Keep sK (State.learn s mac vid k) := by
  unfold State.learn; simp (maxDischargeDepth := 60) [hk]

@[simp] theorem State.ageOut_keep (sK : State) (s : State) (hk : Keep sK s) : Keep sK (State.ageOut s) := by
  unfold State.ageOut; simp (maxDischargeDepth := 60) [hk]

@[simp] theorem State.toHost_keep (sK : State) (s : State) (k : Nat) (bs : List Byte) (hk : Keep sK s) :
    Keep sK (State.toHost s k bs) := by
  unfold State.toHost; simp (maxDischargeDepth := 60) [hk]

@[simp] theorem State.ingress_keep (sK : State) (s : State) (k : Nat) (bs : List Byte) (hk : Keep sK s) :
    Keep sK (State.ingress s k bs) := by
  unfold State.ingress; simp (maxDischargeDepth := 60) [hk]

/-! ## Perturb -/

@[simp] theorem State.perturbSet_keep (sK : State) (s : State) (v : Bool) (hk : Keep sK s) :
    Keep sK (State.perturbSet s v) := by
  unfold State.perturbSet; simp (maxDischargeDepth := 60) [hk]

@[simp] theorem State.tstSync_keep (sK : State) (s : State) (hk : Keep sK s) : Keep sK (State.tstSync s) := by
  unfold State.tstSync; simp (maxDischargeDepth := 60) [hk]

theorem execPerturbEnd_keep (t : Nat) (s : State) : OutKeep (s.at t) (execPerturbEnd t s) := by
  unfold execPerturbEnd; (try dsimp only); repeat' split
  all_goals simp (maxDischargeDepth := 60)

@[simp] theorem State.tstMark_keep (sK : State) (s : State) (open_ : Bool) (hk : Keep sK s) :
    Keep sK (State.tstMark s open_) := by
  unfold State.tstMark; simp (maxDischargeDepth := 60) [hk]

@[simp] theorem State.tstLock_keep (sK : State) (s : State) (hk : Keep sK s) : Keep sK (State.tstLock s) := by
  unfold State.tstLock; simp (maxDischargeDepth := 60) [hk]

@[simp] theorem State.tstUnlock_keep (sK : State) (s : State) (v : Word) (hk : Keep sK s) :
    Keep sK (State.tstUnlock s v) := by
  unfold State.tstUnlock; simp (maxDischargeDepth := 60) [hk]

theorem execTstUnlock_keep (t : Nat) (v : Word) (s : State) : OutKeep (s.at t) (execTstUnlock t v s) := by
  unfold execTstUnlock; simp (maxDischargeDepth := 60)

theorem execTstLock_keep (t : Nat) (s : State) : OutKeep (s.at t) (execTstLock t s) := by
  unfold execTstLock; simp (maxDischargeDepth := 60)

@[simp] theorem State.tstWrite_keep (sK : State) (s : State) (off : Nat) (v : Word) (k : State → State) (hk : Keep sK s)
    (hf : ∀ s, Keep s (k s)) : OutKeep sK (s.tstWrite off v k) := by
  unfold State.tstWrite
  refine State.hostWrite_keep _ _ _ _ _ _ hk fun s => ?_
  dsimp only
  split
  · simp
  · exact (outKeep_next _ _).2 (State.tstSync_keep _ _ ((State.store_keep s s off v (Keep.refl s)).trans (hf _)))

theorem execTstJitWrite_keep (t : Nat) (v : Word) (s : State) : OutKeep (s.at t) (execTstJitWrite t v s) := by
  unfold execTstJitWrite; simp (maxDischargeDepth := 60)

/-! ## Can -/

@[simp] theorem State.canDeliver_keep (sK : State) (s : State) (n : Nat) (f : CanFrame) (echo : Bool) (hk : Keep sK s) :
    Keep sK (State.canDeliver s n f echo) := by
  unfold State.canDeliver; simp (maxDischargeDepth := 60) [hk]

@[simp] theorem State.boHeld_keep (sK : State) (s : State) (n : Nat) (hk : Keep sK s) :
    Keep sK (State.boHeld s n) := by
  unfold State.boHeld; simp (maxDischargeDepth := 60) [hk]

@[simp] theorem State.canConfine_keep (sK : State) (s : State) (n : Nat) (hk : Keep sK s) :
    Keep sK (State.canConfine s n) := by
  unfold State.canConfine; simp (maxDischargeDepth := 60) [hk]

@[simp] theorem State.canCount_keep (sK : State) (s : State) (n : Nat) (own : Bool) (add : Nat) (hk : Keep sK s) :
    Keep sK (State.canCount s n own add) := by
  unfold State.canCount; simp (maxDischargeDepth := 60) [hk]

@[simp] theorem State.canGood_keep (sK : State) (s : State) (n : Nat) (hk : Keep sK s) :
    Keep sK (State.canGood s n) := by
  unfold State.canGood; simp (maxDischargeDepth := 60) [hk]

@[simp] theorem State.k12Send_keep (sK : State) (s : State) (n id : Nat) (bs : List Byte) (hk : Keep sK s) :
    Keep sK (State.k12Send s n id bs) := by
  unfold State.k12Send; simp (maxDischargeDepth := 60) [hk]

@[simp] theorem State.k12Mail_keep (sK : State) (s : State) (pgn : Nat) (bs : List Byte) (hk : Keep sK s) :
    Keep sK (State.k12Mail s pgn bs) := by
  unfold State.k12Mail; simp (maxDischargeDepth := 60) [hk]

@[simp] theorem State.tpTell_keep (sK : State) (s : State) (n dst : Nat) (ctl : List Nat) (pgn : Nat) (hk : Keep sK s) :
    Keep sK (State.tpTell s n dst ctl pgn) := by
  unfold State.tpTell; simp (maxDischargeDepth := 60) [hk]

@[simp] theorem State.tpDrop_keep (sK : State) (s : State) (n src : Nat) (cast : Bool) (hk : Keep sK s) :
    Keep sK (State.tpDrop s n src cast) := by
  unfold State.tpDrop; simp (maxDischargeDepth := 60) [hk]

@[simp] theorem State.tpPut_keep (sK : State) (s : State) (x : TpSess) (hk : Keep sK s) :
    Keep sK (State.tpPut s x) := by
  unfold State.tpPut; simp (maxDischargeDepth := 60) [hk]

@[simp] theorem State.tpAsk_keep (sK : State) (s : State) (x : TpSess) (hk : Keep sK s) :
    Keep sK (State.tpAsk s x) := by
  unfold State.tpAsk; simp (maxDischargeDepth := 60) [hk]

@[simp] theorem State.tpControl_keep (sK : State) (s : State) (n src : Nat) (all : Bool) (bs : List Byte) (hk : Keep sK s) :
    Keep sK (State.tpControl s n src all bs) := by
  unfold State.tpControl; (try dsimp only); repeat' split
  all_goals simp (maxDischargeDepth := 60) [hk]

@[simp] theorem State.tpPacket_keep (sK : State) (s : State) (n src : Nat) (all : Bool) (bs : List Byte) (hk : Keep sK s) :
    Keep sK (State.tpPacket s n src all bs) := by
  unfold State.tpPacket; (try dsimp only); repeat' split
  all_goals simp (maxDischargeDepth := 60) [hk]

@[simp] theorem State.k12Heard_keep (sK : State) (s : State) (n : Nat) (f : CanFrame) (hk : Keep sK s) :
    Keep sK (State.k12Heard s n f) := by
  unfold State.k12Heard; (try dsimp only); repeat' split
  all_goals simp (maxDischargeDepth := 60) [hk]

theorem execCanFrameReceived_keep (t : Nat) (n : Fin 8) (frame : CanFrame) (s : State) :
    OutKeep (s.at t) (execCanFrameReceived t n frame s) := by
  unfold execCanFrameReceived; simp (maxDischargeDepth := 60)

theorem execCanTxOpportunity_keep (t : Nat) (n : Fin 8) (s : State) :
    OutKeep (s.at t) (execCanTxOpportunity t n s) := by
  unfold execCanTxOpportunity; (try dsimp only); repeat' split
  all_goals simp (maxDischargeDepth := 60)

@[simp] theorem State.txDone_keep (sK : State) (s : State) (f : TxFrame) (status result : Nat) (hk : Keep sK s) :
    Keep sK (State.txDone s f status result) := by
  unfold State.txDone; split <;> simp (maxDischargeDepth := 60) [hk]

@[simp] theorem State.canMissed_keep (sK : State) (s : State) (n : Nat) (err : Bool) (hk : Keep sK s) :
    Keep sK (State.canMissed s n err) := by
  unfold State.canMissed; (try dsimp only); repeat' split
  all_goals simp (maxDischargeDepth := 60) [hk]

@[simp] theorem State.canGone_keep (sK : State) (s : State) (n : Nat) (hk : Keep sK s) :
    Keep sK (State.canGone s n) := by
  unfold State.canGone; simp (maxDischargeDepth := 60) [hk]

theorem execCanFrameTransmitted_keep (t : Nat) (n : Fin 8) (sof : Nat) (s : State) :
    OutKeep (s.at t) (execCanFrameTransmitted t n sof s) := by
  unfold execCanFrameTransmitted; (try dsimp only); repeat' split
  all_goals simp (maxDischargeDepth := 60)

theorem execCanArbitrationLost_keep (t : Nat) (n : Fin 8) (s : State) :
    OutKeep (s.at t) (execCanArbitrationLost t n s) := by
  unfold execCanArbitrationLost; simp (maxDischargeDepth := 60)

theorem execCanError_keep (t : Nat) (n : Fin 8) (err : CanFault) (s : State) :
    OutKeep (s.at t) (execCanError t n err s) := by
  unfold execCanError; simp (maxDischargeDepth := 60)

@[simp] theorem State.canFlushQ_keep (sK : State) (s : State) (n q : Nat) (hk : Keep sK s) :
    Keep sK (State.canFlushQ s n q) := by
  unfold State.canFlushQ; simp (maxDischargeDepth := 60) [hk]

@[simp] theorem State.canCtl_keep (sK : State) (s : State) (n : Nat) (v : Word) (hk : Keep sK s) :
    Keep sK (State.canCtl s n v) := by
  unfold State.canCtl; simp (maxDischargeDepth := 60) [hk]

theorem execCanRecover_keep (t : Nat) (n : Fin 8) (v : Word) (s : State) :
    OutKeep (s.at t) (execCanRecover t n v s) := by
  unfold execCanRecover; simp (maxDischargeDepth := 60)

theorem execCanFlush_keep (t : Nat) (n : Fin 8) (v : Word) (s : State) : OutKeep (s.at t) (execCanFlush t n v s) := by
  unfold execCanFlush; simp (maxDischargeDepth := 60)

@[simp] theorem State.canReset_keep (sK : State) (s : State) (n : Nat) (hk : Keep sK s) :
    Keep sK (State.canReset s n) := by
  unfold State.canReset; simp (maxDischargeDepth := 60) [hk]

theorem execCanRecoveryDone_keep (t : Nat) (n : Fin 8) (s : State) :
    OutKeep (s.at t) (execCanRecoveryDone t n s) := by
  unfold execCanRecoveryDone; simp (maxDischargeDepth := 60)

@[simp] theorem State.canSave_keep (sK : State) (s : State) (hk : Keep sK s) : Keep sK (State.canSave s) := by
  unfold State.canSave; simp (maxDischargeDepth := 60) [hk]

theorem execCanEnable_keep (t : Nat) (n : Fin 8) (v : Word) (s : State) :
    OutKeep (s.at t) (execCanEnable t n v s) := by
  unfold execCanEnable; simp (maxDischargeDepth := 60)

@[simp] theorem State.canLeave_keep (sK : State) (s : State) (n : Nat) (hk : Keep sK s) :
    Keep sK (State.canLeave s n) := by
  unfold State.canLeave; simp (maxDischargeDepth := 60) [hk]

theorem execCanDisable_keep (t : Nat) (n : Fin 8) (v : Word) (s : State) :
    OutKeep (s.at t) (execCanDisable t n v s) := by
  unfold execCanDisable; simp (maxDischargeDepth := 60)

theorem execCanFill_keep (t : Nat) (r : Fin 64) (s : State) : OutKeep (s.at t) (execCanFill t r s) := by
  unfold execCanFill; simp (maxDischargeDepth := 60)

theorem execCanSend_keep (t : Nat) (r : Fin 64) (buf : List Byte) (s : State) :
    OutKeep (s.at t) (execCanSend t r buf s) := by
  unfold execCanSend; simp (maxDischargeDepth := 60)

/-! ## Gnss -/

@[simp] theorem State.setGns_keep (sK : State) (s : State) (g : Gns) (hk : Keep sK s) :
    Keep sK (State.setGns s g) := by
  unfold State.setGns; simp (maxDischargeDepth := 60) [hk]

@[simp] theorem State.foffTo_keep (sK : State) (s : State) (aim : Int) (hk : Keep sK s) :
    Keep sK (State.foffTo s aim) := by
  unfold State.foffTo; simp (maxDischargeDepth := 60) [hk]

@[simp] theorem State.holdover_keep (sK : State) (s : State) (hk : Keep sK s) : Keep sK (State.holdover s) := by
  unfold State.holdover; simp (maxDischargeDepth := 60) [hk]

@[simp] theorem State.gnsSend_keep (sK : State) (s : State) (f : Nat) (ws : List Word) (hk : Keep sK s) :
    Keep sK (State.gnsSend s f ws) := by
  unfold State.gnsSend; simp (maxDischargeDepth := 60) [hk]

@[simp] theorem State.antSeen_keep (sK : State) (s : State) (a : Nat) (short : Bool) (hk : Keep sK s) :
    Keep sK (State.antSeen s a short) := by
  unfold State.antSeen; simp (maxDischargeDepth := 60) [hk]

@[simp] theorem State.antShortTime_keep (sK : State) (s : State) (a c : Nat) (hk : Keep sK s) :
    Keep sK (State.antShortTime s a c) := by
  unfold State.antShortTime; simp (maxDischargeDepth := 60) [hk]

@[simp] theorem State.antLimit_keep (sK : State) (s : State) (a : Nat) (short : Bool) (hk : Keep sK s) :
    Keep sK (State.antLimit s a short) := by
  unfold State.antLimit; simp (maxDischargeDepth := 60) [hk]

@[simp] theorem State.antCurrent_keep (sK : State) (s : State) (a ma : Nat) (hk : Keep sK s) :
    Keep sK (State.antCurrent s a ma) := by
  unfold State.antCurrent; simp (maxDischargeDepth := 60) [hk]

@[simp] theorem State.antOff_keep (sK : State) (s : State) (a : Nat) (hk : Keep sK s) :
    Keep sK (State.antOff s a) := by
  unfold State.antOff; simp (maxDischargeDepth := 60) [hk]

theorem execFixEpoch_keep (t : Nat) (fix : GnssFix) (s : State) : OutKeep (s.at t) (execFixEpoch t fix s) := by
  unfold execFixEpoch; simp (maxDischargeDepth := 60)

theorem execAntennaOpen_keep (t : Nat) (x : AntReading) (s : State) : OutKeep (s.at t) (execAntennaOpen t x s) := by
  unfold execAntennaOpen; simp (maxDischargeDepth := 60)

theorem execAntennaShort_keep (t : Nat) (a : Fin 2) (s : State) : OutKeep (s.at t) (execAntennaShort t a s) := by
  unfold execAntennaShort; simp (maxDischargeDepth := 60)

theorem execAntennaRetry_keep (t : Nat) (a : Fin 2) (s : State) : OutKeep (s.at t) (execAntennaRetry t a s) := by
  unfold execAntennaRetry; simp (maxDischargeDepth := 60)

@[simp] theorem State.exclSync_keep (sK : State) (s : State) (hk : Keep sK s) : Keep sK (State.exclSync s) := by
  unfold State.exclSync; simp (maxDischargeDepth := 60) [hk]

@[simp] theorem State.suspectSet_keep (sK : State) (s : State) (hk : Keep sK s) : Keep sK (State.suspectSet s) := by
  unfold State.suspectSet; simp (maxDischargeDepth := 60) [hk]

@[simp] theorem State.suspectCalm_keep (sK : State) (s : State) (hk : Keep sK s) : Keep sK (State.suspectCalm s) := by
  unfold State.suspectCalm; simp (maxDischargeDepth := 60) [hk]

theorem execGnssCheckSecond_keep (t : Nat) (chk : GnssCheck) (s : State) :
    OutKeep (s.at t) (execGnssCheckSecond t chk s) := by
  unfold execGnssCheckSecond; simp (maxDischargeDepth := 60)

theorem execExclusionExpiry_keep (t : Nat) (con : Bool) (id : Nat) (s : State) :
    OutKeep (s.at t) (execExclusionExpiry t con id s) := by
  unfold execExclusionExpiry; simp (maxDischargeDepth := 60)

@[simp] theorem State.mtimeSet_keep (sK : State) (s : State) (m : Int) (hk : Keep sK s) :
    Keep sK (State.mtimeSet s m) := by
  unfold State.mtimeSet
  exact State.course_keep _ _ _ _ hk fun x => State.jump_keep _ _ _ _ _ (by simp)

@[simp] theorem State.stepMarks_keep (sK : State) (s s1 : State) (hk : Keep sK s1) :
    Keep sK (State.stepMarks s s1) := by
  unfold State.stepMarks; simp (maxDischargeDepth := 60) [hk]

@[simp] theorem State.timeStep_keep (sK : State) (s : State) (m : Int) (hk : Keep sK s) :
    Keep sK (State.timeStep s m) := by
  unfold State.timeStep; simp (maxDischargeDepth := 60) [hk]

@[simp] theorem State.timeDecide_keep (sK : State) (s : State) (sol : TimeSol) (edge : Nat) (hk : Keep sK s) :
    Keep sK (State.timeDecide s sol edge).1 := by
  unfold State.timeDecide; simp (maxDischargeDepth := 60) [hk]

@[simp] theorem State.snapFoff_keep (sK : State) (s : State) (hk : Keep sK s) : Keep sK (State.snapFoff s) := by
  unfold State.snapFoff; simp (maxDischargeDepth := 60) [hk]

@[simp] theorem State.discipline_keep (sK : State) (s : State) (sol : TimeSol) (e : Int) (hk : Keep sK s) :
    Keep sK (State.discipline s sol e) := by
  unfold State.discipline; simp (maxDischargeDepth := 60) [hk]

theorem execTimeSecondBoundary_keep (t : Nat) (sol : TimeSol) (s : State) :
    OutKeep (s.at t) (execTimeSecondBoundary t sol s) := by
  unfold execTimeSecondBoundary; simp (maxDischargeDepth := 60)

theorem execSlewEnd_keep (t : Nat) (s : State) : OutKeep (s.at t) (execSlewEnd t s) := by
  unfold execSlewEnd; (try dsimp only); repeat' split
  all_goals simp (maxDischargeDepth := 60)

theorem execPpsPulseEnd_keep (t : Nat) (s : State) : OutKeep (s.at t) (execPpsPulseEnd t s) := by
  unfold execPpsPulseEnd; (try dsimp only); repeat' split
  all_goals simp (maxDischargeDepth := 60)

@[simp] theorem State.gnsStop_keep (sK : State) (s : State) (hk : Keep sK s) : Keep sK (State.gnsStop s) := by
  unfold State.gnsStop; simp (maxDischargeDepth := 60) [hk]

@[simp] theorem State.gnsConfig_keep (sK : State) (s : State) (v : Word) (hk : Keep sK s) :
    Keep sK (State.gnsConfig s v) := by
  unfold State.gnsConfig; simp (maxDischargeDepth := 60) [hk]

@[simp] theorem State.antConfig_keep (sK : State) (s : State) (v : Word) (hk : Keep sK s) :
    Keep sK (State.antConfig s v) := by
  unfold State.antConfig; simp (maxDischargeDepth := 60) [hk]

theorem execGnssDisable_keep (t : Nat) (v : Word) (s : State) : OutKeep (s.at t) (execGnssDisable t v s) := by
  unfold execGnssDisable; simp (maxDischargeDepth := 60)

@[simp] theorem State.rtcmGood_keep (sK : State) (s : State) (p : List Byte) (hk : Keep sK s) :
    Keep sK (State.rtcmGood s p) := by
  unfold State.rtcmGood; simp (maxDischargeDepth := 60) [hk]

@[simp] theorem State.rtcmBad_keep (sK : State) (s : State) (hk : Keep sK s) : Keep sK (State.rtcmBad s) := by
  unfold State.rtcmBad; split <;> simp (maxDischargeDepth := 60) [hk]

theorem execRtcmIn_keep (t : Nat) (r : Fin 64) (buf : List Byte) (s : State) :
    OutKeep (s.at t) (execRtcmIn t r buf s) := by
  unfold execRtcmIn; simp (maxDischargeDepth := 60)

theorem execSnapshot_keep (t : Nat) (r : Fin 64) (s : State) : OutKeep (s.at t) (execSnapshot t r s) := by
  unfold execSnapshot; simp (maxDischargeDepth := 60)

theorem execSnapshotDone_keep (t : Nat) (agc0 agc1 : BitVec 16) (samples : List Byte) (s : State) :
    OutKeep (s.at t) (execSnapshotDone t agc0 agc1 samples s) := by
  unfold execSnapshotDone; (try dsimp only); repeat' split
  all_goals simp (maxDischargeDepth := 60)

theorem execPvtFill_keep (t : Nat) (r : Fin 64) (s : State) : OutKeep (s.at t) (execPvtFill t r s) := by
  unfold execPvtFill; simp (maxDischargeDepth := 60)

theorem execTimeFill_keep (t : Nat) (r : Fin 64) (s : State) : OutKeep (s.at t) (execTimeFill t r s) := by
  unfold execTimeFill; simp (maxDischargeDepth := 60)

/-! ## Rings -/

@[simp] theorem State.seeTail_keep (sK : State) (s : State) (r : Nat) (w : Word) (hk : Keep sK s) :
    Keep sK (State.seeTail s r w) := by
  unfold State.seeTail; simp (maxDischargeDepth := 60) [hk]

@[simp] theorem State.evalLine_keep (sK : State) (s : State) (m : Nat) (eth : Bool) (slots : List Word) (hk : Keep sK s) :
    OutKeep sK (State.evalLine s m eth slots) := by
  unfold State.evalLine; simp (maxDischargeDepth := 60) [hk]

theorem execDoorbellLineRead_keep (t : Nat) (m : Fin 4) (s : State) :
    OutKeep (s.at t) (execDoorbellLineRead t m s) := by
  unfold execDoorbellLineRead; simp (maxDischargeDepth := 60)

theorem execLineReadReturn_keep (t : Nat) (m : Fin 4) (slots : List Word) (s : State) :
    OutKeep (s.at t) (execLineReadReturn t m slots s) := by
  unfold execLineReadReturn; simp (maxDischargeDepth := 60)

theorem execDescriptorArrival_keep (t : Nat) (r : Fin 64) (ws : List Word) (s : State) :
    OutKeep (s.at t) (execDescriptorArrival t r ws s) := by
  unfold execDescriptorArrival; (try dsimp only); repeat' split
  all_goals simp (maxDischargeDepth := 60)

theorem execNop_keep (t : Nat) (r : Fin 64) (s : State) : OutKeep (s.at t) (execNop t r s) := by
  unfold execNop; simp (maxDischargeDepth := 60)

@[simp] theorem State.writeCdb_keep (sK : State) (s : State) (r : Nat) (hk : Keep sK s) :
    Keep sK (State.writeCdb s r) := by
  unfold State.writeCdb; simp (maxDischargeDepth := 60) [hk]

@[simp] theorem State.writeEntry_keep (sK : State) (s : State) (r : Nat) (d : RDesc) (hk : Keep sK s) :
    Keep sK (State.writeEntry s r d) := by
  unfold State.writeEntry; simp (maxDischargeDepth := 60) [hk]

@[simp] theorem State.ringIrq_keep (sK : State) (s : State) (r : Nat) (hk : Keep sK s) :
    Keep sK (State.ringIrq s r) := by
  unfold State.ringIrq; simp (maxDischargeDepth := 60) [hk]

theorem execCompletionWrite_keep (t : Nat) (r : Fin 64) (s : State) :
    OutKeep (s.at t) (execCompletionWrite t r s) := by
  unfold execCompletionWrite; simp (maxDischargeDepth := 60)

theorem execIrqHoldoffEnd_keep (t : Nat) (r : Fin 64) (s : State) : OutKeep (s.at t) (execIrqHoldoffEnd t r s) := by
  unfold execIrqHoldoffEnd; simp (maxDischargeDepth := 60)

@[simp] theorem State.fillsBehind_keep (sK : State) (s : State) (q : Nat) (hk : Keep sK s) :
    Keep sK (State.fillsBehind s q) := by
  unfold State.fillsBehind; simp (maxDischargeDepth := 60) [hk]

theorem execRingStart_keep (t : Nat) (r : Fin 64) (s : State) : OutKeep (s.at t) (execRingStart t r s) := by
  unfold execRingStart; simp (maxDischargeDepth := 60)

@[simp] theorem State.abortUnstarted_keep (sK : State) (s : State) (r : Nat) (hk : Keep sK s) :
    Keep sK (State.abortUnstarted s r) := by
  unfold State.abortUnstarted; simp (maxDischargeDepth := 60) [hk]

@[simp] theorem State.readsLeft_keep (sK : State) (s : State) (r : Nat) (hk : Keep sK s) :
    Keep sK (State.readsLeft s r) := by
  unfold State.readsLeft; simp (maxDischargeDepth := 60) [hk]

@[simp] theorem State.haltedOff_keep (sK : State) (s : State) (r : Nat) (hk : Keep sK s) :
    Keep sK (State.haltedOff s r) := by
  unfold State.haltedOff; simp (maxDischargeDepth := 60) [hk]

theorem execRingStop_keep (t : Nat) (r : Fin 64) (s : State) : OutKeep (s.at t) (execRingStop t r s) := by
  unfold execRingStop; simp (maxDischargeDepth := 60)

@[simp] theorem State.abortFills_keep (sK : State) (s : State) (r : Nat) (hk : Keep sK s) :
    Keep sK (State.abortFills s r) := by
  unfold State.abortFills; simp (maxDischargeDepth := 60) [hk]

theorem execRingDrainEnd_keep (t : Nat) (r : Fin 64) (s : State) : OutKeep (s.at t) (execRingDrainEnd t r s) := by
  unfold execRingDrainEnd; simp (maxDischargeDepth := 60)

@[simp] theorem State.haltRing_keep (sK : State) (s : State) (r : Nat) (hk : Keep sK s) :
    Keep sK (State.haltRing s r) := by
  unfold State.haltRing; simp (maxDischargeDepth := 60) [hk]

@[simp] theorem State.ringFault_keep (sK : State) (s : State) (hk : Keep sK s) : Keep sK (State.ringFault s) := by
  unfold State.ringFault; simp (maxDischargeDepth := 60) [hk]

theorem execHostReadFailure_keep (t : Nat) (what : HostRead) (s : State) :
    OutKeep (s.at t) (execHostReadFailure t what s) := by
  unfold execHostReadFailure; split <;> simp (maxDischargeDepth := 60)

@[simp] theorem State.ringFrame_keep (sK : State) (s : State) (src : FrameSource) (kind n : Nat) (ok : Bool) (k : Out)
    (hk : Keep sK s) (ho : OutKeep sK k) : OutKeep sK (s.ringFrame src kind n ok k) := by
  unfold State.ringFrame
  repeat' split
  all_goals first | exact ho | simp [hk]

@[simp] theorem State.sendFrame_keep (sK : State) (s : State) (w0 : Word) (ws : List Word) (hk : Keep sK s) :
    Keep sK (State.sendFrame s w0 ws) := by
  unfold State.sendFrame; simp (maxDischargeDepth := 60) [hk]

theorem execEthDoorbellFrame_keep (t : Nat) (src : FrameSource) (m : Fin 4) (image : List Word) (s : State) :
    OutKeep (s.at t) (execEthDoorbellFrame t src m image s) := by
  unfold execEthDoorbellFrame; simp (maxDischargeDepth := 60)

theorem execEthWriteFrame_keep (t : Nat) (src : FrameSource) (addr : Nat) (bs : List Byte) (s : State) :
    OutKeep (s.at t) (execEthWriteFrame t src addr bs s) := by
  unfold execEthWriteFrame; simp (maxDischargeDepth := 60)

theorem execEthReadFrame_keep (t : Nat) (src : FrameSource) (lo hi : Word) (len : Nat) (s : State) :
    OutKeep (s.at t) (execEthReadFrame t src lo hi len s) := by
  unfold execEthReadFrame; simp (maxDischargeDepth := 60)

theorem execCompletionFrameSend_keep (t : Nat) (r : Fin 64) (s : State) :
    OutKeep (s.at t) (execCompletionFrameSend t r s) := by
  unfold execCompletionFrameSend; simp (maxDischargeDepth := 60)

/-! ## Vision -/

@[simp] theorem State.setEnc_keep (sK : State) (s : State) (e : Nat) (x : Enc) (hk : Keep sK s) :
    Keep sK (State.setEnc s e x) := by
  unfold State.setEnc; simp (maxDischargeDepth := 60) [hk]

@[simp] theorem State.frameRecord_keep (sK : State) (s : State) (c : Nat) (x : VTrig) (r : RecordOf) (hk : Keep sK s) :
    Keep sK (State.frameRecord s c x r) := by
  unfold State.frameRecord; simp (maxDischargeDepth := 60) [hk]

@[simp] theorem State.visionGap_keep (sK : State) (s : State) (c rel : Nat) (hk : Keep sK s) :
    Keep sK (State.visionGap s c rel) := by
  unfold State.visionGap; simp (maxDischargeDepth := 60) [hk]

@[simp] theorem State.toEncoders_keep (sK : State) (s : State) (c : Nat) (i : VItem) (hk : Keep sK s) :
    Keep sK (State.toEncoders s c i) := by
  unfold State.toEncoders; simp (maxDischargeDepth := 60) [hk]

@[simp] theorem State.issueGap_keep (sK : State) (s : State) (c : Nat) (x : VTrig) (skip : Bool) (hk : Keep sK s) :
    Keep sK (State.issueGap s c x skip) := by
  unfold State.issueGap; simp (maxDischargeDepth := 60) [hk]

@[simp] theorem State.cameraTrigger_keep (sK : State) (s : State) (mask idx : Nat) (hk : Keep sK s) :
    Keep sK (State.cameraTrigger s mask idx) := by
  unfold State.cameraTrigger; simp (maxDischargeDepth := 60) [hk]

theorem execTriggerMessageSend_keep (t : Nat) (c : Fin 12) (s : State) :
    OutKeep (s.at t) (execTriggerMessageSend t c s) := by
  unfold execTriggerMessageSend; (try dsimp only); repeat' split
  all_goals simp (maxDischargeDepth := 60)

theorem execPairingWindowClose_keep (t : Nat) (c : Fin 12) (s : State) :
    OutKeep (s.at t) (execPairingWindowClose t c s) := by
  unfold execPairingWindowClose; (try dsimp only); repeat' split
  all_goals simp (maxDischargeDepth := 60)

@[simp] theorem State.tokenStep_keep (sK : State) (s : State) (c : Nat) (hk : Keep sK s) :
    Keep sK (State.tokenStep s c) := by
  unfold State.tokenStep; (try dsimp only); repeat' split
  all_goals simp (maxDischargeDepth := 60) [hk]

@[simp] theorem State.countFrame_keep (sK : State) (s : State) (c : Nat) (short long line : Bool) (hk : Keep sK s) :
    Keep sK (State.countFrame s c short long line) := by
  unfold State.countFrame; simp (maxDischargeDepth := 60) [hk]

@[simp] theorem State.afterFrame_keep (sK : State) (s : State) (c : Nat) (bad infer : Bool) (item : VItem) (hk : Keep sK s) :
    Keep sK (State.afterFrame s c bad infer item) := by
  unfold State.afterFrame; simp (maxDischargeDepth := 60) [hk]

@[simp] theorem State.closeFrame_keep (sK : State) (s : State) (c : Nat) (bad : Bool) (hk : Keep sK s) :
    Keep sK (State.closeFrame s c bad) := by
  cases e : (s.cam c).frame with
  | none =>
    have h : State.closeFrame s c bad = s := by simp only [State.closeFrame, e]
    rw [h]; exact hk
  | some f =>
    simp only [State.closeFrame, e]
    exact State.afterFrame_keep _ _ _ _ _ _ (State.frameRecord_keep _ _ _ _ _ (State.setCam_keep _ _ _ _
      (State.countFrame_keep _ _ _ _ _ _ hk)))

@[simp] theorem State.closeRead_keep (sK : State) (s : State) (c : Nat) (ecc : List EccHit) (hk : Keep sK s) :
    Keep sK (State.closeRead s c ecc) := by
  unfold State.closeRead; simp (maxDischargeDepth := 60) [hk]

theorem execFrameStart_keep (t : Nat) (c : Fin 12) (h : FrameHead) (s : State) :
    OutKeep (s.at t) (execFrameStart t c h s) := by
  unfold execFrameStart; (try dsimp only); repeat' split
  all_goals simp (maxDischargeDepth := 60)

theorem execLineReceived_keep (t : Nat) (c : Fin 12) (px : List Nat) (crc : Bool) (s : State) :
    OutKeep (s.at t) (execLineReceived t c px crc s) := by
  unfold execLineReceived; (try dsimp only); repeat' split
  all_goals simp (maxDischargeDepth := 60)

theorem execFrameEnd_keep (t : Nat) (c : Fin 12) (ecc : List EccHit) (s : State) :
    OutKeep (s.at t) (execFrameEnd t c ecc s) := by
  unfold execFrameEnd; simp (maxDischargeDepth := 60)

theorem execFrameCloseTimeout_keep (t : Nat) (x : FrameCut) (s : State) :
    OutKeep (s.at t) (execFrameCloseTimeout t x s) := by
  unfold execFrameCloseTimeout; (try dsimp only); repeat' split
  all_goals simp (maxDischargeDepth := 60)

theorem execDisplayBufferReady_keep (t : Nat) (c : Fin 12) (s : State) :
    OutKeep (s.at t) (execDisplayBufferReady t c s) := by
  unfold execDisplayBufferReady; (try dsimp only); repeat' split
  all_goals simp (maxDischargeDepth := 60)

@[simp] theorem State.setAlink_keep (sK : State) (s : State) (n : Nat) (x : ALink) (hk : Keep sK s) :
    Keep sK (State.setAlink s n x) := by
  unfold State.setAlink; simp (maxDischargeDepth := 60) [hk]

@[simp] theorem State.linkBit_keep (sK : State) (s : State) (f : Fld) (n : Nat) (v : Bool) (hk : Keep sK s) :
    Keep sK (State.linkBit s f n v) := by
  unfold State.linkBit; simp (maxDischargeDepth := 60) [hk]

@[simp] theorem State.linkDown_keep (sK : State) (s : State) (n : Nat) (hk : Keep sK s) :
    Keep sK (State.linkDown s n) := by
  unfold State.linkDown; simp (maxDischargeDepth := 60) [hk]

@[simp] theorem State.linkStart_keep (sK : State) (s : State) (n : Nat) (hk : Keep sK s) :
    Keep sK (State.linkStart s n) := by
  unfold State.linkStart; simp (maxDischargeDepth := 60) [hk]

@[simp] theorem State.linkFailed_keep (sK : State) (s : State) (n : Nat) (hk : Keep sK s) :
    Keep sK (State.linkFailed s n) := by
  unfold State.linkFailed; simp (maxDischargeDepth := 60) [hk]

theorem execAphyLock_keep (t : Nat) (n : Fin 3) (gear : Nat) (s : State) :
    OutKeep (s.at t) (execAphyLock t n gear s) := by
  unfold execAphyLock; simp (maxDischargeDepth := 60)

theorem execAphyLockTimeout_keep (t : Nat) (n : Fin 3) (s : State) :
    OutKeep (s.at t) (execAphyLockTimeout t n s) := by
  unfold execAphyLockTimeout; simp (maxDischargeDepth := 60)

theorem execAphyRetry_keep (t : Nat) (n : Fin 3) (s : State) : OutKeep (s.at t) (execAphyRetry t n s) := by
  unfold execAphyRetry; (try dsimp only); repeat' split
  all_goals simp (maxDischargeDepth := 60)

theorem execAphyLockLoss_keep (t : Nat) (n : Fin 3) (s : State) : OutKeep (s.at t) (execAphyLockLoss t n s) := by
  unfold execAphyLockLoss; simp (maxDischargeDepth := 60)

theorem execAphyOvercurrent_keep (t : Nat) (n : Fin 3) (s : State) :
    OutKeep (s.at t) (execAphyOvercurrent t n s) := by
  unfold execAphyOvercurrent; simp (maxDischargeDepth := 60)

@[simp] theorem State.linkWrite_keep (sK : State) (s : State) (n : Nat) (v : Word) (hk : Keep sK s) :
    Keep sK (State.linkWrite s n v) := by
  unfold State.linkWrite; simp (maxDischargeDepth := 60) [hk]

@[simp] theorem State.mpix_keep (sK : State) (s : State) (hk : Keep sK s) : Keep sK (State.mpix s) := by
  unfold State.mpix; simp (maxDischargeDepth := 60) [hk]

@[simp] theorem State.capReject_keep (sK : State) (s : State) (hk : Keep sK s) : Keep sK (State.capReject s) := by
  unfold State.capReject; simp (maxDischargeDepth := 60) [hk]

theorem execCameraEnable_keep (t : Nat) (c : Fin 12) (v : Word) (s : State) :
    OutKeep (s.at t) (execCameraEnable t c v s) := by
  unfold execCameraEnable; simp (maxDischargeDepth := 60)

@[simp] theorem State.camDisable_keep (sK : State) (s : State) (c : Nat) (v : Word) (hk : Keep sK s) :
    Keep sK (State.camDisable s c v) := by
  unfold State.camDisable; simp (maxDischargeDepth := 60) [hk]

theorem execEncoderEnable_keep (t : Nat) (e : Fin 4) (v : Word) (s : State) :
    OutKeep (s.at t) (execEncoderEnable t e v s) := by
  unfold execEncoderEnable; simp (maxDischargeDepth := 60)

theorem execAccessUnitDone_keep (t : Nat) (e : Fin 4) (nal : List Byte) (s : State) :
    OutKeep (s.at t) (execAccessUnitDone t e nal s) := by
  unfold execAccessUnitDone; (try dsimp only); repeat' split
  all_goals simp (maxDischargeDepth := 60)

theorem execForceIdr_keep (t : Nat) (r : Fin 64) (s : State) : OutKeep (s.at t) (execForceIdr t r s) := by
  unfold execForceIdr; simp (maxDischargeDepth := 60)

@[simp] theorem State.noCamera_keep (sK : State) (s : State) (r slot : Nat) (hk : Keep sK s) :
    Keep sK (State.noCamera s r slot) := by
  unfold State.noCamera; simp (maxDischargeDepth := 60) [hk]

theorem execSetExposure_keep (t : Nat) (x : RingWords) (s : State) : OutKeep (s.at t) (execSetExposure t x s) := by
  unfold execSetExposure; simp (maxDischargeDepth := 60)

@[simp] theorem State.sendItems_keep (sK : State) (s : State) (c : Nat) (ws : List Word) (nack : Option Nat) (hk : Keep sK s) :
    Keep sK (State.sendItems s c ws nack) := by
  unfold State.sendItems; simp (maxDischargeDepth := 60) [hk]

theorem execExposureAccepted_keep (t : Nat) (c : Fin 12) (nack : Option Nat) (s : State) :
    OutKeep (s.at t) (execExposureAccepted t c nack s) := by
  unfold execExposureAccepted; (try dsimp only); repeat' split
  all_goals simp (maxDischargeDepth := 60)

@[simp] theorem State.sensorXfer_keep (sK : State) (s : State) (r : Nat) (d : RDesc) (c : Nat) (ws : List Word) (reads : List Byte) (nack : Option Nat) (hk : Keep sK s) :
    Keep sK (State.sensorXfer s r d c ws reads nack) := by
  unfold State.sensorXfer; split <;> simp (maxDischargeDepth := 60) [hk]

theorem execSensorXfer_keep (t : Nat) (r : Fin 64) (buf : List Word) (reads : List Byte) (nack : Option Nat) (s : State) :
    OutKeep (s.at t) (execSensorXfer t r buf reads nack s) := by
  unfold execSensorXfer; (try dsimp only); repeat' split
  all_goals simp (maxDischargeDepth := 60)

@[simp] theorem State.camWrite_keep (sK : State) (s : State) (c : Nat) (l : List (Word × Nat)) (commit : Bool) (hk : Keep sK s) :
    Keep sK (State.camWrite s c l commit) := by
  unfold State.camWrite; simp (maxDischargeDepth := 60) [hk]

theorem execParamWrite_keep (t : Nat) (r : Fin 64) (buf : List Word) (s : State) :
    OutKeep (s.at t) (execParamWrite t r buf s) := by
  unfold execParamWrite; simp (maxDischargeDepth := 60)

theorem execParamRead_keep (t : Nat) (r : Fin 64) (s : State) : OutKeep (s.at t) (execParamRead t r s) := by
  unfold execParamRead; simp (maxDischargeDepth := 60)

/-! ## Net -/

theorem execSwitchFrameIngress_keep (t : Nat) (k : Fin 8) (bs : List Byte) (s : State) :
    OutKeep (s.at t) (execSwitchFrameIngress t k bs s) := by
  unfold execSwitchFrameIngress; simp (maxDischargeDepth := 60)

theorem execAddressAgeOut_keep (t : Nat) (s : State) : OutKeep (s.at t) (execAddressAgeOut t s) := by
  unfold execAddressAgeOut; simp (maxDischargeDepth := 60)

theorem execGateIntervalEnd_keep (t : Nat) (k : Fin 7) (s : State) :
    OutKeep (s.at t) (execGateIntervalEnd t k s) := by
  unfold execGateIntervalEnd; simp (maxDischargeDepth := 60)

@[simp] theorem State.gclDue_keep (sK : State) (s : State) (k : Nat) (hk : Keep sK s) :
    Keep sK (State.gclDue s k) := by
  unfold State.gclDue; (try dsimp only); repeat' split
  all_goals simp (maxDischargeDepth := 60) [hk]

theorem execGclHandover_keep (t : Nat) (k : Fin 7) (s : State) : OutKeep (s.at t) (execGclHandover t k s) := by
  unfold execGclHandover; (try dsimp only); repeat' split
  all_goals simp (maxDischargeDepth := 60)

@[simp] theorem State.syncPort_keep (sK : State) (s : State) (k : Nat) (hk : Keep sK s) :
    Keep sK (State.syncPort s k) := by
  unfold State.syncPort; simp (maxDischargeDepth := 60) [hk]

theorem execGptpSyncSend_keep (t : Nat) (s : State) : OutKeep (s.at t) (execGptpSyncSend t s) := by
  unfold execGptpSyncSend; simp (maxDischargeDepth := 60)

theorem execPdelayMeasure_keep (t : Nat) (s : State) : OutKeep (s.at t) (execPdelayMeasure t s) := by
  unfold execPdelayMeasure; simp (maxDischargeDepth := 60)

theorem execAnnounceReceived_keep (t : Nat) (k : Fin 7) (s : State) :
    OutKeep (s.at t) (execAnnounceReceived t k s) := by
  unfold execAnnounceReceived; simp (maxDischargeDepth := 60)

theorem execSvcDetEdge_keep (t : Nat) (grounded : Bool) (s : State) :
    OutKeep (s.at t) (execSvcDetEdge t grounded s) := by
  unfold execSvcDetEdge; simp (maxDischargeDepth := 60)

theorem execEthLinkChange_keep (t : Nat) (k : Fin 7) (up : Bool) (s : State) :
    OutKeep (s.at t) (execEthLinkChange t k up s) := by
  unfold execEthLinkChange; simp (maxDischargeDepth := 60)

@[simp] theorem State.netPortWrite_keep (sK : State) (s : State) (k : Nat) (v : Word) (hk : Keep sK s) :
    Keep sK (State.netPortWrite s k v) := by
  unfold State.netPortWrite; simp (maxDischargeDepth := 60) [hk]

theorem execNetSend_keep (t : Nat) (r : Fin 64) (buf : List Byte) (s : State) :
    OutKeep (s.at t) (execNetSend t r buf s) := by
  unfold execNetSend; simp (maxDischargeDepth := 60)

theorem execNetFill_keep (t : Nat) (r : Fin 64) (s : State) : OutKeep (s.at t) (execNetFill t r s) := by
  unfold execNetFill; simp (maxDischargeDepth := 60)

theorem execGclWrite_keep (t : Nat) (r : Fin 64) (buf : List Word) (s : State) :
    OutKeep (s.at t) (execGclWrite t r buf s) := by
  unfold execGclWrite; simp (maxDischargeDepth := 60)

theorem execSfWrite_keep (t : Nat) (r : Fin 64) (buf : List Word) (s : State) :
    OutKeep (s.at t) (execSfWrite t r buf s) := by
  unfold execSfWrite; simp (maxDischargeDepth := 60)

theorem execUnblock_keep (t : Nat) (r : Fin 64) (s : State) : OutKeep (s.at t) (execUnblock t r s) := by
  unfold execUnblock; simp (maxDischargeDepth := 60)

theorem execRpDataRead_keep (t : Nat) (v : Option Word) (s : State) : OutKeep (s.at t) (execRpDataRead t v s) := by
  unfold execRpDataRead; simp (maxDischargeDepth := 60)

theorem execRpDataWrite_keep (t : Nat) (v : Word) (s : State) : OutKeep (s.at t) (execRpDataWrite t v s) := by
  unfold execRpDataWrite; simp (maxDischargeDepth := 60)

theorem execModemMemoryRequest_keep (t : Nat) (write : Bool) (addr len : Nat) (bs : List Byte) (s : State) :
    OutKeep (s.at t) (execModemMemoryRequest t write addr len bs s) := by
  unfold execModemMemoryRequest; simp (maxDischargeDepth := 60)

theorem execModemMsi_keep (t : Nat) (s : State) : OutKeep (s.at t) (execModemMsi t s) := by
  unfold execModemMsi; simp (maxDischargeDepth := 60)

@[simp] theorem State.rpRetry_keep (sK : State) (s : State) (c : Option Nat) (hk : Keep sK s) :
    Keep sK (State.rpRetry s c) := by
  unfold State.rpRetry; simp (maxDischargeDepth := 60) [hk]

@[simp] theorem State.rpDown_keep (sK : State) (s : State) (hk : Keep sK s) : Keep sK (State.rpDown s) := by
  unfold State.rpDown; simp (maxDischargeDepth := 60) [hk]

theorem execModemLinkLoss_keep (t : Nat) (s : State) : OutKeep (s.at t) (execModemLinkLoss t s) := by
  unfold execModemLinkLoss; simp (maxDischargeDepth := 60)

theorem execModemLinkRetry_keep (t : Nat) (gen : Fin 5) (s : State) :
    OutKeep (s.at t) (execModemLinkRetry t gen s) := by
  unfold execModemLinkRetry; (try dsimp only); repeat' split
  all_goals simp (maxDischargeDepth := 60)

@[simp] theorem State.rpWrite_keep (sK : State) (s : State) (v : Word) (hk : Keep sK s) :
    Keep sK (State.rpWrite s v) := by
  unfold State.rpWrite; simp (maxDischargeDepth := 60) [hk]

end Sys2Proof.Machine
end

