-- ==== Sys2Proof/Laws/KeepPower.lean ====
section
/-! SUPPORT. The power operations, axolotl, DMA, the event table, fusion, valves, heat, switches and thermal keep the queue, the time and the canonical form: one law for
each operation (Laws/Keep.lean says what is kept). -/

set_option linter.all false

namespace Sys2Proof.Machine

/-! ## DmaCore -/

@[simp] theorem State.setDch_keep (sK : State) (s : State) (n : Nat) (x : DChan) (hk : Keep sK s) :
    Keep sK (State.setDch s n x) := by
  unfold State.setDch; simp (maxDischargeDepth := 60) [hk]

@[simp] theorem State.setDmaState_keep (sK : State) (s : State) (n st : Nat) (hk : Keep sK s) :
    Keep sK (State.setDmaState s n st) := by
  unfold State.setDmaState; simp (maxDischargeDepth := 60) [hk]

@[simp] theorem State.dmaFetch_keep (sK : State) (s : State) (n addr : Nat) (host : Bool) (hk : Keep sK s) :
    Keep sK (State.dmaFetch s n addr host) := by
  unfold State.dmaFetch; simp (maxDischargeDepth := 60) [hk]

@[simp] theorem State.dmaLeap_keep (sK : State) (s : State) (n : Nat) (auto : Bool) (l : List Nat) (hk : Keep sK s) :
    Keep sK (State.dmaLeap s n auto l) := by
  unfold State.dmaLeap; simp (maxDischargeDepth := 60) [hk]

@[simp] theorem State.dmaStart_keep (sK : State) (s : State) (n : Nat) (l : List Nat) (hk : Keep sK s) :
    Keep sK (State.dmaStart s n l) := by
  unfold State.dmaStart; simp (maxDischargeDepth := 60) [hk]

@[simp] theorem State.dmaPend_keep (sK : State) (s : State) (n : Nat) (hk : Keep sK s) :
    Keep sK (State.dmaPend s n) := by
  unfold State.dmaPend; simp (maxDischargeDepth := 60) [hk]

@[simp] theorem State.dmaKick_keep (sK : State) (s : State) (n : Nat) (l : List Nat) (hk : Keep sK s) :
    Keep sK (State.dmaKick s n l) := by
  unfold State.dmaKick; simp (maxDischargeDepth := 60) [hk]

/-! ## PowerCore -/

@[simp] theorem State.setPow_keep (sK : State) (s : State) (p : Power) (hk : Keep sK s) :
    Keep sK (State.setPow s p) := by
  unfold State.setPow; simp (maxDischargeDepth := 60) [hk]

@[simp] theorem State.ensureItem_keep (sK : State) (s : State) (off : Nat) (hk : Keep sK s) :
    Keep sK (State.ensureItem s off) := by
  unfold State.ensureItem; simp (maxDischargeDepth := 60) [hk]

@[simp] theorem State.keepReg_keep (sK : State) (s : State) (off : Nat) (w : Word) (hk : Keep sK s) :
    Keep sK (State.keepReg s off w) := by
  unfold State.keepReg; simp (maxDischargeDepth := 60) [hk]

@[simp] theorem State.railsOff_keep (sK : State) (s : State) (wait : StartWait) (hk : Keep sK s) :
    Keep sK (State.railsOff s wait) := by
  unfold State.railsOff
  dsimp only
  refine State.wr_keep _ _ _ _ _ (State.wr_keep _ _ _ _ _ (State.wr_keep _ _ _ _ _ ?_))
  exact ⟨hk.pending, hk.cyc, fun _ => ⟨rfl, rfl⟩⟩

@[simp] theorem State.keepSecs_keep (sK : State) (s : State) (hk : Keep sK s) : Keep sK (State.keepSecs s) := by
  unfold State.keepSecs; simp (maxDischargeDepth := 60) [hk]

@[simp] theorem State.keepLearned_keep (sK : State) (s : State) (hk : Keep sK s) : Keep sK (State.keepLearned s) := by
  unfold State.keepLearned; simp (maxDischargeDepth := 60) [hk]

@[simp] theorem State.persStore_keep (sK : State) (s : State) (hk : Keep sK s) : Keep sK (State.persStore s) := by
  unfold State.persStore; split <;> simp (maxDischargeDepth := 60) [hk]

@[simp] theorem State.stopEntry_keep (sK : State) (s : State) (cause : Nat) (hk : Keep sK s) :
    Keep sK (State.stopEntry s cause) := by
  unfold State.stopEntry; simp (maxDischargeDepth := 60) [hk]

@[simp] theorem State.releaseAll_keep (sK : State) (s : State) (hk : Keep sK s) : Keep sK (State.releaseAll s) := by
  unfold State.releaseAll; simp (maxDischargeDepth := 60) [hk]

@[simp] theorem State.thermalStop_keep (sK : State) (s : State) (hk : Keep sK s) : Keep sK (State.thermalStop s) := by
  unfold State.thermalStop; simp (maxDischargeDepth := 60) [hk]

@[simp] theorem State.stopBegin_keep (sK : State) (s : State) (kind : StopKind) (hk : Keep sK s) :
    Keep sK (State.stopBegin s kind) := by
  unfold State.stopBegin; simp (maxDischargeDepth := 60) [hk]

@[simp] theorem State.stopCfg_keep (sK : State) (s : State) (v : Word) (hk : Keep sK s) :
    Keep sK (State.stopCfg s v) := by
  unfold State.stopCfg; simp (maxDischargeDepth := 60) [hk]

@[simp] theorem State.sysRestart_keep (sK : State) (s : State) (v : Word) (hk : Keep sK s) :
    Keep sK (State.sysRestart s v) := by
  unfold State.sysRestart; (try dsimp only); repeat' split
  all_goals simp (maxDischargeDepth := 60) [hk]

@[simp] theorem State.updReq_keep (sK : State) (s : State) (v : Word) (hk : Keep sK s) :
    Keep sK (State.updReq s v) := by
  unfold State.updReq; simp (maxDischargeDepth := 60) [hk]

@[simp] theorem State.stopTold_keep (sK : State) (s : State) (x : StopRun) (hk : Keep sK s) :
    Keep sK (State.stopTold s x) := by
  unfold State.stopTold; (try dsimp only); repeat' split
  all_goals simp (maxDischargeDepth := 60) [hk]

theorem execRecorderFlushStart_keep (t : Nat) (s : State) : OutKeep (s.at t) (execRecorderFlushStart t s) := by
  unfold execRecorderFlushStart; (try dsimp only); repeat' split
  all_goals simp (maxDischargeDepth := 60)

@[simp] theorem State.stopFlush_keep (sK : State) (s : State) (x : StopRun) (hk : Keep sK s) :
    Keep sK (State.stopFlush s x) := by
  unfold State.stopFlush; split <;> simp (maxDischargeDepth := 60) [hk]

@[simp] theorem State.shedLoads_keep (sK : State) (s : State) (hk : Keep sK s) : Keep sK (State.shedLoads s) := by
  unfold State.shedLoads; simp (maxDischargeDepth := 60) [hk]

@[simp] theorem State.holdMark_keep (sK : State) (s : State) (hk : Keep sK s) : Keep sK (State.holdMark s) := by
  unfold State.holdMark
  split
  · exact State.setRecr_keep _ _ _ hk
  · exact hk

@[simp] theorem State.powerFail_keep (sK : State) (s : State) (draw : Nat) (low : Bool) (hk : Keep sK s) :
    Keep sK (State.powerFail s draw low) := by
  unfold State.powerFail; simp (maxDischargeDepth := 60) [hk]

@[simp] theorem State.holdFlush_keep (sK : State) (s : State) (stored : Nat) (hk : Keep sK s) :
    Keep sK (State.holdFlush s stored) := by
  unfold State.holdFlush; simp (maxDischargeDepth := 60) [hk]

@[simp] theorem State.hostLost_keep (sK : State) (s : State) (hk : Keep sK s) : Keep sK (State.hostLost s) := by
  unfold State.hostLost; simp (maxDischargeDepth := 60) [hk]

/-! ## Axolotl -/

@[simp] theorem State.setUpd_keep (sK : State) (s : State) (x : Upd) (hk : Keep sK s) :
    Keep sK (State.setUpd s x) := by
  unfold State.setUpd; simp (maxDischargeDepth := 60) [hk]

@[simp] theorem State.axoReply_keep (sK : State) (s : State) (via : AxoVia) (status result : Nat) (ws : List Word) (hk : Keep sK s) :
    Keep sK (State.axoReply s via status result ws) := by
  unfold State.axoReply; simp (maxDischargeDepth := 60) [hk]

@[simp] theorem State.axoHeld_keep (sK : State) (s : State) (via : AxoVia) (k : State → Out) (hk : Keep sK s)
    (hf : ∀ s, OutKeep s (k s)) : OutKeep sK (s.axoHeld via k) := by
  unfold State.axoHeld
  repeat' split
  · simp [hk]
  · simp [hk]
  · exact OutKeep.trans (by simp [hk]) (hf _)
  · exact OutKeep.trans hk (hf _)

@[simp] theorem State.axoCmd_keep (sK : State) (s : State) (via : AxoVia) (k : State → Out) (hk : Keep sK s)
    (hf : ∀ s, OutKeep s (k s)) : OutKeep sK (s.axoCmd via k) := by
  unfold State.axoCmd
  repeat' split
  all_goals first | exact State.axoHeld_keep _ _ _ _ hk hf | simp [hk]

theorem execAxoHello_keep (t : Nat) (via : AxoVia) (s : State) : OutKeep (s.at t) (execAxoHello t via s) := by
  unfold execAxoHello; simp (maxDischargeDepth := 60)

theorem execAxoBegin_keep (t : Nat) (via : AxoVia) (arg : Word) (s : State) :
    OutKeep (s.at t) (execAxoBegin t via arg s) := by
  unfold execAxoBegin; simp (maxDischargeDepth := 60)

@[simp] theorem State.axoDataReply_keep (sK : State) (s : State) (via : AxoVia) (status : Nat) (hk : Keep sK s) :
    Keep sK (State.axoDataReply s via status) := by
  unfold State.axoDataReply; simp (maxDischargeDepth := 60) [hk]

theorem execAxoData_keep (t : Nat) (via : AxoVia) (off : Nat) (bs : List Byte) (s : State) :
    OutKeep (s.at t) (execAxoData t via off bs s) := by
  unfold execAxoData; simp (maxDischargeDepth := 60)

theorem execAxoFinish_keep (t : Nat) (via : AxoVia) (sig : Bool) (s : State) :
    OutKeep (s.at t) (execAxoFinish t via sig s) := by
  unfold execAxoFinish; refine State.axoCmd_keep _ _ _ _ (by simp) ?_; intro s; (try dsimp only); split <;> simp (maxDischargeDepth := 60)

theorem execAxoActivate_keep (t : Nat) (via : AxoVia) (arg : Word) (s : State) :
    OutKeep (s.at t) (execAxoActivate t via arg s) := by
  unfold execAxoActivate; simp (maxDischargeDepth := 60)

theorem execAxoBoot_keep (t : Nat) (via : AxoVia) (s : State) : OutKeep (s.at t) (execAxoBoot t via s) := by
  unfold execAxoBoot; simp (maxDischargeDepth := 60)

theorem execAxoCanSilenceReply_keep (t : Nat) (s : State) : OutKeep (s.at t) (execAxoCanSilenceReply t s) := by
  unfold execAxoCanSilenceReply; (try dsimp only); repeat' split
  all_goals simp (maxDischargeDepth := 60)

/-! ## Dma -/

@[simp] theorem State.dmaAsk_keep (sK : State) (s : State) (n upto : Nat) (hk : Keep sK s) :
    Keep sK (State.dmaAsk s n upto) := by
  unfold State.dmaAsk; (try dsimp only); repeat' split
  all_goals simp (maxDischargeDepth := 60) [hk]

@[simp] theorem State.dmaReadOn_keep (sK : State) (s : State) (n : Nat) (hk : Keep sK s) :
    Keep sK (State.dmaReadOn s n) := by
  unfold State.dmaReadOn; simp (maxDischargeDepth := 60) [hk]

@[simp] theorem State.mirrorTake_keep (sK : State) (s : State) (k : Nat) (hk : Keep sK s) :
    Keep sK (State.mirrorTake s k).1 := by
  unfold State.mirrorTake; simp (maxDischargeDepth := 60) [hk]

@[simp] theorem State.dmaRead_keep (sK : State) (s : State) (n : Nat) (ws : List Word) (i j : Nat) (bs : List Byte) (hk : Keep sK s) :
    Keep sK (State.dmaRead s n ws i j bs).1 := by
  unfold State.dmaRead; simp (maxDischargeDepth := 60) [hk]

@[simp] theorem State.portUsed_keep (sK : State) (s : State) (a : Nat) (hk : Keep sK s) :
    Keep sK (State.portUsed s a) := by
  unfold State.portUsed; simp (maxDischargeDepth := 60) [hk]

@[simp] theorem State.dmaWrite_keep (sK : State) (s : State) (n : Nat) (ws : List Word) (i : Nat) (bs : List Byte) (hk : Keep sK s) :
    Keep sK (State.dmaWrite s n ws i bs) := by
  unfold State.dmaWrite; simp (maxDischargeDepth := 60) [hk]

@[simp] theorem State.dmaMove_keep (sK : State) (s : State) (n put : Nat) (bs : List Byte) (hk : Keep sK s) :
    Keep sK (State.dmaMove s n put bs) := by
  unfold State.dmaMove; (try dsimp only); repeat' split
  all_goals simp (maxDischargeDepth := 60) [hk]

@[simp] theorem State.dmaBack_keep (sK : State) (s : State) (n status done : Nat) (irq : Bool) (hk : Keep sK s) :
    Keep sK (State.dmaBack s n status done irq) := by
  unfold State.dmaBack; simp (maxDischargeDepth := 60) [hk]

@[simp] theorem State.dmaRest_keep (sK : State) (s : State) (n : Nat) (ws : List Word) (hk : Keep sK s) :
    Keep sK (State.dmaRest s n ws) := by
  unfold State.dmaRest; simp (maxDischargeDepth := 60) [hk]

@[simp] theorem State.dmaAbort_keep (sK : State) (s : State) (n put : Nat) (bs : List Byte) (lost : Bool) (hk : Keep sK s) :
    Keep sK (State.dmaAbort s n put bs lost) := by
  unfold State.dmaAbort; split <;> simp (maxDischargeDepth := 60) [hk]

@[simp] theorem State.dmaErr_keep (sK : State) (s : State) (n : Nat) (hk : Keep sK s) :
    Keep sK (State.dmaErr s n) := by
  unfold State.dmaErr; simp (maxDischargeDepth := 60) [hk]

@[simp] theorem State.dmaFeeds_keep (sK : State) (s : State) (n put : Nat) (k : Out) (ho : OutKeep sK k) :
    OutKeep sK (s.dmaFeeds n put k) := by
  unfold State.dmaFeeds
  repeat' split
  all_goals first | exact ho | simp

theorem execDmaKick_keep (t : Nat) (n : Fin 32) (beaten : List (Fin 32)) (s : State) :
    OutKeep (s.at t) (execDmaKick t n beaten s) := by
  unfold execDmaKick; simp (maxDischargeDepth := 60)

theorem execDmaNextWrite_keep (t : Nat) (n : Fin 32) (v : Word) (s : State) :
    OutKeep (s.at t) (execDmaNextWrite t n v s) := by
  unfold execDmaNextWrite; simp (maxDischargeDepth := 60)

theorem execDmaDescriptorArrival_keep (t : Nat) (n : Fin 32) (ws : List Word) (beaten : List (Fin 32)) (ecc : List EccHit) (s : State) :
    OutKeep (s.at t) (execDmaDescriptorArrival t n ws beaten ecc s) := by
  unfold execDmaDescriptorArrival; simp (maxDischargeDepth := 60)

@[simp] theorem State.dmaGoOn_keep (sK : State) (s : State) (n : Nat) (ws : List Word) (hk : Keep sK s) :
    Keep sK (State.dmaGoOn s n ws) := by
  unfold State.dmaGoOn; simp (maxDischargeDepth := 60) [hk]

theorem execDmaDescriptorEnd_keep (t : Nat) (n : Fin 32) (put : Nat) (bs : List Byte) (ecc : List EccHit) (s : State) :
    OutKeep (s.at t) (execDmaDescriptorEnd t n put bs ecc s) := by
  unfold execDmaDescriptorEnd; (try dsimp only); repeat' split
  all_goals simp (maxDischargeDepth := 60)

@[simp] theorem State.dmaPauseSet_keep (sK : State) (s : State) (n : Nat) (hk : Keep sK s) :
    Keep sK (State.dmaPauseSet s n) := by
  unfold State.dmaPauseSet; simp (maxDischargeDepth := 60) [hk]

@[simp] theorem State.dmaPauseClear_keep (sK : State) (s : State) (n : Nat) (hk : Keep sK s) :
    Keep sK (State.dmaPauseClear s n) := by
  unfold State.dmaPauseClear; simp (maxDischargeDepth := 60) [hk]

theorem execDmaPause_keep (t : Nat) (n : Fin 32) (s : State) : OutKeep (s.at t) (execDmaPause t n s) := by
  unfold execDmaPause; simp (maxDischargeDepth := 60)

theorem execDmaPaused_keep (t : Nat) (n : Fin 32) (put : Nat) (bs : List Byte) (s : State) :
    OutKeep (s.at t) (execDmaPaused t n put bs s) := by
  unfold execDmaPaused; simp (maxDischargeDepth := 60)

theorem execDmaResume_keep (t : Nat) (n : Fin 32) (s : State) : OutKeep (s.at t) (execDmaResume t n s) := by
  unfold execDmaResume; simp (maxDischargeDepth := 60)

@[simp] theorem State.dmaStop_keep (sK : State) (s : State) (n put : Nat) (bs : List Byte) (hk : Keep sK s) :
    Keep sK (State.dmaStop s n put bs) := by
  unfold State.dmaStop; simp (maxDischargeDepth := 60) [hk]

theorem execDmaStop_keep (t : Nat) (n : Fin 32) (put : Nat) (bs : List Byte) (s : State) :
    OutKeep (s.at t) (execDmaStop t n put bs s) := by
  unfold execDmaStop; simp (maxDischargeDepth := 60)

@[simp] theorem State.dmaCtl_keep (sK : State) (s : State) (n : Nat) (v : Word) (hk : Keep sK s) :
    Keep sK (State.dmaCtl s n v) := by
  unfold State.dmaCtl; simp (maxDischargeDepth := 60) [hk]

theorem execDmaReadError_keep (t : Nat) (n : Fin 32) (put : Nat) (bs : List Byte) (s : State) :
    OutKeep (s.at t) (execDmaReadError t n put bs s) := by
  unfold execDmaReadError; simp (maxDischargeDepth := 60)

theorem execDmaRequestAssert_keep (t : Nat) (q : Fin 4) (s : State) :
    OutKeep (s.at t) (execDmaRequestAssert t q s) := by
  unfold execDmaRequestAssert; simp (maxDischargeDepth := 60)

theorem execDmaRequestWithdraw_keep (t : Nat) (q : Fin 4) (done : List (Nat × Nat × List Byte)) (s : State) :
    OutKeep (s.at t) (execDmaRequestWithdraw t q done s) := by
  unfold execDmaRequestWithdraw; simp (maxDischargeDepth := 60)

/-! ## EventTable -/

theorem execEventHandover_keep (t : Nat) (i : Fin 16384) (s : State) :
    OutKeep (s.at t) (execEventHandover t i s) := by
  unfold execEventHandover; simp (maxDischargeDepth := 60)

theorem execNymWrite_keep (t : Nat) (r : Fin 64) (buf : List Word) (s : State) :
    OutKeep (s.at t) (execNymWrite t r buf s) := by
  unfold execNymWrite; simp (maxDischargeDepth := 60)

theorem execNymCommit_keep (t : Nat) (r : Fin 64) (s : State) : OutKeep (s.at t) (execNymCommit t r s) := by
  unfold execNymCommit; simp (maxDischargeDepth := 60)

theorem execNymRead_keep (t : Nat) (r : Fin 64) (s : State) : OutKeep (s.at t) (execNymRead t r s) := by
  unfold execNymRead; simp (maxDischargeDepth := 60)

theorem execNymDisarm_keep (t : Nat) (r : Fin 64) (s : State) : OutKeep (s.at t) (execNymDisarm t r s) := by
  unfold execNymDisarm; simp (maxDischargeDepth := 60)

@[simp] theorem State.tblCmd_keep (sK : State) (s : State) (k : State → Nat → Out) (hk : Keep sK s)
    (hf : ∀ s n, OutKeep s (k s n)) : OutKeep sK (s.tblCmd k) := by
  unfold State.tblCmd
  dsimp only
  split
  · simp [hk]
  · have h := OutKeep.trans hk (hf s (s.rd NYM_TBL_IDX NYM_TBL_IDX_index))
    cases e : k s (s.rd NYM_TBL_IDX NYM_TBL_IDX_index) with
    | next u => simp [h u e]
    | fault f => simp
    | refused f => simp

@[simp] theorem State.setTblData_keep (sK : State) (s : State) (ws : List Word) (hk : Keep sK s) :
    Keep sK (State.setTblData s ws) := by
  unfold State.setTblData; simp (maxDischargeDepth := 60) [hk]

@[simp] theorem State.tblWrite_keep (sK : State) (s : State) (mode : Nat) (hk : Keep sK s) :
    OutKeep sK (State.tblWrite s mode) := by
  unfold State.tblWrite; simp (maxDischargeDepth := 60) [hk]

@[simp] theorem State.tblRead_keep (sK : State) (s : State) (item : Nat) (hk : Keep sK s) :
    OutKeep sK (State.tblRead s item) := by
  unfold State.tblRead; simp (maxDischargeDepth := 60) [hk]

theorem execTblWriteShadow_keep (t : Nat) (s : State) : OutKeep (s.at t) (execTblWriteShadow t s) := by
  unfold execTblWriteShadow; simp (maxDischargeDepth := 60)

theorem execTblWriteCommitArm_keep (t : Nat) (s : State) : OutKeep (s.at t) (execTblWriteCommitArm t s) := by
  unfold execTblWriteCommitArm; simp (maxDischargeDepth := 60)

theorem execTblWriteCommitNow_keep (t : Nat) (s : State) : OutKeep (s.at t) (execTblWriteCommitNow t s) := by
  unfold execTblWriteCommitNow; simp (maxDischargeDepth := 60)

theorem execTblReadShadow_keep (t : Nat) (s : State) : OutKeep (s.at t) (execTblReadShadow t s) := by
  unfold execTblReadShadow; simp (maxDischargeDepth := 60)

theorem execTblReadActive_keep (t : Nat) (s : State) : OutKeep (s.at t) (execTblReadActive t s) := by
  unfold execTblReadActive; simp (maxDischargeDepth := 60)

theorem execTblReadRunState_keep (t : Nat) (s : State) : OutKeep (s.at t) (execTblReadRunState t s) := by
  unfold execTblReadRunState; simp (maxDischargeDepth := 60)

theorem execTblDisarm_keep (t : Nat) (s : State) : OutKeep (s.at t) (execTblDisarm t s) := by
  unfold execTblDisarm; simp (maxDischargeDepth := 60)

/-! ## Fusion -/

@[simp] theorem State.takeRes_keep (sK : State) (s : State) (r : FRes) (hk : Keep sK s) :
    Keep sK (State.takeRes s r) := by
  unfold State.takeRes; (try dsimp only); repeat' split
  all_goals simp (maxDischargeDepth := 60) [hk]

@[simp] theorem State.collect_keep (sK : State) (s : State) (hk : Keep sK s) : Keep sK (State.collect s) := by
  unfold State.collect; simp (maxDischargeDepth := 60) [hk]

@[simp] theorem State.commitSched_keep (sK : State) (s : State) (k : Nat) (hk : Keep sK s) :
    Keep sK (State.commitSched s k) := by
  unfold State.commitSched; (try dsimp only); repeat' split
  all_goals simp (maxDischargeDepth := 60) [hk]

theorem execCollectorCommit_keep (t : Nat) (k : Fin 16) (s : State) :
    OutKeep (s.at t) (execCollectorCommit t k s) := by
  unfold execCollectorCommit; (try dsimp only); repeat' split
  all_goals simp (maxDischargeDepth := 60)

@[simp] theorem State.fusionInstant_keep (sK : State) (s : State) (k : Nat) (hk : Keep sK s) :
    Keep sK (State.fusionInstant s k) := by
  unfold State.fusionInstant; simp (maxDischargeDepth := 60) [hk]

theorem execRawFill_keep (t : Nat) (r : Fin 64) (s : State) : OutKeep (s.at t) (execRawFill t r s) := by
  unfold execRawFill; simp (maxDischargeDepth := 60)

theorem execFusedFill_keep (t : Nat) (r : Fin 64) (s : State) : OutKeep (s.at t) (execFusedFill t r s) := by
  unfold execFusedFill; simp (maxDischargeDepth := 60)

/-! ## Valves -/

@[simp] theorem State.valveShift_keep (sK : State) (s : State) (n : Nat) (hk : Keep sK s) :
    Keep sK (State.valveShift s n) := by
  unfold State.valveShift; simp (maxDischargeDepth := 60) [hk]

@[simp] theorem State.valveCarry_keep (sK : State) (s : State) (n c : Nat) (hk : Keep sK s) :
    Keep sK (State.valveCarry s n c) := by
  unfold State.valveCarry; simp (maxDischargeDepth := 60) [hk]

@[simp] theorem State.valveWait_keep (sK : State) (s : State) (n : Nat) (hk : Keep sK s) :
    Keep sK (State.valveWait s n) := by
  unfold State.valveWait; simp (maxDischargeDepth := 60) [hk]

@[simp] theorem State.valveHand_keep (sK : State) (s : State) (n : Nat) (hk : Keep sK s) :
    Keep sK (State.valveHand s n) := by
  unfold State.valveHand; split <;> simp (maxDischargeDepth := 60) [hk]

@[simp] theorem State.dithStart_keep (sK : State) (s : State) (n : Nat) (hk : Keep sK s) :
    Keep sK (State.dithStart s n) := by
  unfold State.dithStart; simp (maxDischargeDepth := 60) [hk]

@[simp] theorem State.valveTick_keep (sK : State) (s : State) (n mv : Nat) (fell : Option Nat) (hk : Keep sK s) :
    Keep sK (State.valveTick s n mv fell) := by
  unfold State.valveTick; simp (maxDischargeDepth := 60) [hk]

@[simp] theorem State.valveMeasure_keep (sK : State) (s : State) (n cur mv : Nat) (hk : Keep sK s) :
    Keep sK (State.valveMeasure s n cur mv) := by
  unfold State.valveMeasure; simp (maxDischargeDepth := 60) [hk]

@[simp] theorem State.valvePeriodEnd_keep (sK : State) (s : State) (n cur mv : Nat) (hk : Keep sK s) :
    Keep sK (State.valvePeriodEnd s n cur mv) := by
  unfold State.valvePeriodEnd; simp (maxDischargeDepth := 60) [hk]

@[simp] theorem State.partnerHand_keep (sK : State) (s : State) (m : Nat) (hk : Keep sK s) :
    Keep sK (State.partnerHand s m) := by
  unfold State.partnerHand; simp (maxDischargeDepth := 60) [hk]

@[simp] theorem State.pairPeriodEnd_keep (sK : State) (s : State) (n cur mv : Nat) (hk : Keep sK s) :
    Keep sK (State.pairPeriodEnd s n cur mv) := by
  unfold State.pairPeriodEnd; simp (maxDischargeDepth := 60) [hk]

@[simp] theorem State.valveFades_keep (sK : State) (s : State) (n cur : Nat) (hk : Keep sK s) :
    Keep sK (State.valveFades s n cur) := by
  unfold State.valveFades; simp (maxDischargeDepth := 60) [hk]

theorem execValvePeriodEnd_keep (t : Nat) (n : Fin 48) (cur mv : Nat) (s : State) :
    OutKeep (s.at t) (execValvePeriodEnd t n cur mv s) := by
  unfold execValvePeriodEnd; simp (maxDischargeDepth := 60)

@[simp] theorem State.valveEnable_keep (sK : State) (s : State) (n : Nat) (v : Word) (hk : Keep sK s) :
    Keep sK (State.valveEnable s n v) := by
  unfold State.valveEnable; simp (maxDischargeDepth := 60) [hk]

theorem execValveEnable_keep (t : Nat) (n : Fin 48) (v : Word) (s : State) :
    OutKeep (s.at t) (execValveEnable t n v s) := by
  unfold execValveEnable; simp (maxDischargeDepth := 60)

@[simp] theorem State.valveDisable_keep (sK : State) (s : State) (n : Nat) (v : Word) (hk : Keep sK s) :
    Keep sK (State.valveDisable s n v) := by
  unfold State.valveDisable; simp (maxDischargeDepth := 60) [hk]

theorem execValveDisable_keep (t : Nat) (n : Fin 48) (v : Word) (s : State) :
    OutKeep (s.at t) (execValveDisable t n v s) := by
  unfold execValveDisable; simp (maxDischargeDepth := 60)

theorem execValveOfftimeEnd_keep (t : Nat) (n : Fin 48) (s : State) :
    OutKeep (s.at t) (execValveOfftimeEnd t n s) := by
  unfold execValveOfftimeEnd; simp (maxDischargeDepth := 60)

theorem execValveTrip_keep (t : Nat) (n : Fin 48) (rtn : Bool) (s : State) :
    OutKeep (s.at t) (execValveTrip t n rtn s) := by
  unfold execValveTrip; simp (maxDischargeDepth := 60)

theorem execValveRetryEnd_keep (t : Nat) (n : Fin 48) (s : State) : OutKeep (s.at t) (execValveRetryEnd t n s) := by
  unfold execValveRetryEnd; (try dsimp only); repeat' split
  all_goals simp (maxDischargeDepth := 60)

theorem execValveRestartOk_keep (t : Nat) (n : Fin 48) (s : State) : OutKeep (s.at t) (execValveRestartOk t n s) := by
  unfold execValveRestartOk; (try dsimp only); repeat' split
  all_goals simp (maxDischargeDepth := 60)

@[simp] theorem State.valveUnlatch_keep (sK : State) (s : State) (n : Nat) (hk : Keep sK s) :
    Keep sK (State.valveUnlatch s n) := by
  unfold State.valveUnlatch; simp (maxDischargeDepth := 60) [hk]

@[simp] theorem State.valveClear_keep (sK : State) (s : State) (n : Nat) (hk : Keep sK s) :
    Keep sK (State.valveClear s n) := by
  unfold State.valveClear; simp (maxDischargeDepth := 60) [hk]

theorem execValveClrLatch_keep (t : Nat) (n : Fin 48) (v : Word) (s : State) :
    OutKeep (s.at t) (execValveClrLatch t n v s) := by
  unfold execValveClrLatch; simp (maxDischargeDepth := 60)

theorem execValveOpenLoad_keep (t : Nat) (n : Fin 48) (s : State) : OutKeep (s.at t) (execValveOpenLoad t n s) := by
  unfold execValveOpenLoad; (try dsimp only); repeat' split
  all_goals simp (maxDischargeDepth := 60)

theorem execValveHeadroom_keep (t : Nat) (n : Fin 48) (s : State) : OutKeep (s.at t) (execValveHeadroom t n s) := by
  unfold execValveHeadroom; (try dsimp only); repeat' split
  all_goals simp (maxDischargeDepth := 60)

/-! ## HeatNet -/

@[simp] theorem State.setThm_keep (sK : State) (s : State) (x : Thm) (hk : Keep sK s) :
    Keep sK (State.setThm s x) := by
  unfold State.setThm; simp (maxDischargeDepth := 60) [hk]

/-! ## Switches -/

@[simp] theorem State.lampReport_keep (sK : State) (s : State) (n mode duty : Nat) (hk : Keep sK s) :
    Keep sK (State.lampReport s n mode duty) := by
  unfold State.lampReport; simp (maxDischargeDepth := 60) [hk]

@[simp] theorem State.switchShift_keep (sK : State) (s : State) (n : Nat) (hk : Keep sK s) :
    Keep sK (State.switchShift s n) := by
  unfold State.switchShift; simp (maxDischargeDepth := 60) [hk]

@[simp] theorem State.switchCarry_keep (sK : State) (s : State) (n m d : Nat) (hk : Keep sK s) :
    Keep sK (State.switchCarry s n m d) := by
  unfold State.switchCarry; simp (maxDischargeDepth := 60) [hk]

@[simp] theorem State.switchHand_keep (sK : State) (s : State) (n : Nat) (hk : Keep sK s) :
    Keep sK (State.switchHand s n) := by
  unfold State.switchHand; split <;> simp (maxDischargeDepth := 60) [hk]

@[simp] theorem State.openCount_keep (sK : State) (s : State) (n cur : Nat) (hk : Keep sK s) :
    Keep sK (State.openCount s n cur) := by
  unfold State.openCount; (try dsimp only); repeat' split
  all_goals simp (maxDischargeDepth := 60) [hk]

@[simp] theorem State.edgeMark_keep (sK : State) (s : State) (n : Nat) (full : Bool) (hk : Keep sK s) :
    Keep sK (State.edgeMark s n full) := by
  unfold State.edgeMark; simp (maxDischargeDepth := 60) [hk]

theorem execLswPeriodEnd_keep (t : Nat) (n : Fin 64) (cur : Nat) (s : State) :
    OutKeep (s.at t) (execLswPeriodEnd t n cur s) := by
  unfold execLswPeriodEnd; simp (maxDischargeDepth := 60)

@[simp] theorem State.switchEnable_keep (sK : State) (s : State) (n : Nat) (v : Word) (hk : Keep sK s) :
    Keep sK (State.switchEnable s n v) := by
  unfold State.switchEnable; simp (maxDischargeDepth := 60) [hk]

@[simp] theorem State.switchDisable_keep (sK : State) (s : State) (n : Nat) (v : Word) (hk : Keep sK s) :
    Keep sK (State.switchDisable s n v) := by
  unfold State.switchDisable; simp (maxDischargeDepth := 60) [hk]

theorem execLswDisable_keep (t : Nat) (n : Fin 64) (v : Word) (s : State) :
    OutKeep (s.at t) (execLswDisable t n v s) := by
  unfold execLswDisable; simp (maxDischargeDepth := 60)

theorem execInrushEnd_keep (t : Nat) (n : Fin 64) (s : State) : OutKeep (s.at t) (execInrushEnd t n s) := by
  unfold execInrushEnd; (try dsimp only); repeat' split
  all_goals simp (maxDischargeDepth := 60)

@[simp] theorem State.switchTrip_keep (sK : State) (s : State) (n : Nat) (flag : Fld) (hk : Keep sK s) :
    Keep sK (State.switchTrip s n flag) := by
  unfold State.switchTrip; simp (maxDischargeDepth := 60) [hk]

theorem execLswShortTrip_keep (t : Nat) (n : Fin 64) (s : State) : OutKeep (s.at t) (execLswShortTrip t n s) := by
  unfold execLswShortTrip; simp (maxDischargeDepth := 60)

theorem execLswOverloadTrip_keep (t : Nat) (n : Fin 64) (s : State) :
    OutKeep (s.at t) (execLswOverloadTrip t n s) := by
  unfold execLswOverloadTrip; simp (maxDischargeDepth := 60)

theorem execLswRetryEnd_keep (t : Nat) (n : Fin 64) (s : State) : OutKeep (s.at t) (execLswRetryEnd t n s) := by
  unfold execLswRetryEnd; (try dsimp only); repeat' split
  all_goals simp (maxDischargeDepth := 60)

theorem execLswRestartOk_keep (t : Nat) (n : Fin 64) (s : State) : OutKeep (s.at t) (execLswRestartOk t n s) := by
  unfold execLswRestartOk; (try dsimp only); repeat' split
  all_goals simp (maxDischargeDepth := 60)

@[simp] theorem State.switchUnlatch_keep (sK : State) (s : State) (n : Nat) (hk : Keep sK s) :
    Keep sK (State.switchUnlatch s n) := by
  unfold State.switchUnlatch; simp (maxDischargeDepth := 60) [hk]

@[simp] theorem State.switchClear_keep (sK : State) (s : State) (n : Nat) (hk : Keep sK s) :
    Keep sK (State.switchClear s n) := by
  unfold State.switchClear; simp (maxDischargeDepth := 60) [hk]

@[simp] theorem State.switchCool_keep (sK : State) (s : State) (n : Nat) (hk : Keep sK s) :
    Keep sK (State.switchCool s n) := by
  unfold State.switchCool; simp (maxDischargeDepth := 60) [hk]

@[simp] theorem State.switchClrTherm_keep (sK : State) (s : State) (n : Nat) (hk : Keep sK s) :
    Keep sK (State.switchClrTherm s n) := by
  unfold State.switchClrTherm; simp (maxDischargeDepth := 60) [hk]

@[simp] theorem State.switchStatWrite_keep (sK : State) (s : State) (n : Nat) (v : Word) (hk : Keep sK s) :
    Keep sK (State.switchStatWrite s n v) := by
  unfold State.switchStatWrite; simp (maxDischargeDepth := 60) [hk]

theorem execLswClrLatch_keep (t : Nat) (n : Fin 64) (v : Word) (s : State) :
    OutKeep (s.at t) (execLswClrLatch t n v s) := by
  unfold execLswClrLatch; simp (maxDischargeDepth := 60)

theorem execLswClrTherm_keep (t : Nat) (n : Fin 64) (v : Word) (s : State) :
    OutKeep (s.at t) (execLswClrTherm t n v s) := by
  unfold execLswClrTherm; simp (maxDischargeDepth := 60)

theorem execProtectedPhaseEnd_keep (t : Nat) (n : Fin 64) (s : State) :
    OutKeep (s.at t) (execProtectedPhaseEnd t n s) := by
  unfold execProtectedPhaseEnd; (try dsimp only); repeat' split
  all_goals simp (maxDischargeDepth := 60)

theorem execLswOpenLoad_keep (t : Nat) (n : Fin 64) (s : State) : OutKeep (s.at t) (execLswOpenLoad t n s) := by
  unfold execLswOpenLoad; simp (maxDischargeDepth := 60)

/-! ## Thermal -/

@[simp] theorem State.valveHot_keep (sK : State) (s : State) (n : Nat) (hk : Keep sK s) :
    Keep sK (State.valveHot s n) := by
  unfold State.valveHot; simp (maxDischargeDepth := 60) [hk]

@[simp] theorem State.valveCool_keep (sK : State) (s : State) (n : Nat) (hk : Keep sK s) :
    Keep sK (State.valveCool s n) := by
  unfold State.valveCool; simp (maxDischargeDepth := 60) [hk]

@[simp] theorem State.valveTherm_keep (sK : State) (s : State) (n : Nat) (hk : Keep sK s) :
    Keep sK (State.valveTherm s n) := by
  unfold State.valveTherm; simp (maxDischargeDepth := 60) [hk]

@[simp] theorem State.uncount_keep (sK : State) (s : State) (n : Nat) (hk : Keep sK s) :
    Keep sK (State.uncount s n) := by
  unfold State.uncount; simp (maxDischargeDepth := 60) [hk]

@[simp] theorem State.switchHot_keep (sK : State) (s : State) (n : Nat) (hk : Keep sK s) :
    Keep sK (State.switchHot s n) := by
  unfold State.switchHot; simp (maxDischargeDepth := 60) [hk]

@[simp] theorem State.switchTherm_keep (sK : State) (s : State) (n : Nat) (hk : Keep sK s) :
    Keep sK (State.switchTherm s n) := by
  unfold State.switchTherm; simp (maxDischargeDepth := 60) [hk]

@[simp] theorem State.throttle_keep (sK : State) (s : State) (c n : Nat) (dt lim : Int) (hk : Keep sK s) :
    Keep sK (State.throttle s c n dt lim) := by
  unfold State.throttle; simp (maxDischargeDepth := 60) [hk]

@[simp] theorem State.cluster_keep (sK : State) (s : State) (c : Nat) (hk : Keep sK s) :
    Keep sK (State.cluster s c) := by
  unfold State.cluster; simp (maxDischargeDepth := 60) [hk]

@[simp] theorem State.clampTaken_keep (sK : State) (s : State) (n : Nat) (hk : Keep sK s) :
    Keep sK (State.clampTaken s n) := by
  unfold State.clampTaken; simp (maxDischargeDepth := 60) [hk]

theorem execModelUpdate_keep (t : Nat) (heat : List (Nat × Nat)) (s : State) :
    OutKeep (s.at t) (execModelUpdate t heat s) := by
  unfold execModelUpdate; simp (maxDischargeDepth := 60)

@[simp] theorem State.derateSet_keep (sK : State) (s : State) (node : Nat) (hk : Keep sK s) :
    Keep sK (State.derateSet s node) := by
  unfold State.derateSet; simp (maxDischargeDepth := 60) [hk]

theorem execDeratingUpdate_keep (t : Nat) (s : State) : OutKeep (s.at t) (execDeratingUpdate t s) := by
  unfold execDeratingUpdate; simp (maxDischargeDepth := 60)

end Sys2Proof.Machine
end

