-- ==== Sys2Proof/Laws/KeepEngines.lean ====
section
/-! SUPPORT. Housekeeping, the HSL, inference, the K12 and the triad keep the queue, the time and the canonical form: one law for
each operation (Laws/Keep.lean says what is kept). -/

set_option linter.all false

namespace Sys2Proof.Machine

/-! ## Housekeeping -/

@[simp] theorem State.setFeed_keep (sK : State) (s : State) (n : Nat) (f : Feed) (hk : Keep sK s) :
    Keep sK (State.setFeed s n f) := by
  unfold State.setFeed; simp (maxDischargeDepth := 60) [hk]

@[simp] theorem State.supplyRound_keep (sK : State) (s : State) (x : Round) (hk : Keep sK s) :
    Keep sK (State.supplyRound s x) := by
  unfold State.supplyRound; simp (maxDischargeDepth := 60) [hk]

@[simp] theorem State.feedLoad_keep (sK : State) (s : State) (n avg : Nat) (hk : Keep sK s) :
    Keep sK (State.feedLoad s n avg) := by
  unfold State.feedLoad; simp (maxDischargeDepth := 60) [hk]

@[simp] theorem State.feedHigh_keep (sK : State) (s : State) (n cur : Nat) (hk : Keep sK s) :
    Keep sK (State.feedHigh s n cur) := by
  unfold State.feedHigh; simp (maxDischargeDepth := 60) [hk]

@[simp] theorem State.feedRound_keep (sK : State) (s : State) (n : Nat) (m : Nat × Nat × Nat) (hk : Keep sK s) :
    Keep sK (State.feedRound s n m) := by
  unfold State.feedRound; simp (maxDischargeDepth := 60) [hk]

@[simp] theorem State.feedSum_keep (sK : State) (s : State) (sum : Nat) (hk : Keep sK s) :
    Keep sK (State.feedSum s sum) := by
  unfold State.feedSum; simp (maxDischargeDepth := 60) [hk]

@[simp] theorem State.feedsRound_keep (sK : State) (s : State) (x : Round) (hk : Keep sK s) :
    Keep sK (State.feedsRound s x) := by
  unfold State.feedsRound; simp (maxDischargeDepth := 60) [hk]

@[simp] theorem State.baseSensor_keep (sK : State) (s : State) (i : Nat) (v : Int) (hk : Keep sK s) :
    Keep sK (State.baseSensor s i v) := by
  unfold State.baseSensor; simp (maxDischargeDepth := 60) [hk]

@[simp] theorem State.areaCorrect_keep (sK : State) (s : State) (i : Nat) (d : Int) (hk : Keep sK s) :
    Keep sK (State.areaCorrect s i d) := by
  unfold State.areaCorrect; simp (maxDischargeDepth := 60) [hk]

@[simp] theorem State.divergence_keep (sK : State) (s : State) (ds : List Int) (hk : Keep sK s) :
    Keep sK (State.divergence s ds) := by
  unfold State.divergence; split <;> simp (maxDischargeDepth := 60) [hk]

@[simp] theorem State.areasRound_keep (sK : State) (s : State) (areas : List Int) (hk : Keep sK s) :
    Keep sK (State.areasRound s areas) := by
  unfold State.areasRound; simp (maxDischargeDepth := 60) [hk]

@[simp] theorem State.bandRound_keep (sK : State) (s : State) (tb : Int) (pwr : Nat) (hk : Keep sK s) :
    Keep sK (State.bandRound s tb pwr) := by
  unfold State.bandRound; simp (maxDischargeDepth := 60) [hk]

@[simp] theorem State.orderlyRound_keep (sK : State) (s : State) (tb : Int) (hk : Keep sK s) :
    Keep sK (State.orderlyRound s tb) := by
  unfold State.orderlyRound; simp (maxDischargeDepth := 60) [hk]

@[simp] theorem State.round_keep (sK : State) (s : State) (x : Round) (hk : Keep sK s) :
    Keep sK (State.round s x) := by
  unfold State.round; simp (maxDischargeDepth := 60) [hk]

theorem execHousekeepingRound_keep (t : Nat) (x : Round) (s : State) :
    OutKeep (s.at t) (execHousekeepingRound t x s) := by
  unfold execHousekeepingRound; simp (maxDischargeDepth := 60)

/-! ## Hsl -/

@[simp] theorem State.setHsl_keep (sK : State) (s : State) (h : Hsl) (hk : Keep sK s) :
    Keep sK (State.setHsl s h) := by
  unfold State.setHsl; simp (maxDischargeDepth := 60) [hk]

@[simp] theorem State.hslCopy_keep (sK : State) (s : State) (src : Cells Word) (again : Bool) (hk : Keep sK s) :
    Keep sK (State.hslCopy s src again) := by
  unfold State.hslCopy; simp (maxDischargeDepth := 60) [hk]

@[simp] theorem State.hslHandOff_keep (sK : State) (s : State) (hk : Keep sK s) :
    OutKeep sK (State.hslHandOff s) := by
  unfold State.hslHandOff; simp (maxDischargeDepth := 60) [hk]

@[simp] theorem State.hslWords_keep (sK : State) (s : State) (l : List (Nat × Word)) (hk : Keep sK s) :
    Keep sK (State.hslWords s l) := by
  unfold State.hslWords; simp (maxDischargeDepth := 60) [hk]

@[simp] theorem State.hslCommit_keep (sK : State) (s : State) (hk : Keep sK s) : Keep sK (State.hslCommit s) := by
  unfold State.hslCommit; simp (maxDischargeDepth := 60) [hk]

@[simp] theorem State.hslStart_keep (sK : State) (s : State) (mode : Nat) (byp : Word) (hk : Keep sK s) :
    Keep sK (State.hslStart s mode byp) := by
  unfold State.hslStart; simp (maxDischargeDepth := 60) [hk]

@[simp] theorem State.hslOffAfter_keep (sK : State) (s : State) (hk : Keep sK s) :
    OutKeep sK (State.hslOffAfter s) := by
  unfold State.hslOffAfter; simp (maxDischargeDepth := 60) [hk]

theorem execHslTriggerRelease_keep (t : Nat) (s : State) : OutKeep (s.at t) (execHslTriggerRelease t s) := by
  unfold execHslTriggerRelease; simp (maxDischargeDepth := 60)

@[simp] theorem State.hslNext_keep (sK : State) (s : State) (x : HslRun) (hk : Keep sK s) :
    Keep sK (State.hslNext s x).1 := by
  unfold State.hslNext; simp (maxDischargeDepth := 60) [hk]

@[simp] theorem State.hslWrite_keep (sK : State) (s : State) (l : List (Nat × Nat × Int)) (hk : Keep sK s) :
    Keep sK (State.hslWrite s l).1 := by
  unfold State.hslWrite; simp (maxDischargeDepth := 60) [hk]

@[simp] theorem State.hslStepped_keep (sK : State) (s : State) (x : HslRun) (hk : Keep sK s) :
    Keep sK (State.hslStepped s x) := by
  unfold State.hslStepped; simp (maxDischargeDepth := 60) [hk]

theorem execHslStepEnd_keep (t : Nat) (s : State) : OutKeep (s.at t) (execHslStepEnd t s) := by
  unfold execHslStepEnd; (try dsimp only); repeat' split
  all_goals simp (maxDischargeDepth := 60)

theorem execHslModeWrite_keep (t : Nat) (v : Word) (s : State) : OutKeep (s.at t) (execHslModeWrite t v s) := by
  unfold execHslModeWrite; simp (maxDischargeDepth := 60)

@[simp] theorem State.hslByp_keep (sK : State) (s : State) (v : Word) (hk : Keep sK s) :
    Keep sK (State.hslByp s v) := by
  unfold State.hslByp; simp (maxDischargeDepth := 60) [hk]

@[simp] theorem State.hslAfter_keep (sK : State) (s : State) (commit : Bool) (hk : Keep sK s) :
    OutKeep sK (State.hslAfter s commit) := by
  unfold State.hslAfter; simp (maxDischargeDepth := 60) [hk]

@[simp] theorem State.hslEnd_keep (sK : State) (s : State) (r slot len : Nat) (commit : Bool) (hk : Keep sK s) :
    OutKeep sK (State.hslEnd s r slot len commit) := by
  unfold State.hslEnd; simp (maxDischargeDepth := 60) [hk]

theorem execHslWrite_keep (t : Nat) (r : Fin 64) (buf : List Word) (s : State) :
    OutKeep (s.at t) (execHslWrite t r buf s) := by
  unfold execHslWrite; simp (maxDischargeDepth := 60)

theorem execHslCommit_keep (t : Nat) (r : Fin 64) (s : State) : OutKeep (s.at t) (execHslCommit t r s) := by
  unfold execHslCommit; simp (maxDischargeDepth := 60)

theorem execHslRead_keep (t : Nat) (r : Fin 64) (s : State) : OutKeep (s.at t) (execHslRead t r s) := by
  unfold execHslRead; simp (maxDischargeDepth := 60)

theorem execSetObj_keep (t : Nat) (r : Fin 64) (buf : List Word) (s : State) :
    OutKeep (s.at t) (execSetObj t r buf s) := by
  unfold execSetObj; simp (maxDischargeDepth := 60)

theorem execReportFill_keep (t : Nat) (r : Fin 64) (s : State) : OutKeep (s.at t) (execReportFill t r s) := by
  unfold execReportFill; simp (maxDischargeDepth := 60)

/-! ## Infer -/

@[simp] theorem State.setSlot_keep (sK : State) (s : State) (m : Nat) (x : Slot) (hk : Keep sK s) :
    Keep sK (State.setSlot s m x) := by
  unfold State.setSlot; simp (maxDischargeDepth := 60) [hk]

@[simp] theorem State.inferResult_keep (sK : State) (s : State) (m : Nat) (h : List Word) (i : VItem) (flags runUs : Nat) (scal : List Word) (blob : List Byte) (hk : Keep sK s) :
    Keep sK (State.inferResult s m h i flags runUs scal blob) := by
  unfold State.inferResult; simp (maxDischargeDepth := 60) [hk]

@[simp] theorem State.inferStart_keep (sK : State) (s : State) (hk : Keep sK s) : Keep sK (State.inferStart s) := by
  unfold State.inferStart; (try dsimp only); repeat' split
  all_goals simp (maxDischargeDepth := 60) [hk]

@[simp] theorem State.inferDrop_keep (sK : State) (s : State) (m : Nat) (i : VItem) (hk : Keep sK s) :
    Keep sK (State.inferDrop s m i) := by
  unfold State.inferDrop; simp (maxDischargeDepth := 60) [hk]

theorem execTensorReady_keep (t : Nat) (c : Fin 12) (s : State) : OutKeep (s.at t) (execTensorReady t c s) := by
  unfold execTensorReady; (try dsimp only); repeat' split
  all_goals simp (maxDischargeDepth := 60)

theorem execInferenceRunDone_keep (t : Nat) (res : InferResult) (ecc : List EccHit) (s : State) :
    OutKeep (s.at t) (execInferenceRunDone t res ecc s) := by
  unfold execInferenceRunDone; (try dsimp only); repeat' split
  all_goals simp (maxDischargeDepth := 60)

theorem execInferenceTimeout_keep (t : Nat) (s : State) : OutKeep (s.at t) (execInferenceTimeout t s) := by
  unfold execInferenceTimeout; (try dsimp only); repeat' split
  all_goals simp (maxDischargeDepth := 60)

@[simp] theorem State.putModel_keep (sK : State) (s : State) (m : Nat) (h : Option (List Word)) (hk : Keep sK s) :
    Keep sK (State.putModel s m h) := by
  unfold State.putModel; simp (maxDischargeDepth := 60) [hk]

theorem execLoadModel_keep (t : Nat) (r : Fin 64) (buf : List Word) (sig : Bool) (s : State) :
    OutKeep (s.at t) (execLoadModel t r buf sig s) := by
  unfold execLoadModel; simp (maxDischargeDepth := 60)

theorem execUnloadModel_keep (t : Nat) (r : Fin 64) (s : State) : OutKeep (s.at t) (execUnloadModel t r s) := by
  unfold execUnloadModel; simp (maxDischargeDepth := 60)

theorem execFrameRecordFill_keep (t : Nat) (r : Fin 64) (s : State) :
    OutKeep (s.at t) (execFrameRecordFill t r s) := by
  unfold execFrameRecordFill; simp (maxDischargeDepth := 60)

theorem execInferenceFill_keep (t : Nat) (r : Fin 64) (s : State) : OutKeep (s.at t) (execInferenceFill t r s) := by
  unfold execInferenceFill; simp (maxDischargeDepth := 60)

theorem execAccessUnitFill_keep (t : Nat) (r : Fin 64) (e : Fin 4) (s : State) :
    OutKeep (s.at t) (execAccessUnitFill t r e s) := by
  unfold execAccessUnitFill; simp (maxDischargeDepth := 60)

/-! ## K12Core -/

@[simp] theorem State.setK12_keep (sK : State) (s : State) (x : K12) (hk : Keep sK s) :
    Keep sK (State.setK12 s x) := by
  unfold State.setK12; simp (maxDischargeDepth := 60) [hk]

@[simp] theorem State.k12Opwm_keep (sK : State) (s : State) (hk : Keep sK s) : Keep sK (State.k12Opwm s) := by
  unfold State.k12Opwm; simp (maxDischargeDepth := 60) [hk]

@[simp] theorem State.k12Valves_keep (sK : State) (s : State) (reg : Nat → Nat) (f : Fld) (v : Nat) (hk : Keep sK s) :
    Keep sK (State.k12Valves s reg f v) := by
  unfold State.k12Valves; simp (maxDischargeDepth := 60) [hk]

@[simp] theorem State.k12Switches_keep (sK : State) (s : State) (reg : Nat → Nat) (f : Fld) (v : Nat) (hk : Keep sK s) :
    Keep sK (State.k12Switches s reg f v) := by
  unfold State.k12Switches; simp (maxDischargeDepth := 60) [hk]

@[simp] theorem State.k12Spread_keep (sK : State) (s : State) (a v : Nat) (hk : Keep sK s) :
    Keep sK (State.k12Spread s a v) := by
  unfold State.k12Spread; simp (maxDischargeDepth := 60) [hk]

@[simp] theorem State.k12Run_keep (sK : State) (s : State) (run : Bool) (hk : Keep sK s) :
    Keep sK (State.k12Run s run) := by
  unfold State.k12Run; simp (maxDischargeDepth := 60) [hk]

@[simp] theorem State.k12Claim_keep (sK : State) (s : State) (hk : Keep sK s) : Keep sK (State.k12Claim s) := by
  unfold State.k12Claim; simp (maxDischargeDepth := 60) [hk]

@[simp] theorem State.k12Setup_keep (sK : State) (s : State) (hk : Keep sK s) : Keep sK (State.k12Setup s) := by
  unfold State.k12Setup; simp (maxDischargeDepth := 60) [hk]

@[simp] theorem State.k12Lease_keep (sK : State) (s : State) (hk : Keep sK s) : Keep sK (State.k12Lease s) := by
  unfold State.k12Lease; simp (maxDischargeDepth := 60) [hk]

@[simp] theorem State.k12Put_keep (sK : State) (s : State) (c v : Nat) (hk : Keep sK s) :
    Keep sK (State.k12Put s c v) := by
  unfold State.k12Put; simp (maxDischargeDepth := 60) [hk]

@[simp] theorem State.k12Off_keep (sK : State) (s : State) (hk : Keep sK s) : Keep sK (State.k12Off s) := by
  unfold State.k12Off; simp (maxDischargeDepth := 60) [hk]

@[simp] theorem State.k12EvBad_keep (sK : State) (s : State) (hk : Keep sK s) : Keep sK (State.k12EvBad s) := by
  unfold State.k12EvBad; simp (maxDischargeDepth := 60) [hk]

@[simp] theorem State.k12EvCmd_keep (sK : State) (s : State) (code : Nat) (hk : Keep sK s) :
    OutKeep sK (State.k12EvCmd s code) := by
  unfold State.k12EvCmd; simp (maxDischargeDepth := 60) [hk]

@[simp] theorem State.k12Ctrl_keep (sK : State) (s : State) (v : Nat) (hk : Keep sK s) :
    Keep sK (State.k12Ctrl s v) := by
  unfold State.k12Ctrl; simp (maxDischargeDepth := 60) [hk]

@[simp] theorem State.k12Store_keep (sK : State) (s : State) (a v : Nat) (hk : Keep sK s) :
    OutKeep sK (State.k12Store s a v) := by
  unfold State.k12Store; simp (maxDischargeDepth := 60) [hk]

@[simp] theorem State.k12Keep_keep (sK : State) (s : State) (hk : Keep sK s) : Keep sK (State.k12Keep s) := by
  unfold State.k12Keep; simp (maxDischargeDepth := 60) [hk]

@[simp] theorem State.k12Write_keep (sK : State) (s : State) (a v : Nat) (hk : Keep sK s) :
    OutKeep sK (State.k12Write s a v) := by
  unfold State.k12Write; simp (maxDischargeDepth := 60) [hk]

@[simp] theorem State.k12Frame_keep (sK : State) (s : State) (clocks op a v : Nat) (hk : Keep sK s) :
    OutKeep sK (State.k12Frame s clocks op a v) := by
  unfold State.k12Frame; simp (maxDischargeDepth := 60) [hk]

/-! ## K12 -/

theorem execK12PortWrite_keep (t : Nat) (clocks : Nat) (op : Fin 16) (addr data : BitVec 16) (s : State) :
    OutKeep (s.at t) (execK12PortWrite t clocks op addr data s) := by
  unfold execK12PortWrite; simp (maxDischargeDepth := 60)

theorem execK12PortRead_keep (t : Nat) (clocks : Nat) (op : Fin 16) (addr data : BitVec 16) (s : State) :
    OutKeep (s.at t) (execK12PortRead t clocks op addr data s) := by
  unfold execK12PortRead; simp (maxDischargeDepth := 60)

theorem execK12Latch_keep (t : Nat) (s : State) : OutKeep (s.at t) (execK12Latch t s) := by
  unfold execK12Latch; simp (maxDischargeDepth := 60)

theorem execK12InputRefresh_keep (t : Nat) (s : State) : OutKeep (s.at t) (execK12InputRefresh t s) := by
  unfold execK12InputRefresh; simp (maxDischargeDepth := 60)

theorem execK12CyclicCan_keep (t : Nat) (frames : List (Fin 2 × Nat × List Byte)) (s : State) :
    OutKeep (s.at t) (execK12CyclicCan t frames s) := by
  unfold execK12CyclicCan; simp (maxDischargeDepth := 60)

theorem execK12PairRealign_keep (t : Nat) (p : Fin 8) (s : State) : OutKeep (s.at t) (execK12PairRealign t p s) := by
  unfold execK12PairRealign; simp (maxDischargeDepth := 60)

theorem execEvWriteCommitArm_keep (t : Nat) (s : State) : OutKeep (s.at t) (execEvWriteCommitArm t s) := by
  unfold execEvWriteCommitArm; simp (maxDischargeDepth := 60)

theorem execEvWriteCommitNow_keep (t : Nat) (s : State) : OutKeep (s.at t) (execEvWriteCommitNow t s) := by
  unfold execEvWriteCommitNow; simp (maxDischargeDepth := 60)

theorem execEvRead_keep (t : Nat) (s : State) : OutKeep (s.at t) (execEvRead t s) := by
  unfold execEvRead; simp (maxDischargeDepth := 60)

theorem execEvDisarm_keep (t : Nat) (s : State) : OutKeep (s.at t) (execEvDisarm t s) := by
  unfold execEvDisarm; simp (maxDischargeDepth := 60)

theorem execK12StatusClear_keep (t : Nat) (v : BitVec 16) (s : State) :
    OutKeep (s.at t) (execK12StatusClear t v s) := by
  unfold execK12StatusClear; simp (maxDischargeDepth := 60)

theorem execK12HtoClear_keep (t : Nat) (v : BitVec 16) (s : State) : OutKeep (s.at t) (execK12HtoClear t v s) := by
  unfold execK12HtoClear; simp (maxDischargeDepth := 60)

theorem execK12HostTimeout_keep (t : Nat) (s : State) : OutKeep (s.at t) (execK12HostTimeout t s) := by
  unfold execK12HostTimeout; simp (maxDischargeDepth := 60)

theorem execK12AddressClaim_keep (t : Nat) (won : Option (Fin 254)) (s : State) :
    OutKeep (s.at t) (execK12AddressClaim t won s) := by
  unfold execK12AddressClaim; simp (maxDischargeDepth := 60)

theorem execK12BusoffRecover_keep (t : Nat) (n : Fin 2) (s : State) :
    OutKeep (s.at t) (execK12BusoffRecover t n s) := by
  unfold execK12BusoffRecover; simp (maxDischargeDepth := 60)

/-! ## Triad -/

@[simp] theorem State.trackStep_keep (sK : State) (s : State) (hk : Keep sK s) : Keep sK (State.trackStep s).1 := by
  unfold State.trackStep; (try dsimp only); repeat' split
  all_goals simp (maxDischargeDepth := 60) [hk]

@[simp] theorem State.tracked_keep (sK : State) (s : State) (hk : Keep sK s) : Keep sK (State.tracked s).1 := by
  unfold State.tracked; simp (maxDischargeDepth := 60) [hk]

@[simp] theorem State.expireAll_keep (sK : State) (s : State) (hk : Keep sK s) : Keep sK (State.expireAll s) := by
  unfold State.expireAll; simp (maxDischargeDepth := 60) [hk]

@[simp] theorem State.recRenew_keep (sK : State) (s : State) (ws : List Word) (hk : Keep sK s) :
    Keep sK (State.recRenew s ws) := by
  unfold State.recRenew; simp (maxDischargeDepth := 60) [hk]

@[simp] theorem State.recChange_keep (sK : State) (s0 s : State) (ws : List Word) (hk : Keep sK s) :
    Keep sK (State.recChange s0 s ws) := by
  unfold State.recChange; simp (maxDischargeDepth := 60) [hk]

@[simp] theorem State.recState_keep (sK : State) (s : State) (ws : List Word) (hk : Keep sK s) :
    Keep sK (State.recState s ws) := by
  unfold State.recState; simp (maxDischargeDepth := 60) [hk]

@[simp] theorem State.sendSps_keep (sK : State) (s : State) (hk : Keep sK s) : Keep sK (State.sendSps s) := by
  unfold State.sendSps; simp (maxDischargeDepth := 60) [hk]

@[simp] theorem State.pathSet_keep (sK : State) (s : State) (o : TriOp) (hk : Keep sK s) :
    Keep sK (State.pathSet s o) := by
  unfold State.pathSet; split <;> simp (maxDischargeDepth := 60) [hk]

@[simp] theorem State.applyRecord_keep (sK : State) (s0 : State) (p : Plan) (mine ws : List Word) (s : State) (hk : Keep sK s) :
    Keep sK (State.applyRecord s0 p mine ws s) := by
  unfold State.applyRecord; simp (maxDischargeDepth := 60) [hk]

@[simp] theorem State.commitNext_keep (sK : State) (s : State) (hk : Keep sK s) : Keep sK (State.commitNext s) := by
  unfold State.commitNext; simp (maxDischargeDepth := 60) [hk]

theorem execCommitVote_keep (t : Nat) (c0 c1 c2 : CoreRec) (s : State) :
    OutKeep (s.at t) (execCommitVote t c0 c1 c2 s) := by
  unfold execCommitVote; (try dsimp only); repeat' split
  all_goals simp (maxDischargeDepth := 60)

theorem execLimpSafeStateApply_keep (t : Nat) (s : State) : OutKeep (s.at t) (execLimpSafeStateApply t s) := by
  unfold execLimpSafeStateApply; simp (maxDischargeDepth := 60)

theorem execLeaseExpiry_keep (t : Nat) (g : Fin 32) (s : State) : OutKeep (s.at t) (execLeaseExpiry t g s) := by
  unfold execLeaseExpiry; simp (maxDischargeDepth := 60)

theorem execHoldLimitEnd_keep (t : Nat) (g : Fin 32) (s : State) : OutKeep (s.at t) (execHoldLimitEnd t g s) := by
  unfold execHoldLimitEnd; (try dsimp only); repeat' split
  all_goals simp (maxDischargeDepth := 60)

theorem execOverrideActive_keep (t : Nat) (n : Fin 2) (s : State) : OutKeep (s.at t) (execOverrideActive t n s) := by
  unfold execOverrideActive; simp (maxDischargeDepth := 60)

@[simp] theorem State.ovrOff_keep (sK : State) (s : State) (n : Nat) (hk : Keep sK s) :
    Keep sK (State.ovrOff s n) := by
  unfold State.ovrOff; simp (maxDischargeDepth := 60) [hk]

theorem execOverrideInactive_keep (t : Nat) (n : Fin 2) (s : State) :
    OutKeep (s.at t) (execOverrideInactive t n s) := by
  unfold execOverrideInactive; simp (maxDischargeDepth := 60)

theorem execOverrideRearm_keep (t : Nat) (s : State) : OutKeep (s.at t) (execOverrideRearm t s) := by
  unfold execOverrideRearm; simp (maxDischargeDepth := 60)

@[simp] theorem State.triWait_keep (sK : State) (s : State) (r slot : Nat) (q : TriReq) (hk : Keep sK s) :
    Keep sK (State.triWait s r slot q) := by
  unfold State.triWait; simp (maxDischargeDepth := 60) [hk]

theorem execSetSp_keep (t : Nat) (r : Fin 64) (s : State) : OutKeep (s.at t) (execSetSp t r s) := by
  unfold execSetSp; simp (maxDischargeDepth := 60)

theorem execPathAppend_keep (t : Nat) (r : Fin 64) (buf : List Word) (s : State) :
    OutKeep (s.at t) (execPathAppend t r buf s) := by
  unfold execPathAppend; simp (maxDischargeDepth := 60)

theorem execPathClear_keep (t : Nat) (r : Fin 64) (s : State) : OutKeep (s.at t) (execPathClear t r s) := by
  unfold execPathClear; simp (maxDischargeDepth := 60)

theorem execGrant_keep (t : Nat) (r : Fin 64) (s : State) : OutKeep (s.at t) (execGrant t r s) := by
  unfold execGrant; simp (maxDischargeDepth := 60)

theorem execRelease_keep (t : Nat) (r : Fin 64) (s : State) : OutKeep (s.at t) (execRelease t r s) := by
  unfold execRelease; simp (maxDischargeDepth := 60)

theorem execSetState_keep (t : Nat) (r : Fin 64) (s : State) : OutKeep (s.at t) (execSetState t r s) := by
  unfold execSetState; simp (maxDischargeDepth := 60)

@[simp] theorem State.driven_keep (sK : State) (s : State) (g : Nat) (hk : Keep sK s) :
    Keep sK (State.driven s g) := by
  unfold State.driven; simp (maxDischargeDepth := 60) [hk]

theorem execDrive_keep (t : Nat) (r : Fin 64) (s : State) : OutKeep (s.at t) (execDrive t r s) := by
  unfold execDrive; simp (maxDischargeDepth := 60)

theorem execRenew_keep (t : Nat) (r : Fin 64) (s : State) : OutKeep (s.at t) (execRenew t r s) := by
  unfold execRenew; simp (maxDischargeDepth := 60)

theorem execTriGmapWrite_keep (t : Nat) (v : Word) (s : State) : OutKeep (s.at t) (execTriGmapWrite t v s) := by
  unfold execTriGmapWrite; simp (maxDischargeDepth := 60)

end Sys2Proof.Machine
end

