-- ==== Sys2Proof/Laws/KeepWrites.lean ====
section
/-! SUPPORT. Register writes as a host makes them, releases and the update commands keep the queue, the time and the canonical form: one law for
each operation (Laws/Keep.lean says what is kept). -/

set_option linter.all false

namespace Sys2Proof.Machine

/-! ## RegWrite -/

@[simp] theorem execUnmappedBar0Access_keep_now (sK : State) (t : Nat) (off : Nat) (s : State) (hk : Keep sK s) (ht : t ≤ s.cyc) :
    OutKeep sK (execUnmappedBar0Access t off s) :=
  OutKeep.trans hk (by simpa [State.at_of_le ht] using execUnmappedBar0Access_keep t off s)

@[simp] theorem execSysBar2BaseWrite_keep_now (sK : State) (t : Nat) (v : Word) (s : State) (hk : Keep sK s) (ht : t ≤ s.cyc) :
    OutKeep sK (execSysBar2BaseWrite t v s) :=
  OutKeep.trans hk (by simpa [State.at_of_le ht] using execSysBar2BaseWrite_keep t v s)

@[simp] theorem execWinClearState_keep_now (sK : State) (t : Nat) (s : State) (hk : Keep sK s) (ht : t ≤ s.cyc) :
    OutKeep sK (execWinClearState t s) :=
  OutKeep.trans hk (by simpa [State.at_of_le ht] using execWinClearState_keep t s)

@[simp] theorem execPoolDataAccess_keep_now (sK : State) (t : Nat) (v : Option Word) (s : State) (hk : Keep sK s) (ht : t ≤ s.cyc) :
    OutKeep sK (execPoolDataAccess t v s) :=
  OutKeep.trans hk (by simpa [State.at_of_le ht] using execPoolDataAccess_keep t v s)

@[simp] theorem execShaftEnable_keep_now (sK : State) (t : Nat) (k : Fin 8) (v : Word) (s : State) (hk : Keep sK s) (ht : t ≤ s.cyc) :
    OutKeep sK (execShaftEnable t k v s) :=
  OutKeep.trans hk (by simpa [State.at_of_le ht] using execShaftEnable_keep t k v s)

@[simp] theorem execShaftDisable_keep_now (sK : State) (t : Nat) (k : Fin 8) (v : Word) (s : State) (hk : Keep sK s) (ht : t ≤ s.cyc) :
    OutKeep sK (execShaftDisable t k v s) :=
  OutKeep.trans hk (by simpa [State.at_of_le ht] using execShaftDisable_keep t k v s)

@[simp] theorem execTstJitWrite_keep_now (sK : State) (t : Nat) (v : Word) (s : State) (hk : Keep sK s) (ht : t ≤ s.cyc) :
    OutKeep sK (execTstJitWrite t v s) :=
  OutKeep.trans hk (by simpa [State.at_of_le ht] using execTstJitWrite_keep t v s)

@[simp] theorem execCanEnable_keep_now (sK : State) (t : Nat) (n : Fin 8) (v : Word) (s : State) (hk : Keep sK s) (ht : t ≤ s.cyc) :
    OutKeep sK (execCanEnable t n v s) :=
  OutKeep.trans hk (by simpa [State.at_of_le ht] using execCanEnable_keep t n v s)

@[simp] theorem execCanDisable_keep_now (sK : State) (t : Nat) (n : Fin 8) (v : Word) (s : State) (hk : Keep sK s) (ht : t ≤ s.cyc) :
    OutKeep sK (execCanDisable t n v s) :=
  OutKeep.trans hk (by simpa [State.at_of_le ht] using execCanDisable_keep t n v s)

@[simp] theorem execRingStart_keep_now (sK : State) (t : Nat) (r : Fin 64) (s : State) (hk : Keep sK s) (ht : t ≤ s.cyc) :
    OutKeep sK (execRingStart t r s) :=
  OutKeep.trans hk (by simpa [State.at_of_le ht] using execRingStart_keep t r s)

@[simp] theorem execRingStop_keep_now (sK : State) (t : Nat) (r : Fin 64) (s : State) (hk : Keep sK s) (ht : t ≤ s.cyc) :
    OutKeep sK (execRingStop t r s) :=
  OutKeep.trans hk (by simpa [State.at_of_le ht] using execRingStop_keep t r s)

@[simp] theorem execCameraEnable_keep_now (sK : State) (t : Nat) (c : Fin 12) (v : Word) (s : State) (hk : Keep sK s) (ht : t ≤ s.cyc) :
    OutKeep sK (execCameraEnable t c v s) :=
  OutKeep.trans hk (by simpa [State.at_of_le ht] using execCameraEnable_keep t c v s)

@[simp] theorem execEncoderEnable_keep_now (sK : State) (t : Nat) (e : Fin 4) (v : Word) (s : State) (hk : Keep sK s) (ht : t ≤ s.cyc) :
    OutKeep sK (execEncoderEnable t e v s) :=
  OutKeep.trans hk (by simpa [State.at_of_le ht] using execEncoderEnable_keep t e v s)

@[simp] theorem execRpDataWrite_keep_now (sK : State) (t : Nat) (v : Word) (s : State) (hk : Keep sK s) (ht : t ≤ s.cyc) :
    OutKeep sK (execRpDataWrite t v s) :=
  OutKeep.trans hk (by simpa [State.at_of_le ht] using execRpDataWrite_keep t v s)

@[simp] theorem execAxoHello_keep_now (sK : State) (t : Nat) (via : AxoVia) (s : State) (hk : Keep sK s) (ht : t ≤ s.cyc) :
    OutKeep sK (execAxoHello t via s) :=
  OutKeep.trans hk (by simpa [State.at_of_le ht] using execAxoHello_keep t via s)

@[simp] theorem execAxoBegin_keep_now (sK : State) (t : Nat) (via : AxoVia) (arg : Word) (s : State) (hk : Keep sK s) (ht : t ≤ s.cyc) :
    OutKeep sK (execAxoBegin t via arg s) :=
  OutKeep.trans hk (by simpa [State.at_of_le ht] using execAxoBegin_keep t via arg s)

@[simp] theorem execAxoData_keep_now (sK : State) (t : Nat) (via : AxoVia) (off : Nat) (bs : List Byte) (s : State) (hk : Keep sK s) (ht : t ≤ s.cyc) :
    OutKeep sK (execAxoData t via off bs s) :=
  OutKeep.trans hk (by simpa [State.at_of_le ht] using execAxoData_keep t via off bs s)

@[simp] theorem execAxoFinish_keep_now (sK : State) (t : Nat) (via : AxoVia) (sig : Bool) (s : State) (hk : Keep sK s) (ht : t ≤ s.cyc) :
    OutKeep sK (execAxoFinish t via sig s) :=
  OutKeep.trans hk (by simpa [State.at_of_le ht] using execAxoFinish_keep t via sig s)

@[simp] theorem execAxoActivate_keep_now (sK : State) (t : Nat) (via : AxoVia) (arg : Word) (s : State) (hk : Keep sK s) (ht : t ≤ s.cyc) :
    OutKeep sK (execAxoActivate t via arg s) :=
  OutKeep.trans hk (by simpa [State.at_of_le ht] using execAxoActivate_keep t via arg s)

@[simp] theorem execAxoBoot_keep_now (sK : State) (t : Nat) (via : AxoVia) (s : State) (hk : Keep sK s) (ht : t ≤ s.cyc) :
    OutKeep sK (execAxoBoot t via s) :=
  OutKeep.trans hk (by simpa [State.at_of_le ht] using execAxoBoot_keep t via s)

@[simp] theorem execDmaNextWrite_keep_now (sK : State) (t : Nat) (n : Fin 32) (v : Word) (s : State) (hk : Keep sK s) (ht : t ≤ s.cyc) :
    OutKeep sK (execDmaNextWrite t n v s) :=
  OutKeep.trans hk (by simpa [State.at_of_le ht] using execDmaNextWrite_keep t n v s)

@[simp] theorem execTblDisarm_keep_now (sK : State) (t : Nat) (s : State) (hk : Keep sK s) (ht : t ≤ s.cyc) :
    OutKeep sK (execTblDisarm t s) :=
  OutKeep.trans hk (by simpa [State.at_of_le ht] using execTblDisarm_keep t s)

@[simp] theorem execValveEnable_keep_now (sK : State) (t : Nat) (n : Fin 48) (v : Word) (s : State) (hk : Keep sK s) (ht : t ≤ s.cyc) :
    OutKeep sK (execValveEnable t n v s) :=
  OutKeep.trans hk (by simpa [State.at_of_le ht] using execValveEnable_keep t n v s)

@[simp] theorem execValveDisable_keep_now (sK : State) (t : Nat) (n : Fin 48) (v : Word) (s : State) (hk : Keep sK s) (ht : t ≤ s.cyc) :
    OutKeep sK (execValveDisable t n v s) :=
  OutKeep.trans hk (by simpa [State.at_of_le ht] using execValveDisable_keep t n v s)

@[simp] theorem execValveClrLatch_keep_now (sK : State) (t : Nat) (n : Fin 48) (v : Word) (s : State) (hk : Keep sK s) (ht : t ≤ s.cyc) :
    OutKeep sK (execValveClrLatch t n v s) :=
  OutKeep.trans hk (by simpa [State.at_of_le ht] using execValveClrLatch_keep t n v s)

@[simp] theorem execLswDisable_keep_now (sK : State) (t : Nat) (n : Fin 64) (v : Word) (s : State) (hk : Keep sK s) (ht : t ≤ s.cyc) :
    OutKeep sK (execLswDisable t n v s) :=
  OutKeep.trans hk (by simpa [State.at_of_le ht] using execLswDisable_keep t n v s)

@[simp] theorem execHslModeWrite_keep_now (sK : State) (t : Nat) (v : Word) (s : State) (hk : Keep sK s) (ht : t ≤ s.cyc) :
    OutKeep sK (execHslModeWrite t v s) :=
  OutKeep.trans hk (by simpa [State.at_of_le ht] using execHslModeWrite_keep t v s)

@[simp] theorem execTriGmapWrite_keep_now (sK : State) (t : Nat) (v : Word) (s : State) (hk : Keep sK s) (ht : t ≤ s.cyc) :
    OutKeep sK (execTriGmapWrite t v s) :=
  OutKeep.trans hk (by simpa [State.at_of_le ht] using execTriGmapWrite_keep t v s)

@[simp] theorem State.plainWrite_keep (sK : State) (s : State) (off : Nat) (v : Word) (locked : Bool) (hk : Keep sK s) :
    OutKeep sK (State.plainWrite s off v locked) := by
  unfold State.plainWrite; simp (maxDischargeDepth := 60) [hk]

@[simp] theorem State.checkedWrite_keep (sK : State) (s : State) (off : Nat) (v : Word) (locked bad : Bool) (f : Fault) (hk : Keep sK s) :
    OutKeep sK (State.checkedWrite s off v locked bad f) := by
  unfold State.checkedWrite; simp (maxDischargeDepth := 60) [hk]

theorem execRingStopDiscard_keep (t : Nat) (r : Fin 64) (s : State) :
    OutKeep (s.at t) (execRingStopDiscard t r s) := by
  unfold execRingStopDiscard; simp (maxDischargeDepth := 60)

@[simp] theorem execRingStopDiscard_keep_now (sK : State) (t : Nat) (r : Fin 64) (s : State) (hk : Keep sK s) (ht : t ≤ s.cyc) :
    OutKeep sK (execRingStopDiscard t r s) :=
  OutKeep.trans hk (by simpa [State.at_of_le ht] using execRingStopDiscard_keep t r s)

@[simp] theorem State.writeRng_keep (sK : State) (s : State) (off : Nat) (v : Word) (hk : Keep sK s) :
    OutKeep sK (State.writeRng s off v) := by
  unfold State.writeRng; (try dsimp only); repeat' split
  all_goals simp (maxDischargeDepth := 60) [hk]

@[simp] theorem State.persSel_keep (sK : State) (s : State) (v : Word) (hk : Keep sK s) :
    OutKeep sK (State.persSel s v) := by
  unfold State.persSel; simp (maxDischargeDepth := 60) [hk]

@[simp] theorem State.writeSys_keep (sK : State) (s : State) (off : Nat) (v : Word) (hk : Keep sK s) :
    OutKeep sK (State.writeSys s off v) := by
  unfold State.writeSys; simp (maxDischargeDepth := 60) [hk]

@[simp] theorem State.tblWindow_keep (sK : State) (s : State) (v : Word) (hk : Keep sK s) :
    OutKeep sK (State.tblWindow s v) := by
  unfold State.tblWindow; simp (maxDischargeDepth := 60) [hk]

@[simp] theorem State.shaftCfgWrite_keep (sK : State) (s : State) (k : Nat) (v : Word) (hk : Keep sK s) :
    OutKeep sK (State.shaftCfgWrite s k v) := by
  unfold State.shaftCfgWrite; simp (maxDischargeDepth := 60) [hk]

@[simp] theorem State.writeNym_keep (sK : State) (s : State) (off : Nat) (v : Word) (hk : Keep sK s) :
    OutKeep sK (State.writeNym s off v) := by
  unfold State.writeNym; (try dsimp only); repeat' split
  all_goals simp (maxDischargeDepth := 60) [hk]

@[simp] theorem State.loopWindow_keep (sK : State) (s : State) (v : Word) (hk : Keep sK s) :
    OutKeep sK (State.loopWindow s v) := by
  unfold State.loopWindow; simp (maxDischargeDepth := 60) [hk]

@[simp] theorem State.writeCle_keep (sK : State) (s : State) (off : Nat) (v : Word) (hk : Keep sK s) :
    OutKeep sK (State.writeCle s off v) := by
  unfold State.writeCle; (try dsimp only); repeat' split
  all_goals simp (maxDischargeDepth := 60) [hk]

@[simp] theorem State.ovrWrite_keep (sK : State) (s : State) (n : Nat) (v : Word) (hk : Keep sK s) :
    OutKeep sK (State.ovrWrite s n v) := by
  unfold State.ovrWrite; simp (maxDischargeDepth := 60) [hk]

@[simp] theorem State.grpWrite_keep (sK : State) (s : State) (g : Nat) (v : Word) (hk : Keep sK s) :
    OutKeep sK (State.grpWrite s g v) := by
  unfold State.grpWrite; simp (maxDischargeDepth := 60) [hk]

@[simp] theorem State.writeTri_keep (sK : State) (s : State) (off : Nat) (v : Word) (hk : Keep sK s) :
    OutKeep sK (State.writeTri s off v) := by
  unfold State.writeTri; (try dsimp only); repeat' split
  all_goals simp (maxDischargeDepth := 60) [hk]

@[simp] theorem State.valveCfgWrite_keep (sK : State) (s : State) (n : Nat) (v : Word) (hk : Keep sK s) :
    OutKeep sK (State.valveCfgWrite s n v) := by
  unfold State.valveCfgWrite; simp (maxDischargeDepth := 60) [hk]

@[simp] theorem State.valveRegWrite_keep (sK : State) (s : State) (n off : Nat) (v : Word) (hk : Keep sK s) :
    OutKeep sK (State.valveRegWrite s n off v) := by
  unfold State.valveRegWrite; simp (maxDischargeDepth := 60) [hk]

@[simp] theorem State.writeVdr_keep (sK : State) (s : State) (off : Nat) (v : Word) (hk : Keep sK s) :
    OutKeep sK (State.writeVdr s off v) := by
  unfold State.writeVdr; simp (maxDischargeDepth := 60) [hk]

@[simp] theorem State.switchCfgWrite_keep (sK : State) (s : State) (n : Nat) (v : Word) (hk : Keep sK s) :
    OutKeep sK (State.switchCfgWrite s n v) := by
  unfold State.switchCfgWrite; simp (maxDischargeDepth := 60) [hk]

@[simp] theorem State.switchRegWrite_keep (sK : State) (s : State) (n off : Nat) (v : Word) (hk : Keep sK s) :
    OutKeep sK (State.switchRegWrite s n off v) := by
  unfold State.switchRegWrite; simp (maxDischargeDepth := 60) [hk]

@[simp] theorem State.writeLsw_keep (sK : State) (s : State) (off : Nat) (v : Word) (hk : Keep sK s) :
    OutKeep sK (State.writeLsw s off v) := by
  unfold State.writeLsw; simp (maxDischargeDepth := 60) [hk]

@[simp] theorem State.ainCfgWrite_keep (sK : State) (s : State) (n : Nat) (v : Word) (hk : Keep sK s) :
    OutKeep sK (State.ainCfgWrite s n v) := by
  unfold State.ainCfgWrite; simp (maxDischargeDepth := 60) [hk]

@[simp] theorem State.finCfgWrite_keep (sK : State) (s : State) (n : Nat) (v : Word) (hk : Keep sK s) :
    OutKeep sK (State.finCfgWrite s n v) := by
  unfold State.finCfgWrite; simp (maxDischargeDepth := 60) [hk]

@[simp] theorem State.lossCfgWrite_keep (sK : State) (s : State) (n : Nat) (v : Word) (hk : Keep sK s) :
    OutKeep sK (State.lossCfgWrite s n v) := by
  unfold State.lossCfgWrite; simp (maxDischargeDepth := 60) [hk]

@[simp] theorem State.maskedWrite_keep (sK : State) (s : State) (off : Nat) (v : Word) (own : Nat) (hk : Keep sK s) :
    OutKeep sK (State.maskedWrite s off v own) := by
  unfold State.maskedWrite; simp (maxDischargeDepth := 60) [hk]

@[simp] theorem State.writeSns_keep (sK : State) (s : State) (off : Nat) (v : Word) (hk : Keep sK s) :
    OutKeep sK (State.writeSns s off v) := by
  unfold State.writeSns; (try dsimp only); repeat' split
  all_goals simp (maxDischargeDepth := 60) [hk]

@[simp] theorem State.yldHdrWrite_keep (sK : State) (s : State) (v : Word) (hk : Keep sK s) :
    OutKeep sK (State.yldHdrWrite s v) := by
  unfold State.yldHdrWrite; simp (maxDischargeDepth := 60) [hk]

@[simp] theorem State.fuCfgWrite_keep (sK : State) (s : State) (u : Nat) (v : Word) (hk : Keep sK s) :
    OutKeep sK (State.fuCfgWrite s u v) := by
  unfold State.fuCfgWrite; simp (maxDischargeDepth := 60) [hk]

@[simp] theorem State.yldCfgWrite_keep (sK : State) (s : State) (v : Word) (hk : Keep sK s) :
    OutKeep sK (State.yldCfgWrite s v) := by
  unfold State.yldCfgWrite; simp (maxDischargeDepth := 60) [hk]

@[simp] theorem State.fusStatWrite_keep (sK : State) (s : State) (v : Word) (hk : Keep sK s) :
    OutKeep sK (State.fusStatWrite s v) := by
  unfold State.fusStatWrite; simp (maxDischargeDepth := 60) [hk]

@[simp] theorem State.writeFus_keep (sK : State) (s : State) (off : Nat) (v : Word) (hk : Keep sK s) :
    OutKeep sK (State.writeFus s off v) := by
  unfold State.writeFus; (try dsimp only); repeat' split
  all_goals simp (maxDischargeDepth := 60) [hk]

@[simp] theorem State.writeHsl_keep (sK : State) (s : State) (off : Nat) (v : Word) (hk : Keep sK s) :
    OutKeep sK (State.writeHsl s off v) := by
  unfold State.writeHsl; simp (maxDischargeDepth := 60) [hk]

@[simp] theorem State.camCfgWrite_keep (sK : State) (s : State) (c : Nat) (v : Word) (hk : Keep sK s) :
    OutKeep sK (State.camCfgWrite s c v) := by
  unfold State.camCfgWrite; simp (maxDischargeDepth := 60) [hk]

@[simp] theorem State.encCfgWrite_keep (sK : State) (s : State) (e : Nat) (v : Word) (hk : Keep sK s) :
    OutKeep sK (State.encCfgWrite s e v) := by
  unfold State.encCfgWrite; simp (maxDischargeDepth := 60) [hk]

@[simp] theorem State.camRegWrite_keep (sK : State) (s : State) (c off : Nat) (v : Word) (hk : Keep sK s) :
    OutKeep sK (State.camRegWrite s c off v) := by
  unfold State.camRegWrite; simp (maxDischargeDepth := 60) [hk]

@[simp] theorem State.writeVis_keep (sK : State) (s : State) (off : Nat) (v : Word) (hk : Keep sK s) :
    OutKeep sK (State.writeVis s off v) := by
  unfold State.writeVis; (try dsimp only); repeat' split
  all_goals simp (maxDischargeDepth := 60) [hk]

@[simp] theorem State.writeGns_keep (sK : State) (s : State) (off : Nat) (v : Word) (hk : Keep sK s) :
    OutKeep sK (State.writeGns s off v) := by
  unfold State.writeGns; simp (maxDischargeDepth := 60) [hk]

@[simp] theorem State.canCfgWrite_keep (sK : State) (s : State) (n : Nat) (v : Word) (hk : Keep sK s) :
    OutKeep sK (State.canCfgWrite s n v) := by
  unfold State.canCfgWrite; simp (maxDischargeDepth := 60) [hk]

@[simp] theorem State.canRegWrite_keep (sK : State) (s : State) (n off : Nat) (v : Word) (hk : Keep sK s) :
    OutKeep sK (State.canRegWrite s n off v) := by
  unfold State.canRegWrite; simp (maxDischargeDepth := 60) [hk]

@[simp] theorem State.writeCan_keep (sK : State) (s : State) (off : Nat) (v : Word) (hk : Keep sK s) :
    OutKeep sK (State.writeCan s off v) := by
  unfold State.writeCan; simp (maxDischargeDepth := 60) [hk]

@[simp] theorem State.rpCfgWrite_keep (sK : State) (s : State) (v : Word) (hk : Keep sK s) :
    OutKeep sK (State.rpCfgWrite s v) := by
  unfold State.rpCfgWrite; simp (maxDischargeDepth := 60) [hk]

@[simp] theorem State.writeNet_keep (sK : State) (s : State) (off : Nat) (v : Word) (hk : Keep sK s) :
    OutKeep sK (State.writeNet s off v) := by
  unfold State.writeNet; (try dsimp only); repeat' split
  all_goals simp (maxDischargeDepth := 60) [hk]

@[simp] theorem State.dmaRegWrite_keep (sK : State) (s : State) (n off : Nat) (v : Word) (hk : Keep sK s) :
    OutKeep sK (State.dmaRegWrite s n off v) := by
  unfold State.dmaRegWrite; simp (maxDischargeDepth := 60) [hk]

@[simp] theorem State.writeDma_keep (sK : State) (s : State) (off : Nat) (v : Word) (hk : Keep sK s) :
    OutKeep sK (State.writeDma s off v) := by
  unfold State.writeDma; simp (maxDischargeDepth := 60) [hk]

@[simp] theorem State.writeDpy_keep (sK : State) (s : State) (off : Nat) (v : Word) (hk : Keep sK s) :
    OutKeep sK (State.writeDpy s off v) := by
  unfold State.writeDpy; simp (maxDischargeDepth := 60) [hk]

@[simp] theorem State.writeRec_keep (sK : State) (s : State) (off : Nat) (v : Word) (hk : Keep sK s) :
    OutKeep sK (State.writeRec s off v) := by
  unfold State.writeRec; (try dsimp only); repeat' split
  all_goals simp (maxDischargeDepth := 60) [hk]

@[simp] theorem State.writeThm_keep (sK : State) (s : State) (off : Nat) (v : Word) (hk : Keep sK s) :
    OutKeep sK (State.writeThm s off v) := by
  unfold State.writeThm; simp (maxDischargeDepth := 60) [hk]

@[simp] theorem State.axoCmdWrite_keep (sK : State) (s : State) (v : Word) (hk : Keep sK s) :
    OutKeep sK (State.axoCmdWrite s v) := by
  unfold State.axoCmdWrite; dsimp only; repeat' split
  all_goals first
    | exact execAxoFinish_keep_now _ _ _ _ _ (State.freeNext_keep _ _ hk) (le_refl _)
    | simp (maxDischargeDepth := 60) [hk]

@[simp] theorem State.writeUpd_keep (sK : State) (s : State) (off : Nat) (v : Word) (hk : Keep sK s) :
    OutKeep sK (State.writeUpd s off v) := by
  unfold State.writeUpd; simp (maxDischargeDepth := 60) [hk]

@[simp] theorem State.writeTst_keep (sK : State) (s : State) (off : Nat) (v : Word) (hk : Keep sK s) :
    OutKeep sK (State.writeTst s off v) := by
  unfold State.writeTst; simp (maxDischargeDepth := 60) [hk]

@[simp] theorem State.regRoute_keep (sK : State) (s : State) (off : Nat) (v : Word) (hk : Keep sK s) :
    OutKeep sK (State.regRoute s off v) := by
  unfold State.regRoute; simp (maxDischargeDepth := 60) [hk]

theorem execRegisterWrite_keep (t : Nat) (off : Nat) (v : Word) (s : State) :
    OutKeep (s.at t) (execRegisterWrite t off v s) := by
  unfold execRegisterWrite; simp (maxDischargeDepth := 60)

/-! ## Release -/

@[simp] theorem State.k12Mark_keep (sK : State) (s : State) (i : Nat) (hk : Keep sK s) :
    Keep sK (State.k12Mark s i) := by
  unfold State.k12Mark; simp (maxDischargeDepth := 60) [hk]

@[simp] theorem State.evIssue_keep (sK : State) (s : State) (i : Nat) (ws : List Word) (hk : Keep sK s) :
    Keep sK (State.evIssue s i ws) := by
  unfold State.evIssue; simp (maxDischargeDepth := 60) [hk]

@[simp] theorem State.evRelease_keep (sK : State) (s : State) (i : Nat) (hk : Keep sK s) :
    Keep sK (State.evRelease s i) := by
  unfold State.evRelease; simp (maxDischargeDepth := 60) [hk]

theorem execEventRelease_keep (t : Nat) (s : State) : OutKeep (s.at t) (execEventRelease t s) := by
  unfold execEventRelease; (try dsimp only); repeat' split
  all_goals simp (maxDischargeDepth := 60)

/-! ## Update -/

theorem execUpdBegin_keep (t : Nat) (r : Fin 64) (s : State) : OutKeep (s.at t) (execUpdBegin t r s) := by
  unfold execUpdBegin; simp (maxDischargeDepth := 60)

theorem execUpdWrite_keep (t : Nat) (r : Fin 64) (buf : List Byte) (s : State) :
    OutKeep (s.at t) (execUpdWrite t r buf s) := by
  unfold execUpdWrite; simp (maxDischargeDepth := 60)

theorem execFinish_keep (t : Nat) (r : Fin 64) (sig : Bool) (s : State) :
    OutKeep (s.at t) (execFinish t r sig s) := by
  unfold execFinish; (try dsimp only)
  refine State.ringOp_keep _ _ _ _ _ _ _ (by simp (maxDischargeDepth := 60)) ?_
  intro s d; (try dsimp only); repeat' split
  all_goals simp (maxDischargeDepth := 60)

theorem execAbort_keep (t : Nat) (r : Fin 64) (s : State) : OutKeep (s.at t) (execAbort t r s) := by
  unfold execAbort; simp (maxDischargeDepth := 60)

theorem execCopy_keep (t : Nat) (r : Fin 64) (s : State) : OutKeep (s.at t) (execCopy t r s) := by
  unfold execCopy; simp (maxDischargeDepth := 60)

theorem execActivate_keep (t : Nat) (r : Fin 64) (s : State) : OutKeep (s.at t) (execActivate t r s) := by
  unfold execActivate; simp (maxDischargeDepth := 60)

theorem execReport_keep (t : Nat) (r : Fin 64) (s : State) : OutKeep (s.at t) (execReport t r s) := by
  unfold execReport; simp (maxDischargeDepth := 60)

end Sys2Proof.Machine
end

