-- ==== Sys2Proof/Laws/KeepStart.lean ====
section
/-! SUPPORT. Start, stop and supply keep the queue, the time and the canonical form: one law for
each operation (Laws/Keep.lean says what is kept). -/

set_option linter.all false

namespace Sys2Proof.Machine

/-! ## Start -/

@[simp] theorem andThen_keep (sK : State) (o : Out) (k : State → Out) (ho : OutKeep sK o)
    (hf : ∀ s, OutKeep s (k s)) : OutKeep sK (andThen o k) := by
  cases o with
  | next u => exact OutKeep.trans (ho u rfl) (hf u)
  | fault f => simp [andThen]
  | refused r => simp [andThen]

@[simp] theorem State.pass_keep (sK : State) (s : State) (k : Nat) (hk : Keep sK s) : Keep sK (State.pass s k) := by
  unfold State.pass; simp (maxDischargeDepth := 60) [hk]

@[simp] theorem State.started_keep (sK : State) (s : State) (f : Fld) (hk : Keep sK s) :
    Keep sK (State.started s f) := by
  unfold State.started; simp (maxDischargeDepth := 60) [hk]

@[simp] theorem State.enterAxo_keep (sK : State) (s : State) (why : Nat) (hk : Keep sK s) :
    Keep sK (State.enterAxo s why) := by
  unfold State.enterAxo; simp (maxDischargeDepth := 60) [hk]

@[simp] theorem State.trialStart_keep (sK : State) (s : State) (hk : Keep sK s) : Keep sK (State.trialStart s) := by
  unfold State.trialStart; simp (maxDischargeDepth := 60) [hk]

@[simp] theorem State.timeStart_keep (sK : State) (s : State) (hk : Keep sK s) : Keep sK (State.timeStart s) := by
  unfold State.timeStart; simp (maxDischargeDepth := 60) [hk]

theorem execPowerGood_keep (t : Nat) (strap : Fin 3) (s : State) : OutKeep (s.at t) (execPowerGood t strap s) := by
  unfold execPowerGood; (try dsimp only); repeat' split
  all_goals simp (maxDischargeDepth := 60)

theorem execBootFailTimer_keep (t : Nat) (s : State) : OutKeep (s.at t) (execBootFailTimer t s) := by
  unfold execBootFailTimer; simp (maxDischargeDepth := 60)

theorem execOutputsSafeHold_keep (t : Nat) (s : State) : OutKeep (s.at t) (execOutputsSafeHold t s) := by
  unfold execOutputsSafeHold; simp (maxDischargeDepth := 60)

theorem execFirstHousekeepingEnd_keep (t : Nat) (x : Round) (s : State) :
    OutKeep (s.at t) (execFirstHousekeepingEnd t x s) := by
  unfold execFirstHousekeepingEnd; simp (maxDischargeDepth := 60)

theorem execDramTrained_keep (t : Nat) (s : State) : OutKeep (s.at t) (execDramTrained t s) := by
  unfold execDramTrained; simp (maxDischargeDepth := 60)

@[simp] theorem State.personality_keep (sK : State) (s : State) (header : Bool) (hk : Keep sK s) :
    Keep sK (State.personality s header) := by
  unfold State.personality; simp (maxDischargeDepth := 60) [hk]

theorem execTriadImageVerified_keep (t : Nat) (okA okB header record : Bool) (s : State) :
    OutKeep (s.at t) (execTriadImageVerified t okA okB header record s) := by
  unfold execTriadImageVerified; simp (maxDischargeDepth := 60)

theorem execTriadRelease_keep (t : Nat) (s : State) : OutKeep (s.at t) (execTriadRelease t s) := by
  unfold execTriadRelease; simp (maxDischargeDepth := 60)

@[simp] theorem State.canStart_keep (sK : State) (s : State) (n : Nat) (hk : Keep sK s) :
    Keep sK (State.canStart s n) := by
  unfold State.canStart; split <;> simp (maxDischargeDepth := 60) [hk]

@[simp] theorem State.croakStart_keep (sK : State) (s : State) (hk : Keep sK s) : Keep sK (State.croakStart s) := by
  unfold State.croakStart; simp (maxDischargeDepth := 60) [hk]

theorem execCanCroakAlive_keep (t : Nat) (s : State) : OutKeep (s.at t) (execCanCroakAlive t s) := by
  unfold execCanCroakAlive; simp (maxDischargeDepth := 60)

theorem execPcieConfigReady_keep (t : Nat) (s : State) : OutKeep (s.at t) (execPcieConfigReady t s) := by
  unfold execPcieConfigReady; simp (maxDischargeDepth := 60)

@[simp] theorem State.loadStop_keep (sK : State) (s : State) (v : Word) (hk : Keep sK s) :
    Keep sK (State.loadStop s v) := by
  unfold State.loadStop; simp (maxDischargeDepth := 60) [hk]

@[simp] theorem State.loadSetup_keep (sK : State) (s : State) (off : Nat) (v : Word) (hk : Keep sK s) :
    OutKeep sK (State.loadSetup s off v) := by
  unfold State.loadSetup; (try dsimp only); repeat' split
  all_goals simp (maxDischargeDepth := 60) [hk]

@[simp] theorem State.loadReg_keep (sK : State) (s : State) (off : Nat) (v : Word) (hk : Keep sK s) :
    OutKeep sK (State.loadReg s off v) := by
  unfold State.loadReg; simp (maxDischargeDepth := 60) [hk]

@[simp] theorem State.loadPart_keep (sK : State) (s : State) (k : Nat) (x : Nat × Nat × Nat × Word) (hk : Keep sK s) :
    Keep sK (State.loadPart s k x) := by
  unfold State.loadPart; simp (maxDischargeDepth := 60) [hk]

@[simp] theorem State.loadStage_keep (sK : State) (s : State) (k : Nat) (hk : Keep sK s) :
    OutKeep sK (State.loadStage s k) := by
  unfold State.loadStage
  dsimp only
  have L : ∀ (o : Out) (l : List (Nat × Nat × Nat × Word)), OutKeep sK o →
      OutKeep sK (l.foldl (fun o x => andThen o fun s => s.loadReg x.2.2.1 x.2.2.2) o) := fun o l h =>
    outKeep_foldl _ _ _ _ h fun o a ho => andThen_keep _ _ _ ho fun s => by simp
  exact L _ _ (L _ _ (L _ _ (andThen_keep _ _ _ (L _ _ ((outKeep_next _ _).2 hk)) fun u =>
    (outKeep_next _ _).2 (keep_foldl _ _ _ _ (Keep.refl u) fun s a => by simp))))

@[simp] theorem State.putStore_keep (sK : State) (s : State) (ver : Nat) (items : List SetItem) (regs : Cells (Option Word)) (dflt : Nat) (hk : Keep sK s) :
    Keep sK (State.putStore s ver items regs dflt) := by
  unfold State.putStore; simp (maxDischargeDepth := 60) [hk]

@[simp] theorem State.useSettings_keep (sK : State) (s : State) (ok : Bool) (hk : Keep sK s) :
    Keep sK (State.useSettings s ok) := by
  unfold State.useSettings; simp (maxDischargeDepth := 60) [hk]

@[simp] theorem State.migration_keep (sK : State) (s : State) (img : Image) (hk : Keep sK s) :
    Keep sK (State.migration s img) := by
  unfold State.migration; simp (maxDischargeDepth := 60) [hk]

@[simp] theorem State.storeVersion_keep (sK : State) (s : State) (hk : Keep sK s) :
    Keep sK (State.storeVersion s) := by
  unfold State.storeVersion; split <;> simp (maxDischargeDepth := 60) [hk]

@[simp] theorem State.storeDefaults_keep (sK : State) (s : State) (hk : Keep sK s) :
    Keep sK (State.storeDefaults s) := by
  unfold State.storeDefaults; simp (maxDischargeDepth := 60) [hk]

theorem execSettingsRead_keep (t : Nat) (ok image : Bool) (s : State) :
    OutKeep (s.at t) (execSettingsRead t ok image s) := by
  unfold execSettingsRead
  dsimp only
  split
  · simp
  · refine andThen_keep _ _ _ (State.loadStage_keep _ _ _ ?_) fun s => ?_
    · split <;> simp (maxDischargeDepth := 60)
    · split <;> simp

theorem execDefaultSettingsWritten_keep (t : Nat) (ok : Bool) (s : State) :
    OutKeep (s.at t) (execDefaultSettingsWritten t ok s) := by
  unfold execDefaultSettingsWritten; simp (maxDischargeDepth := 60)

@[simp] theorem State.verify_keep (sK : State) (s : State) (ty idx u : Nat) (ok : Bool) (hk : Keep sK s) :
    Keep sK (State.verify s ty idx u ok) := by
  unfold State.verify; simp (maxDischargeDepth := 60) [hk]

@[simp] theorem State.classA_keep (sK : State) (s : State) (bad : List (Fin 12)) (hk : Keep sK s) :
    Keep sK (State.classA s bad) := by
  unfold State.classA; simp (maxDischargeDepth := 60) [hk]

@[simp] theorem State.recStart_keep (sK : State) (s : State) (hk : Keep sK s) : Keep sK (State.recStart s) := by
  unfold State.recStart; (try dsimp only); repeat' split
  all_goals simp (maxDischargeDepth := 60) [hk]

@[simp] theorem State.loopsStart_keep (sK : State) (s : State) (hk : Keep sK s) : Keep sK (State.loopsStart s) := by
  unfold State.loopsStart; simp (maxDischargeDepth := 60) [hk]

@[simp] theorem State.loadKept_keep (sK : State) (s : State) (regs : Cells (Option Word)) (hk : Keep sK s) :
    Keep sK (State.loadKept s regs) := by
  unfold State.loadKept
  dsimp only
  refine State.setThm_keep _ _ _ (keep_foldl _ _ _ _ ?_ ?_)
  · split <;> simp (maxDischargeDepth := 60) [hk]
  · intro s off
    split <;> simp

@[simp] theorem State.triadStart_keep (sK : State) (s : State) (hk : Keep sK s) : Keep sK (State.triadStart s) := by
  unfold State.triadStart; simp (maxDischargeDepth := 60) [hk]

theorem execClassAImagesLoaded_keep (t : Nat) (bad : List (Fin 12)) (s : State) :
    OutKeep (s.at t) (execClassAImagesLoaded t bad s) := by
  unfold execClassAImagesLoaded
  dsimp only
  split
  · simp
  · refine andThen_keep _ _ _ (State.loadStage_keep _ _ _ (by simp (maxDischargeDepth := 60))) fun s => ?_
    split
    · simp
    · split <;> simp (maxDischargeDepth := 60)

theorem execAuthorityPossible_keep (t : Nat) (s : State) : OutKeep (s.at t) (execAuthorityPossible t s) := by
  unfold execAuthorityPossible; simp (maxDischargeDepth := 60)

@[simp] theorem State.onceImage_keep (sK : State) (s : State) (ty : Nat) (ok : Bool) (hk : Keep sK s) :
    Keep sK (State.onceImage s ty ok) := by
  unfold State.onceImage; simp (maxDischargeDepth := 60) [hk]

theorem execNetworkPanelBStart_keep (t : Nat) (present : Bool) (temp : Option Int) (waves copyOk mapOk : Bool) (s : State) :
    OutKeep (s.at t) (execNetworkPanelBStart t present temp waves copyOk mapOk s) := by
  unfold execNetworkPanelBStart; simp (maxDischargeDepth := 60)

@[simp] theorem State.imageFailed_keep (sK : State) (s : State) (k : Nat) (hk : Keep sK s) :
    Keep sK (State.imageFailed s k) := by
  unfold State.imageFailed; simp (maxDischargeDepth := 60) [hk]

theorem execGnssFirmwareRunning_keep (t : Nat) (ok : Bool) (s : State) :
    OutKeep (s.at t) (execGnssFirmwareRunning t ok s) := by
  unfold execGnssFirmwareRunning; simp (maxDischargeDepth := 60)

theorem execPortAPowerOn_keep (t : Nat) (umap : Bool) (s : State) : OutKeep (s.at t) (execPortAPowerOn t umap s) := by
  unfold execPortAPowerOn; simp (maxDischargeDepth := 60)

theorem execVisionFirmwareRunning_keep (t : Nat) (ok : Bool) (s : State) :
    OutKeep (s.at t) (execVisionFirmwareRunning t ok s) := by
  unfold execVisionFirmwareRunning; simp (maxDischargeDepth := 60)

@[simp] theorem State.loadModel_keep (sK : State) (s : State) (i : Nat) (ok : Bool) (hk : Keep sK s) :
    Keep sK (State.loadModel s i ok) := by
  unfold State.loadModel; simp (maxDischargeDepth := 60) [hk]

theorem execModelsLoaded_keep (t : Nat) (named bad : List (Fin 8)) (s : State) :
    OutKeep (s.at t) (execModelsLoaded t named bad s) := by
  unfold execModelsLoaded; simp (maxDischargeDepth := 60)

theorem execNativeReady_keep (t : Nat) (gnss : Bool) (s : State) : OutKeep (s.at t) (execNativeReady t gnss s) := by
  unfold execNativeReady; simp (maxDischargeDepth := 60)

/-! ## Supply -/

theorem execWakeOn_keep (t : Nat) (s : State) : OutKeep (s.at t) (execWakeOn t s) := by
  unfold execWakeOn; simp (maxDischargeDepth := 60)

theorem execWakeOff_keep (t : Nat) (s : State) : OutKeep (s.at t) (execWakeOff t s) := by
  unfold execWakeOff; simp (maxDischargeDepth := 60)

theorem execStopCfgWrite_keep (t : Nat) (v : Word) (s : State) : OutKeep (s.at t) (execStopCfgWrite t v s) := by
  unfold execStopCfgWrite; simp (maxDischargeDepth := 60)

theorem execStopDelayEnd_keep (t : Nat) (s : State) : OutKeep (s.at t) (execStopDelayEnd t s) := by
  unfold execStopDelayEnd; simp (maxDischargeDepth := 60)

theorem execSysRestartRestart_keep (t : Nat) (s : State) : OutKeep (s.at t) (execSysRestartRestart t s) := by
  unfold execSysRestartRestart; simp (maxDischargeDepth := 60)

theorem execSysRestartOff_keep (t : Nat) (s : State) : OutKeep (s.at t) (execSysRestartOff t s) := by
  unfold execSysRestartOff; simp (maxDischargeDepth := 60)

theorem execUpdReq_keep (t : Nat) (v : Word) (s : State) : OutKeep (s.at t) (execUpdReq t v s) := by
  unfold execUpdReq; simp (maxDischargeDepth := 60)

theorem execStopFlushDone_keep (t : Nat) (s : State) : OutKeep (s.at t) (execStopFlushDone t s) := by
  unfold execStopFlushDone; (try dsimp only); repeat' split
  all_goals simp (maxDischargeDepth := 60)

theorem execOrderlyStopEnd_keep (t : Nat) (s : State) : OutKeep (s.at t) (execOrderlyStopEnd t s) := by
  unfold execOrderlyStopEnd; (try dsimp only); repeat' split
  all_goals simp (maxDischargeDepth := 60)

theorem execPersSelWrite_keep (t : Nat) (v : Word) (s : State) : OutKeep (s.at t) (execPersSelWrite t v s) := by
  unfold execPersSelWrite; simp (maxDischargeDepth := 60)

theorem execPersSelStored_keep (t : Nat) (s : State) : OutKeep (s.at t) (execPersSelStored t s) := by
  unfold execPersSelStored; simp (maxDischargeDepth := 60)

@[simp] theorem State.feedDown_keep (sK : State) (s : State) (n : Nat) (hk : Keep sK s) :
    Keep sK (State.feedDown s n) := by
  unfold State.feedDown; simp (maxDischargeDepth := 60) [hk]

@[simp] theorem State.feedUp_keep (sK : State) (s : State) (n : Nat) (hk : Keep sK s) :
    Keep sK (State.feedUp s n) := by
  unfold State.feedUp; simp (maxDischargeDepth := 60) [hk]

theorem execFeedOutOfRange_keep (t : Nat) (n : Fin 6) (under : Bool) (s : State) :
    OutKeep (s.at t) (execFeedOutOfRange t n under s) := by
  unfold execFeedOutOfRange; simp (maxDischargeDepth := 60)

theorem execFeedBackInRange_keep (t : Nat) (n : Fin 6) (s : State) :
    OutKeep (s.at t) (execFeedBackInRange t n s) := by
  unfold execFeedBackInRange; simp (maxDischargeDepth := 60)

theorem execFeedRestartDelayEnd_keep (t : Nat) (n : Fin 6) (s : State) :
    OutKeep (s.at t) (execFeedRestartDelayEnd t n s) := by
  unfold execFeedRestartDelayEnd; (try dsimp only); repeat' split
  all_goals simp (maxDischargeDepth := 60)

theorem execFeedOvervoltExcursion_keep (t : Nat) (n : Fin 6) (s : State) :
    OutKeep (s.at t) (execFeedOvervoltExcursion t n s) := by
  unfold execFeedOvervoltExcursion; simp (maxDischargeDepth := 60)

theorem execLogicFeedOvervoltage_keep (t : Nat) (s : State) : OutKeep (s.at t) (execLogicFeedOvervoltage t s) := by
  unfold execLogicFeedOvervoltage; simp (maxDischargeDepth := 60)

theorem execLogicFeedOvRecover_keep (t : Nat) (s : State) : OutKeep (s.at t) (execLogicFeedOvRecover t s) := by
  unfold execLogicFeedOvRecover; simp (maxDischargeDepth := 60)

@[simp] theorem State.supBit_keep (sK : State) (s : State) (f : Fld) (n : Nat) (v : Bool) (hk : Keep sK s) :
    Keep sK (State.supBit s f n v) := by
  unfold State.supBit; simp (maxDischargeDepth := 60) [hk]

theorem execSupplyOverload_keep (t : Nat) (n : Fin 8) (s : State) : OutKeep (s.at t) (execSupplyOverload t n s) := by
  unfold execSupplyOverload; simp (maxDischargeDepth := 60)

theorem execSupplyRetry_keep (t : Nat) (n : Fin 8) (s : State) : OutKeep (s.at t) (execSupplyRetry t n s) := by
  unfold execSupplyRetry; simp (maxDischargeDepth := 60)

theorem execPowerFailWarning_keep (t : Nat) (draw : Nat) (low : Bool) (s : State) :
    OutKeep (s.at t) (execPowerFailWarning t draw low s) := by
  unfold execPowerFailWarning; simp (maxDischargeDepth := 60)

theorem execInternalPowerCycle_keep (t : Nat) (lf : Bool) (stored : Nat) (s : State) :
    OutKeep (s.at t) (execInternalPowerCycle t lf stored s) := by
  unfold execInternalPowerCycle; simp (maxDischargeDepth := 60)

theorem execHwThermalShutdown_keep (t : Nat) (x : HwReading) (low : Bool) (s : State) :
    OutKeep (s.at t) (execHwThermalShutdown t x low s) := by
  unfold execHwThermalShutdown; simp (maxDischargeDepth := 60)

theorem execCoolingCheck_keep (t : Nat) (temp : Int) (s : State) : OutKeep (s.at t) (execCoolingCheck t temp s) := by
  unfold execCoolingCheck; simp (maxDischargeDepth := 60)

theorem execLogicFeedLossWhileOff_keep (t : Nat) (s : State) : OutKeep (s.at t) (execLogicFeedLossWhileOff t s) := by
  unfold execLogicFeedLossWhileOff; simp (maxDischargeDepth := 60)

theorem execPcieLinkTrained_keep (t : Nat) (gen : Fin 4) (width : Fin 3) (s : State) :
    OutKeep (s.at t) (execPcieLinkTrained t gen width s) := by
  unfold execPcieLinkTrained; simp (maxDischargeDepth := 60)

theorem execPcieNoLinkTimeout_keep (t : Nat) (s : State) : OutKeep (s.at t) (execPcieNoLinkTimeout t s) := by
  unfold execPcieNoLinkTimeout; (try dsimp only); repeat' split
  all_goals simp (maxDischargeDepth := 60)

theorem execPerstAssert_keep (t : Nat) (s : State) : OutKeep (s.at t) (execPerstAssert t s) := by
  unfold execPerstAssert; simp (maxDischargeDepth := 60)

theorem execPerstDeassert_keep (t : Nat) (s : State) : OutKeep (s.at t) (execPerstDeassert t s) := by
  unfold execPerstDeassert; simp (maxDischargeDepth := 60)

theorem execFunctionLevelReset_keep (t : Nat) (s : State) : OutKeep (s.at t) (execFunctionLevelReset t s) := by
  unfold execFunctionLevelReset; simp (maxDischargeDepth := 60)

theorem execHostLinkLoss_keep (t : Nat) (s : State) : OutKeep (s.at t) (execHostLinkLoss t s) := by
  unfold execHostLinkLoss; simp (maxDischargeDepth := 60)

end Sys2Proof.Machine
end

