-- ==== Sys2Proof/Laws/State.lean ====
section
/-! SUPPORT. What each update of the state does to each field: one law for a field and an update. -/

namespace Sys2Proof.Machine

variable (s : State)

/-! ### at -/

@[simp] theorem State.at_pending (t : Nat) : (s.at t).pending = s.pending := (rfl)
@[simp] theorem State.at_cyc (t : Nat) : (s.at t).cyc = max s.cyc t := (rfl)
@[simp] theorem State.at_mtOff (t : Nat) : (s.at t).mtOff = s.mtOff := (rfl)
@[simp] theorem State.at_free (t : Nat) : (s.at t).free = s.free := (rfl)
@[simp] theorem State.at_out (t : Nat) : (s.at t).out = s.out := (rfl)
@[simp] theorem State.at_regs (t : Nat) : (s.at t).regs = s.regs := (rfl)
@[simp] theorem State.at_mem (t : Nat) : (s.at t).mem = s.mem := (rfl)
@[simp] theorem State.at_hot (t : Nat) : (s.at t).hot = s.hot := (rfl)
@[simp] theorem State.at_poison (t : Nat) : (s.at t).poison = s.poison := (rfl)
@[simp] theorem State.at_pow (t : Nat) : (s.at t).pow = s.pow := (rfl)
@[simp] theorem State.at_rng (t : Nat) : (s.at t).rng = s.rng := (rfl)
@[simp] theorem State.at_flt (t : Nat) : (s.at t).flt = s.flt := (rfl)
@[simp] theorem State.at_recr (t : Nat) : (s.at t).recr = s.recr := (rfl)
@[simp] theorem State.at_nym (t : Nat) : (s.at t).nym = s.nym := (rfl)
@[simp] theorem State.at_valves (t : Nat) : (s.at t).valves = s.valves := (rfl)
@[simp] theorem State.at_switches (t : Nat) : (s.at t).switches = s.switches := (rfl)
@[simp] theorem State.at_lamps (t : Nat) : (s.at t).lamps = s.lamps := (rfl)
@[simp] theorem State.at_handed (t : Nat) : (s.at t).handed = s.handed := (rfl)
@[simp] theorem State.at_stepAt (t : Nat) : (s.at t).stepAt = s.stepAt := (rfl)
@[simp] theorem State.at_mtWas (t : Nat) : (s.at t).mtWas = s.mtWas := (rfl)
@[simp] theorem State.at_thm (t : Nat) : (s.at t).thm = s.thm := (rfl)
@[simp] theorem State.at_can (t : Nat) : (s.at t).can = s.can := (rfl)
@[simp] theorem State.at_gns (t : Nat) : (s.at t).gns = s.gns := (rfl)
@[simp] theorem State.at_kept (t : Nat) : (s.at t).kept = s.kept := (rfl)
@[simp] theorem State.at_tst (t : Nat) : (s.at t).tst = s.tst := (rfl)
@[simp] theorem State.at_cle (t : Nat) : (s.at t).cle = s.cle := (rfl)
@[simp] theorem State.at_tri (t : Nat) : (s.at t).tri = s.tri := (rfl)
@[simp] theorem State.at_sns (t : Nat) : (s.at t).sns = s.sns := (rfl)
@[simp] theorem State.at_fus (t : Nat) : (s.at t).fus = s.fus := (rfl)
@[simp] theorem State.at_hsl (t : Nat) : (s.at t).hsl = s.hsl := (rfl)
@[simp] theorem State.at_vis (t : Nat) : (s.at t).vis = s.vis := (rfl)
@[simp] theorem State.at_net (t : Nat) : (s.at t).net = s.net := (rfl)
@[simp] theorem State.at_dma (t : Nat) : (s.at t).dma = s.dma := (rfl)
@[simp] theorem State.at_dmaLine (t : Nat) : (s.at t).dmaLine = s.dmaLine := (rfl)
@[simp] theorem State.at_dpy (t : Nat) : (s.at t).dpy = s.dpy := (rfl)
@[simp] theorem State.at_upd (t : Nat) : (s.at t).upd = s.upd := (rfl)
@[simp] theorem State.at_k12 (t : Nat) : (s.at t).k12 = s.k12 := (rfl)

/-! ### setReg -/

@[simp] theorem State.setReg_pending (off : Nat) (w : Word) : (s.setReg off w).pending = s.pending := (rfl)
@[simp] theorem State.setReg_cyc (off : Nat) (w : Word) : (s.setReg off w).cyc = s.cyc := (rfl)
@[simp] theorem State.setReg_mtOff (off : Nat) (w : Word) : (s.setReg off w).mtOff = s.mtOff := (rfl)
@[simp] theorem State.setReg_free (off : Nat) (w : Word) : (s.setReg off w).free = s.free := (rfl)
@[simp] theorem State.setReg_out (off : Nat) (w : Word) : (s.setReg off w).out = s.out := (rfl)
@[simp] theorem State.setReg_regs (off : Nat) (w : Word) : (s.setReg off w).regs = cellSet regReset s.regs off w := (rfl)
@[simp] theorem State.setReg_mem (off : Nat) (w : Word) : (s.setReg off w).mem = s.mem := (rfl)
@[simp] theorem State.setReg_hot (off : Nat) (w : Word) : (s.setReg off w).hot = s.hot := (rfl)
@[simp] theorem State.setReg_poison (off : Nat) (w : Word) : (s.setReg off w).poison = s.poison := (rfl)
@[simp] theorem State.setReg_pow (off : Nat) (w : Word) : (s.setReg off w).pow = s.pow := (rfl)
@[simp] theorem State.setReg_rng (off : Nat) (w : Word) : (s.setReg off w).rng = s.rng := (rfl)
@[simp] theorem State.setReg_flt (off : Nat) (w : Word) : (s.setReg off w).flt = s.flt := (rfl)
@[simp] theorem State.setReg_recr (off : Nat) (w : Word) : (s.setReg off w).recr = s.recr := (rfl)
@[simp] theorem State.setReg_nym (off : Nat) (w : Word) : (s.setReg off w).nym = s.nym := (rfl)
@[simp] theorem State.setReg_valves (off : Nat) (w : Word) : (s.setReg off w).valves = s.valves := (rfl)
@[simp] theorem State.setReg_switches (off : Nat) (w : Word) : (s.setReg off w).switches = s.switches := (rfl)
@[simp] theorem State.setReg_lamps (off : Nat) (w : Word) : (s.setReg off w).lamps = s.lamps := (rfl)
@[simp] theorem State.setReg_handed (off : Nat) (w : Word) : (s.setReg off w).handed = s.handed := (rfl)
@[simp] theorem State.setReg_stepAt (off : Nat) (w : Word) : (s.setReg off w).stepAt = s.stepAt := (rfl)
@[simp] theorem State.setReg_mtWas (off : Nat) (w : Word) : (s.setReg off w).mtWas = s.mtWas := (rfl)
@[simp] theorem State.setReg_thm (off : Nat) (w : Word) : (s.setReg off w).thm = s.thm := (rfl)
@[simp] theorem State.setReg_can (off : Nat) (w : Word) : (s.setReg off w).can = s.can := (rfl)
@[simp] theorem State.setReg_gns (off : Nat) (w : Word) : (s.setReg off w).gns = s.gns := (rfl)
@[simp] theorem State.setReg_kept (off : Nat) (w : Word) : (s.setReg off w).kept = s.kept := (rfl)
@[simp] theorem State.setReg_tst (off : Nat) (w : Word) : (s.setReg off w).tst = s.tst := (rfl)
@[simp] theorem State.setReg_cle (off : Nat) (w : Word) : (s.setReg off w).cle = s.cle := (rfl)
@[simp] theorem State.setReg_tri (off : Nat) (w : Word) : (s.setReg off w).tri = s.tri := (rfl)
@[simp] theorem State.setReg_sns (off : Nat) (w : Word) : (s.setReg off w).sns = s.sns := (rfl)
@[simp] theorem State.setReg_fus (off : Nat) (w : Word) : (s.setReg off w).fus = s.fus := (rfl)
@[simp] theorem State.setReg_hsl (off : Nat) (w : Word) : (s.setReg off w).hsl = s.hsl := (rfl)
@[simp] theorem State.setReg_vis (off : Nat) (w : Word) : (s.setReg off w).vis = s.vis := (rfl)
@[simp] theorem State.setReg_net (off : Nat) (w : Word) : (s.setReg off w).net = s.net := (rfl)
@[simp] theorem State.setReg_dma (off : Nat) (w : Word) : (s.setReg off w).dma = s.dma := (rfl)
@[simp] theorem State.setReg_dmaLine (off : Nat) (w : Word) : (s.setReg off w).dmaLine = s.dmaLine := (rfl)
@[simp] theorem State.setReg_dpy (off : Nat) (w : Word) : (s.setReg off w).dpy = s.dpy := (rfl)
@[simp] theorem State.setReg_upd (off : Nat) (w : Word) : (s.setReg off w).upd = s.upd := (rfl)
@[simp] theorem State.setReg_k12 (off : Nat) (w : Word) : (s.setReg off w).k12 = s.k12 := (rfl)

/-! ### wr -/

@[simp] theorem State.wr_pending (off : Nat) (f : Fld) (v : Nat) : (s.wr off f v).pending = s.pending := (rfl)
@[simp] theorem State.wr_cyc (off : Nat) (f : Fld) (v : Nat) : (s.wr off f v).cyc = s.cyc := (rfl)
@[simp] theorem State.wr_mtOff (off : Nat) (f : Fld) (v : Nat) : (s.wr off f v).mtOff = s.mtOff := (rfl)
@[simp] theorem State.wr_free (off : Nat) (f : Fld) (v : Nat) : (s.wr off f v).free = s.free := (rfl)
@[simp] theorem State.wr_out (off : Nat) (f : Fld) (v : Nat) : (s.wr off f v).out = s.out := (rfl)
@[simp] theorem State.wr_mem (off : Nat) (f : Fld) (v : Nat) : (s.wr off f v).mem = s.mem := (rfl)
@[simp] theorem State.wr_poison (off : Nat) (f : Fld) (v : Nat) : (s.wr off f v).poison = s.poison := (rfl)
@[simp] theorem State.wr_pow (off : Nat) (f : Fld) (v : Nat) : (s.wr off f v).pow = s.pow := (rfl)
@[simp] theorem State.wr_rng (off : Nat) (f : Fld) (v : Nat) : (s.wr off f v).rng = s.rng := (rfl)
@[simp] theorem State.wr_flt (off : Nat) (f : Fld) (v : Nat) : (s.wr off f v).flt = s.flt := (rfl)
@[simp] theorem State.wr_recr (off : Nat) (f : Fld) (v : Nat) : (s.wr off f v).recr = s.recr := (rfl)
@[simp] theorem State.wr_nym (off : Nat) (f : Fld) (v : Nat) : (s.wr off f v).nym = s.nym := (rfl)
@[simp] theorem State.wr_valves (off : Nat) (f : Fld) (v : Nat) : (s.wr off f v).valves = s.valves := (rfl)
@[simp] theorem State.wr_switches (off : Nat) (f : Fld) (v : Nat) : (s.wr off f v).switches = s.switches := (rfl)
@[simp] theorem State.wr_lamps (off : Nat) (f : Fld) (v : Nat) : (s.wr off f v).lamps = s.lamps := (rfl)
@[simp] theorem State.wr_handed (off : Nat) (f : Fld) (v : Nat) : (s.wr off f v).handed = s.handed := (rfl)
@[simp] theorem State.wr_stepAt (off : Nat) (f : Fld) (v : Nat) : (s.wr off f v).stepAt = s.stepAt := (rfl)
@[simp] theorem State.wr_mtWas (off : Nat) (f : Fld) (v : Nat) : (s.wr off f v).mtWas = s.mtWas := (rfl)
@[simp] theorem State.wr_thm (off : Nat) (f : Fld) (v : Nat) : (s.wr off f v).thm = s.thm := (rfl)
@[simp] theorem State.wr_can (off : Nat) (f : Fld) (v : Nat) : (s.wr off f v).can = s.can := (rfl)
@[simp] theorem State.wr_gns (off : Nat) (f : Fld) (v : Nat) : (s.wr off f v).gns = s.gns := (rfl)
@[simp] theorem State.wr_kept (off : Nat) (f : Fld) (v : Nat) : (s.wr off f v).kept = s.kept := (rfl)
@[simp] theorem State.wr_tst (off : Nat) (f : Fld) (v : Nat) : (s.wr off f v).tst = s.tst := (rfl)
@[simp] theorem State.wr_cle (off : Nat) (f : Fld) (v : Nat) : (s.wr off f v).cle = s.cle := (rfl)
@[simp] theorem State.wr_tri (off : Nat) (f : Fld) (v : Nat) : (s.wr off f v).tri = s.tri := (rfl)
@[simp] theorem State.wr_sns (off : Nat) (f : Fld) (v : Nat) : (s.wr off f v).sns = s.sns := (rfl)
@[simp] theorem State.wr_fus (off : Nat) (f : Fld) (v : Nat) : (s.wr off f v).fus = s.fus := (rfl)
@[simp] theorem State.wr_hsl (off : Nat) (f : Fld) (v : Nat) : (s.wr off f v).hsl = s.hsl := (rfl)
@[simp] theorem State.wr_vis (off : Nat) (f : Fld) (v : Nat) : (s.wr off f v).vis = s.vis := (rfl)
@[simp] theorem State.wr_net (off : Nat) (f : Fld) (v : Nat) : (s.wr off f v).net = s.net := (rfl)
@[simp] theorem State.wr_dma (off : Nat) (f : Fld) (v : Nat) : (s.wr off f v).dma = s.dma := (rfl)
@[simp] theorem State.wr_dmaLine (off : Nat) (f : Fld) (v : Nat) : (s.wr off f v).dmaLine = s.dmaLine := (rfl)
@[simp] theorem State.wr_dpy (off : Nat) (f : Fld) (v : Nat) : (s.wr off f v).dpy = s.dpy := (rfl)
@[simp] theorem State.wr_upd (off : Nat) (f : Fld) (v : Nat) : (s.wr off f v).upd = s.upd := (rfl)
@[simp] theorem State.wr_k12 (off : Nat) (f : Fld) (v : Nat) : (s.wr off f v).k12 = s.k12 := (rfl)

/-! ### bumpBy -/

@[simp] theorem State.bumpBy_pending (off : Nat) (f : Fld) (n : Nat) : (s.bumpBy off f n).pending = s.pending := (rfl)
@[simp] theorem State.bumpBy_cyc (off : Nat) (f : Fld) (n : Nat) : (s.bumpBy off f n).cyc = s.cyc := (rfl)
@[simp] theorem State.bumpBy_mtOff (off : Nat) (f : Fld) (n : Nat) : (s.bumpBy off f n).mtOff = s.mtOff := (rfl)
@[simp] theorem State.bumpBy_free (off : Nat) (f : Fld) (n : Nat) : (s.bumpBy off f n).free = s.free := (rfl)
@[simp] theorem State.bumpBy_out (off : Nat) (f : Fld) (n : Nat) : (s.bumpBy off f n).out = s.out := (rfl)
@[simp] theorem State.bumpBy_mem (off : Nat) (f : Fld) (n : Nat) : (s.bumpBy off f n).mem = s.mem := (rfl)
@[simp] theorem State.bumpBy_poison (off : Nat) (f : Fld) (n : Nat) : (s.bumpBy off f n).poison = s.poison := (rfl)
@[simp] theorem State.bumpBy_pow (off : Nat) (f : Fld) (n : Nat) : (s.bumpBy off f n).pow = s.pow := (rfl)
@[simp] theorem State.bumpBy_rng (off : Nat) (f : Fld) (n : Nat) : (s.bumpBy off f n).rng = s.rng := (rfl)
@[simp] theorem State.bumpBy_flt (off : Nat) (f : Fld) (n : Nat) : (s.bumpBy off f n).flt = s.flt := (rfl)
@[simp] theorem State.bumpBy_recr (off : Nat) (f : Fld) (n : Nat) : (s.bumpBy off f n).recr = s.recr := (rfl)
@[simp] theorem State.bumpBy_nym (off : Nat) (f : Fld) (n : Nat) : (s.bumpBy off f n).nym = s.nym := (rfl)
@[simp] theorem State.bumpBy_valves (off : Nat) (f : Fld) (n : Nat) : (s.bumpBy off f n).valves = s.valves := (rfl)
@[simp] theorem State.bumpBy_switches (off : Nat) (f : Fld) (n : Nat) : (s.bumpBy off f n).switches = s.switches := (rfl)
@[simp] theorem State.bumpBy_lamps (off : Nat) (f : Fld) (n : Nat) : (s.bumpBy off f n).lamps = s.lamps := (rfl)
@[simp] theorem State.bumpBy_handed (off : Nat) (f : Fld) (n : Nat) : (s.bumpBy off f n).handed = s.handed := (rfl)
@[simp] theorem State.bumpBy_stepAt (off : Nat) (f : Fld) (n : Nat) : (s.bumpBy off f n).stepAt = s.stepAt := (rfl)
@[simp] theorem State.bumpBy_mtWas (off : Nat) (f : Fld) (n : Nat) : (s.bumpBy off f n).mtWas = s.mtWas := (rfl)
@[simp] theorem State.bumpBy_thm (off : Nat) (f : Fld) (n : Nat) : (s.bumpBy off f n).thm = s.thm := (rfl)
@[simp] theorem State.bumpBy_can (off : Nat) (f : Fld) (n : Nat) : (s.bumpBy off f n).can = s.can := (rfl)
@[simp] theorem State.bumpBy_gns (off : Nat) (f : Fld) (n : Nat) : (s.bumpBy off f n).gns = s.gns := (rfl)
@[simp] theorem State.bumpBy_kept (off : Nat) (f : Fld) (n : Nat) : (s.bumpBy off f n).kept = s.kept := (rfl)
@[simp] theorem State.bumpBy_tst (off : Nat) (f : Fld) (n : Nat) : (s.bumpBy off f n).tst = s.tst := (rfl)
@[simp] theorem State.bumpBy_cle (off : Nat) (f : Fld) (n : Nat) : (s.bumpBy off f n).cle = s.cle := (rfl)
@[simp] theorem State.bumpBy_tri (off : Nat) (f : Fld) (n : Nat) : (s.bumpBy off f n).tri = s.tri := (rfl)
@[simp] theorem State.bumpBy_sns (off : Nat) (f : Fld) (n : Nat) : (s.bumpBy off f n).sns = s.sns := (rfl)
@[simp] theorem State.bumpBy_fus (off : Nat) (f : Fld) (n : Nat) : (s.bumpBy off f n).fus = s.fus := (rfl)
@[simp] theorem State.bumpBy_hsl (off : Nat) (f : Fld) (n : Nat) : (s.bumpBy off f n).hsl = s.hsl := (rfl)
@[simp] theorem State.bumpBy_vis (off : Nat) (f : Fld) (n : Nat) : (s.bumpBy off f n).vis = s.vis := (rfl)
@[simp] theorem State.bumpBy_net (off : Nat) (f : Fld) (n : Nat) : (s.bumpBy off f n).net = s.net := (rfl)
@[simp] theorem State.bumpBy_dma (off : Nat) (f : Fld) (n : Nat) : (s.bumpBy off f n).dma = s.dma := (rfl)
@[simp] theorem State.bumpBy_dmaLine (off : Nat) (f : Fld) (n : Nat) : (s.bumpBy off f n).dmaLine = s.dmaLine := (rfl)
@[simp] theorem State.bumpBy_dpy (off : Nat) (f : Fld) (n : Nat) : (s.bumpBy off f n).dpy = s.dpy := (rfl)
@[simp] theorem State.bumpBy_upd (off : Nat) (f : Fld) (n : Nat) : (s.bumpBy off f n).upd = s.upd := (rfl)
@[simp] theorem State.bumpBy_k12 (off : Nat) (f : Fld) (n : Nat) : (s.bumpBy off f n).k12 = s.k12 := (rfl)

/-! ### bump -/

@[simp] theorem State.bump_pending (off : Nat) (f : Fld) : (s.bump off f).pending = s.pending := (rfl)
@[simp] theorem State.bump_cyc (off : Nat) (f : Fld) : (s.bump off f).cyc = s.cyc := (rfl)
@[simp] theorem State.bump_mtOff (off : Nat) (f : Fld) : (s.bump off f).mtOff = s.mtOff := (rfl)
@[simp] theorem State.bump_free (off : Nat) (f : Fld) : (s.bump off f).free = s.free := (rfl)
@[simp] theorem State.bump_out (off : Nat) (f : Fld) : (s.bump off f).out = s.out := (rfl)
@[simp] theorem State.bump_mem (off : Nat) (f : Fld) : (s.bump off f).mem = s.mem := (rfl)
@[simp] theorem State.bump_poison (off : Nat) (f : Fld) : (s.bump off f).poison = s.poison := (rfl)
@[simp] theorem State.bump_pow (off : Nat) (f : Fld) : (s.bump off f).pow = s.pow := (rfl)
@[simp] theorem State.bump_rng (off : Nat) (f : Fld) : (s.bump off f).rng = s.rng := (rfl)
@[simp] theorem State.bump_flt (off : Nat) (f : Fld) : (s.bump off f).flt = s.flt := (rfl)
@[simp] theorem State.bump_recr (off : Nat) (f : Fld) : (s.bump off f).recr = s.recr := (rfl)
@[simp] theorem State.bump_nym (off : Nat) (f : Fld) : (s.bump off f).nym = s.nym := (rfl)
@[simp] theorem State.bump_valves (off : Nat) (f : Fld) : (s.bump off f).valves = s.valves := (rfl)
@[simp] theorem State.bump_switches (off : Nat) (f : Fld) : (s.bump off f).switches = s.switches := (rfl)
@[simp] theorem State.bump_lamps (off : Nat) (f : Fld) : (s.bump off f).lamps = s.lamps := (rfl)
@[simp] theorem State.bump_handed (off : Nat) (f : Fld) : (s.bump off f).handed = s.handed := (rfl)
@[simp] theorem State.bump_stepAt (off : Nat) (f : Fld) : (s.bump off f).stepAt = s.stepAt := (rfl)
@[simp] theorem State.bump_mtWas (off : Nat) (f : Fld) : (s.bump off f).mtWas = s.mtWas := (rfl)
@[simp] theorem State.bump_thm (off : Nat) (f : Fld) : (s.bump off f).thm = s.thm := (rfl)
@[simp] theorem State.bump_can (off : Nat) (f : Fld) : (s.bump off f).can = s.can := (rfl)
@[simp] theorem State.bump_gns (off : Nat) (f : Fld) : (s.bump off f).gns = s.gns := (rfl)
@[simp] theorem State.bump_kept (off : Nat) (f : Fld) : (s.bump off f).kept = s.kept := (rfl)
@[simp] theorem State.bump_tst (off : Nat) (f : Fld) : (s.bump off f).tst = s.tst := (rfl)
@[simp] theorem State.bump_cle (off : Nat) (f : Fld) : (s.bump off f).cle = s.cle := (rfl)
@[simp] theorem State.bump_tri (off : Nat) (f : Fld) : (s.bump off f).tri = s.tri := (rfl)
@[simp] theorem State.bump_sns (off : Nat) (f : Fld) : (s.bump off f).sns = s.sns := (rfl)
@[simp] theorem State.bump_fus (off : Nat) (f : Fld) : (s.bump off f).fus = s.fus := (rfl)
@[simp] theorem State.bump_hsl (off : Nat) (f : Fld) : (s.bump off f).hsl = s.hsl := (rfl)
@[simp] theorem State.bump_vis (off : Nat) (f : Fld) : (s.bump off f).vis = s.vis := (rfl)
@[simp] theorem State.bump_net (off : Nat) (f : Fld) : (s.bump off f).net = s.net := (rfl)
@[simp] theorem State.bump_dma (off : Nat) (f : Fld) : (s.bump off f).dma = s.dma := (rfl)
@[simp] theorem State.bump_dmaLine (off : Nat) (f : Fld) : (s.bump off f).dmaLine = s.dmaLine := (rfl)
@[simp] theorem State.bump_dpy (off : Nat) (f : Fld) : (s.bump off f).dpy = s.dpy := (rfl)
@[simp] theorem State.bump_upd (off : Nat) (f : Fld) : (s.bump off f).upd = s.upd := (rfl)
@[simp] theorem State.bump_k12 (off : Nat) (f : Fld) : (s.bump off f).k12 = s.k12 := (rfl)

/-! ### wrMax -/

@[simp] theorem State.wrMax_pending (off : Nat) (f : Fld) (v : Nat) : (s.wrMax off f v).pending = s.pending := (rfl)
@[simp] theorem State.wrMax_cyc (off : Nat) (f : Fld) (v : Nat) : (s.wrMax off f v).cyc = s.cyc := (rfl)
@[simp] theorem State.wrMax_mtOff (off : Nat) (f : Fld) (v : Nat) : (s.wrMax off f v).mtOff = s.mtOff := (rfl)
@[simp] theorem State.wrMax_free (off : Nat) (f : Fld) (v : Nat) : (s.wrMax off f v).free = s.free := (rfl)
@[simp] theorem State.wrMax_out (off : Nat) (f : Fld) (v : Nat) : (s.wrMax off f v).out = s.out := (rfl)
@[simp] theorem State.wrMax_mem (off : Nat) (f : Fld) (v : Nat) : (s.wrMax off f v).mem = s.mem := (rfl)
@[simp] theorem State.wrMax_poison (off : Nat) (f : Fld) (v : Nat) : (s.wrMax off f v).poison = s.poison := (rfl)
@[simp] theorem State.wrMax_pow (off : Nat) (f : Fld) (v : Nat) : (s.wrMax off f v).pow = s.pow := (rfl)
@[simp] theorem State.wrMax_rng (off : Nat) (f : Fld) (v : Nat) : (s.wrMax off f v).rng = s.rng := (rfl)
@[simp] theorem State.wrMax_flt (off : Nat) (f : Fld) (v : Nat) : (s.wrMax off f v).flt = s.flt := (rfl)
@[simp] theorem State.wrMax_recr (off : Nat) (f : Fld) (v : Nat) : (s.wrMax off f v).recr = s.recr := (rfl)
@[simp] theorem State.wrMax_nym (off : Nat) (f : Fld) (v : Nat) : (s.wrMax off f v).nym = s.nym := (rfl)
@[simp] theorem State.wrMax_valves (off : Nat) (f : Fld) (v : Nat) : (s.wrMax off f v).valves = s.valves := (rfl)
@[simp] theorem State.wrMax_switches (off : Nat) (f : Fld) (v : Nat) : (s.wrMax off f v).switches = s.switches := (rfl)
@[simp] theorem State.wrMax_lamps (off : Nat) (f : Fld) (v : Nat) : (s.wrMax off f v).lamps = s.lamps := (rfl)
@[simp] theorem State.wrMax_handed (off : Nat) (f : Fld) (v : Nat) : (s.wrMax off f v).handed = s.handed := (rfl)
@[simp] theorem State.wrMax_stepAt (off : Nat) (f : Fld) (v : Nat) : (s.wrMax off f v).stepAt = s.stepAt := (rfl)
@[simp] theorem State.wrMax_mtWas (off : Nat) (f : Fld) (v : Nat) : (s.wrMax off f v).mtWas = s.mtWas := (rfl)
@[simp] theorem State.wrMax_thm (off : Nat) (f : Fld) (v : Nat) : (s.wrMax off f v).thm = s.thm := (rfl)
@[simp] theorem State.wrMax_can (off : Nat) (f : Fld) (v : Nat) : (s.wrMax off f v).can = s.can := (rfl)
@[simp] theorem State.wrMax_gns (off : Nat) (f : Fld) (v : Nat) : (s.wrMax off f v).gns = s.gns := (rfl)
@[simp] theorem State.wrMax_kept (off : Nat) (f : Fld) (v : Nat) : (s.wrMax off f v).kept = s.kept := (rfl)
@[simp] theorem State.wrMax_tst (off : Nat) (f : Fld) (v : Nat) : (s.wrMax off f v).tst = s.tst := (rfl)
@[simp] theorem State.wrMax_cle (off : Nat) (f : Fld) (v : Nat) : (s.wrMax off f v).cle = s.cle := (rfl)
@[simp] theorem State.wrMax_tri (off : Nat) (f : Fld) (v : Nat) : (s.wrMax off f v).tri = s.tri := (rfl)
@[simp] theorem State.wrMax_sns (off : Nat) (f : Fld) (v : Nat) : (s.wrMax off f v).sns = s.sns := (rfl)
@[simp] theorem State.wrMax_fus (off : Nat) (f : Fld) (v : Nat) : (s.wrMax off f v).fus = s.fus := (rfl)
@[simp] theorem State.wrMax_hsl (off : Nat) (f : Fld) (v : Nat) : (s.wrMax off f v).hsl = s.hsl := (rfl)
@[simp] theorem State.wrMax_vis (off : Nat) (f : Fld) (v : Nat) : (s.wrMax off f v).vis = s.vis := (rfl)
@[simp] theorem State.wrMax_net (off : Nat) (f : Fld) (v : Nat) : (s.wrMax off f v).net = s.net := (rfl)
@[simp] theorem State.wrMax_dma (off : Nat) (f : Fld) (v : Nat) : (s.wrMax off f v).dma = s.dma := (rfl)
@[simp] theorem State.wrMax_dmaLine (off : Nat) (f : Fld) (v : Nat) : (s.wrMax off f v).dmaLine = s.dmaLine := (rfl)
@[simp] theorem State.wrMax_dpy (off : Nat) (f : Fld) (v : Nat) : (s.wrMax off f v).dpy = s.dpy := (rfl)
@[simp] theorem State.wrMax_upd (off : Nat) (f : Fld) (v : Nat) : (s.wrMax off f v).upd = s.upd := (rfl)
@[simp] theorem State.wrMax_k12 (off : Nat) (f : Fld) (v : Nat) : (s.wrMax off f v).k12 = s.k12 := (rfl)

/-! ### orBits -/

@[simp] theorem State.orBits_pending (off : Nat) (f : Fld) (v : Nat) : (s.orBits off f v).pending = s.pending := (rfl)
@[simp] theorem State.orBits_cyc (off : Nat) (f : Fld) (v : Nat) : (s.orBits off f v).cyc = s.cyc := (rfl)
@[simp] theorem State.orBits_mtOff (off : Nat) (f : Fld) (v : Nat) : (s.orBits off f v).mtOff = s.mtOff := (rfl)
@[simp] theorem State.orBits_free (off : Nat) (f : Fld) (v : Nat) : (s.orBits off f v).free = s.free := (rfl)
@[simp] theorem State.orBits_out (off : Nat) (f : Fld) (v : Nat) : (s.orBits off f v).out = s.out := (rfl)
@[simp] theorem State.orBits_mem (off : Nat) (f : Fld) (v : Nat) : (s.orBits off f v).mem = s.mem := (rfl)
@[simp] theorem State.orBits_poison (off : Nat) (f : Fld) (v : Nat) : (s.orBits off f v).poison = s.poison := (rfl)
@[simp] theorem State.orBits_pow (off : Nat) (f : Fld) (v : Nat) : (s.orBits off f v).pow = s.pow := (rfl)
@[simp] theorem State.orBits_rng (off : Nat) (f : Fld) (v : Nat) : (s.orBits off f v).rng = s.rng := (rfl)
@[simp] theorem State.orBits_flt (off : Nat) (f : Fld) (v : Nat) : (s.orBits off f v).flt = s.flt := (rfl)
@[simp] theorem State.orBits_recr (off : Nat) (f : Fld) (v : Nat) : (s.orBits off f v).recr = s.recr := (rfl)
@[simp] theorem State.orBits_nym (off : Nat) (f : Fld) (v : Nat) : (s.orBits off f v).nym = s.nym := (rfl)
@[simp] theorem State.orBits_valves (off : Nat) (f : Fld) (v : Nat) : (s.orBits off f v).valves = s.valves := (rfl)
@[simp] theorem State.orBits_switches (off : Nat) (f : Fld) (v : Nat) : (s.orBits off f v).switches = s.switches := (rfl)
@[simp] theorem State.orBits_lamps (off : Nat) (f : Fld) (v : Nat) : (s.orBits off f v).lamps = s.lamps := (rfl)
@[simp] theorem State.orBits_handed (off : Nat) (f : Fld) (v : Nat) : (s.orBits off f v).handed = s.handed := (rfl)
@[simp] theorem State.orBits_stepAt (off : Nat) (f : Fld) (v : Nat) : (s.orBits off f v).stepAt = s.stepAt := (rfl)
@[simp] theorem State.orBits_mtWas (off : Nat) (f : Fld) (v : Nat) : (s.orBits off f v).mtWas = s.mtWas := (rfl)
@[simp] theorem State.orBits_thm (off : Nat) (f : Fld) (v : Nat) : (s.orBits off f v).thm = s.thm := (rfl)
@[simp] theorem State.orBits_can (off : Nat) (f : Fld) (v : Nat) : (s.orBits off f v).can = s.can := (rfl)
@[simp] theorem State.orBits_gns (off : Nat) (f : Fld) (v : Nat) : (s.orBits off f v).gns = s.gns := (rfl)
@[simp] theorem State.orBits_kept (off : Nat) (f : Fld) (v : Nat) : (s.orBits off f v).kept = s.kept := (rfl)
@[simp] theorem State.orBits_tst (off : Nat) (f : Fld) (v : Nat) : (s.orBits off f v).tst = s.tst := (rfl)
@[simp] theorem State.orBits_cle (off : Nat) (f : Fld) (v : Nat) : (s.orBits off f v).cle = s.cle := (rfl)
@[simp] theorem State.orBits_tri (off : Nat) (f : Fld) (v : Nat) : (s.orBits off f v).tri = s.tri := (rfl)
@[simp] theorem State.orBits_sns (off : Nat) (f : Fld) (v : Nat) : (s.orBits off f v).sns = s.sns := (rfl)
@[simp] theorem State.orBits_fus (off : Nat) (f : Fld) (v : Nat) : (s.orBits off f v).fus = s.fus := (rfl)
@[simp] theorem State.orBits_hsl (off : Nat) (f : Fld) (v : Nat) : (s.orBits off f v).hsl = s.hsl := (rfl)
@[simp] theorem State.orBits_vis (off : Nat) (f : Fld) (v : Nat) : (s.orBits off f v).vis = s.vis := (rfl)
@[simp] theorem State.orBits_net (off : Nat) (f : Fld) (v : Nat) : (s.orBits off f v).net = s.net := (rfl)
@[simp] theorem State.orBits_dma (off : Nat) (f : Fld) (v : Nat) : (s.orBits off f v).dma = s.dma := (rfl)
@[simp] theorem State.orBits_dmaLine (off : Nat) (f : Fld) (v : Nat) : (s.orBits off f v).dmaLine = s.dmaLine := (rfl)
@[simp] theorem State.orBits_dpy (off : Nat) (f : Fld) (v : Nat) : (s.orBits off f v).dpy = s.dpy := (rfl)
@[simp] theorem State.orBits_upd (off : Nat) (f : Fld) (v : Nat) : (s.orBits off f v).upd = s.upd := (rfl)
@[simp] theorem State.orBits_k12 (off : Nat) (f : Fld) (v : Nat) : (s.orBits off f v).k12 = s.k12 := (rfl)

/-! ### incReg -/

@[simp] theorem State.incReg_pending (off : Nat) : (s.incReg off).pending = s.pending := (rfl)
@[simp] theorem State.incReg_cyc (off : Nat) : (s.incReg off).cyc = s.cyc := (rfl)
@[simp] theorem State.incReg_mtOff (off : Nat) : (s.incReg off).mtOff = s.mtOff := (rfl)
@[simp] theorem State.incReg_free (off : Nat) : (s.incReg off).free = s.free := (rfl)
@[simp] theorem State.incReg_out (off : Nat) : (s.incReg off).out = s.out := (rfl)
@[simp] theorem State.incReg_mem (off : Nat) : (s.incReg off).mem = s.mem := (rfl)
@[simp] theorem State.incReg_hot (off : Nat) : (s.incReg off).hot = s.hot := (rfl)
@[simp] theorem State.incReg_poison (off : Nat) : (s.incReg off).poison = s.poison := (rfl)
@[simp] theorem State.incReg_pow (off : Nat) : (s.incReg off).pow = s.pow := (rfl)
@[simp] theorem State.incReg_rng (off : Nat) : (s.incReg off).rng = s.rng := (rfl)
@[simp] theorem State.incReg_flt (off : Nat) : (s.incReg off).flt = s.flt := (rfl)
@[simp] theorem State.incReg_recr (off : Nat) : (s.incReg off).recr = s.recr := (rfl)
@[simp] theorem State.incReg_nym (off : Nat) : (s.incReg off).nym = s.nym := (rfl)
@[simp] theorem State.incReg_valves (off : Nat) : (s.incReg off).valves = s.valves := (rfl)
@[simp] theorem State.incReg_switches (off : Nat) : (s.incReg off).switches = s.switches := (rfl)
@[simp] theorem State.incReg_lamps (off : Nat) : (s.incReg off).lamps = s.lamps := (rfl)
@[simp] theorem State.incReg_handed (off : Nat) : (s.incReg off).handed = s.handed := (rfl)
@[simp] theorem State.incReg_stepAt (off : Nat) : (s.incReg off).stepAt = s.stepAt := (rfl)
@[simp] theorem State.incReg_mtWas (off : Nat) : (s.incReg off).mtWas = s.mtWas := (rfl)
@[simp] theorem State.incReg_thm (off : Nat) : (s.incReg off).thm = s.thm := (rfl)
@[simp] theorem State.incReg_can (off : Nat) : (s.incReg off).can = s.can := (rfl)
@[simp] theorem State.incReg_gns (off : Nat) : (s.incReg off).gns = s.gns := (rfl)
@[simp] theorem State.incReg_kept (off : Nat) : (s.incReg off).kept = s.kept := (rfl)
@[simp] theorem State.incReg_tst (off : Nat) : (s.incReg off).tst = s.tst := (rfl)
@[simp] theorem State.incReg_cle (off : Nat) : (s.incReg off).cle = s.cle := (rfl)
@[simp] theorem State.incReg_tri (off : Nat) : (s.incReg off).tri = s.tri := (rfl)
@[simp] theorem State.incReg_sns (off : Nat) : (s.incReg off).sns = s.sns := (rfl)
@[simp] theorem State.incReg_fus (off : Nat) : (s.incReg off).fus = s.fus := (rfl)
@[simp] theorem State.incReg_hsl (off : Nat) : (s.incReg off).hsl = s.hsl := (rfl)
@[simp] theorem State.incReg_vis (off : Nat) : (s.incReg off).vis = s.vis := (rfl)
@[simp] theorem State.incReg_net (off : Nat) : (s.incReg off).net = s.net := (rfl)
@[simp] theorem State.incReg_dma (off : Nat) : (s.incReg off).dma = s.dma := (rfl)
@[simp] theorem State.incReg_dmaLine (off : Nat) : (s.incReg off).dmaLine = s.dmaLine := (rfl)
@[simp] theorem State.incReg_dpy (off : Nat) : (s.incReg off).dpy = s.dpy := (rfl)
@[simp] theorem State.incReg_upd (off : Nat) : (s.incReg off).upd = s.upd := (rfl)
@[simp] theorem State.incReg_k12 (off : Nat) : (s.incReg off).k12 = s.k12 := (rfl)

/-! ### memWr -/

@[simp] theorem State.memWr_pending (a : Nat) (b : Byte) : (s.memWr a b).pending = s.pending := (rfl)
@[simp] theorem State.memWr_cyc (a : Nat) (b : Byte) : (s.memWr a b).cyc = s.cyc := (rfl)
@[simp] theorem State.memWr_mtOff (a : Nat) (b : Byte) : (s.memWr a b).mtOff = s.mtOff := (rfl)
@[simp] theorem State.memWr_free (a : Nat) (b : Byte) : (s.memWr a b).free = s.free := (rfl)
@[simp] theorem State.memWr_out (a : Nat) (b : Byte) : (s.memWr a b).out = s.out := (rfl)
@[simp] theorem State.memWr_regs (a : Nat) (b : Byte) : (s.memWr a b).regs = s.regs := (rfl)
@[simp] theorem State.memWr_mem (a : Nat) (b : Byte) : (s.memWr a b).mem = cellSet memReset s.mem a b := (rfl)
@[simp] theorem State.memWr_hot (a : Nat) (b : Byte) : (s.memWr a b).hot = s.hot := (rfl)
@[simp] theorem State.memWr_pow (a : Nat) (b : Byte) : (s.memWr a b).pow = s.pow := (rfl)
@[simp] theorem State.memWr_rng (a : Nat) (b : Byte) : (s.memWr a b).rng = s.rng := (rfl)
@[simp] theorem State.memWr_flt (a : Nat) (b : Byte) : (s.memWr a b).flt = s.flt := (rfl)
@[simp] theorem State.memWr_recr (a : Nat) (b : Byte) : (s.memWr a b).recr = s.recr := (rfl)
@[simp] theorem State.memWr_nym (a : Nat) (b : Byte) : (s.memWr a b).nym = s.nym := (rfl)
@[simp] theorem State.memWr_valves (a : Nat) (b : Byte) : (s.memWr a b).valves = s.valves := (rfl)
@[simp] theorem State.memWr_switches (a : Nat) (b : Byte) : (s.memWr a b).switches = s.switches := (rfl)
@[simp] theorem State.memWr_lamps (a : Nat) (b : Byte) : (s.memWr a b).lamps = s.lamps := (rfl)
@[simp] theorem State.memWr_handed (a : Nat) (b : Byte) : (s.memWr a b).handed = s.handed := (rfl)
@[simp] theorem State.memWr_stepAt (a : Nat) (b : Byte) : (s.memWr a b).stepAt = s.stepAt := (rfl)
@[simp] theorem State.memWr_mtWas (a : Nat) (b : Byte) : (s.memWr a b).mtWas = s.mtWas := (rfl)
@[simp] theorem State.memWr_thm (a : Nat) (b : Byte) : (s.memWr a b).thm = s.thm := (rfl)
@[simp] theorem State.memWr_can (a : Nat) (b : Byte) : (s.memWr a b).can = s.can := (rfl)
@[simp] theorem State.memWr_gns (a : Nat) (b : Byte) : (s.memWr a b).gns = s.gns := (rfl)
@[simp] theorem State.memWr_kept (a : Nat) (b : Byte) : (s.memWr a b).kept = s.kept := (rfl)
@[simp] theorem State.memWr_tst (a : Nat) (b : Byte) : (s.memWr a b).tst = s.tst := (rfl)
@[simp] theorem State.memWr_cle (a : Nat) (b : Byte) : (s.memWr a b).cle = s.cle := (rfl)
@[simp] theorem State.memWr_tri (a : Nat) (b : Byte) : (s.memWr a b).tri = s.tri := (rfl)
@[simp] theorem State.memWr_sns (a : Nat) (b : Byte) : (s.memWr a b).sns = s.sns := (rfl)
@[simp] theorem State.memWr_fus (a : Nat) (b : Byte) : (s.memWr a b).fus = s.fus := (rfl)
@[simp] theorem State.memWr_hsl (a : Nat) (b : Byte) : (s.memWr a b).hsl = s.hsl := (rfl)
@[simp] theorem State.memWr_vis (a : Nat) (b : Byte) : (s.memWr a b).vis = s.vis := (rfl)
@[simp] theorem State.memWr_net (a : Nat) (b : Byte) : (s.memWr a b).net = s.net := (rfl)
@[simp] theorem State.memWr_dma (a : Nat) (b : Byte) : (s.memWr a b).dma = s.dma := (rfl)
@[simp] theorem State.memWr_dmaLine (a : Nat) (b : Byte) : (s.memWr a b).dmaLine = s.dmaLine := (rfl)
@[simp] theorem State.memWr_dpy (a : Nat) (b : Byte) : (s.memWr a b).dpy = s.dpy := (rfl)
@[simp] theorem State.memWr_upd (a : Nat) (b : Byte) : (s.memWr a b).upd = s.upd := (rfl)
@[simp] theorem State.memWr_k12 (a : Nat) (b : Byte) : (s.memWr a b).k12 = s.k12 := (rfl)

/-! ### emit -/

@[simp] theorem State.emit_pending (e : Emission) : (s.emit e).pending = s.pending := (rfl)
@[simp] theorem State.emit_cyc (e : Emission) : (s.emit e).cyc = s.cyc := (rfl)
@[simp] theorem State.emit_mtOff (e : Emission) : (s.emit e).mtOff = s.mtOff := (rfl)
@[simp] theorem State.emit_free (e : Emission) : (s.emit e).free = s.free := (rfl)
@[simp] theorem State.emit_out (e : Emission) : (s.emit e).out = e :: s.out := (rfl)
@[simp] theorem State.emit_regs (e : Emission) : (s.emit e).regs = s.regs := (rfl)
@[simp] theorem State.emit_mem (e : Emission) : (s.emit e).mem = s.mem := (rfl)
@[simp] theorem State.emit_hot (e : Emission) : (s.emit e).hot = s.hot := (rfl)
@[simp] theorem State.emit_poison (e : Emission) : (s.emit e).poison = s.poison := (rfl)
@[simp] theorem State.emit_pow (e : Emission) : (s.emit e).pow = s.pow := (rfl)
@[simp] theorem State.emit_rng (e : Emission) : (s.emit e).rng = s.rng := (rfl)
@[simp] theorem State.emit_flt (e : Emission) : (s.emit e).flt = s.flt := (rfl)
@[simp] theorem State.emit_recr (e : Emission) : (s.emit e).recr = s.recr := (rfl)
@[simp] theorem State.emit_nym (e : Emission) : (s.emit e).nym = s.nym := (rfl)
@[simp] theorem State.emit_valves (e : Emission) : (s.emit e).valves = s.valves := (rfl)
@[simp] theorem State.emit_switches (e : Emission) : (s.emit e).switches = s.switches := (rfl)
@[simp] theorem State.emit_lamps (e : Emission) : (s.emit e).lamps = s.lamps := (rfl)
@[simp] theorem State.emit_handed (e : Emission) : (s.emit e).handed = s.handed := (rfl)
@[simp] theorem State.emit_stepAt (e : Emission) : (s.emit e).stepAt = s.stepAt := (rfl)
@[simp] theorem State.emit_mtWas (e : Emission) : (s.emit e).mtWas = s.mtWas := (rfl)
@[simp] theorem State.emit_thm (e : Emission) : (s.emit e).thm = s.thm := (rfl)
@[simp] theorem State.emit_can (e : Emission) : (s.emit e).can = s.can := (rfl)
@[simp] theorem State.emit_gns (e : Emission) : (s.emit e).gns = s.gns := (rfl)
@[simp] theorem State.emit_kept (e : Emission) : (s.emit e).kept = s.kept := (rfl)
@[simp] theorem State.emit_tst (e : Emission) : (s.emit e).tst = s.tst := (rfl)
@[simp] theorem State.emit_cle (e : Emission) : (s.emit e).cle = s.cle := (rfl)
@[simp] theorem State.emit_tri (e : Emission) : (s.emit e).tri = s.tri := (rfl)
@[simp] theorem State.emit_sns (e : Emission) : (s.emit e).sns = s.sns := (rfl)
@[simp] theorem State.emit_fus (e : Emission) : (s.emit e).fus = s.fus := (rfl)
@[simp] theorem State.emit_hsl (e : Emission) : (s.emit e).hsl = s.hsl := (rfl)
@[simp] theorem State.emit_vis (e : Emission) : (s.emit e).vis = s.vis := (rfl)
@[simp] theorem State.emit_net (e : Emission) : (s.emit e).net = s.net := (rfl)
@[simp] theorem State.emit_dma (e : Emission) : (s.emit e).dma = s.dma := (rfl)
@[simp] theorem State.emit_dmaLine (e : Emission) : (s.emit e).dmaLine = s.dmaLine := (rfl)
@[simp] theorem State.emit_dpy (e : Emission) : (s.emit e).dpy = s.dpy := (rfl)
@[simp] theorem State.emit_upd (e : Emission) : (s.emit e).upd = s.upd := (rfl)
@[simp] theorem State.emit_k12 (e : Emission) : (s.emit e).k12 = s.k12 := (rfl)

/-! ### freeNext -/

@[simp] theorem State.freeNext_pending : s.freeNext.pending = s.pending := (rfl)
@[simp] theorem State.freeNext_cyc : s.freeNext.cyc = s.cyc := (rfl)
@[simp] theorem State.freeNext_mtOff : s.freeNext.mtOff = s.mtOff := (rfl)
@[simp] theorem State.freeNext_free : s.freeNext.free = s.free + 1 := (rfl)
@[simp] theorem State.freeNext_out : s.freeNext.out = s.out := (rfl)
@[simp] theorem State.freeNext_regs : s.freeNext.regs = s.regs := (rfl)
@[simp] theorem State.freeNext_mem : s.freeNext.mem = s.mem := (rfl)
@[simp] theorem State.freeNext_hot : s.freeNext.hot = s.hot := (rfl)
@[simp] theorem State.freeNext_poison : s.freeNext.poison = s.poison := (rfl)
@[simp] theorem State.freeNext_pow : s.freeNext.pow = s.pow := (rfl)
@[simp] theorem State.freeNext_rng : s.freeNext.rng = s.rng := (rfl)
@[simp] theorem State.freeNext_flt : s.freeNext.flt = s.flt := (rfl)
@[simp] theorem State.freeNext_recr : s.freeNext.recr = s.recr := (rfl)
@[simp] theorem State.freeNext_nym : s.freeNext.nym = s.nym := (rfl)
@[simp] theorem State.freeNext_valves : s.freeNext.valves = s.valves := (rfl)
@[simp] theorem State.freeNext_switches : s.freeNext.switches = s.switches := (rfl)
@[simp] theorem State.freeNext_lamps : s.freeNext.lamps = s.lamps := (rfl)
@[simp] theorem State.freeNext_handed : s.freeNext.handed = s.handed := (rfl)
@[simp] theorem State.freeNext_stepAt : s.freeNext.stepAt = s.stepAt := (rfl)
@[simp] theorem State.freeNext_mtWas : s.freeNext.mtWas = s.mtWas := (rfl)
@[simp] theorem State.freeNext_thm : s.freeNext.thm = s.thm := (rfl)
@[simp] theorem State.freeNext_can : s.freeNext.can = s.can := (rfl)
@[simp] theorem State.freeNext_gns : s.freeNext.gns = s.gns := (rfl)
@[simp] theorem State.freeNext_kept : s.freeNext.kept = s.kept := (rfl)
@[simp] theorem State.freeNext_tst : s.freeNext.tst = s.tst := (rfl)
@[simp] theorem State.freeNext_cle : s.freeNext.cle = s.cle := (rfl)
@[simp] theorem State.freeNext_tri : s.freeNext.tri = s.tri := (rfl)
@[simp] theorem State.freeNext_sns : s.freeNext.sns = s.sns := (rfl)
@[simp] theorem State.freeNext_fus : s.freeNext.fus = s.fus := (rfl)
@[simp] theorem State.freeNext_hsl : s.freeNext.hsl = s.hsl := (rfl)
@[simp] theorem State.freeNext_vis : s.freeNext.vis = s.vis := (rfl)
@[simp] theorem State.freeNext_net : s.freeNext.net = s.net := (rfl)
@[simp] theorem State.freeNext_dma : s.freeNext.dma = s.dma := (rfl)
@[simp] theorem State.freeNext_dmaLine : s.freeNext.dmaLine = s.dmaLine := (rfl)
@[simp] theorem State.freeNext_dpy : s.freeNext.dpy = s.dpy := (rfl)
@[simp] theorem State.freeNext_upd : s.freeNext.upd = s.upd := (rfl)
@[simp] theorem State.freeNext_k12 : s.freeNext.k12 = s.k12 := (rfl)

/-! ### freeAdd -/

@[simp] theorem State.freeAdd_pending (n : Nat) : (s.freeAdd n).pending = s.pending := (rfl)
@[simp] theorem State.freeAdd_cyc (n : Nat) : (s.freeAdd n).cyc = s.cyc := (rfl)
@[simp] theorem State.freeAdd_mtOff (n : Nat) : (s.freeAdd n).mtOff = s.mtOff := (rfl)
@[simp] theorem State.freeAdd_free (n : Nat) : (s.freeAdd n).free = s.free + n := (rfl)
@[simp] theorem State.freeAdd_out (n : Nat) : (s.freeAdd n).out = s.out := (rfl)
@[simp] theorem State.freeAdd_regs (n : Nat) : (s.freeAdd n).regs = s.regs := (rfl)
@[simp] theorem State.freeAdd_mem (n : Nat) : (s.freeAdd n).mem = s.mem := (rfl)
@[simp] theorem State.freeAdd_hot (n : Nat) : (s.freeAdd n).hot = s.hot := (rfl)
@[simp] theorem State.freeAdd_poison (n : Nat) : (s.freeAdd n).poison = s.poison := (rfl)
@[simp] theorem State.freeAdd_pow (n : Nat) : (s.freeAdd n).pow = s.pow := (rfl)
@[simp] theorem State.freeAdd_rng (n : Nat) : (s.freeAdd n).rng = s.rng := (rfl)
@[simp] theorem State.freeAdd_flt (n : Nat) : (s.freeAdd n).flt = s.flt := (rfl)
@[simp] theorem State.freeAdd_recr (n : Nat) : (s.freeAdd n).recr = s.recr := (rfl)
@[simp] theorem State.freeAdd_nym (n : Nat) : (s.freeAdd n).nym = s.nym := (rfl)
@[simp] theorem State.freeAdd_valves (n : Nat) : (s.freeAdd n).valves = s.valves := (rfl)
@[simp] theorem State.freeAdd_switches (n : Nat) : (s.freeAdd n).switches = s.switches := (rfl)
@[simp] theorem State.freeAdd_lamps (n : Nat) : (s.freeAdd n).lamps = s.lamps := (rfl)
@[simp] theorem State.freeAdd_handed (n : Nat) : (s.freeAdd n).handed = s.handed := (rfl)
@[simp] theorem State.freeAdd_stepAt (n : Nat) : (s.freeAdd n).stepAt = s.stepAt := (rfl)
@[simp] theorem State.freeAdd_mtWas (n : Nat) : (s.freeAdd n).mtWas = s.mtWas := (rfl)
@[simp] theorem State.freeAdd_thm (n : Nat) : (s.freeAdd n).thm = s.thm := (rfl)
@[simp] theorem State.freeAdd_can (n : Nat) : (s.freeAdd n).can = s.can := (rfl)
@[simp] theorem State.freeAdd_gns (n : Nat) : (s.freeAdd n).gns = s.gns := (rfl)
@[simp] theorem State.freeAdd_kept (n : Nat) : (s.freeAdd n).kept = s.kept := (rfl)
@[simp] theorem State.freeAdd_tst (n : Nat) : (s.freeAdd n).tst = s.tst := (rfl)
@[simp] theorem State.freeAdd_cle (n : Nat) : (s.freeAdd n).cle = s.cle := (rfl)
@[simp] theorem State.freeAdd_tri (n : Nat) : (s.freeAdd n).tri = s.tri := (rfl)
@[simp] theorem State.freeAdd_sns (n : Nat) : (s.freeAdd n).sns = s.sns := (rfl)
@[simp] theorem State.freeAdd_fus (n : Nat) : (s.freeAdd n).fus = s.fus := (rfl)
@[simp] theorem State.freeAdd_hsl (n : Nat) : (s.freeAdd n).hsl = s.hsl := (rfl)
@[simp] theorem State.freeAdd_vis (n : Nat) : (s.freeAdd n).vis = s.vis := (rfl)
@[simp] theorem State.freeAdd_net (n : Nat) : (s.freeAdd n).net = s.net := (rfl)
@[simp] theorem State.freeAdd_dma (n : Nat) : (s.freeAdd n).dma = s.dma := (rfl)
@[simp] theorem State.freeAdd_dmaLine (n : Nat) : (s.freeAdd n).dmaLine = s.dmaLine := (rfl)
@[simp] theorem State.freeAdd_dpy (n : Nat) : (s.freeAdd n).dpy = s.dpy := (rfl)
@[simp] theorem State.freeAdd_upd (n : Nat) : (s.freeAdd n).upd = s.upd := (rfl)
@[simp] theorem State.freeAdd_k12 (n : Nat) : (s.freeAdd n).k12 = s.k12 := (rfl)

/-! ### setPending -/

@[simp] theorem State.setPending_pending (l : List Instr) : (s.setPending l).pending = l := (rfl)
@[simp] theorem State.setPending_cyc (l : List Instr) : (s.setPending l).cyc = s.cyc := (rfl)
@[simp] theorem State.setPending_mtOff (l : List Instr) : (s.setPending l).mtOff = s.mtOff := (rfl)
@[simp] theorem State.setPending_free (l : List Instr) : (s.setPending l).free = s.free := (rfl)
@[simp] theorem State.setPending_out (l : List Instr) : (s.setPending l).out = s.out := (rfl)
@[simp] theorem State.setPending_regs (l : List Instr) : (s.setPending l).regs = s.regs := (rfl)
@[simp] theorem State.setPending_mem (l : List Instr) : (s.setPending l).mem = s.mem := (rfl)
@[simp] theorem State.setPending_hot (l : List Instr) : (s.setPending l).hot = s.hot := (rfl)
@[simp] theorem State.setPending_poison (l : List Instr) : (s.setPending l).poison = s.poison := (rfl)
@[simp] theorem State.setPending_pow (l : List Instr) : (s.setPending l).pow = s.pow := (rfl)
@[simp] theorem State.setPending_rng (l : List Instr) : (s.setPending l).rng = s.rng := (rfl)
@[simp] theorem State.setPending_flt (l : List Instr) : (s.setPending l).flt = s.flt := (rfl)
@[simp] theorem State.setPending_recr (l : List Instr) : (s.setPending l).recr = s.recr := (rfl)
@[simp] theorem State.setPending_nym (l : List Instr) : (s.setPending l).nym = s.nym := (rfl)
@[simp] theorem State.setPending_valves (l : List Instr) : (s.setPending l).valves = s.valves := (rfl)
@[simp] theorem State.setPending_switches (l : List Instr) : (s.setPending l).switches = s.switches := (rfl)
@[simp] theorem State.setPending_lamps (l : List Instr) : (s.setPending l).lamps = s.lamps := (rfl)
@[simp] theorem State.setPending_handed (l : List Instr) : (s.setPending l).handed = s.handed := (rfl)
@[simp] theorem State.setPending_stepAt (l : List Instr) : (s.setPending l).stepAt = s.stepAt := (rfl)
@[simp] theorem State.setPending_mtWas (l : List Instr) : (s.setPending l).mtWas = s.mtWas := (rfl)
@[simp] theorem State.setPending_thm (l : List Instr) : (s.setPending l).thm = s.thm := (rfl)
@[simp] theorem State.setPending_can (l : List Instr) : (s.setPending l).can = s.can := (rfl)
@[simp] theorem State.setPending_gns (l : List Instr) : (s.setPending l).gns = s.gns := (rfl)
@[simp] theorem State.setPending_kept (l : List Instr) : (s.setPending l).kept = s.kept := (rfl)
@[simp] theorem State.setPending_tst (l : List Instr) : (s.setPending l).tst = s.tst := (rfl)
@[simp] theorem State.setPending_cle (l : List Instr) : (s.setPending l).cle = s.cle := (rfl)
@[simp] theorem State.setPending_tri (l : List Instr) : (s.setPending l).tri = s.tri := (rfl)
@[simp] theorem State.setPending_sns (l : List Instr) : (s.setPending l).sns = s.sns := (rfl)
@[simp] theorem State.setPending_fus (l : List Instr) : (s.setPending l).fus = s.fus := (rfl)
@[simp] theorem State.setPending_hsl (l : List Instr) : (s.setPending l).hsl = s.hsl := (rfl)
@[simp] theorem State.setPending_vis (l : List Instr) : (s.setPending l).vis = s.vis := (rfl)
@[simp] theorem State.setPending_net (l : List Instr) : (s.setPending l).net = s.net := (rfl)
@[simp] theorem State.setPending_dma (l : List Instr) : (s.setPending l).dma = s.dma := (rfl)
@[simp] theorem State.setPending_dmaLine (l : List Instr) : (s.setPending l).dmaLine = s.dmaLine := (rfl)
@[simp] theorem State.setPending_dpy (l : List Instr) : (s.setPending l).dpy = s.dpy := (rfl)
@[simp] theorem State.setPending_upd (l : List Instr) : (s.setPending l).upd = s.upd := (rfl)
@[simp] theorem State.setPending_k12 (l : List Instr) : (s.setPending l).k12 = s.k12 := (rfl)

/-! ### setPow -/

@[simp] theorem State.setPow_pending (x : Power) : (s.setPow x).pending = s.pending := (rfl)
@[simp] theorem State.setPow_cyc (x : Power) : (s.setPow x).cyc = s.cyc := (rfl)
@[simp] theorem State.setPow_mtOff (x : Power) : (s.setPow x).mtOff = s.mtOff := (rfl)
@[simp] theorem State.setPow_free (x : Power) : (s.setPow x).free = s.free := (rfl)
@[simp] theorem State.setPow_out (x : Power) : (s.setPow x).out = s.out := (rfl)
@[simp] theorem State.setPow_regs (x : Power) : (s.setPow x).regs = s.regs := (rfl)
@[simp] theorem State.setPow_mem (x : Power) : (s.setPow x).mem = s.mem := (rfl)
@[simp] theorem State.setPow_hot (x : Power) : (s.setPow x).hot = s.hot := (rfl)
@[simp] theorem State.setPow_poison (x : Power) : (s.setPow x).poison = s.poison := (rfl)
@[simp] theorem State.setPow_pow (x : Power) : (s.setPow x).pow = x := (rfl)
@[simp] theorem State.setPow_rng (x : Power) : (s.setPow x).rng = s.rng := (rfl)
@[simp] theorem State.setPow_flt (x : Power) : (s.setPow x).flt = s.flt := (rfl)
@[simp] theorem State.setPow_recr (x : Power) : (s.setPow x).recr = s.recr := (rfl)
@[simp] theorem State.setPow_nym (x : Power) : (s.setPow x).nym = s.nym := (rfl)
@[simp] theorem State.setPow_valves (x : Power) : (s.setPow x).valves = s.valves := (rfl)
@[simp] theorem State.setPow_switches (x : Power) : (s.setPow x).switches = s.switches := (rfl)
@[simp] theorem State.setPow_lamps (x : Power) : (s.setPow x).lamps = s.lamps := (rfl)
@[simp] theorem State.setPow_handed (x : Power) : (s.setPow x).handed = s.handed := (rfl)
@[simp] theorem State.setPow_stepAt (x : Power) : (s.setPow x).stepAt = s.stepAt := (rfl)
@[simp] theorem State.setPow_mtWas (x : Power) : (s.setPow x).mtWas = s.mtWas := (rfl)
@[simp] theorem State.setPow_thm (x : Power) : (s.setPow x).thm = s.thm := (rfl)
@[simp] theorem State.setPow_can (x : Power) : (s.setPow x).can = s.can := (rfl)
@[simp] theorem State.setPow_gns (x : Power) : (s.setPow x).gns = s.gns := (rfl)
@[simp] theorem State.setPow_kept (x : Power) : (s.setPow x).kept = s.kept := (rfl)
@[simp] theorem State.setPow_tst (x : Power) : (s.setPow x).tst = s.tst := (rfl)
@[simp] theorem State.setPow_cle (x : Power) : (s.setPow x).cle = s.cle := (rfl)
@[simp] theorem State.setPow_tri (x : Power) : (s.setPow x).tri = s.tri := (rfl)
@[simp] theorem State.setPow_sns (x : Power) : (s.setPow x).sns = s.sns := (rfl)
@[simp] theorem State.setPow_fus (x : Power) : (s.setPow x).fus = s.fus := (rfl)
@[simp] theorem State.setPow_hsl (x : Power) : (s.setPow x).hsl = s.hsl := (rfl)
@[simp] theorem State.setPow_vis (x : Power) : (s.setPow x).vis = s.vis := (rfl)
@[simp] theorem State.setPow_net (x : Power) : (s.setPow x).net = s.net := (rfl)
@[simp] theorem State.setPow_dma (x : Power) : (s.setPow x).dma = s.dma := (rfl)
@[simp] theorem State.setPow_dmaLine (x : Power) : (s.setPow x).dmaLine = s.dmaLine := (rfl)
@[simp] theorem State.setPow_dpy (x : Power) : (s.setPow x).dpy = s.dpy := (rfl)
@[simp] theorem State.setPow_upd (x : Power) : (s.setPow x).upd = s.upd := (rfl)
@[simp] theorem State.setPow_k12 (x : Power) : (s.setPow x).k12 = s.k12 := (rfl)

/-! ### setRecr -/

@[simp] theorem State.setRecr_recr (x : Recorder) : (s.setRecr x).recr = x := (rfl)
@[simp] theorem State.setRecr_pending (x : Recorder) : (s.setRecr x).pending = s.pending := (rfl)
@[simp] theorem State.setRecr_cyc (x : Recorder) : (s.setRecr x).cyc = s.cyc := (rfl)
@[simp] theorem State.setRecr_free (x : Recorder) : (s.setRecr x).free = s.free := (rfl)
@[simp] theorem State.setRecr_out (x : Recorder) : (s.setRecr x).out = s.out := (rfl)
@[simp] theorem State.setRecr_regs (x : Recorder) : (s.setRecr x).regs = s.regs := (rfl)
@[simp] theorem State.setRecr_mem (x : Recorder) : (s.setRecr x).mem = s.mem := (rfl)
@[simp] theorem State.setRecr_hot (x : Recorder) : (s.setRecr x).hot = s.hot := (rfl)
@[simp] theorem State.setRecr_poison (x : Recorder) : (s.setRecr x).poison = s.poison := (rfl)
@[simp] theorem State.setRecr_pow (x : Recorder) : (s.setRecr x).pow = s.pow := (rfl)

/-! ### setRing -/

@[simp] theorem State.setRing_pending (r : Nat) (x : Ring) : (s.setRing r x).pending = s.pending := (rfl)
@[simp] theorem State.setRing_cyc (r : Nat) (x : Ring) : (s.setRing r x).cyc = s.cyc := (rfl)
@[simp] theorem State.setRing_free (r : Nat) (x : Ring) : (s.setRing r x).free = s.free := (rfl)
@[simp] theorem State.setRing_out (r : Nat) (x : Ring) : (s.setRing r x).out = s.out := (rfl)
@[simp] theorem State.setRing_regs (r : Nat) (x : Ring) : (s.setRing r x).regs = s.regs := (rfl)
@[simp] theorem State.setRing_mem (r : Nat) (x : Ring) : (s.setRing r x).mem = s.mem := (rfl)
@[simp] theorem State.setRing_hot (r : Nat) (x : Ring) : (s.setRing r x).hot = s.hot := (rfl)
@[simp] theorem State.setRing_poison (r : Nat) (x : Ring) : (s.setRing r x).poison = s.poison := (rfl)
@[simp] theorem State.setRing_pow (r : Nat) (x : Ring) : (s.setRing r x).pow = s.pow := (rfl)

/-! ### setLineOut -/

@[simp] theorem State.setLineOut_pending (m n : Nat) : (s.setLineOut m n).pending = s.pending := (rfl)
@[simp] theorem State.setLineOut_cyc (m n : Nat) : (s.setLineOut m n).cyc = s.cyc := (rfl)
@[simp] theorem State.setLineOut_free (m n : Nat) : (s.setLineOut m n).free = s.free := (rfl)
@[simp] theorem State.setLineOut_out (m n : Nat) : (s.setLineOut m n).out = s.out := (rfl)
@[simp] theorem State.setLineOut_regs (m n : Nat) : (s.setLineOut m n).regs = s.regs := (rfl)
@[simp] theorem State.setLineOut_mem (m n : Nat) : (s.setLineOut m n).mem = s.mem := (rfl)
@[simp] theorem State.setLineOut_hot (m n : Nat) : (s.setLineOut m n).hot = s.hot := (rfl)
@[simp] theorem State.setLineOut_poison (m n : Nat) : (s.setLineOut m n).poison = s.poison := (rfl)
@[simp] theorem State.setLineOut_pow (m n : Nat) : (s.setLineOut m n).pow = s.pow := (rfl)

/-! ### setStaged -/

@[simp] theorem State.setStaged_pending (key : Nat) (l : List (List Word)) : (s.setStaged key l).pending = s.pending := (rfl)
@[simp] theorem State.setStaged_cyc (key : Nat) (l : List (List Word)) : (s.setStaged key l).cyc = s.cyc := (rfl)
@[simp] theorem State.setStaged_free (key : Nat) (l : List (List Word)) : (s.setStaged key l).free = s.free := (rfl)
@[simp] theorem State.setStaged_out (key : Nat) (l : List (List Word)) : (s.setStaged key l).out = s.out := (rfl)
@[simp] theorem State.setStaged_regs (key : Nat) (l : List (List Word)) : (s.setStaged key l).regs = s.regs := (rfl)
@[simp] theorem State.setStaged_mem (key : Nat) (l : List (List Word)) : (s.setStaged key l).mem = s.mem := (rfl)
@[simp] theorem State.setStaged_hot (key : Nat) (l : List (List Word)) : (s.setStaged key l).hot = s.hot := (rfl)
@[simp] theorem State.setStaged_poison (key : Nat) (l : List (List Word)) : (s.setStaged key l).poison = s.poison := (rfl)
@[simp] theorem State.setStaged_pow (key : Nat) (l : List (List Word)) : (s.setStaged key l).pow = s.pow := (rfl)

/-! ### setShaft -/

@[simp] theorem State.setShaft_pending (k : Nat) (h : Shaft) : (s.setShaft k h).pending = s.pending := (rfl)
@[simp] theorem State.setShaft_cyc (k : Nat) (h : Shaft) : (s.setShaft k h).cyc = s.cyc := (rfl)
@[simp] theorem State.setShaft_free (k : Nat) (h : Shaft) : (s.setShaft k h).free = s.free := (rfl)
@[simp] theorem State.setShaft_out (k : Nat) (h : Shaft) : (s.setShaft k h).out = s.out := (rfl)
@[simp] theorem State.setShaft_regs (k : Nat) (h : Shaft) : (s.setShaft k h).regs = s.regs := (rfl)
@[simp] theorem State.setShaft_mem (k : Nat) (h : Shaft) : (s.setShaft k h).mem = s.mem := (rfl)
@[simp] theorem State.setShaft_hot (k : Nat) (h : Shaft) : (s.setShaft k h).hot = s.hot := (rfl)
@[simp] theorem State.setShaft_poison (k : Nat) (h : Shaft) : (s.setShaft k h).poison = s.poison := (rfl)
@[simp] theorem State.setShaft_pow (k : Nat) (h : Shaft) : (s.setShaft k h).pow = s.pow := (rfl)

/-! ### setEv -/

@[simp] theorem State.setEv_pending (i : Nat) (e : EvEntry) : (s.setEv i e).pending = s.pending := (rfl)
@[simp] theorem State.setEv_cyc (i : Nat) (e : EvEntry) : (s.setEv i e).cyc = s.cyc := (rfl)
@[simp] theorem State.setEv_free (i : Nat) (e : EvEntry) : (s.setEv i e).free = s.free := (rfl)
@[simp] theorem State.setEv_out (i : Nat) (e : EvEntry) : (s.setEv i e).out = s.out := (rfl)
@[simp] theorem State.setEv_regs (i : Nat) (e : EvEntry) : (s.setEv i e).regs = s.regs := (rfl)
@[simp] theorem State.setEv_mem (i : Nat) (e : EvEntry) : (s.setEv i e).mem = s.mem := (rfl)
@[simp] theorem State.setEv_hot (i : Nat) (e : EvEntry) : (s.setEv i e).hot = s.hot := (rfl)
@[simp] theorem State.setEv_poison (i : Nat) (e : EvEntry) : (s.setEv i e).poison = s.poison := (rfl)
@[simp] theorem State.setEv_pow (i : Nat) (e : EvEntry) : (s.setEv i e).pow = s.pow := (rfl)

/-! ### setGnd -/

@[simp] theorem State.setGnd_pending (g : Ground) : (s.setGnd g).pending = s.pending := (rfl)
@[simp] theorem State.setGnd_cyc (g : Ground) : (s.setGnd g).cyc = s.cyc := (rfl)
@[simp] theorem State.setGnd_free (g : Ground) : (s.setGnd g).free = s.free := (rfl)
@[simp] theorem State.setGnd_out (g : Ground) : (s.setGnd g).out = s.out := (rfl)
@[simp] theorem State.setGnd_regs (g : Ground) : (s.setGnd g).regs = s.regs := (rfl)
@[simp] theorem State.setGnd_mem (g : Ground) : (s.setGnd g).mem = s.mem := (rfl)
@[simp] theorem State.setGnd_hot (g : Ground) : (s.setGnd g).hot = s.hot := (rfl)
@[simp] theorem State.setGnd_poison (g : Ground) : (s.setGnd g).poison = s.poison := (rfl)
@[simp] theorem State.setGnd_pow (g : Ground) : (s.setGnd g).pow = s.pow := (rfl)

/-! ### setGroup -/

@[simp] theorem State.setGroup_pending (g : Nat) (x : Group) : (s.setGroup g x).pending = s.pending := (rfl)
@[simp] theorem State.setGroup_cyc (g : Nat) (x : Group) : (s.setGroup g x).cyc = s.cyc := (rfl)
@[simp] theorem State.setGroup_free (g : Nat) (x : Group) : (s.setGroup g x).free = s.free := (rfl)
@[simp] theorem State.setGroup_out (g : Nat) (x : Group) : (s.setGroup g x).out = s.out := (rfl)
@[simp] theorem State.setGroup_regs (g : Nat) (x : Group) : (s.setGroup g x).regs = s.regs := (rfl)
@[simp] theorem State.setGroup_mem (g : Nat) (x : Group) : (s.setGroup g x).mem = s.mem := (rfl)
@[simp] theorem State.setGroup_hot (g : Nat) (x : Group) : (s.setGroup g x).hot = s.hot := (rfl)
@[simp] theorem State.setGroup_poison (g : Nat) (x : Group) : (s.setGroup g x).poison = s.poison := (rfl)
@[simp] theorem State.setGroup_pow (g : Nat) (x : Group) : (s.setGroup g x).pow = s.pow := (rfl)

/-! ### setLoop -/

@[simp] theorem State.setLoop_pending (n : Nat) (l : Loop) : (s.setLoop n l).pending = s.pending := (rfl)
@[simp] theorem State.setLoop_cyc (n : Nat) (l : Loop) : (s.setLoop n l).cyc = s.cyc := (rfl)
@[simp] theorem State.setLoop_free (n : Nat) (l : Loop) : (s.setLoop n l).free = s.free := (rfl)
@[simp] theorem State.setLoop_out (n : Nat) (l : Loop) : (s.setLoop n l).out = s.out := (rfl)
@[simp] theorem State.setLoop_regs (n : Nat) (l : Loop) : (s.setLoop n l).regs = s.regs := (rfl)
@[simp] theorem State.setLoop_mem (n : Nat) (l : Loop) : (s.setLoop n l).mem = s.mem := (rfl)
@[simp] theorem State.setLoop_hot (n : Nat) (l : Loop) : (s.setLoop n l).hot = s.hot := (rfl)
@[simp] theorem State.setLoop_poison (n : Nat) (l : Loop) : (s.setLoop n l).poison = s.poison := (rfl)
@[simp] theorem State.setLoop_pow (n : Nat) (l : Loop) : (s.setLoop n l).pow = s.pow := (rfl)

/-! ### setPool -/

@[simp] theorem State.setPool_pending (i : Nat) (w : Word) : (s.setPool i w).pending = s.pending := (rfl)
@[simp] theorem State.setPool_cyc (i : Nat) (w : Word) : (s.setPool i w).cyc = s.cyc := (rfl)
@[simp] theorem State.setPool_free (i : Nat) (w : Word) : (s.setPool i w).free = s.free := (rfl)
@[simp] theorem State.setPool_out (i : Nat) (w : Word) : (s.setPool i w).out = s.out := (rfl)
@[simp] theorem State.setPool_regs (i : Nat) (w : Word) : (s.setPool i w).regs = s.regs := (rfl)
@[simp] theorem State.setPool_mem (i : Nat) (w : Word) : (s.setPool i w).mem = s.mem := (rfl)
@[simp] theorem State.setPool_hot (i : Nat) (w : Word) : (s.setPool i w).hot = s.hot := (rfl)
@[simp] theorem State.setPool_poison (i : Nat) (w : Word) : (s.setPool i w).poison = s.poison := (rfl)
@[simp] theorem State.setPool_pow (i : Nat) (w : Word) : (s.setPool i w).pow = s.pow := (rfl)

/-! ### setAin -/

@[simp] theorem State.setAin_pending (n : Nat) (a : Ain) : (s.setAin n a).pending = s.pending := (rfl)
@[simp] theorem State.setAin_cyc (n : Nat) (a : Ain) : (s.setAin n a).cyc = s.cyc := (rfl)
@[simp] theorem State.setAin_free (n : Nat) (a : Ain) : (s.setAin n a).free = s.free := (rfl)
@[simp] theorem State.setAin_out (n : Nat) (a : Ain) : (s.setAin n a).out = s.out := (rfl)
@[simp] theorem State.setAin_regs (n : Nat) (a : Ain) : (s.setAin n a).regs = s.regs := (rfl)
@[simp] theorem State.setAin_mem (n : Nat) (a : Ain) : (s.setAin n a).mem = s.mem := (rfl)
@[simp] theorem State.setAin_hot (n : Nat) (a : Ain) : (s.setAin n a).hot = s.hot := (rfl)
@[simp] theorem State.setAin_poison (n : Nat) (a : Ain) : (s.setAin n a).poison = s.poison := (rfl)
@[simp] theorem State.setAin_pow (n : Nat) (a : Ain) : (s.setAin n a).pow = s.pow := (rfl)

/-! ### setFin -/

@[simp] theorem State.setFin_pending (n : Nat) (f : FreqIn) : (s.setFin n f).pending = s.pending := (rfl)
@[simp] theorem State.setFin_cyc (n : Nat) (f : FreqIn) : (s.setFin n f).cyc = s.cyc := (rfl)
@[simp] theorem State.setFin_free (n : Nat) (f : FreqIn) : (s.setFin n f).free = s.free := (rfl)
@[simp] theorem State.setFin_out (n : Nat) (f : FreqIn) : (s.setFin n f).out = s.out := (rfl)
@[simp] theorem State.setFin_regs (n : Nat) (f : FreqIn) : (s.setFin n f).regs = s.regs := (rfl)
@[simp] theorem State.setFin_mem (n : Nat) (f : FreqIn) : (s.setFin n f).mem = s.mem := (rfl)
@[simp] theorem State.setFin_hot (n : Nat) (f : FreqIn) : (s.setFin n f).hot = s.hot := (rfl)
@[simp] theorem State.setFin_poison (n : Nat) (f : FreqIn) : (s.setFin n f).poison = s.poison := (rfl)
@[simp] theorem State.setFin_pow (n : Nat) (f : FreqIn) : (s.setFin n f).pow = s.pow := (rfl)

/-! ### setFu -/

@[simp] theorem State.setFu_pending (u : Nat) (x : FUnit) : (s.setFu u x).pending = s.pending := (rfl)
@[simp] theorem State.setFu_cyc (u : Nat) (x : FUnit) : (s.setFu u x).cyc = s.cyc := (rfl)
@[simp] theorem State.setFu_free (u : Nat) (x : FUnit) : (s.setFu u x).free = s.free := (rfl)
@[simp] theorem State.setFu_out (u : Nat) (x : FUnit) : (s.setFu u x).out = s.out := (rfl)
@[simp] theorem State.setFu_regs (u : Nat) (x : FUnit) : (s.setFu u x).regs = s.regs := (rfl)
@[simp] theorem State.setFu_mem (u : Nat) (x : FUnit) : (s.setFu u x).mem = s.mem := (rfl)
@[simp] theorem State.setFu_hot (u : Nat) (x : FUnit) : (s.setFu u x).hot = s.hot := (rfl)
@[simp] theorem State.setFu_poison (u : Nat) (x : FUnit) : (s.setFu u x).poison = s.poison := (rfl)
@[simp] theorem State.setFu_pow (u : Nat) (x : FUnit) : (s.setFu u x).pow = s.pow := (rfl)

/-! ### setYld -/

@[simp] theorem State.setYld_pending (y : Yield) : (s.setYld y).pending = s.pending := (rfl)
@[simp] theorem State.setYld_cyc (y : Yield) : (s.setYld y).cyc = s.cyc := (rfl)
@[simp] theorem State.setYld_free (y : Yield) : (s.setYld y).free = s.free := (rfl)
@[simp] theorem State.setYld_out (y : Yield) : (s.setYld y).out = s.out := (rfl)
@[simp] theorem State.setYld_regs (y : Yield) : (s.setYld y).regs = s.regs := (rfl)
@[simp] theorem State.setYld_mem (y : Yield) : (s.setYld y).mem = s.mem := (rfl)
@[simp] theorem State.setYld_hot (y : Yield) : (s.setYld y).hot = s.hot := (rfl)
@[simp] theorem State.setYld_poison (y : Yield) : (s.setYld y).poison = s.poison := (rfl)
@[simp] theorem State.setYld_pow (y : Yield) : (s.setYld y).pow = s.pow := (rfl)

/-! ### setHsl -/

@[simp] theorem State.setHsl_hsl (h : Hsl) : (s.setHsl h).hsl = h := (rfl)
@[simp] theorem State.setHsl_pending (h : Hsl) : (s.setHsl h).pending = s.pending := (rfl)
@[simp] theorem State.setHsl_cyc (h : Hsl) : (s.setHsl h).cyc = s.cyc := (rfl)
@[simp] theorem State.setHsl_free (h : Hsl) : (s.setHsl h).free = s.free := (rfl)
@[simp] theorem State.setHsl_out (h : Hsl) : (s.setHsl h).out = s.out := (rfl)
@[simp] theorem State.setHsl_regs (h : Hsl) : (s.setHsl h).regs = s.regs := (rfl)
@[simp] theorem State.setHsl_mem (h : Hsl) : (s.setHsl h).mem = s.mem := (rfl)
@[simp] theorem State.setHsl_hot (h : Hsl) : (s.setHsl h).hot = s.hot := (rfl)
@[simp] theorem State.setHsl_poison (h : Hsl) : (s.setHsl h).poison = s.poison := (rfl)
@[simp] theorem State.setHsl_pow (h : Hsl) : (s.setHsl h).pow = s.pow := (rfl)

/-! ### setCam -/

@[simp] theorem State.setCam_pending (c : Nat) (x : Cam) : (s.setCam c x).pending = s.pending := (rfl)
@[simp] theorem State.setCam_cyc (c : Nat) (x : Cam) : (s.setCam c x).cyc = s.cyc := (rfl)
@[simp] theorem State.setCam_free (c : Nat) (x : Cam) : (s.setCam c x).free = s.free := (rfl)
@[simp] theorem State.setCam_out (c : Nat) (x : Cam) : (s.setCam c x).out = s.out := (rfl)
@[simp] theorem State.setCam_regs (c : Nat) (x : Cam) : (s.setCam c x).regs = s.regs := (rfl)
@[simp] theorem State.setCam_mem (c : Nat) (x : Cam) : (s.setCam c x).mem = s.mem := (rfl)
@[simp] theorem State.setCam_hot (c : Nat) (x : Cam) : (s.setCam c x).hot = s.hot := (rfl)
@[simp] theorem State.setCam_poison (c : Nat) (x : Cam) : (s.setCam c x).poison = s.poison := (rfl)
@[simp] theorem State.setCam_pow (c : Nat) (x : Cam) : (s.setCam c x).pow = s.pow := (rfl)

/-! ### setEnc -/

@[simp] theorem State.setEnc_pending (e : Nat) (x : Enc) : (s.setEnc e x).pending = s.pending := (rfl)
@[simp] theorem State.setEnc_cyc (e : Nat) (x : Enc) : (s.setEnc e x).cyc = s.cyc := (rfl)
@[simp] theorem State.setEnc_free (e : Nat) (x : Enc) : (s.setEnc e x).free = s.free := (rfl)
@[simp] theorem State.setEnc_out (e : Nat) (x : Enc) : (s.setEnc e x).out = s.out := (rfl)
@[simp] theorem State.setEnc_regs (e : Nat) (x : Enc) : (s.setEnc e x).regs = s.regs := (rfl)
@[simp] theorem State.setEnc_mem (e : Nat) (x : Enc) : (s.setEnc e x).mem = s.mem := (rfl)
@[simp] theorem State.setEnc_hot (e : Nat) (x : Enc) : (s.setEnc e x).hot = s.hot := (rfl)
@[simp] theorem State.setEnc_poison (e : Nat) (x : Enc) : (s.setEnc e x).poison = s.poison := (rfl)
@[simp] theorem State.setEnc_pow (e : Nat) (x : Enc) : (s.setEnc e x).pow = s.pow := (rfl)

/-! ### setAlink -/

@[simp] theorem State.setAlink_pending (n : Nat) (x : ALink) : (s.setAlink n x).pending = s.pending := (rfl)
@[simp] theorem State.setAlink_cyc (n : Nat) (x : ALink) : (s.setAlink n x).cyc = s.cyc := (rfl)
@[simp] theorem State.setAlink_free (n : Nat) (x : ALink) : (s.setAlink n x).free = s.free := (rfl)
@[simp] theorem State.setAlink_out (n : Nat) (x : ALink) : (s.setAlink n x).out = s.out := (rfl)
@[simp] theorem State.setAlink_regs (n : Nat) (x : ALink) : (s.setAlink n x).regs = s.regs := (rfl)
@[simp] theorem State.setAlink_mem (n : Nat) (x : ALink) : (s.setAlink n x).mem = s.mem := (rfl)
@[simp] theorem State.setAlink_hot (n : Nat) (x : ALink) : (s.setAlink n x).hot = s.hot := (rfl)
@[simp] theorem State.setAlink_poison (n : Nat) (x : ALink) : (s.setAlink n x).poison = s.poison := (rfl)
@[simp] theorem State.setAlink_pow (n : Nat) (x : ALink) : (s.setAlink n x).pow = s.pow := (rfl)

/-! ### setCan -/

@[simp] theorem State.setCan_pending (n : Nat) (c : CanCh) : (s.setCan n c).pending = s.pending := (rfl)
@[simp] theorem State.setCan_cyc (n : Nat) (c : CanCh) : (s.setCan n c).cyc = s.cyc := (rfl)
@[simp] theorem State.setCan_free (n : Nat) (c : CanCh) : (s.setCan n c).free = s.free := (rfl)
@[simp] theorem State.setCan_out (n : Nat) (c : CanCh) : (s.setCan n c).out = s.out := (rfl)
@[simp] theorem State.setCan_regs (n : Nat) (c : CanCh) : (s.setCan n c).regs = s.regs := (rfl)
@[simp] theorem State.setCan_mem (n : Nat) (c : CanCh) : (s.setCan n c).mem = s.mem := (rfl)
@[simp] theorem State.setCan_hot (n : Nat) (c : CanCh) : (s.setCan n c).hot = s.hot := (rfl)
@[simp] theorem State.setCan_poison (n : Nat) (c : CanCh) : (s.setCan n c).poison = s.poison := (rfl)
@[simp] theorem State.setCan_pow (n : Nat) (c : CanCh) : (s.setCan n c).pow = s.pow := (rfl)

/-! ### setGns -/

@[simp] theorem State.setGns_gns (g : Gns) : (s.setGns g).gns = g := (rfl)
@[simp] theorem State.setGns_pending (g : Gns) : (s.setGns g).pending = s.pending := (rfl)
@[simp] theorem State.setGns_cyc (g : Gns) : (s.setGns g).cyc = s.cyc := (rfl)
@[simp] theorem State.setGns_free (g : Gns) : (s.setGns g).free = s.free := (rfl)
@[simp] theorem State.setGns_out (g : Gns) : (s.setGns g).out = s.out := (rfl)
@[simp] theorem State.setGns_regs (g : Gns) : (s.setGns g).regs = s.regs := (rfl)
@[simp] theorem State.setGns_mem (g : Gns) : (s.setGns g).mem = s.mem := (rfl)
@[simp] theorem State.setGns_hot (g : Gns) : (s.setGns g).hot = s.hot := (rfl)
@[simp] theorem State.setGns_poison (g : Gns) : (s.setGns g).poison = s.poison := (rfl)
@[simp] theorem State.setGns_pow (g : Gns) : (s.setGns g).pow = s.pow := (rfl)

/-! ### setNport -/

@[simp] theorem State.setNport_pending (k : Nat) (p : NPort) : (s.setNport k p).pending = s.pending := (rfl)
@[simp] theorem State.setNport_cyc (k : Nat) (p : NPort) : (s.setNport k p).cyc = s.cyc := (rfl)
@[simp] theorem State.setNport_free (k : Nat) (p : NPort) : (s.setNport k p).free = s.free := (rfl)
@[simp] theorem State.setNport_out (k : Nat) (p : NPort) : (s.setNport k p).out = s.out := (rfl)
@[simp] theorem State.setNport_regs (k : Nat) (p : NPort) : (s.setNport k p).regs = s.regs := (rfl)
@[simp] theorem State.setNport_mem (k : Nat) (p : NPort) : (s.setNport k p).mem = s.mem := (rfl)
@[simp] theorem State.setNport_hot (k : Nat) (p : NPort) : (s.setNport k p).hot = s.hot := (rfl)
@[simp] theorem State.setNport_poison (k : Nat) (p : NPort) : (s.setNport k p).poison = s.poison := (rfl)
@[simp] theorem State.setNport_pow (k : Nat) (p : NPort) : (s.setNport k p).pow = s.pow := (rfl)

/-! ### setDch -/

@[simp] theorem State.setDch_pending (n : Nat) (x : DChan) : (s.setDch n x).pending = s.pending := (rfl)
@[simp] theorem State.setDch_cyc (n : Nat) (x : DChan) : (s.setDch n x).cyc = s.cyc := (rfl)
@[simp] theorem State.setDch_free (n : Nat) (x : DChan) : (s.setDch n x).free = s.free := (rfl)
@[simp] theorem State.setDch_out (n : Nat) (x : DChan) : (s.setDch n x).out = s.out := (rfl)
@[simp] theorem State.setDch_regs (n : Nat) (x : DChan) : (s.setDch n x).regs = s.regs := (rfl)
@[simp] theorem State.setDch_mem (n : Nat) (x : DChan) : (s.setDch n x).mem = s.mem := (rfl)
@[simp] theorem State.setDch_hot (n : Nat) (x : DChan) : (s.setDch n x).hot = s.hot := (rfl)
@[simp] theorem State.setDch_poison (n : Nat) (x : DChan) : (s.setDch n x).poison = s.poison := (rfl)
@[simp] theorem State.setDch_pow (n : Nat) (x : DChan) : (s.setDch n x).pow = s.pow := (rfl)

/-! ### setDpy -/

@[simp] theorem State.setDpy_dpy (d : Dpy) : (s.setDpy d).dpy = d := (rfl)
@[simp] theorem State.setDpy_pending (d : Dpy) : (s.setDpy d).pending = s.pending := (rfl)
@[simp] theorem State.setDpy_cyc (d : Dpy) : (s.setDpy d).cyc = s.cyc := (rfl)
@[simp] theorem State.setDpy_free (d : Dpy) : (s.setDpy d).free = s.free := (rfl)
@[simp] theorem State.setDpy_out (d : Dpy) : (s.setDpy d).out = s.out := (rfl)
@[simp] theorem State.setDpy_regs (d : Dpy) : (s.setDpy d).regs = s.regs := (rfl)
@[simp] theorem State.setDpy_mem (d : Dpy) : (s.setDpy d).mem = s.mem := (rfl)
@[simp] theorem State.setDpy_hot (d : Dpy) : (s.setDpy d).hot = s.hot := (rfl)
@[simp] theorem State.setDpy_poison (d : Dpy) : (s.setDpy d).poison = s.poison := (rfl)
@[simp] theorem State.setDpy_pow (d : Dpy) : (s.setDpy d).pow = s.pow := (rfl)

/-! ### setThm -/

@[simp] theorem State.setThm_thm (x : Thm) : (s.setThm x).thm = x := (rfl)
@[simp] theorem State.setThm_pending (x : Thm) : (s.setThm x).pending = s.pending := (rfl)
@[simp] theorem State.setThm_cyc (x : Thm) : (s.setThm x).cyc = s.cyc := (rfl)
@[simp] theorem State.setThm_free (x : Thm) : (s.setThm x).free = s.free := (rfl)
@[simp] theorem State.setThm_out (x : Thm) : (s.setThm x).out = s.out := (rfl)
@[simp] theorem State.setThm_regs (x : Thm) : (s.setThm x).regs = s.regs := (rfl)
@[simp] theorem State.setThm_mem (x : Thm) : (s.setThm x).mem = s.mem := (rfl)
@[simp] theorem State.setThm_hot (x : Thm) : (s.setThm x).hot = s.hot := (rfl)
@[simp] theorem State.setThm_poison (x : Thm) : (s.setThm x).poison = s.poison := (rfl)
@[simp] theorem State.setThm_pow (x : Thm) : (s.setThm x).pow = s.pow := (rfl)

/-! ### setK12 -/

@[simp] theorem State.setK12_k12 (x : K12) : (s.setK12 x).k12 = x := (rfl)
@[simp] theorem State.setK12_pending (x : K12) : (s.setK12 x).pending = s.pending := (rfl)
@[simp] theorem State.setK12_cyc (x : K12) : (s.setK12 x).cyc = s.cyc := (rfl)
@[simp] theorem State.setK12_free (x : K12) : (s.setK12 x).free = s.free := (rfl)
@[simp] theorem State.setK12_out (x : K12) : (s.setK12 x).out = s.out := (rfl)
@[simp] theorem State.setK12_regs (x : K12) : (s.setK12 x).regs = s.regs := (rfl)
@[simp] theorem State.setK12_mem (x : K12) : (s.setK12 x).mem = s.mem := (rfl)
@[simp] theorem State.setK12_hot (x : K12) : (s.setK12 x).hot = s.hot := (rfl)
@[simp] theorem State.setK12_poison (x : K12) : (s.setK12 x).poison = s.poison := (rfl)
@[simp] theorem State.setK12_pow (x : K12) : (s.setK12 x).pow = s.pow := (rfl)

/-! ### setUpd -/

@[simp] theorem State.setUpd_upd (x : Upd) : (s.setUpd x).upd = x := (rfl)
@[simp] theorem State.setUpd_pending (x : Upd) : (s.setUpd x).pending = s.pending := (rfl)
@[simp] theorem State.setUpd_cyc (x : Upd) : (s.setUpd x).cyc = s.cyc := (rfl)
@[simp] theorem State.setUpd_free (x : Upd) : (s.setUpd x).free = s.free := (rfl)
@[simp] theorem State.setUpd_out (x : Upd) : (s.setUpd x).out = s.out := (rfl)
@[simp] theorem State.setUpd_regs (x : Upd) : (s.setUpd x).regs = s.regs := (rfl)
@[simp] theorem State.setUpd_mem (x : Upd) : (s.setUpd x).mem = s.mem := (rfl)
@[simp] theorem State.setUpd_hot (x : Upd) : (s.setUpd x).hot = s.hot := (rfl)
@[simp] theorem State.setUpd_poison (x : Upd) : (s.setUpd x).poison = s.poison := (rfl)
@[simp] theorem State.setUpd_pow (x : Upd) : (s.setUpd x).pow = s.pow := (rfl)

end Sys2Proof.Machine
end

