-- ==== Sys2Proof/Laws/Ops.lean ====
section
/-! SUPPORT. Laws of the named operations over time, registers, fields and module memory. -/

namespace Sys2Proof.Machine

/-! ### Fields -/

theorem Fld.get_lt (f : Fld) (w : Word) : f.get w < 2 ^ f.wd := Nat.mod_lt _ (Nat.two_pow_pos _)

/-- The number `Fld.put` makes a word from lies below 2^32 for a field of a word. -/
theorem Fld.put_bound (f : Fld) (w : Word) (v : Nat) (h : f.lo + f.wd ≤ 32) :
    w.toNat / 2 ^ (f.lo + f.wd) * 2 ^ (f.lo + f.wd) + v % 2 ^ f.wd * 2 ^ f.lo + w.toNat % 2 ^ f.lo < 2 ^ 32 := by
  obtain ⟨k, hk⟩ := Nat.exists_eq_add_of_le h
  have e : (2 : Nat) ^ 32 = 2 ^ (f.lo + f.wd) * 2 ^ k := by rw [← Nat.pow_add, ← hk]
  have a : w.toNat / 2 ^ (f.lo + f.wd) < 2 ^ k := by
    apply Nat.div_lt_of_lt_mul; rw [← e]; exact w.isLt
  have b : v % 2 ^ f.wd < 2 ^ f.wd := Nat.mod_lt _ (Nat.two_pow_pos _)
  have c : w.toNat % 2 ^ f.lo < 2 ^ f.lo := Nat.mod_lt _ (Nat.two_pow_pos _)
  have d : v % 2 ^ f.wd * 2 ^ f.lo + w.toNat % 2 ^ f.lo < 2 ^ (f.lo + f.wd) := by
    have : (v % 2 ^ f.wd + 1) * 2 ^ f.lo ≤ 2 ^ f.wd * 2 ^ f.lo := Nat.mul_le_mul_right _ b
    rw [Nat.pow_add, Nat.mul_comm (2 ^ f.lo)]
    rw [Nat.add_mul] at this; omega
  have g : (w.toNat / 2 ^ (f.lo + f.wd) + 1) * 2 ^ (f.lo + f.wd) ≤ 2 ^ k * 2 ^ (f.lo + f.wd) :=
    Nat.mul_le_mul_right _ a
  rw [e, Nat.mul_comm (2 ^ (f.lo + f.wd)) (2 ^ k)]
  rw [Nat.add_mul] at g; omega

theorem Fld.put_toNat (f : Fld) (w : Word) (v : Nat) (h : f.lo + f.wd ≤ 32) :
    (f.put w v).toNat
      = w.toNat / 2 ^ (f.lo + f.wd) * 2 ^ (f.lo + f.wd) + v % 2 ^ f.wd * 2 ^ f.lo + w.toNat % 2 ^ f.lo := by
  simp only [Fld.put, word, BitVec.toNat_ofNat]
  exact Nat.mod_eq_of_lt (Fld.put_bound f w v h)

/-- A field reads what was put into it, modulo its width. -/
theorem Fld.get_put (f : Fld) (w : Word) (v : Nat) (h : f.lo + f.wd ≤ 32) : f.get (f.put w v) = v % 2 ^ f.wd := by
  have c : w.toNat % 2 ^ f.lo < 2 ^ f.lo := Nat.mod_lt _ (Nat.two_pow_pos _)
  rw [Fld.get, Fld.put_toNat f w v h, Nat.pow_add]
  rw [show w.toNat / (2 ^ f.lo * 2 ^ f.wd) * (2 ^ f.lo * 2 ^ f.wd) + v % 2 ^ f.wd * 2 ^ f.lo + w.toNat % 2 ^ f.lo
      = w.toNat % 2 ^ f.lo + 2 ^ f.lo * (v % 2 ^ f.wd + 2 ^ f.wd * (w.toNat / (2 ^ f.lo * 2 ^ f.wd))) by ring]
  rw [Nat.add_mul_div_left _ _ (Nat.two_pow_pos _), Nat.div_eq_of_lt c, Nat.zero_add, Nat.add_mul_mod_self_left,
    Nat.mod_mod]

/-- A field above the one written reads as before. -/
theorem Fld.get_put_above (f g : Fld) (w : Word) (v : Nat) (h : f.lo + f.wd ≤ g.lo) (k : f.lo + f.wd ≤ 32) :
    g.get (f.put w v) = g.get w := by
  obtain ⟨m, hm⟩ := Nat.exists_eq_add_of_le h
  have c : w.toNat % 2 ^ f.lo < 2 ^ f.lo := Nat.mod_lt _ (Nat.two_pow_pos _)
  have b : v % 2 ^ f.wd < 2 ^ f.wd := Nat.mod_lt _ (Nat.two_pow_pos _)
  have d : v % 2 ^ f.wd * 2 ^ f.lo + w.toNat % 2 ^ f.lo < 2 ^ (f.lo + f.wd) := by
    have : (v % 2 ^ f.wd + 1) * 2 ^ f.lo ≤ 2 ^ f.wd * 2 ^ f.lo := Nat.mul_le_mul_right _ b
    rw [Nat.pow_add, Nat.mul_comm (2 ^ f.lo)]
    rw [Nat.add_mul] at this; omega
  rw [Fld.get, Fld.get, Fld.put_toNat f w v k, hm, Nat.pow_add 2 (f.lo + f.wd) m, ← Nat.div_div_eq_div_mul,
    ← Nat.div_div_eq_div_mul]
  congr 2
  rw [Nat.add_assoc, Nat.add_comm (_ * _) (_ + _), Nat.add_mul_div_right _ _ (Nat.two_pow_pos _),
    Nat.div_eq_of_lt d, Nat.zero_add]

/-- A field below the one written reads as before. -/
theorem Fld.get_put_below (f g : Fld) (w : Word) (v : Nat) (h : g.lo + g.wd ≤ f.lo) (k : f.lo + f.wd ≤ 32) :
    g.get (f.put w v) = g.get w := by
  obtain ⟨m, hm⟩ := Nat.exists_eq_add_of_le h
  have low : (f.put w v).toNat % 2 ^ f.lo = w.toNat % 2 ^ f.lo := by
    rw [Fld.put_toNat f w v k, Nat.pow_add]
    rw [show w.toNat / (2 ^ f.lo * 2 ^ f.wd) * (2 ^ f.lo * 2 ^ f.wd) + v % 2 ^ f.wd * 2 ^ f.lo + w.toNat % 2 ^ f.lo
        = w.toNat % 2 ^ f.lo + 2 ^ f.lo * (v % 2 ^ f.wd + 2 ^ f.wd * (w.toNat / (2 ^ f.lo * 2 ^ f.wd))) by ring]
    rw [Nat.add_mul_mod_self_left, Nat.mod_mod]
  have part : ∀ x : Nat, x / 2 ^ g.lo % 2 ^ g.wd = x % 2 ^ f.lo / 2 ^ g.lo % 2 ^ g.wd := by
    intro x
    rw [hm, Nat.pow_add 2 (g.lo + g.wd) m, Nat.pow_add, Nat.mul_assoc, Nat.mod_mul_right_div_self,
      Nat.mod_mul_right_mod]
  rw [Fld.get, Fld.get, part, low, ← part]

/-! ### Registers -/

@[simp] theorem State.reg_at (s : State) (t off : Nat) : (s.at t).reg off = s.reg off := rfl
@[simp] theorem State.rd_at (s : State) (t off : Nat) (f : Fld) : (s.at t).rd off f = s.rd off f := rfl
@[simp] theorem State.bit_at (s : State) (t off : Nat) (f : Fld) : (s.at t).bit off f = s.bit off f := rfl

/-- A register reads what was last written to it; every other register reads as before. -/
theorem State.reg_setReg (s : State) (off b : Nat) (w : Word) :
    (s.setReg off w).reg b = if b = off then w else s.reg b := cellGet_set _ _ _ _ _

@[simp] theorem State.reg_setReg_same (s : State) (off : Nat) (w : Word) : (s.setReg off w).reg off = w := by
  simp [State.reg_setReg]

theorem State.reg_setReg_other (s : State) (off b : Nat) (w : Word) (h : b ≠ off) :
    (s.setReg off w).reg b = s.reg b := by simp [State.reg_setReg, h]

theorem State.reg_wr (s : State) (off b : Nat) (f : Fld) (v : Nat) :
    (s.wr off f v).reg b = if b = off then f.put (s.reg off) v else s.reg b := State.reg_setReg _ _ _ _

theorem State.reg_wr_other (s : State) (off b : Nat) (f : Fld) (v : Nat) (h : b ≠ off) :
    (s.wr off f v).reg b = s.reg b := by simp [State.reg_wr, h]

theorem State.reg_orBits_other (s : State) (off b : Nat) (f : Fld) (v : Nat) (h : b ≠ off) :
    (s.orBits off f v).reg b = s.reg b := State.reg_setReg_other s off b _ h

theorem State.rd_wr_same (s : State) (off : Nat) (f : Fld) (v : Nat) (h : f.lo + f.wd ≤ 32) :
    (s.wr off f v).rd off f = v % 2 ^ f.wd := by simp [State.rd, State.reg_wr, Fld.get_put f _ v h]

theorem State.rd_wr_other (s : State) (off b : Nat) (f g : Fld) (v : Nat) (h : b ≠ off) :
    (s.wr off f v).rd b g = s.rd b g := by simp [State.rd, State.reg_wr, h]

/-- Another field of the register written reads as before. -/
theorem State.rd_wr_field (s : State) (off : Nat) (f g : Fld) (v : Nat) (k : f.lo + f.wd ≤ 32)
    (h : g.lo + g.wd ≤ f.lo ∨ f.lo + f.wd ≤ g.lo) : (s.wr off f v).rd off g = s.rd off g := by
  rcases h with h | h
  · simp [State.rd, State.reg_wr, Fld.get_put_below f g _ v h k]
  · simp [State.rd, State.reg_wr, Fld.get_put_above f g _ v h k]

/-- A saturating counter never counts down, and holds its largest value at most. -/
theorem State.rd_bumpBy (s : State) (off : Nat) (f : Fld) (n : Nat) (h : f.lo + f.wd ≤ 32) :
    (s.bumpBy off f n).rd off f = min f.top (s.rd off f + n) := by
  have hp : 0 < 2 ^ f.wd := Nat.two_pow_pos _
  rw [State.bumpBy, State.rd_wr_same _ _ _ _ h, Nat.mod_eq_of_lt]
  simp only [Fld.top]; omega

theorem State.rd_bump (s : State) (off : Nat) (f : Fld) (h : f.lo + f.wd ≤ 32) :
    (s.bump off f).rd off f = min f.top (s.rd off f + 1) := State.rd_bumpBy s off f 1 h

/-! ### Module memory -/

/-- A byte reads what was last stored there; every other byte reads as before. -/
theorem State.memRd_memWr (s : State) (a c : Nat) (b : Byte) :
    (s.memWr a b).memRd c = if c = a then b else s.memRd c := cellGet_set _ _ _ _ _

/-- A store of bytes leaves every byte outside them. -/
theorem State.memRd_memStore_outside (s : State) (a c : Nat) (bs : List Byte) (h : c < a ∨ a + bs.length ≤ c) :
    (s.memStore a bs).memRd c = s.memRd c := by
  induction bs generalizing s a with
  | nil => rfl
  | cons b t ih =>
    simp only [List.length_cons] at h
    rw [State.memStore, ih _ _ (by omega), State.memRd_memWr, if_neg (by omega)]

/-- Each byte stored reads back. -/
theorem State.memRd_memStore_inside (s : State) (a i : Nat) (bs : List Byte) (h : i < bs.length) :
    (s.memStore a bs).memRd (a + i) = bs[i] := by
  induction bs generalizing s a i with
  | nil => simp at h
  | cons b t ih =>
    cases i with
    | zero => simp [State.memStore, State.memRd_memStore_outside, State.memRd_memWr]
    | succ n =>
      simp only [List.length_cons, Nat.succ_lt_succ_iff] at h
      rw [State.memStore, show a + (n + 1) = a + 1 + n by omega, ih _ _ _ h]
      rfl

theorem State.memWr_wf (s : State) (a : Nat) (b : Byte) (h : cellWf memReset s.mem = true) :
    cellWf memReset (s.memWr a b).mem = true := cellSet_wf _ _ _ _ h

theorem State.memStore_wf (s : State) (a : Nat) (bs : List Byte) (h : cellWf memReset s.mem = true) :
    cellWf memReset (s.memStore a bs).mem = true := by
  induction bs generalizing s a with
  | nil => exact h
  | cons b t ih => exact ih _ _ (State.memWr_wf s a b h)

theorem State.setReg_wf (s : State) (off : Nat) (w : Word) (h : cellWf regReset s.regs = true) :
    cellWf regReset (s.setReg off w).regs = true := cellSet_wf _ _ _ _ h

/-! ### Settings -/

/-- Settings that load leave the state they load. -/
theorem State.loadStage_eq {s : State} {k : Nat} (h : s.loads k = true) : s.loadStage k = .next (s.loadedAt k) := by
  unfold State.loads State.loadedAt at *
  split <;> simp_all

end Sys2Proof.Machine
end

