-- ==== Sys2Proof/Laws/Quiet.lean ====
section
/-! SUPPORT. What recording does not touch: fault records, notes, recorder entries and the descriptors of rings leave
every engine, and every register but their own counters, as they were. -/

namespace Sys2Proof.Machine

/-- The registers that recording and the ring layer write: the counters of the rings, of the faults and of the
recorder. -/
abbrev LogReg (off : Nat) : Prop :=
  (RNG_CNT 0 ≤ off ∧ off % 0x40 = 0x2C) ∨ off = FLT_CNT0 ∨ off = FLT_CNT1 ∨ off = FLT_LAST ∨ off = REC_CNT

theorem logReg_cnt (r : Nat) : LogReg (RNG_CNT r) := by
  left; unfold RNG_CNT; omega

/-- `t` has every engine of `s`, and every register that recording does not write. -/
structure Quiet (s t : State) : Prop where
  cyc : t.cyc = s.cyc
  mtOff : t.mtOff = s.mtOff
  pow : t.pow = s.pow
  nym : t.nym = s.nym
  valves : t.valves = s.valves
  switches : t.switches = s.switches
  lamps : t.lamps = s.lamps
  handed : t.handed = s.handed
  stepAt : t.stepAt = s.stepAt
  mtWas : t.mtWas = s.mtWas
  thm : t.thm = s.thm
  can : t.can = s.can
  gns : t.gns = s.gns
  kept : t.kept = s.kept
  tst : t.tst = s.tst
  cle : t.cle = s.cle
  tri : t.tri = s.tri
  sns : t.sns = s.sns
  fus : t.fus = s.fus
  hsl : t.hsl = s.hsl
  vis : t.vis = s.vis
  net : t.net = s.net
  dma : t.dma = s.dma
  dmaLine : t.dmaLine = s.dmaLine
  dpy : t.dpy = s.dpy
  upd : t.upd = s.upd
  regs : ∀ off, ¬ LogReg off → t.reg off = s.reg off

namespace Quiet

@[simp] theorem refl (s : State) : Quiet s s := by constructor <;> intros <;> rfl

theorem trans {s t u : State} (h : Quiet s t) (k : Quiet t u) : Quiet s u where
  cyc := k.cyc.trans h.cyc
  mtOff := k.mtOff.trans h.mtOff
  pow := k.pow.trans h.pow
  nym := k.nym.trans h.nym
  valves := k.valves.trans h.valves
  switches := k.switches.trans h.switches
  lamps := k.lamps.trans h.lamps
  handed := k.handed.trans h.handed
  stepAt := k.stepAt.trans h.stepAt
  mtWas := k.mtWas.trans h.mtWas
  thm := k.thm.trans h.thm
  can := k.can.trans h.can
  gns := k.gns.trans h.gns
  kept := k.kept.trans h.kept
  tst := k.tst.trans h.tst
  cle := k.cle.trans h.cle
  tri := k.tri.trans h.tri
  sns := k.sns.trans h.sns
  fus := k.fus.trans h.fus
  hsl := k.hsl.trans h.hsl
  vis := k.vis.trans h.vis
  net := k.net.trans h.net
  dma := k.dma.trans h.dma
  dmaLine := k.dmaLine.trans h.dmaLine
  dpy := k.dpy.trans h.dpy
  upd := k.upd.trans h.upd
  regs := fun o ho => (k.regs o ho).trans (h.regs o ho)

theorem rd {s t : State} (h : Quiet s t) (off : Nat) (f : Fld) (ho : ¬ LogReg off) : t.rd off f = s.rd off f := by
  rw [State.rd, State.rd, h.regs off ho]

/-- An update of the logs alone. -/
theorem mk' (s : State) (free' : Nat) (out' : List Emission) (rng' : Rings) (flt' : Flt) (recr' : Recorder) (k12' : K12)
    (pending' : List Instr) (mem' : List Host.Cell) (poison' : List Nat) (hot' : Nat × Cells Word) :
    Quiet s { s with free := free', out := out', rng := rng', flt := flt', recr := recr', k12 := k12', pending := pending',
                     mem := mem', poison := poison', hot := hot' } := by
  constructor <;> intros <;> rfl

theorem ite {s a b : State} {c : Prop} [Decidable c] (h : Quiet s a) (k : Quiet s b) : Quiet s (if c then a else b) := by
  split <;> assumption

theorem foldl {α : Type} (s : State) (l : List α) (f : State → α → State) (hf : ∀ s a, Quiet s (f s a)) :
    Quiet s (l.foldl f s) := by
  induction l generalizing s with
  | nil => exact refl s
  | cons a t ih => exact (hf s a).trans (ih _)

end Quiet

theorem State.wr_quiet (s : State) (off : Nat) (f : Fld) (v : Nat) (h : LogReg off) : Quiet s (s.wr off f v) := by
  constructor
  case regs => exact fun o ho => State.reg_wr_other _ _ _ _ _ (by rintro rfl; exact ho h)
  all_goals rfl

theorem State.bump_quiet (s : State) (off : Nat) (f : Fld) (h : LogReg off) : Quiet s (s.bump off f) :=
  State.wr_quiet _ _ _ _ h

/-! ### Rings -/

theorem State.setRing_quiet (s : State) (r : Nat) (x : Ring) : Quiet s (s.setRing r x) := Quiet.mk' ..

theorem State.setDesc_quiet (s : State) (r slot : Nat) (st : DescSt) : Quiet s (s.setDesc r slot st) :=
  State.setRing_quiet ..

theorem State.startOp_quiet (s : State) (r slot : Nat) : Quiet s (s.startOp r slot) := State.setDesc_quiet ..

theorem State.endOp_quiet (s : State) (r slot status len result : Nat) : Quiet s (s.endOp r slot status len result) := by
  unfold State.endOp
  have h := State.setDesc_quiet s r slot (.ended status len (result % 2 ^ 32))
  exact Quiet.ite (h.trans (State.bump_quiet _ _ _ (logReg_cnt r))) h

theorem State.endRunning_quiet (s : State) (k : Nat × Nat) (honours : Bool) (status len result : Nat) :
    Quiet s (s.endRunning k honours status len result) := by
  unfold State.endRunning
  split
  · exact Quiet.refl s
  · exact State.endOp_quiet ..

theorem State.settle_quiet (s : State) (r n : Nat) : Quiet s (s.settle r n) := by
  induction n generalizing s with
  | zero => exact Quiet.refl s
  | succ n ih =>
    unfold State.settle
    split
    · exact Quiet.refl s
    · split
      · exact Quiet.refl s
      · exact (State.endOp_quiet ..).trans (ih _)

/-- Answering the descriptors at the front of a ring changes no engine. -/
theorem State.settleRing_quiet (s : State) (r : Nat) : Quiet s (s.settleRing r) := State.settle_quiet ..

theorem State.memStore_quiet (s : State) (a : Nat) (bs : List Byte) : Quiet s (s.memStore a bs) := by
  induction bs generalizing s a with
  | nil => exact Quiet.refl s
  | cons b t ih => exact (Quiet.mk' (s := s) ..).trans (ih _ _)

theorem State.bufOut_quiet (s : State) (r : Nat) (d : RDesc) (off : Nat) (ws : List Word) :
    Quiet s (s.bufOut r d off ws) := by
  unfold State.bufOut
  exact Quiet.ite (State.memStore_quiet ..) (Quiet.ite (Quiet.refl s) (Quiet.mk' ..))

theorem State.bufOutBytes_quiet (s : State) (r : Nat) (d : RDesc) (off : Nat) (bs : List Byte) :
    Quiet s (s.bufOutBytes r d off bs) := by
  unfold State.bufOutBytes
  exact Quiet.ite (State.memStore_quiet ..) (Quiet.ite (Quiet.refl s) (Quiet.mk' ..))

theorem State.setStaged_quiet (s : State) (key : Nat) (l : List (List Word)) : Quiet s (s.setStaged key l) := Quiet.mk' ..

theorem State.pumpOne_quiet (s t : State) (key : Nat) (h : s.pumpOne key = some t) : Quiet s t := by
  unfold State.pumpOne at h
  dsimp only at h
  split at h
  · split at h
    · split at h
      · repeat' split at h
        all_goals
          injection h with h; subst h
          first
          | exact State.endOp_quiet ..
          | exact ((State.bufOut_quiet ..).trans (State.setStaged_quiet ..)).trans (State.endOp_quiet ..)
          | exact ((State.bufOut_quiet ..).trans (State.setStaged_quiet ..)).trans (State.setDesc_quiet ..)
      · cases h
    · cases h
  · cases h

theorem State.pump_quiet (s : State) (key n : Nat) : Quiet s (s.pump key n) := by
  induction n generalizing s with
  | zero => exact Quiet.refl s
  | succ n ih =>
    unfold State.pump
    split
    · exact Quiet.refl s
    · rename_i s1 e
      exact (State.pumpOne_quiet s s1 key e).trans (ih _)

theorem State.pumpAll_quiet (s : State) (key : Nat) : Quiet s (s.pumpAll key) := State.pump_quiet ..

theorem State.deliver_quiet (s : State) (key : Nat) (x : List Word) : Quiet s (s.deliver key x).1 := by
  have h := (State.setStaged_quiet s key (s.staged key ++ [x])).trans (State.pumpAll_quiet _ key)
  simp only [State.deliver]
  generalize (s.setStaged key (s.staged key ++ [x])).pumpAll key = y at h ⊢
  split
  · exact h.trans (State.setStaged_quiet ..)
  · exact h

/-! ### The recorder and fault records -/

theorem State.addRaw_quiet (s : State) (time ty : Nat) (ws : List Word) : Quiet s (s.addRaw time ty ws).1 := by
  unfold State.addRaw
  dsimp only
  split
  · exact (Quiet.mk' (s := s) ..).trans (State.bump_quiet _ _ _ (by simp [LogReg]))
  · exact Quiet.mk' ..

theorem State.addEntry_quiet (s : State) (time ty : Nat) (ws : List Word) : Quiet s (s.addEntry time ty ws).1 := by
  unfold State.addEntry
  split
  · exact ((State.addRaw_quiet s ..).trans (Quiet.mk' ..)).trans (State.addRaw_quiet ..)
  · exact State.addRaw_quiet ..

theorem State.snap_quiet (s : State) (i seq : Nat) : Quiet s (s.snap i seq).1 := by
  simp only [State.snap]
  generalize (if s.recr.snapCyc = s.cyc then s.recr.snapN else 0) = n
  split
  · exact State.bump_quiet s REC_CNT _ (by simp [LogReg])
  · exact (Quiet.mk' (s := s) ..).trans (State.addEntry_quiet ..)

theorem State.fltRecord_quiet (s : State) (e : FltEv) : Quiet s (s.fltRecord e).1 := by
  simp only [State.fltRecord]
  generalize fltWords _ _ = ws
  have h := (State.addEntry_quiet s e.time 1 ws).trans
    (State.deliver_quiet (s.addEntry e.time 1 ws).1 0x100 (entryHead e.time 1 4 (s.addEntry e.time 1 ws).2 ++ ws))
  generalize (s.addEntry e.time 1 ws).1.deliver 0x100 (entryHead e.time 1 4 (s.addEntry e.time 1 ws).2 ++ ws) = y at h ⊢
  split
  · exact h.trans (State.bump_quiet y.1 FLT_CNT1 _ (by simp [LogReg]))
  · split
    · exact h.trans (Quiet.mk' ..)
    · exact h

theorem State.fltTell_quiet (s : State) (cls code : Nat) : Quiet s (s.fltTell cls code) := by
  unfold State.fltTell
  have k : Quiet s (s.wr FLT_LAST FLT_LAST_last code) := State.wr_quiet _ _ _ _ (by simp [LogReg])
  exact Quiet.ite (k.trans (State.wr_quiet _ _ _ _ (by simp [LogReg]))) k

theorem State.fltCount_quiet (s : State) (cls code : Nat) : Quiet s (s.fltCount cls code) := by
  unfold State.fltCount
  refine Quiet.trans ?_ (State.fltTell_quiet ..)
  refine Quiet.ite ?_ (Quiet.ite ?_ (Quiet.ite ?_ ?_)) <;> exact State.bump_quiet _ _ _ (by simp [LogReg])

theorem State.snapAll_quiet (s : State) (code cls seq : Nat) : Quiet s (s.snapAll code cls seq).1 := by
  unfold State.snapAll
  generalize List.filter _ _ = l
  have h : ∀ (l : List Nat) (a : State × Nat), Quiet a.1 (l.foldl (fun a i => ((a.1.snap i seq).1,
      if (a.1.snap i seq).2 then a.2 else a.2 + 1)) a).1 := by
    intro l
    induction l with
    | nil => exact fun a => Quiet.refl a.1
    | cons i t ih => exact fun a => (State.snap_quiet a.1 i seq).trans (ih ((a.1.snap i seq).1, _))
  exact h l (s, 0)

theorem State.fltFlush_quiet (s : State) (cls : Nat) : Quiet s (s.fltFlush cls) := by
  unfold State.fltFlush
  exact Quiet.ite (Quiet.mk' ..) (Quiet.refl s)

theorem State.fltRaiseRec_quiet (s : State) (e : FltEv) : Quiet s (s.fltRaiseRec e).1 := by
  unfold State.fltRaiseRec
  dsimp only
  have a : Quiet s (if e.fenced = true then (s.fltRecord e).1.fltTell e.cls e.code else (s.fltRecord e).1.fltCount e.cls e.code) :=
    Quiet.ite ((State.fltRecord_quiet s e).trans (State.fltTell_quiet ..)) ((State.fltRecord_quiet s e).trans (State.fltCount_quiet ..))
  refine Quiet.trans ?_ (State.fltFlush_quiet ..)
  exact Quiet.ite (a.trans (Quiet.mk' ..)) a

theorem State.snapNotes_quiet (s : State) (n : Nat) : Quiet s (s.snapNotes n) := by
  induction n generalizing s with
  | zero => exact Quiet.refl s
  | succ n ih =>
    unfold State.snapNotes
    exact ((((State.fltRecord_quiet s _).trans (State.fltCount_quiet ..)).trans (State.fltFlush_quiet ..))).trans (ih _)

theorem State.fltSnap_quiet (s : State) (e : FltEv) (q : Nat) : Quiet s (s.fltSnap e q) := by
  unfold State.fltSnap
  exact (State.snapAll_quiet s ..).trans (State.snapNotes_quiet ..)

theorem State.fltApply_quiet (s : State) (e : FltEv) : Quiet s (s.fltApply e) := by
  unfold State.fltApply
  refine Quiet.ite ((State.fltRaiseRec_quiet s e).trans (State.fltSnap_quiet ..)) (Quiet.ite ?_ (State.fltRecord_quiet s e))
  exact (Quiet.mk' (s := s) ..).trans (State.fltRecord_quiet ..)

theorem State.fltHold_quiet (s : State) (e : FltEv) : Quiet s (s.fltHold e) := by
  unfold State.fltHold
  exact Quiet.ite (Quiet.mk' ..) (Quiet.ite (Quiet.mk' ..) (Quiet.mk' ..))

theorem State.k12Set_quiet (s : State) (a v : Nat) : Quiet s (s.k12Set a v) := Quiet.mk' ..

theorem State.k12Flag_quiet (s : State) (m : Nat) : Quiet s (s.k12Flag m) := Quiet.mk' ..

theorem State.k12Fault_quiet (s : State) (code : Nat) : Quiet s (s.k12Fault code) := by
  unfold State.k12Fault
  exact Quiet.ite (Quiet.refl s) (((State.k12Set_quiet ..).trans (State.k12Flag_quiet ..)).trans (Quiet.mk' ..))

/-- A fault record changes no engine. -/
theorem State.fltPut_quiet (s : State) (code cls detail kind : Nat) (fenced : Bool) :
    Quiet s (s.fltPut code cls detail kind fenced) := by
  unfold State.fltPut
  dsimp only
  have a := Quiet.ite (c := s.passed 10 = true)
    (State.fltApply_quiet s ⟨s.mtime, s.cyc, code, cls, detail, kind, fenced⟩)
    (State.fltHold_quiet s ⟨s.mtime, s.cyc, code, cls, detail, kind, fenced⟩)
  exact Quiet.ite (a.trans (State.k12Fault_quiet ..)) a

theorem State.note_quiet (s : State) (code detail : Nat) : Quiet s (s.note code detail) := State.fltPut_quiet ..

theorem State.raise2_quiet (s : State) (code detail : Nat) : Quiet s (s.raise2 code detail) := State.fltPut_quiet ..

theorem State.noteSlow_quiet (s : State) (code detail : Nat) : Quiet s (s.noteSlow code detail) := by
  unfold State.noteSlow
  split
  · split
    · exact Quiet.refl s
    · exact (Quiet.mk' (s := s) ..).trans (State.note_quiet ..)
  · exact (Quiet.mk' (s := s) ..).trans (State.note_quiet ..)

theorem State.clear2_quiet (s : State) (code : Nat) : Quiet s (s.clear2 code) :=
  Quiet.foldl s _ _ fun s _ => State.fltPut_quiet s ..

theorem State.ignored_quiet (s : State) (off : Nat) : Quiet s (s.ignored off) := by
  unfold State.ignored
  exact Quiet.ite (State.note_quiet ..) (Quiet.refl s)

end Sys2Proof.Machine
end

