-- ==== Sys2Proof/Laws/Rings.lean ====
section
/-! SUPPORT. What the ring layer makes of an operation: it answers what the operation answers, with the descriptors that
follow it settled. -/

namespace Sys2Proof.Machine

/-- An operation that goes on answers its state, with the ring's next descriptors settled. -/
theorem State.ringOp_next {s u : State} {r tgt func op : Nat} {d : RDesc} {k : State → RDesc → Out}
    (h : s.opFor r tgt func op = some d) (hk : k s d = .next u) :
    s.ringOp r tgt func op k = .next (u.settleRing r) := by
  simp [State.ringOp, h, hk]

/-- A buffer of a receive function that is long enough is taken, and what waits is delivered (R96). -/
theorem State.fill_next {s : State} {r func tgt least : Nat} {d : RDesc} (h : s.opFor r tgt func 0x01 = some d)
    (hb : s.bufBad r d = false) (h0 : 0 < d.len) (hl : least ≤ d.len) :
    s.fill r func tgt least = .next (((s.startOp r d.slot).pumpAll (tgt * 16 + func)).settleRing r) := by
  have h0 : d.len ≠ 0 := by omega
  have hl : ¬ (d.len < least) := by omega
  simp [State.fill, State.ringOp, h, hb, h0, hl]

@[simp] theorem State.canTake_at (s : State) (t r n : Nat) (d : RDesc) : (s.at t).canTake r d n = s.canTake r d n := (rfl)

/-- A buffer that can be taken is. -/
@[simp] theorem State.takesBuf_eq {s : State} {r n : Nat} {d : RDesc} {k : Out} (h : s.canTake r d n = true) :
    s.takesBuf r d n k = k := by
  cases e : s.ringEth r <;> simp_all [State.canTake, State.takesBuf]

/-- A buffer that lies where its ring's carriage reaches is written. -/
@[simp] theorem State.givesBuf_eq {s : State} {r : Nat} {d : RDesc} {k : Out} (h : s.bufBad r d = false) :
    s.givesBuf r d k = k := by
  simp [State.givesBuf, h]

/-- An operation whose descriptor is not the next one does not start. -/
theorem State.ringOp_none {s : State} {r tgt func op : Nat} {k : State → RDesc → Out}
    (h : s.opFor r tgt func op = none) : s.ringOp r tgt func op k = .next s := by
  simp [State.ringOp, h]

/-- What a descriptor that may start is: the first of a running ring that has not started. -/
theorem State.opFor_op {s : State} {r tgt func op : Nat} {d : RDesc} (h : s.opFor r tgt func op = some d) :
    s.nextOp r = some d ∧ d.op = op ∧ s.ringTgt r = tgt ∧ s.ringFunc r = func ∧ s.ringLayer r d = none := by
  unfold State.opFor at h
  split at h
  · cases h
  · rename_i x e
    split at h
    · rename_i c
      injection h with h
      subst h
      exact ⟨e, c.1, c.2.1, c.2.2.1, by simpa using c.2.2.2⟩
    · cases h

/-- No operation starts unless its ring runs (R101). -/
theorem State.opFor_running {s : State} {r tgt func op : Nat} {d : RDesc} (h : s.opFor r tgt func op = some d) :
    s.ringState r = rsRunning := by
  have h := (State.opFor_op h).1
  unfold State.nextOp at h
  split at h
  · cases h
  · rename_i c
    exact Decidable.not_not.1 c

/-- A frame the module accepts, with a payload its kind allows, is carried out. -/
theorem State.ringFrame_takes {s : State} {src : FrameSource} {kind n : Nat} {ok : Bool} {k : Out}
    (h : s.takesFrame src kind n = true) (hk : ok = true) : s.ringFrame src kind n ok k = k := by
  simp only [State.takesFrame, Bool.and_eq_true, beq_iff_eq, decide_eq_true_eq] at h
  obtain ⟨⟨⟨⟨a, b⟩, c⟩, d⟩, e⟩ := h
  simp [State.ringFrame, a, b, c, d, hk, Nat.not_lt.2 e]

end Sys2Proof.Machine
end

