-- ==== Sys2Proof/Laws/Sessions.lean ====
section
/-! SUPPORT. What axolotl makes of a command on the path that holds the session. -/

namespace Sys2Proof.Machine

/-- The state in which the held path's command acts: on CAN0 the next sequence number is expected from then on. -/
def State.axoSeen (s : State) (via : AxoVia) : State :=
  if via.path = 2 then s.setUpd { s.upd with canSeq := (via.seq + 1) % 256 } else s

/-- A command on the path that holds the session acts when its sequence number is new (Ethernet) or due (CAN0). -/
theorem State.axoHeld_next {s : State} {via : AxoVia} {k : State → Out}
    (he : via.path = 1 → s.upd.lastSeq ≠ some via.seq) (hc : via.path = 2 → via.seq % 256 = s.upd.canSeq) :
    s.axoHeld via k = k (s.axoSeen via) := by
  unfold State.axoHeld State.axoSeen
  rw [if_neg (fun x => he x.1 x.2)]
  by_cases p : via.path = 2
  · simp [p, hc p]
  · simp [p]

/-- The same for a command that finds the path by itself. -/
theorem State.axoCmd_next {s : State} {via : AxoVia} {k : State → Out}
    (hr : s.axoRuns via.path = true) (hp : s.upd.path = some via.path.val)
    (he : via.path = 1 → s.upd.lastSeq ≠ some via.seq) (hc : via.path = 2 → via.seq % 256 = s.upd.canSeq) :
    s.axoCmd via k = k (s.axoSeen via) := by
  unfold State.axoCmd
  simp only [hr, hp, Bool.not_true, Bool.false_eq_true, if_false, if_true]
  exact State.axoHeld_next he hc

/-- What is not the update engine's own is as before. -/
theorem State.axoSeen_same (s : State) (via : AxoVia) :
    (s.axoSeen via).regs = s.regs ∧ (s.axoSeen via).mem = s.mem ∧ (s.axoSeen via).kept = s.kept ∧
      (s.axoSeen via).upd.sess = s.upd.sess := by
  unfold State.axoSeen
  split <;> exact ⟨(rfl), (rfl), (rfl), (rfl)⟩

end Sys2Proof.Machine
end

