-- ==== Sys2Proof/Laws/Time.lean ====
section
/-! SUPPORT. What the passing of time does not change: everything but what is computed from the cycle. -/

namespace Sys2Proof.Machine

@[simp] theorem State.axoRuns_at (s : State) (t : Nat) (p : Nat) :
    (s.at t).axoRuns p = s.axoRuns p := (rfl)
@[simp] theorem State.axoArg_at (s : State) (t : Nat) (via : AxoVia) (arg : Word) :
    (s.at t).axoArg via arg = s.axoArg via arg := (rfl)
@[simp] theorem State.bar2Addr_at (s : State) (t : Nat) (off i : Nat) :
    (s.at t).bar2Addr off i = s.bar2Addr off i := (rfl)
@[simp] theorem State.bar2Oob_at (s : State) (t : Nat) (off len : Nat) :
    (s.at t).bar2Oob off len = s.bar2Oob off len := (rfl)
@[simp] theorem State.bar2Byte_at (s : State) (t : Nat) (off i : Nat) :
    (s.at t).bar2Byte off i = s.bar2Byte off i := (rfl)
@[simp] theorem State.bar2Poison_at (s : State) (t : Nat) (off len : Nat) :
    (s.at t).bar2Poison off len = s.bar2Poison off len := (rfl)
@[simp] theorem State.mirrorHit_at (s : State) (t : Nat) (a n : Nat) :
    (s.at t).mirrorHit a n = s.mirrorHit a n := (rfl)
@[simp] theorem State.portAreas_at (s : State) (t : Nat) :
    (s.at t).portAreas = s.portAreas := (rfl)
@[simp] theorem State.writtenAreas_at (s : State) (t : Nat) :
    (s.at t).writtenAreas = s.writtenAreas := (rfl)
@[simp] theorem State.cam_at (s : State) (t : Nat) (c : Nat) :
    (s.at t).cam c = s.cam c := (rfl)
@[simp] theorem State.camEn_at (s : State) (t : Nat) (c : Nat) :
    (s.at t).camEn c = s.camEn c := (rfl)
@[simp] theorem State.dispSize_at (s : State) (t : Nat) (c : Nat) :
    (s.at t).dispSize c = s.dispSize c := (rfl)
@[simp] theorem State.dispArea_at (s : State) (t : Nat) (c : Nat) :
    (s.at t).dispArea c = s.dispArea c := (rfl)
@[simp] theorem State.dispOn_at (s : State) (t : Nat) (c : Nat) :
    (s.at t).dispOn c = s.dispOn c := (rfl)
@[simp] theorem State.canState_at (s : State) (t : Nat) (n : Nat) :
    (s.at t).canState n = s.canState n := (rfl)
@[simp] theorem State.canK12_at (s : State) (t : Nat) (n : Nat) :
    (s.at t).canK12 n = s.canK12 n := (rfl)
@[simp] theorem State.canOnBus_at (s : State) (t : Nat) (n : Nat) :
    (s.at t).canOnBus n = s.canOnBus n := (rfl)
@[simp] theorem State.canEcho_at (s : State) (t : Nat) (n : Nat) :
    (s.at t).canEcho n = s.canEcho n := (rfl)
@[simp] theorem State.canForced_at (s : State) (t : Nat) (n : Nat) :
    (s.at t).canForced n = s.canForced n := (rfl)
@[simp] theorem State.canSetup_at (s : State) (t : Nat) :
    (s.at t).canSetup = s.canSetup := (rfl)
@[simp] theorem State.canTimingBad_at (s : State) (t : Nat) (n : Nat) :
    (s.at t).canTimingBad n = s.canTimingBad n := (rfl)
@[simp] theorem State.queueClass_at (s : State) (t : Nat) (n q : Nat) :
    (s.at t).queueClass n q = s.queueClass n q := (rfl)
@[simp] theorem State.loopRuns_at (s : State) (t : Nat) (n : Nat) :
    (s.at t).loopRuns n = s.loopRuns n := (rfl)
@[simp] theorem State.hostLoop_at (s : State) (t : Nat) (n : Nat) :
    (s.at t).hostLoop n = s.hostLoop n := (rfl)
@[simp] theorem State.hoCle_at (s : State) (t : Nat) :
    (s.at t).hoCle = s.hoCle := (rfl)
@[simp] theorem State.winData_at (s : State) (t : Nat) :
    (s.at t).winData = s.winData := (rfl)
@[simp] theorem State.loop_at (s : State) (t : Nat) (n : Nat) :
    (s.at t).loop n = s.loop n := (rfl)
@[simp] theorem State.poolAt_at (s : State) (t : Nat) (i : Nat) :
    (s.at t).poolAt i = s.poolAt i := (rfl)
@[simp] theorem State.loopRun_at (s : State) (t : Nat) (n : Nat) :
    (s.at t).loopRun n = s.loopRun n := (rfl)
@[simp] theorem State.loopItem_at (s : State) (t : Nat) (n k : Nat) :
    (s.at t).loopItem n k = s.loopItem n k := (rfl)
@[simp] theorem State.tgtOf_at (s : State) (t : Nat) (n : Nat) :
    (s.at t).tgtOf n = s.tgtOf n := (rfl)
@[simp] theorem State.tmplBad_at (s : State) (t : Nat) (m : Nat) :
    (s.at t).tmplBad m = s.tmplBad m := (rfl)
@[simp] theorem State.outBad_at (s : State) (t : Nat) (n : Nat) (ws : List Word) :
    (s.at t).outBad n ws = s.outBad n ws := (rfl)
@[simp] theorem State.tmplChan_at (s : State) (t : Nat) (m : Nat) :
    (s.at t).tmplChan m = s.tmplChan m := (rfl)
@[simp] theorem State.loopAuth_at (s : State) (t : Nat) (ws : List Word) :
    (s.at t).loopAuth ws = s.loopAuth ws := (rfl)
@[simp] theorem State.tmplData_at (s : State) (t : Nat) (m : Nat) (code : Int) :
    (s.at t).tmplData m code = s.tmplData m code := (rfl)
@[simp] theorem State.canEn_at (s : State) (t : Nat) (c : Nat) :
    (s.at t).canEn c = s.canEn c := (rfl)
@[simp] theorem State.outRange_at (s : State) (t : Nat) (ws : List Word) :
    (s.at t).outRange ws = s.outRange ws := (rfl)
@[simp] theorem State.cleCatchup_at (s : State) (t : Nat) :
    (s.at t).cleCatchup = s.cleCatchup := (rfl)
@[simp] theorem State.rectBad_at (s : State) (t : Nat) (p : Nat) (d : RDesc) :
    (s.at t).rectBad p d = s.rectBad p d := (rfl)
@[simp] theorem State.portDown_at (s : State) (t : Nat) (p : Nat) :
    (s.at t).portDown p = s.portDown p := (rfl)
@[simp] theorem State.cfgA_at (s : State) (t : Nat) :
    (s.at t).cfgA = s.cfgA := (rfl)
@[simp] theorem State.cfgB_at (s : State) (t : Nat) :
    (s.at t).cfgB = s.cfgB := (rfl)
@[simp] theorem State.rectHeld_at (s : State) (t : Nat) (p : Nat) (d : RDesc) :
    (s.at t).rectHeld p d = s.rectHeld p d := (rfl)
@[simp] theorem State.perMax_at (s : State) (t : Nat) :
    (s.at t).perMax = s.perMax := (rfl)
@[simp] theorem State.perMin_at (s : State) (t : Nat) :
    (s.at t).perMin = s.perMin := (rfl)
@[simp] theorem State.winCam_at (s : State) (t : Nat) (w : Nat) :
    (s.at t).winCam w = s.winCam w := (rfl)
@[simp] theorem State.winPix_at (s : State) (t : Nat) (w x y : Nat) :
    (s.at t).winPix w x y = s.winPix w x y := (rfl)
@[simp] theorem State.composed_at (s : State) (t : Nat) (x y : Nat) :
    (s.at t).composed x y = s.composed x y := (rfl)
@[simp] theorem State.subpixel_at (s : State) (t : Nat) (k v : Nat) :
    (s.at t).subpixel k v = s.subpixel k v := (rfl)
@[simp] theorem State.cabPix_at (s : State) (t : Nat) :
    (s.at t).cabPix = s.cabPix := (rfl)
@[simp] theorem State.codes_at (s : State) (t : Nat) (r : DRect) :
    (s.at t).codes r = s.codes r := (rfl)
@[simp] theorem State.dpyBad_at (s : State) (t : Nat) (off : Nat) (v : Word) :
    (s.at t).dpyBad off v = s.dpyBad off v := (rfl)
@[simp] theorem State.dpyLocked_at (s : State) (t : Nat) (off : Nat) (v : Word) :
    (s.at t).dpyLocked off v = s.dpyLocked off v := (rfl)
@[simp] theorem State.dmaBurst_at (s : State) (t : Nat) (n : Nat) :
    (s.at t).dmaBurst n = s.dmaBurst n := (rfl)
@[simp] theorem State.dmaClean_at (s : State) (t : Nat) (ws : List Word) :
    (s.at t).dmaClean ws = s.dmaClean ws := (rfl)
@[simp] theorem State.dmaUnread_at (s : State) (t : Nat) (n : Nat) (lost : Bool) :
    (s.at t).dmaUnread n lost = s.dmaUnread n lost := (rfl)
@[simp] theorem State.dmaClash_at (s : State) (t : Nat) (n : Nat) (ws : List Word) :
    (s.at t).dmaClash n ws = s.dmaClash n ws := (rfl)
@[simp] theorem State.burstEnd_at (s : State) (t : Nat) (n put : Nat) :
    (s.at t).burstEnd n put = s.burstEnd n put := (rfl)
@[simp] theorem State.dch_at (s : State) (t : Nat) (n : Nat) :
    (s.at t).dch n = s.dch n := (rfl)
@[simp] theorem State.dmaPause_at (s : State) (t : Nat) (n : Nat) :
    (s.at t).dmaPause n = s.dmaPause n := (rfl)
@[simp] theorem State.dmaNext_at (s : State) (t : Nat) (n : Nat) :
    (s.at t).dmaNext n = s.dmaNext n := (rfl)
@[simp] theorem State.dmaReady_at (s : State) (t : Nat) (n : Nat) :
    (s.at t).dmaReady n = s.dmaReady n := (rfl)
@[simp] theorem State.dmaDescAddr_at (s : State) (t : Nat) (n : Nat) :
    (s.at t).dmaDescAddr n = s.dmaDescAddr n := (rfl)
@[simp] theorem State.dmaWrites_at (s : State) (t : Nat) (n : Nat) :
    (s.at t).dmaWrites n = s.dmaWrites n := (rfl)
@[simp] theorem State.shaft_at (s : State) (t : Nat) (k : Nat) :
    (s.at t).shaft k = s.shaft k := (rfl)
@[simp] theorem State.ev_at (s : State) (t : Nat) (i : Nat) :
    (s.at t).ev i = s.ev i := (rfl)
@[simp] theorem State.posAt_at (s : State) (t : Nat) (d c : Nat) :
    (s.at t).posAt d c = s.posAt d c := (rfl)
@[simp] theorem State.domHeld_at (s : State) (t : Nat) (d : Nat) :
    (s.at t).domHeld d = s.domHeld d := (rfl)
@[simp] theorem State.rects_at (s : State) (t : Nat) (p : Nat) :
    (s.at t).rects p = s.rects p := (rfl)
@[simp] theorem State.mayFly_at (s : State) (t : Nat) (p : Nat) (a : Area) :
    (s.at t).mayFly p a = s.mayFly p a := (rfl)
@[simp] theorem State.panel_at (s : State) (t : Nat) (p : Nat) :
    (s.at t).panel p = s.panel p := (rfl)
@[simp] theorem State.unknownPix_at (s : State) (t : Nat) (st : Cells Nat) (l : List Area) :
    (s.at t).unknownPix st l = s.unknownPix st l := (rfl)
@[simp] theorem State.storeBytes_at (s : State) (t : Nat) (st : Cells Nat) :
    (s.at t).storeBytes st = s.storeBytes st := (rfl)
@[simp] theorem State.waveLen_at (s : State) (t : Nat) (mode band : Nat) :
    (s.at t).waveLen mode band = s.waveLen mode band := (rfl)
@[simp] theorem State.fper_at (s : State) (t : Nat) :
    (s.at t).fper = s.fper := (rfl)
@[simp] theorem State.dpyWants_at (s : State) (t : Nat) (p : Nat) :
    (s.at t).dpyWants p = s.dpyWants p := (rfl)
@[simp] theorem State.unsynced_at (s : State) (t : Nat) (d : Nat) :
    (s.at t).unsynced d = s.unsynced d := (rfl)
@[simp] theorem State.hslDom_at (s : State) (t : Nat) :
    (s.at t).hslDom = s.hslDom := (rfl)
@[simp] theorem State.hslPeriod_at (s : State) (t : Nat) :
    (s.at t).hslPeriod = s.hslPeriod := (rfl)
@[simp] theorem State.hslPhase_at (s : State) (t : Nat) :
    (s.at t).hslPhase = s.hslPhase := (rfl)
@[simp] theorem State.evK12_at (s : State) (t : Nat) (first n : Nat) :
    (s.at t).evK12 first n = s.evK12 first n := (rfl)
@[simp] theorem State.hoNym_at (s : State) (t : Nat) :
    (s.at t).hoNym = s.hoNym := (rfl)
@[simp] theorem State.tblData_at (s : State) (t : Nat) :
    (s.at t).tblData = s.tblData := (rfl)
@[simp] theorem State.isOpen_at (s : State) (t : Nat) (code : Nat) :
    (s.at t).isOpen code = s.isOpen code := (rfl)
@[simp] theorem State.frameOk_at (s : State) (t : Nat) (port mac : Nat) :
    (s.at t).frameOk port mac = s.frameOk port mac := (rfl)
@[simp] theorem State.fu_at (s : State) (t : Nat) (u : Nat) :
    (s.at t).fu u = s.fu u := (rfl)
@[simp] theorem State.sched_at (s : State) (t : Nat) (k : Nat) :
    (s.at t).sched k = s.sched k := (rfl)
@[simp] theorem State.hitMap_at (s : State) (t : Nat) (n k : Nat) :
    (s.at t).hitMap n k = s.hitMap n k := (rfl)
@[simp] theorem State.lossCh_at (s : State) (t : Nat) (n : Nat) :
    (s.at t).lossCh n = s.lossCh n := (rfl)
@[simp] theorem State.snsRuns_at (s : State) (t : Nat) :
    (s.at t).snsRuns = s.snsRuns := (rfl)
@[simp] theorem State.fusRuns_at (s : State) (t : Nat) :
    (s.at t).fusRuns = s.fusRuns := (rfl)
@[simp] theorem State.fuEn_at (s : State) (t : Nat) (u : Nat) :
    (s.at t).fuEn u = s.fuEn u := (rfl)
@[simp] theorem State.fuKind_at (s : State) (t : Nat) (u : Nat) :
    (s.at t).fuKind u = s.fuKind u := (rfl)
@[simp] theorem State.fuSched_at (s : State) (t : Nat) (u : Nat) :
    (s.at t).fuSched u = s.fuSched u := (rfl)
@[simp] theorem State.fuSrc_at (s : State) (t : Nat) (u : Nat) :
    (s.at t).fuSrc u = s.fuSrc u := (rfl)
@[simp] theorem State.fuSrc2_at (s : State) (t : Nat) (u : Nat) :
    (s.at t).fuSrc2 u = s.fuSrc2 u := (rfl)
@[simp] theorem State.fuP0_at (s : State) (t : Nat) (u : Nat) :
    (s.at t).fuP0 u = s.fuP0 u := (rfl)
@[simp] theorem State.fuP1_at (s : State) (t : Nat) (u : Nat) :
    (s.at t).fuP1 u = s.fuP1 u := (rfl)
@[simp] theorem State.fuP2_at (s : State) (t : Nat) (u : Nat) :
    (s.at t).fuP2 u = s.fuP2 u := (rfl)
@[simp] theorem State.fuP3_at (s : State) (t : Nat) (u : Nat) :
    (s.at t).fuP3 u = s.fuP3 u := (rfl)
@[simp] theorem State.fuBad_at (s : State) (t : Nat) (u : Nat) (v : Word) :
    (s.at t).fuBad u v = s.fuBad u v := (rfl)
@[simp] theorem State.fuReads_at (s : State) (t : Nat) (u src : Nat) :
    (s.at t).fuReads u src = s.fuReads u src := (rfl)
@[simp] theorem State.fuLate_at (s : State) (t : Nat) (u : Nat) (x : Arrival) :
    (s.at t).fuLate u x = s.fuLate u x := (rfl)
@[simp] theorem State.lateUnits_at (s : State) (t : Nat) (x : Arrival) :
    (s.at t).lateUnits x = s.lateUnits x := (rfl)
@[simp] theorem State.fuLoss_at (s : State) (t : Nat) (u : Nat) :
    (s.at t).fuLoss u = s.fuLoss u := (rfl)
@[simp] theorem State.fuGround_at (s : State) (t : Nat) (d : Int) (ns : Nat) :
    (s.at t).fuGround d ns = s.fuGround d ns := (rfl)
@[simp] theorem State.fuValues_at (s : State) (t : Nat) (u : Nat) (l : List Smp) (d : Int) (ns : Nat) :
    (s.at t).fuValues u l d ns = s.fuValues u l d ns := (rfl)
@[simp] theorem State.fuEmpty_at (s : State) (t : Nat) (u : Nat) (v : FuVals) (l : List Smp) :
    (s.at t).fuEmpty u v l = s.fuEmpty u v l := (rfl)
@[simp] theorem State.fuWords_at (s : State) (t : Nat) (u : Nat) (x : UInst) :
    (s.at t).fuWords u x = s.fuWords u x := (rfl)
@[simp] theorem State.obsOf_at (s : State) (t : Nat) (l : List FRes) :
    (s.at t).obsOf l = s.obsOf l := (rfl)
@[simp] theorem State.yldRes_at (s : State) (t : Nat) (l : List FRes) :
    (s.at t).yldRes l = s.yldRes l := (rfl)
@[simp] theorem State.moistRes_at (s : State) (t : Nat) (l : List FRes) :
    (s.at t).moistRes l = s.moistRes l := (rfl)
@[simp] theorem State.headNow_at (s : State) (t : Nat) :
    (s.at t).headNow = s.headNow := (rfl)
@[simp] theorem State.fuShaft_at (s : State) (t : Nat) (u : Nat) :
    (s.at t).fuShaft u = s.fuShaft u := (rfl)
@[simp] theorem State.gnsRuns_at (s : State) (t : Nat) :
    (s.at t).gnsRuns = s.gnsRuns := (rfl)
@[simp] theorem State.tstate_at (s : State) (t : Nat) :
    (s.at t).tstate = s.tstate := (rfl)
@[simp] theorem State.suspect_at (s : State) (t : Nat) :
    (s.at t).suspect = s.suspect := (rfl)
@[simp] theorem State.skySeen_at (s : State) (t : Nat) (l : List SatView) :
    (s.at t).skySeen l = s.skySeen l := (rfl)
@[simp] theorem State.baseBand_at (s : State) (t : Nat) (con : Nat) (l5 : Bool) :
    (s.at t).baseBand con l5 = s.baseBand con l5 := (rfl)
@[simp] theorem State.tracksOf_at (s : State) (t : Nat) (f : Nat) (l : List SatView) :
    (s.at t).tracksOf f l = s.tracksOf f l := (rfl)
@[simp] theorem State.fixHeading_at (s : State) (t : Nat) (x : GnssFix) :
    (s.at t).fixHeading x = s.fixHeading x := (rfl)
@[simp] theorem State.cAgeMax_at (s : State) (t : Nat) :
    (s.at t).cAgeMax = s.cAgeMax := (rfl)
@[simp] theorem State.antFault_at (s : State) (t : Nat) :
    (s.at t).antFault = s.antFault := (rfl)
@[simp] theorem State.antSup_at (s : State) (t : Nat) (a : Nat) :
    (s.at t).antSup a = s.antSup a := (rfl)
@[simp] theorem State.antOn_at (s : State) (t : Nat) (a : Nat) :
    (s.at t).antOn a = s.antOn a := (rfl)
@[simp] theorem State.antMisuse_at (s : State) (t : Nat) (a ma : Nat) :
    (s.at t).antMisuse a ma = s.antMisuse a ma := (rfl)
@[simp] theorem State.chkEn_at (s : State) (t : Nat) (i : Nat) :
    (s.at t).chkEn i = s.chkEn i := (rfl)
@[simp] theorem State.codeFails_at (s : State) (t : Nat) (c : GnssCheck) :
    (s.at t).codeFails c = s.codeFails c := (rfl)
@[simp] theorem State.powerFails_at (s : State) (t : Nat) (c : GnssCheck) :
    (s.at t).powerFails c = s.powerFails c := (rfl)
@[simp] theorem State.consFails_at (s : State) (t : Nat) (c : GnssCheck) :
    (s.at t).consFails c = s.consFails c := (rfl)
@[simp] theorem State.oscFails_at (s : State) (t : Nat) (c : GnssCheck) :
    (s.at t).oscFails c = s.oscFails c := (rfl)
@[simp] theorem State.clockClass_at (s : State) (t : Nat) :
    (s.at t).clockClass = s.clockClass := (rfl)
@[simp] theorem State.gnsLocked_at (s : State) (t : Nat) (v : Word) :
    (s.at t).gnsLocked v = s.gnsLocked v := (rfl)
@[simp] theorem State.gndEn_at (s : State) (t : Nat) :
    (s.at t).gndEn = s.gndEn := (rfl)
@[simp] theorem State.wheelUsed_at (s : State) (t : Nat) :
    (s.at t).wheelUsed = s.wheelUsed := (rfl)
@[simp] theorem State.gnssUsed_at (s : State) (t : Nat) :
    (s.at t).gnssUsed = s.gnssUsed := (rfl)
@[simp] theorem State.ppm_at (s : State) (t : Nat) :
    (s.at t).ppm = s.ppm := (rfl)
@[simp] theorem State.wheelNominal_at (s : State) (t : Nat) (per : Nat) :
    (s.at t).wheelNominal per = s.wheelNominal per := (rfl)
@[simp] theorem State.wheelSpeed_at (s : State) (t : Nat) (per : Nat) :
    (s.at t).wheelSpeed per = s.wheelSpeed per := (rfl)
@[simp] theorem State.wheelRate_at (s : State) (t : Nat) (per : Nat) :
    (s.at t).wheelRate per = s.wheelRate per := (rfl)
@[simp] theorem State.gndDirIn_at (s : State) (t : Nat) :
    (s.at t).gndDirIn = s.gndDirIn := (rfl)
@[simp] theorem State.gndRev_at (s : State) (t : Nat) :
    (s.at t).gndRev = s.gndRev := (rfl)
@[simp] theorem State.wheelFast_at (s : State) (t : Nat) (per : Nat) :
    (s.at t).wheelFast per = s.wheelFast per := (rfl)
@[simp] theorem State.bothFast_at (s : State) (t : Nat) :
    (s.at t).bothFast = s.bothFast := (rfl)
@[simp] theorem State.wheelTimeout_at (s : State) (t : Nat) :
    (s.at t).wheelTimeout = s.wheelTimeout := (rfl)
@[simp] theorem State.heatOf_at (s : State) (t : Nat) (heat : List (Nat × Nat)) (i : Nat) :
    (s.at t).heatOf heat i = s.heatOf heat i := (rfl)
@[simp] theorem State.nodeStep_at (s : State) (t : Nat) (heat : List (Nat × Nat)) (i : Nat) :
    (s.at t).nodeStep heat i = s.nodeStep heat i := (rfl)
@[simp] theorem State.network_at (s : State) (t : Nat) (heat : List (Nat × Nat)) :
    (s.at t).network heat = s.network heat := (rfl)
@[simp] theorem State.estimates_at (s : State) (t : Nat) (m : Cells Int) :
    (s.at t).estimates m = s.estimates m := (rfl)
@[simp] theorem State.feed_at (s : State) (t : Nat) (n : Nat) :
    (s.at t).feed n = s.feed n := (rfl)
@[simp] theorem State.areaDiff_at (s : State) (t : Nat) (i : Nat) (v : Int) :
    (s.at t).areaDiff i v = s.areaDiff i v := (rfl)
@[simp] theorem State.hslRuns_at (s : State) (t : Nat) :
    (s.at t).hslRuns = s.hslRuns := (rfl)
@[simp] theorem State.hslSetting_at (s : State) (t : Nat) (byp : Word) (k : Nat) :
    (s.at t).hslSetting byp k = s.hslSetting byp k := (rfl)
@[simp] theorem State.hslTrgBad_at (s : State) (t : Nat) :
    (s.at t).hslTrgBad = s.hslTrgBad := (rfl)
@[simp] theorem State.hoHsl_at (s : State) (t : Nat) :
    (s.at t).hoHsl = s.hoHsl := (rfl)
@[simp] theorem State.inferRuns_at (s : State) (t : Nat) :
    (s.at t).inferRuns = s.inferRuns := (rfl)
@[simp] theorem State.inferPick_at (s : State) (t : Nat) :
    (s.at t).inferPick = s.inferPick := (rfl)
@[simp] theorem State.modelFits_at (s : State) (t : Nat) (m : Nat) (h : List Word) :
    (s.at t).modelFits m h = s.modelFits m h := (rfl)
@[simp] theorem State.k12Name_at (s : State) (t : Nat) :
    (s.at t).k12Name = s.k12Name := (rfl)
@[simp] theorem State.k12Pwm_at (s : State) (t : Nat) (i : Nat) :
    (s.at t).k12Pwm i = s.k12Pwm i := (rfl)
@[simp] theorem State.k12OpwmSet_at (s : State) (t : Nat) :
    (s.at t).k12OpwmSet = s.k12OpwmSet := (rfl)
@[simp] theorem State.k12ShaftCfg_at (s : State) (t : Nat) :
    (s.at t).k12ShaftCfg = s.k12ShaftCfg := (rfl)
@[simp] theorem State.k12Want_at (s : State) (t : Nat) (m : Cells Nat) (c : Nat) :
    (s.at t).k12Want m c = s.k12Want m c := (rfl)
@[simp] theorem State.k12Taken_at (s : State) (t : Nat) (c : Nat) :
    (s.at t).k12Taken c = s.k12Taken c := (rfl)
@[simp] theorem State.k12Half_at (s : State) (t : Nat) (i : Nat) :
    (s.at t).k12Half i = s.k12Half i := (rfl)
@[simp] theorem State.k12Bad_at (s : State) (t : Nat) (a v : Nat) :
    (s.at t).k12Bad a v = s.k12Bad a v := (rfl)
@[simp] theorem State.group_at (s : State) (t : Nat) (g : Nat) :
    (s.at t).group g = s.group g := (rfl)
@[simp] theorem State.triMode_at (s : State) (t : Nat) :
    (s.at t).triMode = s.triMode := (rfl)
@[simp] theorem State.mstate_at (s : State) (t : Nat) :
    (s.at t).mstate = s.mstate := (rfl)
@[simp] theorem State.coreLive_at (s : State) (t : Nat) (c : Nat) :
    (s.at t).coreLive c = s.coreLive c := (rfl)
@[simp] theorem State.holds_at (s : State) (t : Nat) (item h : Nat) :
    (s.at t).holds item h = s.holds item h := (rfl)
@[simp] theorem State.leaseLife_at (s : State) (t : Nat) (g : Nat) :
    (s.at t).leaseLife g = s.leaseLife g := (rfl)
@[simp] theorem State.groupValves_at (s : State) (t : Nat) (g : Nat) :
    (s.at t).groupValves g = s.groupValves g := (rfl)
@[simp] theorem State.groupSwitches_at (s : State) (t : Nat) (g : Nat) :
    (s.at t).groupSwitches g = s.groupSwitches g := (rfl)
@[simp] theorem State.overridden_at (s : State) (t : Nat) :
    (s.at t).overridden = s.overridden := (rfl)
@[simp] theorem State.tookOver_at (s : State) (t : Nat) :
    (s.at t).tookOver = s.tookOver := (rfl)
@[simp] theorem State.namesTakeOver_at (s : State) (t : Nat) (code detail : Nat) :
    (s.at t).namesTakeOver code detail = s.namesTakeOver code detail := (rfl)
@[simp] theorem State.netRuns_at (s : State) (t : Nat) :
    (s.at t).netRuns = s.netRuns := (rfl)
@[simp] theorem State.netPortLocked_at (s : State) (t : Nat) (k : Nat) (v : Word) :
    (s.at t).netPortLocked k v = s.netPortLocked k v := (rfl)
@[simp] theorem State.filtersClash_at (s : State) (t : Nat) :
    (s.at t).filtersClash = s.filtersClash := (rfl)
@[simp] theorem State.rpUp_at (s : State) (t : Nat) :
    (s.at t).rpUp = s.rpUp := (rfl)
@[simp] theorem State.nport_at (s : State) (t : Nat) (k : Nat) :
    (s.at t).nport k = s.nport k := (rfl)
@[simp] theorem State.netEn_at (s : State) (t : Nat) (k : Nat) :
    (s.at t).netEn k = s.netEn k := (rfl)
@[simp] theorem State.netUp_at (s : State) (t : Nat) (k : Nat) :
    (s.at t).netUp k = s.netUp k := (rfl)
@[simp] theorem State.portLeader_at (s : State) (t : Nat) (k : Nat) :
    (s.at t).portLeader k = s.portLeader k := (rfl)
@[simp] theorem State.wireTime_at (s : State) (t : Nat) (k n : Nat) :
    (s.at t).wireTime k n = s.wireTime k n := (rfl)
@[simp] theorem State.frameClass_at (s : State) (t : Nat) (bs : List Byte) :
    (s.at t).frameClass bs = s.frameClass bs := (rfl)
@[simp] theorem State.frameVid_at (s : State) (t : Nat) (k : Nat) (bs : List Byte) :
    (s.at t).frameVid k bs = s.frameVid k bs := (rfl)
@[simp] theorem State.sfilt_at (s : State) (t : Nat) (i : Nat) :
    (s.at t).sfilt i = s.sfilt i := (rfl)
@[simp] theorem State.egress_at (s : State) (t : Nat) (k : Nat) (bs : List Byte) :
    (s.at t).egress k bs = s.egress k bs := (rfl)
@[simp] theorem State.mtimeAt_at (s : State) (t : Nat) (n : Nat) :
    (s.at t).mtimeAt n = s.mtimeAt n := (rfl)
@[simp] theorem State.canStamp_at (s : State) (t : Nat) (k : Nat) :
    (s.at t).canStamp k = s.canStamp k := (rfl)
@[simp] theorem State.memRd_at (s : State) (t : Nat) (a : Nat) :
    (s.at t).memRd a = s.memRd a := (rfl)
@[simp] theorem State.poisoned_at (s : State) (t : Nat) (a n : Nat) :
    (s.at t).poisoned a n = s.poisoned a n := (rfl)
@[simp] theorem State.memBytes_at (s : State) (t : Nat) (a n : Nat) :
    (s.at t).memBytes a n = s.memBytes a n := (rfl)
@[simp] theorem State.memWord_at (s : State) (t : Nat) (a : Nat) :
    (s.at t).memWord a = s.memWord a := (rfl)
@[simp] theorem State.memWords_at (s : State) (t : Nat) (a n : Nat) :
    (s.at t).memWords a n = s.memWords a n := (rfl)
@[simp] theorem State.freeWords_at (s : State) (t : Nat) (n : Nat) :
    (s.at t).freeWords n = s.freeWords n := (rfl)
@[simp] theorem State.passed_at (s : State) (t : Nat) (k : Nat) :
    (s.at t).passed k = s.passed k := (rfl)
@[simp] theorem State.readyReg_at (s : State) (t : Nat) (off : Nat) :
    (s.at t).readyReg off = s.readyReg off := (rfl)
@[simp] theorem State.readableReg_at (s : State) (t : Nat) (off : Nat) :
    (s.at t).readableReg off = s.readableReg off := (rfl)
@[simp] theorem State.ready_at (s : State) (t : Nat) (b : Nat) :
    (s.at t).ready b = s.ready b := (rfl)
@[simp] theorem State.isK12_at (s : State) (t : Nat) :
    (s.at t).isK12 = s.isK12 := (rfl)
@[simp] theorem State.fenced_at (s : State) (t : Nat) (u : Nat) :
    (s.at t).fenced u = s.fenced u := (rfl)
@[simp] theorem State.valveEn_at (s : State) (t : Nat) (n : Nat) :
    (s.at t).valveEn n = s.valveEn n := (rfl)
@[simp] theorem State.valveActive_at (s : State) (t : Nat) (n : Nat) :
    (s.at t).valveActive n = s.valveActive n := (rfl)
@[simp] theorem State.valveOn_at (s : State) (t : Nat) (n : Nat) :
    (s.at t).valveOn n = s.valveOn n := (rfl)
@[simp] theorem State.paired_at (s : State) (t : Nat) (n : Nat) :
    (s.at t).paired n = s.paired n := (rfl)
@[simp] theorem State.switchEn_at (s : State) (t : Nat) (n : Nat) :
    (s.at t).switchEn n = s.switchEn n := (rfl)
@[simp] theorem State.protLen_at (s : State) (t : Nat) :
    (s.at t).protLen = s.protLen := (rfl)
@[simp] theorem State.tstOpen_at (s : State) (t : Nat) :
    (s.at t).tstOpen = s.tstOpen := (rfl)
@[simp] theorem State.tstLive_at (s : State) (t : Nat) :
    (s.at t).tstLive = s.tstLive := (rfl)
@[simp] theorem State.tstUnsafe_at (s : State) (t : Nat) :
    (s.at t).tstUnsafe = s.tstUnsafe := (rfl)
@[simp] theorem State.stopDelay_at (s : State) (t : Nat) :
    (s.at t).stopDelay = s.stopDelay := (rfl)
@[simp] theorem State.mayStop_at (s : State) (t : Nat) :
    (s.at t).mayStop = s.mayStop := (rfl)
@[simp] theorem State.enLocked_at (s : State) (t : Nat) (off : Nat) (en : Fld) (v : Word) :
    (s.at t).enLocked off en v = s.enLocked off en v := (rfl)
@[simp] theorem State.gndBad_at (s : State) (t : Nat) (v : Word) :
    (s.at t).gndBad v = s.gndBad v := (rfl)
@[simp] theorem State.tmplUsed_at (s : State) (t : Nat) (m : Nat) :
    (s.at t).tmplUsed m = s.tmplUsed m := (rfl)
@[simp] theorem State.pairLocked_at (s : State) (t : Nat) (v : Word) :
    (s.at t).pairLocked v = s.pairLocked v := (rfl)
@[simp] theorem State.unmapped_at (s : State) (t : Nat) (n : Nat) :
    (s.at t).unmapped n = s.unmapped n := (rfl)
@[simp] theorem State.obsBad_at (s : State) (t : Nat) (v : Word) :
    (s.at t).obsBad v = s.obsBad v := (rfl)
@[simp] theorem State.fuMisfit_at (s : State) (t : Nat) (u : Nat) :
    (s.at t).fuMisfit u = s.fuMisfit u := (rfl)
@[simp] theorem State.yldOn_at (s : State) (t : Nat) :
    (s.at t).yldOn = s.yldOn := (rfl)
@[simp] theorem State.evAuth_at (s : State) (t : Nat) (ws : List Word) :
    (s.at t).evAuth ws = s.evAuth ws := (rfl)
@[simp] theorem State.evCatchup_at (s : State) (t : Nat) (d : Nat) :
    (s.at t).evCatchup d = s.evCatchup d := (rfl)
@[simp] theorem State.ring_at (s : State) (t : Nat) (r : Nat) :
    (s.at t).ring r = s.ring r := (rfl)
@[simp] theorem State.lineOut_at (s : State) (t : Nat) (m : Nat) :
    (s.at t).lineOut m = s.lineOut m := (rfl)
@[simp] theorem State.ringState_at (s : State) (t : Nat) (r : Nat) :
    (s.at t).ringState r = s.ringState r := (rfl)
@[simp] theorem State.ringTgt_at (s : State) (t : Nat) (r : Nat) :
    (s.at t).ringTgt r = s.ringTgt r := (rfl)
@[simp] theorem State.ringFunc_at (s : State) (t : Nat) (r : Nat) :
    (s.at t).ringFunc r = s.ringFunc r := (rfl)
@[simp] theorem State.ringEth_at (s : State) (t : Nat) (r : Nat) :
    (s.at t).ringEth r = s.ringEth r := (rfl)
@[simp] theorem State.ringLog_at (s : State) (t : Nat) (r : Nat) :
    (s.at t).ringLog r = s.ringLog r := (rfl)
@[simp] theorem State.addr64_at (s : State) (t : Nat) (lo hi : Nat) :
    (s.at t).addr64 lo hi = s.addr64 lo hi := (rfl)
@[simp] theorem State.ringDesc_at (s : State) (t : Nat) (r : Nat) :
    (s.at t).ringDesc r = s.ringDesc r := (rfl)
@[simp] theorem State.ringCq_at (s : State) (t : Nat) (r : Nat) :
    (s.at t).ringCq r = s.ringCq r := (rfl)
@[simp] theorem State.ringCdb_at (s : State) (t : Nat) (r : Nat) :
    (s.at t).ringCdb r = s.ringCdb r := (rfl)
@[simp] theorem State.ringPtr_at (s : State) (t : Nat) (off n : Nat) :
    (s.at t).ringPtr off n = s.ringPtr off n := (rfl)
@[simp] theorem State.ringHead_at (s : State) (t : Nat) (r : Nat) :
    (s.at t).ringHead r = s.ringHead r := (rfl)
@[simp] theorem State.ringTail_at (s : State) (t : Nat) (r : Nat) :
    (s.at t).ringTail r = s.ringTail r := (rfl)
@[simp] theorem State.ringAwait_at (s : State) (t : Nat) (r : Nat) :
    (s.at t).ringAwait r = s.ringAwait r := (rfl)
@[simp] theorem State.pollUs_at (s : State) (t : Nat) (r : Nat) :
    (s.at t).pollUs r = s.pollUs r := (rfl)
@[simp] theorem State.onLine_at (s : State) (t : Nat) (m r : Nat) :
    (s.at t).onLine m r = s.onLine m r := (rfl)
@[simp] theorem State.lineUs_at (s : State) (t : Nat) (m : Nat) :
    (s.at t).lineUs m = s.lineUs m := (rfl)
@[simp] theorem State.served_at (s : State) (t : Nat) (tgt func : Nat) :
    (s.at t).served tgt func = s.served tgt func := (rfl)
@[simp] theorem State.ringLayer_at (s : State) (t : Nat) (r : Nat) (d : RDesc) :
    (s.at t).ringLayer r d = s.ringLayer r d := (rfl)
@[simp] theorem State.running_at (s : State) (t : Nat) (r slot : Nat) :
    (s.at t).running r slot = s.running r slot := (rfl)
@[simp] theorem State.nextOp_at (s : State) (t : Nat) (r : Nat) :
    (s.at t).nextOp r = s.nextOp r := (rfl)
@[simp] theorem State.opFor_at (s : State) (t : Nat) (r tgt func op : Nat) :
    (s.at t).opFor r tgt func op = s.opFor r tgt func op := (rfl)
@[simp] theorem State.bufBad_at (s : State) (t : Nat) (r : Nat) (d : RDesc) :
    (s.at t).bufBad r d = s.bufBad r d := (rfl)
@[simp] theorem State.bufIn_at (s : State) (t : Nat) (r : Nat) (d : RDesc) (buf : List Byte) :
    (s.at t).bufIn r d buf = s.bufIn r d buf := (rfl)
@[simp] theorem State.bufWords_at (s : State) (t : Nat) (r : Nat) (d : RDesc) (buf : List Word) :
    (s.at t).bufWords r d buf = s.bufWords r d buf := (rfl)
@[simp] theorem State.recvInfo_at (s : State) (t : Nat) (key : Nat) :
    (s.at t).recvInfo key = s.recvInfo key := (rfl)
@[simp] theorem State.staged_at (s : State) (t : Nat) (key : Nat) :
    (s.at t).staged key = s.staged key := (rfl)
@[simp] theorem State.filling_at (s : State) (t : Nat) (r : Nat) :
    (s.at t).filling r = s.filling r := (rfl)
@[simp] theorem State.behindRing_at (s : State) (t : Nat) (r : Nat) :
    (s.at t).behindRing r = s.behindRing r := (rfl)
@[simp] theorem State.recvRing_at (s : State) (t : Nat) (key : Nat) :
    (s.at t).recvRing key = s.recvRing key := (rfl)
@[simp] theorem State.ethAreas_at (s : State) (t : Nat) :
    (s.at t).ethAreas = s.ethAreas := (rfl)
@[simp] theorem State.ethWritten_at (s : State) (t : Nat) :
    (s.at t).ethWritten = s.ethWritten := (rfl)
@[simp] theorem State.ringMem_at (s : State) (t : Nat) (r : Nat) :
    (s.at t).ringMem r = s.ringMem r := (rfl)
@[simp] theorem State.ethMem_at (s : State) (t : Nat) :
    (s.at t).ethMem = s.ethMem := (rfl)
@[simp] theorem State.tailBad_at (s : State) (t : Nat) (r : Nat) (w : Word) :
    (s.at t).tailBad r w = s.tailBad r w := (rfl)
@[simp] theorem State.lineRings_at (s : State) (t : Nat) (m : Nat) (eth : Bool) :
    (s.at t).lineRings m eth = s.lineRings m eth := (rfl)
@[simp] theorem State.dbl_at (s : State) (t : Nat) (m : Nat) :
    (s.at t).dbl m = s.dbl m := (rfl)
@[simp] theorem State.cdbWord_at (s : State) (t : Nat) (r : Nat) :
    (s.at t).cdbWord r = s.cdbWord r := (rfl)
@[simp] theorem State.holdoff_at (s : State) (t : Nat) (r : Nat) :
    (s.at t).holdoff r = s.holdoff r := (rfl)
@[simp] theorem State.ctlUnready_at (s : State) (t : Nat) (r : Nat) :
    (s.at t).ctlUnready r = s.ctlUnready r := (rfl)
@[simp] theorem State.ringClash_at (s : State) (t : Nat) (r : Nat) :
    (s.at t).ringClash r = s.ringClash r := (rfl)
@[simp] theorem State.ringOnDisplay_at (s : State) (t : Nat) (r : Nat) :
    (s.at t).ringOnDisplay r = s.ringOnDisplay r := (rfl)
@[simp] theorem State.ain_at (s : State) (t : Nat) (n : Nat) :
    (s.at t).ain n = s.ain n := (rfl)
@[simp] theorem State.ainEn_at (s : State) (t : Nat) (n : Nat) :
    (s.at t).ainEn n = s.ainEn n := (rfl)
@[simp] theorem State.finEn_at (s : State) (t : Nat) (n : Nat) :
    (s.at t).finEn n = s.finEn n := (rfl)
@[simp] theorem State.ainK12_at (s : State) (t : Nat) (n : Nat) :
    (s.at t).ainK12 n = s.ainK12 n := (rfl)
@[simp] theorem State.finK12_at (s : State) (t : Nat) (n : Nat) :
    (s.at t).finK12 n = s.finK12 n := (rfl)
@[simp] theorem State.shaftRaw_at (s : State) (t : Nat) (k : Nat) :
    (s.at t).shaftRaw k = s.shaftRaw k := (rfl)
@[simp] theorem State.gndRaw_at (s : State) (t : Nat) :
    (s.at t).gndRaw = s.gndRaw := (rfl)
@[simp] theorem State.shaftSpeeds_at (s : State) (t : Nat) :
    (s.at t).shaftSpeeds = s.shaftSpeeds := (rfl)
@[simp] theorem State.loopsOn_at (s : State) (t : Nat) (kind n : Nat) :
    (s.at t).loopsOn kind n = s.loopsOn kind n := (rfl)
@[simp] theorem State.ainFull_at (s : State) (t : Nat) (n ref : Nat) :
    (s.at t).ainFull n ref = s.ainFull n ref := (rfl)
@[simp] theorem State.finThr_at (s : State) (t : Nat) (n peak : Nat) :
    (s.at t).finThr n peak = s.finThr n peak := (rfl)
@[simp] theorem State.lossEn_at (s : State) (t : Nat) (n : Nat) :
    (s.at t).lossEn n = s.lossEn n := (rfl)
@[simp] theorem State.lossSched_at (s : State) (t : Nat) (n : Nat) :
    (s.at t).lossSched n = s.lossSched n := (rfl)
@[simp] theorem State.lossMask_at (s : State) (t : Nat) (n : Nat) :
    (s.at t).lossMask n = s.lossMask n := (rfl)
@[simp] theorem State.tagged_at (s : State) (t : Nat) (k : Nat) :
    (s.at t).tagged k = s.tagged k := (rfl)
@[simp] theorem State.hpOf_at (s : State) (t : Nat) (n : Nat) :
    (s.at t).hpOf n = s.hpOf n := (rfl)
@[simp] theorem State.schedDead_at (s : State) (t : Nat) (k : Nat) :
    (s.at t).schedDead k = s.schedDead k := (rfl)
@[simp] theorem State.mapWords_at (s : State) (t : Nat) (n k : Nat) :
    (s.at t).mapWords n k = s.mapWords n k := (rfl)
@[simp] theorem State.shaftCfg_at (s : State) (t : Nat) (k : Nat) :
    (s.at t).shaftCfg k = s.shaftCfg k := (rfl)
@[simp] theorem State.shaftSync_at (s : State) (t : Nat) (k : Nat) :
    (s.at t).shaftSync k = s.shaftSync k := (rfl)
@[simp] theorem State.shaftEn_at (s : State) (t : Nat) (k : Nat) :
    (s.at t).shaftEn k = s.shaftEn k := (rfl)
@[simp] theorem State.gndReads_at (s : State) (t : Nat) (k : Nat) :
    (s.at t).gndReads k = s.gndReads k := (rfl)
@[simp] theorem State.shaftBad_at (s : State) (t : Nat) (k : Nat) (c : ShaftCfg) :
    (s.at t).shaftBad k c = s.shaftBad k c := (rfl)
@[simp] theorem State.stallTime_at (s : State) (t : Nat) (k : Nat) :
    (s.at t).stallTime k = s.stallTime k := (rfl)
@[simp] theorem State.shaftK12_at (s : State) (t : Nat) (k : Nat) :
    (s.at t).shaftK12 k = s.shaftK12 k := (rfl)
@[simp] theorem State.edgeFwd_at (s : State) (t : Nat) (c : ShaftCfg) (x : ShaftEdge) :
    (s.at t).edgeFwd c x = s.edgeFwd c x := (rfl)
@[simp] theorem State.loaded_at (s : State) (t : Nat) (k : Nat) :
    (s.at t).loaded k = s.loaded k := (rfl)
@[simp] theorem State.stageAfter_at (s : State) (t : Nat) (k : Nat) :
    (s.at t).stageAfter k = s.stageAfter k := (rfl)
@[simp] theorem State.mayStage_at (s : State) (t : Nat) (k : Nat) :
    (s.at t).mayStage k = s.mayStage k := (rfl)
@[simp] theorem State.imageGood_at (s : State) (t : Nat) (slot ty idx : Nat) (ok : Bool) :
    (s.at t).imageGood slot ty idx ok = s.imageGood slot ty idx ok := (rfl)
@[simp] theorem State.k12Mask_at (s : State) (t : Nat) (off : Nat) :
    (s.at t).k12Mask off = s.k12Mask off := (rfl)
@[simp] theorem State.setsInUse_at (s : State) (t : Nat) :
    (s.at t).setsInUse = s.setsInUse := (rfl)
@[simp] theorem State.missing_at (s : State) (t : Nat) :
    (s.at t).missing = s.missing := (rfl)
@[simp] theorem State.loadedBad_at (s : State) (t : Nat) :
    (s.at t).loadedBad = s.loadedBad := (rfl)
@[simp] theorem State.oncePay_at (s : State) (t : Nat) (ty : Nat) (ok : Bool) :
    (s.at t).oncePay ty ok = s.oncePay ty ok := (rfl)
@[simp] theorem State.hwThreshold_at (s : State) (t : Nat) :
    (s.at t).hwThreshold = s.hwThreshold := (rfl)
@[simp] theorem State.hwEnabled_at (s : State) (t : Nat) :
    (s.at t).hwEnabled = s.hwEnabled := (rfl)
@[simp] theorem State.switchPeriod_at (s : State) (t : Nat) (n : Nat) :
    (s.at t).switchPeriod n = s.switchPeriod n := (rfl)
@[simp] theorem State.switchOffset_at (s : State) (t : Nat) (n : Nat) :
    (s.at t).switchOffset n = s.switchOffset n := (rfl)
@[simp] theorem State.switchK12_at (s : State) (t : Nat) (n : Nat) :
    (s.at t).switchK12 n = s.switchK12 n := (rfl)
@[simp] theorem State.tsb_at (s : State) (t : Nat) (n : Nat) :
    (s.at t).tsb n = s.tsb n := (rfl)
@[simp] theorem State.coolTemp_at (s : State) (t : Nat) :
    (s.at t).coolTemp = s.coolTemp := (rfl)
@[simp] theorem State.vshut_at (s : State) (t : Nat) :
    (s.at t).vshut = s.vshut := (rfl)
@[simp] theorem State.tder_at (s : State) (t : Nat) :
    (s.at t).tder = s.tder := (rfl)
@[simp] theorem State.clusterDt_at (s : State) (t : Nat) (c : Nat) :
    (s.at t).clusterDt c = s.clusterDt c := (rfl)
@[simp] theorem State.derateOf_at (s : State) (t : Nat) (node : Nat) :
    (s.at t).derateOf node = s.derateOf node := (rfl)
@[simp] theorem State.machineXY_at (s : State) (t : Nat) :
    (s.at t).machineXY = s.machineXY := (rfl)
@[simp] theorem State.gnssSpeed_at (s : State) (t : Nat) :
    (s.at t).gnssSpeed = s.gnssSpeed := (rfl)
@[simp] theorem State.lookAhead_at (s : State) (t : Nat) :
    (s.at t).lookAhead = s.lookAhead := (rfl)
@[simp] theorem State.liveRecs_at (s : State) (t : Nat) (mine : List Word) (c0 c1 c2 : CoreRec) :
    (s.at t).liveRecs mine c0 c1 c2 = s.liveRecs mine c0 c1 c2 := (rfl)
@[simp] theorem State.limp_at (s : State) (t : Nat) :
    (s.at t).limp = s.limp := (rfl)
@[simp] theorem State.holderFenced_at (s : State) (t : Nat) (h : Nat) :
    (s.at t).holderFenced h = s.holderFenced h := (rfl)
@[simp] theorem State.gmapLocked_at (s : State) (t : Nat) (item new : Nat) :
    (s.at t).gmapLocked item new = s.gmapLocked item new := (rfl)
@[simp] theorem State.img_at (s : State) (t : Nat) (slot ty idx : Nat) :
    (s.at t).img slot ty idx = s.img slot ty idx := (rfl)
@[simp] theorem State.typeValid_at (s : State) (t : Nat) (slot ty : Nat) :
    (s.at t).typeValid slot ty = s.typeValid slot ty := (rfl)
@[simp] theorem State.validBits_at (s : State) (t : Nat) (slot : Nat) :
    (s.at t).validBits slot = s.validBits slot := (rfl)
@[simp] theorem State.floor_at (s : State) (t : Nat) (ty idx : Nat) :
    (s.at t).floor ty idx = s.floor ty idx := (rfl)
@[simp] theorem State.slotFloors_at (s : State) (t : Nat) (slot : Nat) :
    (s.at t).slotFloors slot = s.slotFloors slot := (rfl)
@[simp] theorem State.slotReady_at (s : State) (t : Nat) (slot : Nat) :
    (s.at t).slotReady slot = s.slotReady slot := (rfl)
@[simp] theorem State.actSlot_at (s : State) (t : Nat) :
    (s.at t).actSlot = s.actSlot := (rfl)
@[simp] theorem State.meets_at (s : State) (t : Nat) (v : Word) :
    (s.at t).meets v = s.meets v := (rfl)
@[simp] theorem State.finishCode_at (s : State) (t : Nat) (y : Sess) (sig : Bool) :
    (s.at t).finishCode y sig = s.finishCode y sig := (rfl)
@[simp] theorem State.sessWritten_at (s : State) (t : Nat) :
    (s.at t).sessWritten = s.sessWritten := (rfl)
@[simp] theorem State.sessFed_at (s : State) (t : Nat) :
    (s.at t).sessFed = s.sessFed := (rfl)
@[simp] theorem State.slotMoved_at (s : State) (t : Nat) :
    (s.at t).slotMoved = s.slotMoved := (rfl)
@[simp] theorem State.reportWords_at (s : State) (t : Nat) :
    (s.at t).reportWords = s.reportWords := (rfl)
@[simp] theorem State.valveBase_at (s : State) (t : Nat) (n : Nat) :
    (s.at t).valveBase n = s.valveBase n := (rfl)
@[simp] theorem State.valvePeriod_at (s : State) (t : Nat) (n : Nat) :
    (s.at t).valvePeriod n = s.valvePeriod n := (rfl)
@[simp] theorem State.valveFirst_at (s : State) (t : Nat) (n : Nat) :
    (s.at t).valveFirst n = s.valveFirst n := (rfl)
@[simp] theorem State.rampNext_at (s : State) (t : Nat) (n p : Nat) :
    (s.at t).rampNext n p = s.rampNext n p := (rfl)
@[simp] theorem State.dithLimit_at (s : State) (t : Nat) :
    (s.at t).dithLimit = s.dithLimit := (rfl)
@[simp] theorem State.valveValue_at (s : State) (t : Nat) (n : Nat) :
    (s.at t).valveValue n = s.valveValue n := (rfl)
@[simp] theorem State.valveTarget_at (s : State) (t : Nat) (n : Nat) :
    (s.at t).valveTarget n = s.valveTarget n := (rfl)
@[simp] theorem State.valveK12_at (s : State) (t : Nat) (n : Nat) :
    (s.at t).valveK12 n = s.valveK12 n := (rfl)
@[simp] theorem State.valveRetry_at (s : State) (t : Nat) :
    (s.at t).valveRetry = s.valveRetry := (rfl)
@[simp] theorem State.valveRmax_at (s : State) (t : Nat) :
    (s.at t).valveRmax = s.valveRmax := (rfl)
@[simp] theorem State.valve_at (s : State) (t : Nat) (n : Nat) :
    (s.at t).valve n = s.valve n := (rfl)
@[simp] theorem State.switch_at (s : State) (t : Nat) (n : Nat) :
    (s.at t).switch n = s.switch n := (rfl)
@[simp] theorem State.fin_at (s : State) (t : Nat) (n : Nat) :
    (s.at t).fin n = s.fin n := (rfl)
@[simp] theorem State.inLevel_at (s : State) (t : Nat) (i : Nat) :
    (s.at t).inLevel i = s.inLevel i := (rfl)
@[simp] theorem State.canCh_at (s : State) (t : Nat) (n : Nat) :
    (s.at t).canCh n = s.canCh n := (rfl)
@[simp] theorem State.derate_at (s : State) (t : Nat) (node : Nat) :
    (s.at t).derate node = s.derate node := (rfl)
@[simp] theorem State.withOffset_at (s : State) (t : Nat) (i : Nat) (x : Int) :
    (s.at t).withOffset i x = s.withOffset i x := (rfl)
@[simp] theorem State.nodeTemp_at (s : State) (t : Nat) (i : Nat) :
    (s.at t).nodeTemp i = s.nodeTemp i := (rfl)
@[simp] theorem State.groupOf_at (s : State) (t : Nat) (item : Nat) :
    (s.at t).groupOf item = s.groupOf item := (rfl)
@[simp] theorem State.holder_at (s : State) (t : Nat) (g : Nat) :
    (s.at t).holder g = s.holder g := (rfl)
@[simp] theorem State.limpHeld_at (s : State) (t : Nat) (g : Nat) :
    (s.at t).limpHeld g = s.limpHeld g := (rfl)
@[simp] theorem State.protected_at (s : State) (t : Nat) (n : Nat) :
    (s.at t).protected n = s.protected n := (rfl)
@[simp] theorem State.ringsIn_at (s : State) (t : Nat) (st : Nat) :
    (s.at t).ringsIn st = s.ringsIn st := (rfl)
@[simp] theorem State.geckoSum_at (s : State) (t : Nat) (first : Nat) :
    (s.at t).geckoSum first = s.geckoSum first := (rfl)
@[simp] theorem State.k12Get_at (s : State) (t : Nat) (a : Nat) :
    (s.at t).k12Get a = s.k12Get a := (rfl)
@[simp] theorem State.k12Answers_at (s : State) (t : Nat) :
    (s.at t).k12Answers = s.k12Answers := (rfl)
@[simp] theorem State.k12Runs_at (s : State) (t : Nat) :
    (s.at t).k12Runs = s.k12Runs := (rfl)
@[simp] theorem State.k12CanSt_at (s : State) (t : Nat) :
    (s.at t).k12CanSt = s.k12CanSt := (rfl)
@[simp] theorem State.k12Status_at (s : State) (t : Nat) :
    (s.at t).k12Status = s.k12Status := (rfl)
@[simp] theorem State.k12Attn_at (s : State) (t : Nat) :
    (s.at t).k12Attn = s.k12Attn := (rfl)
@[simp] theorem State.dmaState_at (s : State) (t : Nat) (n : Nat) :
    (s.at t).dmaState n = s.dmaState n := (rfl)
@[simp] theorem State.dmaReq_at (s : State) (t : Nat) (n : Nat) :
    (s.at t).dmaReq n = s.dmaReq n := (rfl)
@[simp] theorem State.dmaLineOn_at (s : State) (t : Nat) (q : Nat) :
    (s.at t).dmaLineOn q = s.dmaLineOn q := (rfl)
@[simp] theorem State.dmaRank_at (s : State) (t : Nat) (n : Nat) :
    (s.at t).dmaRank n = s.dmaRank n := (rfl)
@[simp] theorem State.dmaActive_at (s : State) (t : Nat) (n : Nat) :
    (s.at t).dmaActive n = s.dmaActive n := (rfl)
@[simp] theorem State.dmaBehind_at (s : State) (t : Nat) (n : Nat) :
    (s.at t).dmaBehind n = s.dmaBehind n := (rfl)
@[simp] theorem State.dmaWaits_at (s : State) (t : Nat) (n : Nat) :
    (s.at t).dmaWaits n = s.dmaWaits n := (rfl)
@[simp] theorem State.slotBound_at (s : State) (t : Nat) (m : Nat) :
    (s.at t).slotBound m = s.slotBound m := (rfl)
@[simp] theorem State.hslFrozen_at (s : State) (t : Nat) :
    (s.at t).hslFrozen = s.hslFrozen := (rfl)
@[simp] theorem State.hslStat_at (s : State) (t : Nat) (w : Word) :
    (s.at t).hslStat w = s.hslStat w := (rfl)
@[simp] theorem State.winLo_at (s : State) (t : Nat) (c : Nat) (x : VTrig) :
    (s.at t).winLo c x = s.winLo c x := (rfl)
@[simp] theorem State.winHi_at (s : State) (t : Nat) (c : Nat) (x : VTrig) :
    (s.at t).winHi c x = s.winHi c x := (rfl)
@[simp] theorem State.visBit_at (s : State) (t : Nat) (n : Nat) :
    (s.at t).visBit n = s.visBit n := (rfl)
@[simp] theorem State.lamp_at (s : State) (t : Nat) (n : Nat) :
    (s.at t).lamp n = s.lamp n := (rfl)
@[simp] theorem State.lampSeen_at (s : State) (t : Nat) (n : Nat) :
    (s.at t).lampSeen n = s.lampSeen n := (rfl)
@[simp] theorem State.visRuns_at (s : State) (t : Nat) :
    (s.at t).visRuns = s.visRuns := (rfl)
@[simp] theorem State.enc_at (s : State) (t : Nat) (e : Nat) :
    (s.at t).enc e = s.enc e := (rfl)
@[simp] theorem State.camW_at (s : State) (t : Nat) (c : Nat) :
    (s.at t).camW c = s.camW c := (rfl)
@[simp] theorem State.camH_at (s : State) (t : Nat) (c : Nat) :
    (s.at t).camH c = s.camH c := (rfl)
@[simp] theorem State.camRate_at (s : State) (t : Nat) (c : Nat) :
    (s.at t).camRate c = s.camRate c := (rfl)
@[simp] theorem State.camLoad_at (s : State) (t : Nat) (c rate : Nat) :
    (s.at t).camLoad c rate = s.camLoad c rate := (rfl)
@[simp] theorem State.camCfa_at (s : State) (t : Nat) (c : Nat) :
    (s.at t).camCfa c = s.camCfa c := (rfl)
@[simp] theorem State.camEarly_at (s : State) (t : Nat) (c : Nat) (x : VTrig) :
    (s.at t).camEarly c x = s.camEarly c x := (rfl)
@[simp] theorem State.winClash_at (s : State) (t : Nat) (c : Nat) (x : VTrig) :
    (s.at t).winClash c x = s.winClash c x := (rfl)
@[simp] theorem State.slot_at (s : State) (t : Nat) (m : Nat) :
    (s.at t).slot m = s.slot m := (rfl)
@[simp] theorem State.lampMatch_at (s : State) (t : Nat) (f : Nat) :
    (s.at t).lampMatch f = s.lampMatch f := (rfl)
@[simp] theorem State.frameStats_at (s : State) (t : Nat) (x : Corrected) (w h lines fs close : Nat) :
    (s.at t).frameStats x w h lines fs close = s.frameStats x w h lines fs close := (rfl)
@[simp] theorem State.linkOver_at (s : State) (t : Nat) (n : Nat) :
    (s.at t).linkOver n = s.linkOver n := (rfl)
@[simp] theorem State.alink_at (s : State) (t : Nat) (n : Nat) :
    (s.at t).alink n = s.alink n := (rfl)
@[simp] theorem State.camSum_at (s : State) (t : Nat) :
    (s.at t).camSum = s.camSum := (rfl)
@[simp] theorem State.camBad_at (s : State) (t : Nat) (c : Nat) (v : Word) :
    (s.at t).camBad c v = s.camBad c v := (rfl)
@[simp] theorem State.encBad_at (s : State) (t : Nat) (e : Nat) (v : Word) :
    (s.at t).encBad e v = s.encBad e v := (rfl)
@[simp] theorem State.encLoad_at (s : State) (t : Nat) (c : Nat) :
    (s.at t).encLoad c = s.encLoad c := (rfl)
@[simp] theorem State.hevcOf_at (s : State) (t : Nat) (e c : Nat) :
    (s.at t).hevcOf e c = s.hevcOf e c := (rfl)
@[simp] theorem State.accessUnit_at (s : State) (t : Nat) (e c : Nat) (idr : Bool) (nal : List Byte) :
    (s.at t).accessUnit e c idr nal = s.accessUnit e c idr nal := (rfl)
@[simp] theorem State.nextIdr_at (s : State) (t : Nat) (e : Nat) (i : VItem) :
    (s.at t).nextIdr e i = s.nextIdr e i := (rfl)
@[simp] theorem State.maskWidth_at (s : State) (t : Nat) (mask : Nat) :
    (s.at t).maskWidth mask = s.maskWidth mask := (rfl)
@[simp] theorem State.fixNow_at (s : State) (t : Nat) :
    (s.at t).fixNow = s.fixNow := (rfl)
@[simp] theorem State.delayNs_at (s : State) (t : Nat) :
    (s.at t).delayNs = s.delayNs := (rfl)

end Sys2Proof.Machine
end

