-- ==== Sys2Proof/WellFormed.lean ====
section
/-! DEFINITION. Which commands are well formed: operands within what the world outside can send. A meaning answers for
every command; the checks say which of them stand for something that can happen. -/

namespace Sys2Proof

/-- Six feeds, four thermistors at the base face and four at the power-stage areas (R447). -/
def Round.wf (x : Round) : Bool := x.feeds.length == 6 && x.base.length == 4 && x.areas.length == 4

/-- An external switch port, a 48-bit address and a 16-bit type. -/
def FrameSource.wf (x : FrameSource) : Bool :=
  decide (x.port < 7) && decide (x.mac < 2 ^ 48) && decide (x.ethertype < 2 ^ 16)

/-- A record of 256 bits (R178). -/
def CoreRec.wf : CoreRec → Bool
  | .same | .missing => true
  | .other ws => ws.length == 8

/-- A frame with an identifier of its format, at most 64 data bytes, in a classical frame at most 8. -/
def CanFrame.wf (x : CanFrame) : Bool :=
  decide (x.id < if x.ide then 2 ^ 29 else 2 ^ 11) && decide (x.dlc < 16)
    && decide (x.data.length ≤ if x.fdf then 64 else 8)

/-- A satellite of a constellation of GNS_CFG.con, at most 90° from the horizon. -/
def SatView.wf (x : SatView) : Bool := decide (x.con < 8) && decide (x.id < 64) && decide (x.elev.natAbs ≤ 90)

/-- Satellites, a place on the earth, an azimuth, a course and fix types of R328. -/
def GnssFix.wf (x : GnssFix) : Bool :=
  x.sky.all SatView.wf && decide (x.lat.natAbs ≤ 90 * 10 ^ 9) && decide (x.lon.natAbs ≤ 180 * 10 ^ 9)
    && (x.baseline.all fun b => decide (b.2.1 < 36000) && decide (b.2.2.1.natAbs ≤ 9000)) && decide (x.course < 36000)
    && decide (x.fix < 16) && decide (x.fall < 16)

/-- A signal by its number: constellation, satellite, antenna and band. -/
def signalOk (i : Nat) : Bool := decide (i < 8 * 256 * 4)

/-- Signals and constellations by number. -/
def GnssCheck.wf (x : GnssCheck) : Bool :=
  (x.iono.flatMap Prod.fst ++ x.code.map Prod.fst ++ x.cn0.map Prod.fst ++ x.fronts.flatMap Prod.fst).all signalOk
    && x.cons.all fun c => decide (c.1 < 8)

/-- Is a command well formed? -/
def Instr.wf : Instr → Bool
  | .loopEvaluation _ _ ecc => ecc.all fun h => h.region.val == 0
  | .registerWrite _ off _ => decide (off % 4 = 0) && decide (off < 2 ^ 24)
  | .unmappedBar0Access _ off => decide (off % 4 = 0) && decide (off < 2 ^ 24)
  | .bar2Read _ off len _ => decide (0 < len) && decide (len ≤ 4096) && decide (off < 2 ^ 28)
  | .bar2Write _ off bs _ => decide (0 < bs.length) && decide (bs.length ≤ 4096) && decide (off < 2 ^ 28)
  | .firstHousekeepingEnd _ x => x.wf
  | .housekeepingRound _ x => x.wf
  | .lineReadReturn _ _ slots => slots.length == 16
  | .descriptorArrival _ _ ws => ws.length == 16
  | .ethDoorbellFrame _ src _ image => src.wf && image.length == 16
  | .ethWriteFrame _ src _ _ => src.wf
  | .ethReadFrame _ src _ _ _ => src.wf
  | .commitVote _ c0 c1 c2 => c0.wf && c1.wf && c2.wf
  | .frameStart _ _ x => decide (x.fnum < 2 ^ 16)
  | .aphyLock _ _ gear => decide (1 ≤ gear) && decide (gear ≤ 5)
  | .accessUnitDone _ _ nal => !nal.isEmpty
  | .fixEpoch _ fix => fix.wf
  | .gnssCheckSecond _ chk => chk.wf
  | .exclusionExpiry _ con id => if con then decide (id < 8) else signalOk id
  | .canFrameReceived _ _ frame => frame.wf
  | .canError _ _ err => err.add == 0 || err.add == 1 || err.add == 8
  | .dmaDescriptorArrival _ _ ws _ _ => ws.length == 16
  | .axoData _ _ _ bs => decide (bs.length ≤ 2 ^ 24)
  | .k12CyclicCan _ frames => frames.all fun f => decide (f.2.1 < 2 ^ 29) && decide (f.2.2.length ≤ 8)
  | .sysBar2BaseWrite .. | .scrubPass .. | .loadWindowEnd .. | .powerGood .. | .outputsSafeHold .. | .dramTrained ..
  | .triadImageVerified .. | .triadRelease .. | .canCroakAlive .. | .pcieConfigReady .. | .settingsRead ..
  | .defaultSettingsWritten .. | .classAImagesLoaded .. | .authorityPossible .. | .networkPanelBStart ..
  | .gnssFirmwareRunning .. | .portAPowerOn .. | .visionFirmwareRunning .. | .modelsLoaded .. | .nativeReady ..
  | .bootFailTimer .. | .persSelWrite .. | .persSelStored .. | .pcieLinkTrained .. | .pcieNoLinkTimeout ..
  | .perstAssert .. | .functionLevelReset .. | .hostLinkLoss .. | .ethLinkChange .. | .wakeOn .. | .wakeOff ..
  | .stopCfgWrite .. | .stopDelayEnd .. | .stopFlushDone .. | .orderlyStopEnd .. | .sysRestartRestart ..
  | .sysRestartOff .. | .feedOutOfRange .. | .feedBackInRange .. | .feedRestartDelayEnd .. | .feedOvervoltExcursion ..
  | .logicFeedOvervoltage .. | .logicFeedOvRecover .. | .supplyOverload .. | .supplyRetry .. | .powerFailWarning ..
  | .internalPowerCycle .. | .doorbellLineRead .. | .nop .. | .completionWrite .. | .irqHoldoffEnd .. | .ringStart ..
  | .ringStop .. | .ringStopDiscard .. | .ringDrainEnd .. | .hostReadFailure .. | .completionFrameSend ..
  | .shaftEnable .. | .shaftDisable .. | .shaftEdge .. | .shaftStall .. | .wheelPulse .. | .wheelTimeout ..
  | .groundScaleUpdate .. | .groundCoast .. | .mtimeSnapshotRead .. | .eventRelease .. | .eventHandover ..
  | .nymWrite .. | .nymCommit .. | .nymRead .. | .nymDisarm .. | .tblWriteShadow .. | .tblWriteCommitArm ..
  | .tblWriteCommitNow .. | .tblReadShadow .. | .tblReadActive .. | .tblReadRunState .. | .tblDisarm ..
  | .loopTrigger .. | .catchupEvaluation .. | .loopHandover .. | .setTarget .. | .setTargets ..
  | .cleWrite .. | .cleCommit .. | .cleRead .. | .clearState .. | .poolWrite .. | .poolRead .. | .winWriteShadow ..
  | .winWriteCommit .. | .winReadShadow .. | .winReadActive .. | .winReadRunState .. | .winClearState ..
  | .poolDataAccess .. | .limpSafeStateApply .. | .leaseExpiry .. | .holdLimitEnd .. | .overrideActive ..
  | .overrideRearm .. | .setSp .. | .pathAppend .. | .pathClear .. | .grant .. | .release .. | .setState ..
  | .drive .. | .renew .. | .triGmapWrite .. | .valveEnable .. | .valveDisable .. | .valvePeriodEnd ..
  | .valveOfftimeEnd .. | .valveTrip .. | .valveRetryEnd .. | .valveRestartOk .. | .valveClrLatch ..
  | .valveOpenLoad .. | .valveHeadroom .. | .lswDisable .. | .lswPeriodEnd .. | .inrushEnd .. | .lswShortTrip ..
  | .lswOverloadTrip .. | .lswRetryEnd .. | .lswRestartOk .. | .lswClrLatch .. | .lswClrTherm ..
  | .protectedPhaseEnd .. | .lswOpenLoad .. | .ainPeriodicTrigger .. | .ainDeferredConversion ..
  | .ainConversionDone .. | .finEdge .. | .finDataUpdate .. | .dinSample .. | .lossSample .. | .lossExcFault ..
  | .mapBankSwap .. | .fuIssue .. | .lateSample .. | .collectorCommit .. | .historyEntry .. | .yieldFlashWrite ..
  | .headerLift .. | .delayMeasurementEnd .. | .rawFill .. | .receiveBufferTimeout .. | .fusedFill .. | .readMap ..
  | .yieldFill .. | .hslTriggerRelease .. | .hslStepEnd .. | .hslModeWrite .. | .hslWrite .. | .hslCommit ..
  | .hslRead .. | .setObj .. | .reportFill .. | .triggerMessageSend .. | .lineReceived .. | .pairingWindowClose ..
  | .frameEnd .. | .frameCloseTimeout .. | .aphyLockTimeout .. | .aphyRetry .. | .aphyLockLoss ..
  | .aphyOvercurrent .. | .cameraEnable .. | .encoderEnable .. | .displayBufferReady .. | .tensorReady ..
  | .inferenceRunDone .. | .inferenceTimeout .. | .setExposure .. | .exposureAccepted .. | .sensorXfer ..
  | .paramWrite .. | .paramRead .. | .loadModel .. | .unloadModel .. | .forceIdr .. | .frameRecordFill ..
  | .inferenceFill .. | .accessUnitFill .. | .antennaOpen .. | .antennaShort .. | .antennaRetry ..
  | .timeSecondBoundary .. | .gnssDisable .. | .rtcmIn .. | .snapshot .. | .snapshotDone .. | .pvtFill ..
  | .timeFill .. | .canEnable .. | .canDisable .. | .canTxOpportunity .. | .canFrameTransmitted ..
  | .canArbitrationLost .. | .canRecover .. | .canRecoveryDone .. | .canFlush .. | .canFill .. | .canSend ..
  | .switchFrameIngress .. | .gateIntervalEnd .. | .gclHandover .. | .gptpSyncSend .. | .pdelayMeasure ..
  | .announceReceived .. | .svcDetEdge .. | .netSend .. | .netFill .. | .gclWrite .. | .sfWrite .. | .unblock ..
  | .rpDataRead .. | .rpDataWrite .. | .modemMemoryRequest .. | .modemMsi .. | .modemLinkLoss .. | .modemLinkRetry ..
  | .dmaKick .. | .dmaNextWrite .. | .dmaDescriptorEnd .. | .dmaPause .. | .dmaPaused .. | .dmaResume .. | .dmaStop ..
  | .dmaReadError .. | .dmaRequestAssert .. | .dmaRequestWithdraw .. | .rect .. | .rectFetchDone ..
  | .portAFrameStart .. | .portBFrameStart .. | .waveformComplete .. | .hpdRise .. | .edpTrainingResult ..
  | .crackMeasure .. | .portAPowerOff .. | .railFault .. | .railHoldEnd .. | .epdPanelPoll .. | .storeCrcCheck ..
  | .storeFlashCopy .. | .finalImageCutoff .. | .faultPersisting .. | .croakToggle .. | .recorderFlushStart ..
  | .flushPeriodEnd .. | .flushEnd .. | .faultFill .. | .recRead .. | .flush .. | .mark .. | .snap .. | .challenge ..
  | .challengeExpiry .. | .clear .. | .modelUpdate .. | .deratingUpdate .. | .hwThermalShutdown .. | .coolingCheck ..
  | .updBegin .. | .updWrite .. | .finish .. | .abort .. | .copy .. | .activate .. | .report .. | .updReq ..
  | .axoHello .. | .axoBegin .. | .axoFinish .. | .axoActivate .. | .axoBoot .. | .axoCanSilenceReply ..
  | .k12PortWrite .. | .k12PortRead .. | .k12Latch .. | .k12InputRefresh .. | .k12PairRealign ..
  | .evWriteCommitArm .. | .evWriteCommitNow .. | .evRead .. | .evDisarm .. | .k12StatusClear .. | .k12HostTimeout ..
  | .k12HtoClear .. | .k12AddressClaim .. | .k12BusoffRecover .. | .tstUnlock .. | .tstLock .. | .tstJitWrite ..
  | .perturbEnd .. | .perstDeassert .. | .shaftIndexPulse .. | .overrideInactive .. | .slewEnd .. | .ppsPulseEnd ..
  | .addressAgeOut .. | .logicFeedLossWhileOff .. => true

end Sys2Proof
end

