-- ==== Sys2Proof/Tests/Slice0.lean ====
section
/-! SUPPORT. The model's own tests: ill-formed commands that WellFormed refuses, a few single steps with values taken from the
spec, and for every statement operands and states that meet its hypotheses. -/

namespace Sys2Proof.Tests
open Sys2Proof Sys2Proof.Machine

/-- A module that runs: rails up, every start-up stage passed, the host link up. -/
def live : State :=
  { State.reset with pow := { Power.init with
      on := true, passed := [15, 14, 13, 12, 11, 10, 9, 8, 7, 6, 5, 4, 3, 2, 1], linkUp := true, perst := false } }

/-- The same with the K12 personality. -/
def liveK12 : State := live.wr SYS_PERSONALITY SYS_PERSONALITY_k12 1

/-- A descriptor's words: the opcode, then parameter words 8 to 15. -/
def descWords (op len : Nat) (par : List Word) : List Word :=
  [word (op * 2 ^ 24), 0#32, 0#32, 0#32, word len, 0#32, 0#32, 0#32] ++ par

/-- A running ring 0 of function `func` of block `tgt`, with one descriptor read. -/
def ringed (s : State) (tgt func op len : Nat) (par : List Word) : State :=
  (((s.wr (RNG_CFG 0) RNG_CFG_target tgt).wr (RNG_CFG 0) RNG_CFG_func func).wr (RNG_CFG 0) RNG_CFG_state rsRunning).setRing 0
    { Ring.init with descs := [⟨0, descWords op len par, .read, false⟩] }

/-- That descriptor. -/
def ringedDesc (op len : Nat) (par : List Word) : RDesc := ⟨0, descWords op len par, .read, false⟩

/-! What WellFormed refuses, one ill-formed command for each check. -/

theorem test_refused_register_off_grid : (Instr.registerWrite 0 2 0#32).wf = false := by decide
theorem test_refused_register_beyond_bar0 : (Instr.registerWrite 0 0x1000000 0#32).wf = false := by decide
theorem test_refused_unmapped_off_grid : (Instr.unmappedBar0Access 0 1).wf = false := by decide
theorem test_refused_unmapped_beyond_bar0 : (Instr.unmappedBar0Access 0 0x1000000).wf = false := by decide
theorem test_refused_empty_window_read : (Instr.bar2Read 0 0 0 []).wf = false := by decide
theorem test_refused_long_window_read : (Instr.bar2Read 0 0 4097 []).wf = false := by decide
theorem test_refused_empty_window_write : (Instr.bar2Write 0 0 [] []).wf = false := by decide
theorem test_refused_long_window_write : (Instr.bar2Write 0 0 (List.replicate 4097 0#8) []).wf = false := by
  simp only [Instr.wf, List.length_replicate]; decide
theorem test_refused_round_with_five_feeds :
    (Instr.firstHousekeepingEnd 0 ⟨0, true, true, 0, List.replicate 5 (0, 0, 0), [0, 0, 0, 0], [0, 0, 0, 0], 0⟩).wf = false ∧
      (Instr.housekeepingRound 0 ⟨0, true, true, 0, List.replicate 5 (0, 0, 0), [0, 0, 0, 0], [0, 0, 0, 0], 0⟩).wf = false := by
  decide
theorem test_refused_round_with_three_base_sensors :
    (Instr.housekeepingRound 0 ⟨0, true, true, 0, List.replicate 6 (0, 0, 0), [0, 0, 0], [0, 0, 0, 0], 0⟩).wf = false := by decide
theorem test_refused_round_with_three_areas :
    (Instr.housekeepingRound 0 ⟨0, true, true, 0, List.replicate 6 (0, 0, 0), [0, 0, 0, 0], [0, 0, 0], 0⟩).wf = false := by decide
theorem test_refused_short_doorbell_line : (Instr.lineReadReturn 0 0 [0#32]).wf = false := by decide
theorem test_refused_short_descriptor : (Instr.descriptorArrival 0 0 [0#32]).wf = false := by decide
theorem test_refused_port_seven : (Instr.ethWriteFrame 0 ⟨7, 0, 0, 0#32, 0#32⟩ 0 []).wf = false ∧ (Instr.ethReadFrame 0 ⟨7, 0, 0, 0#32, 0#32⟩ 0#32 0#32 0).wf = false := by
  decide
theorem test_refused_wide_address : (Instr.ethWriteFrame 0 ⟨0, 2 ^ 48, 0, 0#32, 0#32⟩ 0 []).wf = false ∧
    (Instr.ethWriteFrame 0 ⟨0, 0, 2 ^ 16, 0#32, 0#32⟩ 0 []).wf = false := by decide
theorem test_refused_short_doorbell_image :
    (Instr.ethDoorbellFrame 0 ⟨0, 0, 0, 0#32, 0#32⟩ 0 []).wf = false ∧
      (Instr.ethDoorbellFrame 0 ⟨7, 0, 0, 0#32, 0#32⟩ 0 (List.replicate 16 0#32)).wf = false := by decide
theorem test_refused_short_record :
    (Instr.commitVote 0 (.other []) .same .same).wf = false ∧ (Instr.commitVote 0 .same (.other []) .same).wf = false ∧
      (Instr.commitVote 0 .same .same (.other [])).wf = false := by decide
theorem test_refused_wide_frame_number : (Instr.frameStart 0 0 ⟨65536, []⟩).wf = false := by decide
theorem test_refused_gears : (Instr.aphyLock 0 0 0).wf = false ∧ (Instr.aphyLock 0 0 6).wf = false := by decide
theorem test_refused_empty_access_unit : (Instr.accessUnitDone 0 0 []).wf = false := by decide
theorem test_refused_signal_and_constellation :
    (Instr.gnssCheckSecond 0 ⟨[([8192], 0, 0)], [], [], [], [], false, 0, 0⟩).wf = false ∧
      (Instr.gnssCheckSecond 0 ⟨[], [(8192, 0)], [], [], [], false, 0, 0⟩).wf = false ∧
      (Instr.gnssCheckSecond 0 ⟨[], [], [(8192, 0)], [], [], false, 0, 0⟩).wf = false ∧
      (Instr.gnssCheckSecond 0 ⟨[], [], [], [([8192], 0, 0, 0)], [], false, 0, 0⟩).wf = false ∧
      (Instr.gnssCheckSecond 0 ⟨[], [], [], [], [(8, 0, 0)], false, 0, 0⟩).wf = false ∧
      (Instr.exclusionExpiry 0 true 8).wf = false ∧ (Instr.exclusionExpiry 0 false 8192).wf = false := by decide
theorem test_refused_fix :
    let x : GnssFix := ⟨[], 0, 0, 0, 0, 0, 0, 0, none, 0, 0, 0, false, 0, 0, 0, 0, none, 0, 0⟩
    (Instr.fixEpoch 0 { x with lat := 91000000000 }).wf = false ∧ (Instr.fixEpoch 0 { x with lon := -181000000000 }).wf = false ∧
      (Instr.fixEpoch 0 { x with baseline := some (0, 36000, 0, 0) }).wf = false ∧
      (Instr.fixEpoch 0 { x with baseline := some (0, 0, -9001, 0) }).wf = false ∧
      (Instr.fixEpoch 0 { x with course := 36000 }).wf = false ∧ (Instr.fixEpoch 0 { x with fix := 16 }).wf = false ∧
      (Instr.fixEpoch 0 { x with fall := 16 }).wf = false ∧
      (Instr.fixEpoch 0 { x with sky := [⟨8, 0, 0, (true, true), (false, false), true, (0, 0), (0, 0), (0, 0)⟩] }).wf = false ∧
      (Instr.fixEpoch 0 { x with sky := [⟨0, 64, 0, (true, true), (false, false), true, (0, 0), (0, 0), (0, 0)⟩] }).wf = false ∧
      (Instr.fixEpoch 0 { x with sky := [⟨0, 0, 91, (true, true), (false, false), true, (0, 0), (0, 0), (0, 0)⟩] }).wf = false ∧
      (Instr.fixEpoch 0 x).wf = true := by
  decide
theorem test_refused_loop_error : (Instr.loopEvaluation 0 0 [⟨3, 0, 0, 0, true⟩]).wf = false := by decide
theorem test_refused_window_end :
    (Instr.bar2Read 0 0x10000000 1 []).wf = false ∧ (Instr.bar2Write 0 0x10000000 [0#8] []).wf = false := by decide
theorem test_refused_can_frames :
    (Instr.canFrameReceived 0 0 ⟨false, false, false, false, false, 2 ^ 11, 0, [], 0⟩).wf = false ∧
      (Instr.canFrameReceived 0 0 ⟨true, false, false, false, false, 2 ^ 29, 0, [], 0⟩).wf = false ∧
      (Instr.canFrameReceived 0 0 ⟨true, false, false, false, false, 0, 16, [], 0⟩).wf = false ∧
      (Instr.canFrameReceived 0 0 ⟨true, false, false, false, false, 0, 8, List.replicate 9 0#8, 0⟩).wf = false := by decide
theorem test_refused_error_step : (Instr.canError 0 0 ⟨false, 3, false⟩).wf = false := by decide
theorem test_refused_short_dma_descriptor : (Instr.dmaDescriptorArrival 0 0 [] [] []).wf = false := by decide
theorem test_refused_long_recovery_data (via : AxoVia) (bs : List Byte) (h : bs.length = 2 ^ 24 + 1) :
    (Instr.axoData 0 via 0 bs).wf = false := by simp [Instr.wf, h]
theorem test_refused_k12_frames :
    (Instr.k12CyclicCan 0 [(0, 2 ^ 29, [])]).wf = false ∧
      (Instr.k12CyclicCan 0 [(0, 0, List.replicate 9 0#8)]).wf = false := by decide
theorem test_accepted_register_write : (Instr.registerWrite 0 0xFFFFFC 0#32).wf = true := by decide

/-! The state after reset, and values the specification works out. -/

theorem test_reset_memory_form : Memory.wf State.reset.mem := by decide
theorem test_reset_register_form : Registers.wf State.reset.regs := by decide
theorem test_reset_queue_is_empty : State.reset.pending = [] := by decide

/-- Chapter 5's worked example: entry 100's word 0 and period. -/
theorem test_event_word_fields :
    let e := [0x21640014#32, 0x00400000#32, 0#32, 0x01000000#32, 0#32]
    evDom e = 2 ∧ evAction e = 1 ∧ evDir e = 1 ∧ evNext e = true ∧ evRebase e = false ∧ evRepeat e = repPeriodic ∧
      evTag e = 0x14 ∧ evPeriod e = 0x1000000 := by decide

/-- Chapter 21's worked example: 1,200 mA is code 4,915. -/
theorem test_k12_current_code : k12Code 1200 = 4915 := by decide

/-- Chapter 4's worked example: the doorbell word of ring 0 after slot 3 of its second pass, and its poll interval. -/
theorem test_doorbell_word_of_the_example :
    let s := (((State.reset.setReg (RNG_CFG 0) 0x04004000#32).wr (RNG_CFG 0) RNG_CFG_size_log2 8).wr (RNG_CFG 0) RNG_CFG_state
      rsRunning).setPtr (RNG_HEAD 0) 8 0x104
    s.cdbWord 0 = 0x00030004#32 := by decide

/-- `n` words of 0. -/
def zeros (n : Nat) : List Word := List.replicate n 0#32

/-- Chapter 6's worked example: one evaluation of loop 13 at hold gives code 2,816. The example takes the compensation at r, 16 mm, so comp_src
is 1 here; with its word 0, which has comp_src 0, the coordinate is that of y. -/
theorem test_loop_evaluation_of_the_example :
    (lawStep ([0x90ACD400#32, 0x0000030A#32, 0x2A800000#32, 0x01C00000#32, 0x00147AE1#32, 0x00000D1B#32] ++ zeros 3 ++
        [0x00051EB8#32] ++ zeros 2 ++ [0x004CCCCD#32] ++ zeros 1 ++ [0x01CCCCCD#32, 0x10000000#32] ++ zeros 1 ++
        [0x00040000#32, 0x00140000#32, 0x01900000#32, 0x06000000#32, 0x28000000#32, 0x00024112#32, 0x00024100#32] ++
        [0x06000000#32, 0x00008000#32, 0x000CCCCD#32] ++ zeros 5)
      (fun i => if i = 261 then 11307844 else 0) ⟨⟨16 * 2 ^ 48, 0, 0⟩, 201327, 0, 0, false, false, false⟩
      268099912 (16 * 2 ^ 24) true (0, 16383) 0).code = 2816 := by decide

/-- Chapter 14's worked example: the diagnostic frame's arbitration field is the lower one. -/
theorem test_arbitration_of_the_example :
    let q : TxFrame := ⟨false, false, true, 0x0C001E27, 8, [], none, none, false⟩
    let f : TxFrame := ⟨false, false, true, 0x0CFE2A27, 8, [], some (4, 4), none, false⟩
    q.arb < f.arb := by decide

/-- The check value of CRC-32, of the nine digits (log entry 136). -/
theorem test_crc_check_value :
    crc32 [0x31#8, 0x32#8, 0x33#8, 0x34#8, 0x35#8, 0x36#8, 0x37#8, 0x38#8, 0x39#8] = 0xCBF43926 := by
  simp [crc32, crc32Byte, crc32Bit]

/-- Chapter 19's worked example: band TB7 caps every channel at 0.75 (960 of 1,280). -/
theorem test_band_seven_factor : derateBand 7 * 4 = 1280 * 3 := by decide

/-! Single steps. -/

/-- A step takes the front command and leaves the rest (a BAR2 base write, R28). -/
theorem test_step_base_write :
    (match step { live with pending := [.sysBar2BaseWrite 7 0x80000001#32, .sysBar2BaseWrite 9 0#32] } with
      | .next u => decide (u.reg SYS_BAR2_BASE = 0x80000001#32 ∧ u.cyc = 7 ∧ u.pending = [.sysBar2BaseWrite 9 0#32])
      | _ => false) = true := by decide

/-- With no command waiting a cycle passes. -/
theorem test_step_idle : (match step live with | .next u => decide (u = { live with cyc := 1 }) | _ => false) = true := by decide

/-- A register write off the 32-bit grid stops by name (R6). -/
theorem test_step_off_grid : 
    (match step { live with pending := [.registerWrite 0 2 0#32] } with | .fault f => f == .registerAccess | _ => false) = true := by
  decide

/-- A NOP of a ring whose target takes no ring operations is no opcode there (R98). -/
theorem test_nop_without_service : (ringed live 1 0 0 0 []).ringLayer 0 (ringedDesc 0 0 []) = some stBadOpcode := by decide

/-- A NOP of a running ring completes DONE (R96). -/
theorem test_step_nop :
    (match step { ringed live 0xD 0 0 0 [] with pending := [.nop 5 0] } with
      | .next u => decide (((u.ring 0).descs.map RDesc.st) = [.ended 0 0 0])
      | _ => false) = true := by decide

/-! What meets the hypotheses of each statement, clause by clause. -/

set_option maxRecDepth 100000
set_option linter.unusedVariables false

theorem test_HostAccessAndWindowCommands_hypotheses :
    (∃ (t off : Nat) (v : Word) (s : State) (row : RegRow), (off % 4 = 0) ∧ (regRow off = some row) ∧ (off / 0x10000 = 0x10 ∨ off / 0x10000 = 0x14) ∧ (s.readyReg off = true) ∧ (maskBits v row.res = 0#32)) ∧
    (∃ (t off : Nat) (s : State), (off % 4 = 0) ∧ (off < 0x400000) ∧ (regRow off = none) ∧ (s.readyReg 0 = true)) ∧
    (∃ (t : Nat) (v : Word) (s : State), (s.readyReg SYS_BAR2_BASE = true) ∧ (bits v 22 15 = 0)) ∧
    (∃ (t off len : Nat) (s : State), (off < bar2Top) ∧ (bar2Bad off len = false) ∧ (s.readyReg 0 = true) ∧ (s.bit SYS_BAR2_BASE SYS_BAR2_BASE_win_en = true) ∧ (∀ i < len, s.bar2Addr off i < sharedTop) ∧ (∀ i < len, s.poisoned (s.bar2Addr off i) 1 = false) ∧ (∀ i < len, s.mirrorHit (s.bar2Addr off i) 1 = false)) ∧
    (∃ (t off : Nat) (bs : List Byte) (s : State), (off < bar2Top) ∧ (bar2Bad off bs.length = false) ∧ (s.readyReg 0 = true) ∧ (s.bit SYS_BAR2_BASE SYS_BAR2_BASE_win_en = true) ∧ (∀ i < bs.length, s.bar2Addr off i < sharedTop) ∧ (∀ i < bs.length, inAreas (s.at t).moduleAreas (s.bar2Addr off i) = false) ∧ (∀ i < bs.length, s.poisoned (s.bar2Addr off i) 1 = false)) ∧
    (∃ (t : Nat) (h : EccHit) (s : State), (h.correctable = true) ∧ (h.region.val ≠ 7)) :=
  ⟨⟨0, 0x100008, 0#32, live, (regRow 0x100008).getD ⟨0,0,0,0,0,0,0,0,0⟩, by decide⟩,
    ⟨0, 0x3FFFFC, live, by decide⟩,
    ⟨0, 0x80000001#32, live, by decide⟩,
    ⟨0, 0, 64, live.setReg SYS_BAR2_BASE 0x80000000#32, by decide⟩,
    ⟨0, 0, [1#8], live.setReg SYS_BAR2_BASE 0x80000000#32, by decide⟩,
    ⟨0, ⟨0, 0, 0, 0, true⟩, live, by decide⟩⟩

theorem test_StartStagesReleaseAndLoad_hypotheses :
    (∃ (t c : Nat) (strap : Fin 3) (s : State), (s.pow.on = false) ∧ (s.pow.wake = true) ∧ (s.pow.cause (s.at t).cyc = some c)) ∧
    (∃ (t : Nat) (s : State), (s.pow.on = true) ∧ (s.passed 11 = false) ∧ (s.pow.bfailCounted = false) ∧ (s.pow.t0 + sec 1 ≤ (s.at t).cyc)) ∧
    (∃ (t : Nat) (s : State), (s.mayStage 2 = true)) ∧
    (∃ (t : Nat) (x : Round) (s : State), (s.mayStage 3 = true)) ∧
    (∃ (t : Nat) (s : State), (s.mayStage 4 = true)) ∧
    (∃ (t : Nat) (okA okB : Bool) (s : State), (s.mayStage 5 = true) ∧ (s.kept.boot.next ≤ 1) ∧ (s.imageGood s.kept.boot.next 1 0 (if s.kept.boot.next = 0 then okA else okB) = true)) ∧
    (∃ (t : Nat) (s : State), (s.mayStage 6 = true)) ∧
    (∃ (t : Nat) (s : State), (s.mayStage 7 = true)) ∧
    (∃ (t : Nat) (s : State), (s.mayStage 8 = true)) :=
  ⟨⟨0, 0, 0, { State.reset with pow := { Power.init with wake := true } }, by decide⟩,
    ⟨200000000, { State.reset with pow := { Power.init with on := true, passed := [1] } }, by decide⟩,
    ⟨0, { State.reset with pow := { Power.init with on := true, passed := [1] } }, by decide⟩,
    ⟨0, ⟨0, true, true, 0, [], [], [], 0⟩, { State.reset with pow := { Power.init with on := true, passed := [2, 1] } }, by decide⟩,
    ⟨0, { State.reset with pow := { Power.init with on := true, passed := [3, 2, 1] } }, by decide⟩,
    ⟨0, true, true, { State.reset with pow := { Power.init with on := true, passed := [4, 3, 2, 1] } }, by decide⟩,
    ⟨0, { State.reset with pow := { Power.init with on := true, passed := [5, 4, 3, 2, 1] } }, by decide⟩,
    ⟨0, { State.reset with pow := { Power.init with on := true, passed := [6, 5, 4, 3, 2, 1] } }, by decide⟩,
    ⟨0, { State.reset with pow := { Power.init with on := true, passed := [4, 3, 2, 1] } }, by decide⟩⟩

theorem test_StartStagesSettingsToNative_hypotheses :
    (∃ (t : Nat) (ok image : Bool) (s x y : State), (s.mayStage 9 = true) ∧ (x = (if ok || ((s.img 0 9 0).valid && s.imageGood 0 9 0 image) then ((s.at t).useSettings image).storeVersion
        else ((s.at t).useSettings image).storeDefaults)) ∧ (y = ((x.pass 9).started SYS_START_settings_ok).wr SYS_PERSONALITY SYS_PERSONALITY_pers_sel
        (if x.bit SYS_START SYS_START_defaults then 0 else x.kept.pers)) ∧ (y.loads 9 = true)) ∧
    (∃ (t : Nat) (s : State), (s.pow.defaultsDue = true) ∧ (s.pow.persHost = false)) ∧
    (∃ (t : Nat) (bad : List (Fin 12)) (s x z w : State), (s.mayStage 10 = true) ∧ (x = ((((s.at t).classA bad).guarSet SYS_GUAR_reload SYS_GUAR_reload_seen false).pass 10).recStart) ∧ (x.loads 10 = true) ∧ ((x.loadedAt 10).loadedBad = none) ∧ (z = ((x.loadedAt 10).loadKept x.kept.setRegs).loopsStart) ∧ (w = (if z.isK12 then z.k12Claim else z))) ∧
    (∃ (t : Nat) (s : State), (s.mayStage 11 = true)) ∧
    (∃ (t : Nat) (present : Bool) (temp : Option Int) (waves copyOk mapOk : Bool) (s x : State), (s.mayStage 12 = true) ∧ (x = ((s.at t).onceImage 11 waves).pass 12) ∧ (x.loads 12 = true)) ∧
    (∃ (t : Nat) (s x : State), (s.mayStage 13 = true) ∧ (s.imageGood s.actSlot 6 0 true = true) ∧ (x = ((s.at t).pass 13).setGns { s.gns with eph := s.kept.eph, lastPos := s.kept.lastPos }) ∧ (x.loads 13 = true)) ∧
    (∃ (t : Nat) (umap : Bool) (s x : State), (s.mayStage 14 = true) ∧ (x = ((s.at t).onceImage 10 umap).pass 14) ∧ (x.loads 14 = true)) ∧
    (∃ (t : Nat) (s x : State), (s.mayStage 15 = true) ∧ (s.imageGood s.actSlot 7 0 true = true) ∧ (x = (s.at t).pass 15) ∧ (x.loads 15 = true)) ∧
    (∃ (t : Nat) (named bad : List (Fin 8)) (s : State), (s.mayStage 16 = true)) ∧
    (∃ (t : Nat) (s : State), (s.mayStage 17 = true) ∧ (s.pow.modelFail = false)) ∧
    (∃ (t v : Nat) (s : State), (s.pow.persWrite = some v)) :=
  ⟨⟨0, true, true, { State.reset with pow := { Power.init with on := true, passed := [8, 7, 6, 5, 4, 3, 2, 1] } }, _, _, by decide, rfl, rfl, rfl⟩,
    ⟨0, { live with pow := { live.pow with defaultsDue := true } }, by decide⟩,
    ⟨0, [], { State.reset with pow := { Power.init with on := true, passed := [9, 8, 7, 6, 5, 4, 3, 2, 1] } }, _, _, _, by decide, rfl, rfl, by decide, rfl, rfl⟩,
    ⟨0, { State.reset with pow := { Power.init with on := true, passed := [10, 9, 8, 7, 6, 5, 4, 3, 2, 1] } }, by decide⟩,
    ⟨0, true, none, true, true, true, { State.reset with pow := { Power.init with on := true, passed := [11, 10, 9, 8, 7, 6, 5, 4, 3, 2, 1] } }, _, by decide, rfl, rfl⟩,
    ⟨0, { State.reset with pow := { Power.init with on := true, passed := [12, 11, 10, 9, 8, 7, 6, 5, 4, 3, 2, 1] } }, _, by decide, by decide, rfl, rfl⟩,
    ⟨0, true, { State.reset with pow := { Power.init with on := true, passed := [12, 11, 10, 9, 8, 7, 6, 5, 4, 3, 2, 1] } }, _, by decide, rfl, rfl⟩,
    ⟨0, { State.reset with pow := { Power.init with on := true, passed := [13, 12, 11, 10, 9, 8, 7, 6, 5, 4, 3, 2, 1] } }, _, by decide, by decide, rfl, rfl⟩,
    ⟨0, [], [], { State.reset with pow := { Power.init with on := true, passed := [15, 13, 12, 11, 10, 9, 8, 7, 6, 5, 4, 3, 2, 1] } }, by decide⟩,
    ⟨0, { State.reset with pow := { Power.init with on := true, passed := [16, 13, 12, 11, 10, 9, 8, 7, 6, 5, 4, 3, 2, 1] } }, by decide⟩,
    ⟨0, 2, { live with pow := { live.pow with persWrite := some 2 } }, by decide⟩⟩

theorem test_WakeAndOrderlyStopCommands_hypotheses :
    (∃ (t : Nat) (s : State), (s.pow.wake = false) ∧ (s.pow.wakeOffAt = none)) ∧
    (∃ (t c : Nat) (s : State), (s.pow.wake = false) ∧ (s.pow.wakeOffAt = some c)) ∧
    (∃ (t : Nat) (s : State), (s.pow.wake = true)) ∧
    (∃ (t : Nat) (v : Word) (s : State), (s.readyReg SYS_STOP_CFG = true) ∧ (reservedOf SYS_STOP_CFG v = 0#32)) ∧
    (∃ (t : Nat) (s : State), ((s.at t).stopDue = true)) ∧
    (∃ (t : Nat) (s : State), (s.readyReg SYS_RESTART = true) ∧ (s.pow.axo = false) ∧ (s.pow.holdUp = none) ∧ (s.pow.stop = none)) ∧
    (∃ (t : Nat) (s : State), (s.readyReg SYS_RESTART = true) ∧ (s.pow.axo = false) ∧ (s.pow.holdUp = none) ∧ (s.pow.stop = none)) ∧
    (∃ (t : Nat) (v : Word) (s : State), (s.readyReg UPD_REQ = true) ∧ (reservedOf UPD_REQ v = 0#32) ∧ (UPD_REQ_key.get v = 0xC35A) ∧ (s.mayStop = true)) ∧
    (∃ (t : Nat) (s : State) (x : StopRun), (s.pow.stop = some x) ∧ (x.flushed = false)) ∧
    (∃ (t : Nat) (s : State) (x : StopRun), (s.pow.stop = some x) ∧ (x.flushed = true)) ∧
    (∃ (t : Nat) (v : Word) (s : State), (s.readyReg SYS_PERSONALITY = true) ∧ (reservedOf SYS_PERSONALITY v = 0#32) ∧ (SYS_PERSONALITY_pers_sel.get v ≠ 3)) :=
  ⟨⟨0, State.reset, by decide⟩,
    ⟨0, 0, { State.reset with pow := { Power.init with wakeOffAt := some 0 } }, by decide⟩,
    ⟨0, { State.reset with pow := { Power.init with wake := true } }, by decide⟩,
    ⟨0, 0#32, live, by decide⟩,
    ⟨720000000000, { live with pow := { live.pow with wakeOffAt := some 0 } }, by decide⟩,
    ⟨0, live, by decide⟩,
    ⟨0, live, by decide⟩,
    ⟨0, 0xC35A0000#32, live, by decide⟩,
    ⟨0, { live with pow := { live.pow with stop := some ⟨0, .wake, .wake, false, false, false, false⟩ } }, ⟨0, .wake, .wake, false, false, false, false⟩, by decide⟩,
    ⟨0, { live with pow := { live.pow with stop := some ⟨0, .wake, .wake, false, false, true, true⟩ } }, ⟨0, .wake, .wake, false, false, true, true⟩, by decide⟩,
    ⟨0, 2#32, live, by decide⟩⟩

theorem test_SupplyAndHostLinkCommands_hypotheses :
    (∃ (t : Nat) (n : Fin 6) (under : Bool) (s : State), (s.pow.on = true) ∧ ((s.feed n).out = false)) ∧
    (∃ (t : Nat) (n : Fin 6) (s : State), (s.pow.on = true) ∧ ((s.feed n).out = true)) ∧
    (∃ (t c : Nat) (n : Fin 6) (s : State), ((s.feed n).backAt = some c) ∧ (c + ms 1 ≤ max s.cyc t) ∧ (s.pow.lfOver = false)) ∧
    (∃ (t : Nat) (n : Fin 6) (s : State), (s.pow.on = true) ∧ (((s.feed n).out && !(s.feed n).under) = false)) ∧
    (∃ (t : Nat) (s : State), (s.pow.on = true) ∧ (s.pow.lfOver = false)) ∧
    (∃ (t : Nat) (s : State), (s.pow.lfOver = true)) ∧
    (∃ (t : Nat) (n : Fin 8) (s : State), (s.pow.on = true) ∧ (s.pow.axo = false) ∧ (s.pow.holdUp = none) ∧ (s.rd SNS_SUP SNS_SUP_en / 2 ^ n.val % 2 = 1) ∧ (s.rd SNS_SUP SNS_SUP_off / 2 ^ n.val % 2 = 0)) ∧
    (∃ (t : Nat) (n : Fin 8) (s : State), (cellGet (fun _ => 0) s.pow.supRetry n ≠ 0) ∧ (cellGet (fun _ => 0) s.pow.supRetry n ≤ max s.cyc t)) ∧
    (∃ (t : Nat) (x : Round) (s : State), (s.passed 3 = true) ∧ (s.thm.roundAt + ms 10 ≤ max s.cyc t)) ∧
    (∃ (t draw : Nat) (low : Bool) (s : State), (s.pow.on = true) ∧ (s.pow.holdUp = none)) ∧
    (∃ (t stored : Nat) (lf : Bool) (s : State) (c : Nat), (s.pow.holdUp = some c)) ∧
    (∃ (t : Nat) (x : HwReading) (low : Bool) (s : State), (s.pow.on = true) ∧ (s.pow.hwShut = false) ∧ (s.hwEnabled = true) ∧ (s.pow.holdUp = none)) ∧
    (∃ (t : Nat) (temp : Int) (s : State), (s.pow.on = false) ∧ (s.pow.wait = .cooling) ∧ (s.thm.coolAt + sec 1 ≤ max s.cyc t)) ∧
    (∃ (t : Nat) (s : State), (s.pow.on = false)) ∧
    (∃ (t : Nat) (gen : Fin 4) (width : Fin 3) (s : State), (s.passed 8 = true) ∧ (s.pow.perst = false) ∧ (s.pow.linkUp = false)) ∧
    (∃ (t c : Nat) (s : State), (s.pow.noLinkAt = some c) ∧ (c ≤ max s.cyc t)) ∧
    (∃ (t : Nat) (s : State), (s.pow.on = true)) ∧
    (∃ (t : Nat) (s : State), (s.pow.perst = true)) ∧
    (∃ (t : Nat) (s : State), (s.pow.linkUp = true)) ∧
    (∃ (t : Nat) (s : State), (s.pow.linkUp = true)) ∧
    (∃ (t : Nat) (k : Fin 7) (up : Bool) (s : State), (s.netRuns = true) ∧ (s.netEn k = true) ∧ (s.pow.holdUp = none)) :=
  ⟨⟨0, 0, true, live, by decide⟩,
    ⟨0, 5, (live.setFeed 5 ⟨true, true, none, false, false⟩), by decide⟩,
    ⟨200000, 0, 0, (live.setFeed 0 ⟨false, true, some 0, false, false⟩), by decide⟩,
    ⟨0, 0, live, by decide⟩,
    ⟨0, live, by decide⟩,
    ⟨0, { live with pow := { live.pow with lfOver := true } }, by decide⟩,
    ⟨0, 7, live.wr SNS_SUP SNS_SUP_en 255, by decide⟩,
    ⟨200000000, 0, { live with pow := { live.pow with supRetry := [(0, 200000000)] } }, by decide⟩,
    ⟨2000000, ⟨0, true, true, 0, [], [], [], 0⟩, live, by decide⟩,
    ⟨0, 0, true, live, by decide⟩,
    ⟨0, 0, true, { live with pow := { live.pow with holdUp := some 0 } }, 0, by decide⟩,
    ⟨0, ⟨1600, 0⟩, true, { live with thm := { live.thm with shut := 0xC0000000#32 } }, by decide⟩,
    ⟨200000000, 0, { State.reset with pow := { Power.init with wait := .cooling } }, by decide⟩,
    ⟨0, State.reset, by decide⟩,
    ⟨0, 3, 2, { live with pow := { live.pow with linkUp := false } }, by decide⟩,
    ⟨5, 5, { live with pow := { live.pow with noLinkAt := some 5 } }, by decide⟩,
    ⟨0, live, by decide⟩,
    ⟨0, State.reset, by decide⟩,
    ⟨0, live, by decide⟩,
    ⟨0, live, by decide⟩,
    ⟨0, 6, true, live.wr (NET_PORT 6) NET_PORT_en 1, by decide⟩⟩

theorem test_DoorbellDescriptorAndCompletionCommands_hypotheses :
    (∃ (t n : Nat) (m : Fin 4) (s : State), (s.lineUs m = some n)) ∧
    (∃ (t : Nat) (m : Fin 4) (slots : List Word) (s : State), (s.lineOut m ≠ 0) ∧ (((s.lineRings m false).any fun r => s.tailBad r (wAt slots (s.rd (RNG_CFG r) RNG_CFG_slot))) = false)) ∧
    (∃ (t : Nat) (r : Fin 64) (ws : List Word) (s : State) (d : RDesc), (s.ringState r = rsRunning) ∧ (s.ringAwait r ≠ 0) ∧ ((s.at t).ringStalled r = false) ∧ (s.ringEth r = false) ∧ (descBad ((List.range 16).map (wAt ws)) = false) ∧ (opMisuse (s.ringTgt r) (s.ringFunc r) (s.rd (RNG_CFG r) RNG_CFG_dir) (bits (wAt ws 0) 31 24) = none) ∧ (d = ⟨(s.ringHead r + (s.ring r).descs.length) % 2 ^ s.ringLog r + 2 ^ 16 * (s.ring r).epoch, (List.range 16).map (wAt ws), .read, false⟩)) ∧
    (∃ (t : Nat) (r : Fin 64) (s : State) (d : RDesc), (s.opFor r (s.ringTgt r) (s.ringFunc r) 0 = some d)) ∧
    (∃ (t : Nat) (r : Fin 64) (s : State), ((((s.at t).settleRing r).ring r).descs.takeWhile RDesc.done ≠ []) ∧ (((s.at t).settleRing r).ringStalled r = false) ∧ (((s.at t).settleRing r).ringState r = rsRunning ∨ ((s.at t).settleRing r).ringState r = rsDraining)) ∧
    (∃ (t : Nat) (r : Fin 64) (s : State), ((s.ring r).irqDue = true) ∧ ((s.ring r).irqFree ≤ max s.cyc t) ∧ (s.ringState r ≠ rsHalted)) ∧
    (∃ (t : Nat) (src : FrameSource) (m : Fin 4) (image ws : List Word) (s : State), (s.takesFrame src 1 68 = true) ∧ (frameBytes src = 68) ∧ (ws = (List.range 16).map (wAt image)) ∧ (((s.lineRings m true).any fun r => s.tailBad r (wAt ws (s.rd (RNG_CFG r) RNG_CFG_slot))) = false)) ∧
    (∃ (t addr n : Nat) (src : FrameSource) (bs : List Byte) (s : State), (s.takesFrame src 2 (8 + bs.length) = true) ∧ (n = frameBytes src - 8) ∧ (1 ≤ n) ∧ (n ≤ 1024) ∧ (addr + n ≤ sharedTop) ∧ (((s.at t).moduleAreas.any fun x => decide (addr < x.1 + x.2) && decide (x.1 < addr + n)) = false) ∧ (s.poisoned addr n = false)) ∧
    (∃ (t addr len : Nat) (src : FrameSource) (lo hi : Word) (s : State), (addr = u64 lo hi) ∧ (s.takesFrame src 3 12 = true) ∧ (frameBytes src = 12) ∧ (1 ≤ len) ∧ (len ≤ 1024) ∧ (addr + len ≤ sharedTop) ∧ (s.poisoned addr len = false) ∧ (s.mirrorHit addr len = false)) ∧
    (∃ (t : Nat) (r : Fin 64) (s : State) (e : Nat × List Word), ((s.ring r).cqPend.head? = some e) ∧ (32 ≤ (s.ring r).cqPend.length ∨ e.1 + s.holdoff r ≤ max s.cyc t) ∧ (s.ringState r ≠ rsHalted)) :=
  ⟨⟨0, 1, 0, ringed live 3 0 0 0 [], by decide⟩,
    ⟨0, 0, [], live.setLineOut 0 1, by decide⟩,
    ⟨0, 0, [], ((ringed live 3 0 0 0 []).setRing 0 Ring.init).setReg (RNG_TAIL 0) 1#32, ⟨0, (List.range 16).map (wAt []), .read, false⟩, by decide⟩,
    ⟨0, 0, ringed live 3 0 0 0 [], ringedDesc 0 0 [], by decide⟩,
    ⟨0, 0, (ringed live 3 0 0 0 []).setRing 0 { Ring.init with descs := [⟨0, descWords 0 0 [], .ended 0 0 0, false⟩] }, by decide⟩,
    ⟨0, 0, live.setRing 0 { Ring.init with irqDue := true }, by decide⟩,
    ⟨0, ⟨0, 0, 0, word (1 * 2 ^ 28), word 68⟩, 0, [], (List.range 16).map (wAt []), live.setReg RNG_ETH_CFG 0xFFFF0000#32, by decide⟩,
    ⟨0, 0x2FFFFFFFF, 1, ⟨0, 0, 0, word (2 * 2 ^ 28), word 9⟩, [1#8], live.setReg RNG_ETH_CFG 0xFFFF0000#32, by decide⟩,
    ⟨0, 0, 4, ⟨0, 0, 0, word (3 * 2 ^ 28), word 12⟩, 0#32, 0#32, live.setReg RNG_ETH_CFG 0xFFFF0000#32, by decide⟩,
    ⟨0, 0, live.setRing 0 { Ring.init with cqPend := [(0, [0#32, 0#32, 0#32, 0#32])] }, (0, [0#32, 0#32, 0#32, 0#32]), by decide⟩⟩

theorem test_RingStateCommands_hypotheses :
    (∃ (t : Nat) (r : Fin 64) (s : State), (s.readyReg (RNG_CTL r) = true) ∧ (s.ringState r = rsOff) ∧ (4 ≤ s.ringLog r) ∧ (s.ringLog r ≤ 16) ∧ (s.rd (RNG_CFG r) RNG_CFG_class ≠ 3) ∧ (s.ringClash r = false) ∧ (s.ringOnDisplay r = false) ∧ (((List.range 64).any fun q => q != r.val && s.ringState q != rsOff && s.rd (RNG_CFG q) RNG_CFG_line == s.rd (RNG_CFG r) RNG_CFG_line && s.rd (RNG_CFG q) RNG_CFG_slot == s.rd (RNG_CFG r) RNG_CFG_slot) = false)) ∧
    (∃ (t : Nat) (r : Fin 64) (s : State), (s.readyReg (RNG_CTL r) = true) ∧ (s.ringState r = rsRunning)) ∧
    (∃ (t : Nat) (r : Fin 64) (s : State), (s.readyReg (RNG_CTL r) = true) ∧ (s.ringState r = rsRunning ∨ s.ringState r = rsDraining)) ∧
    (∃ (t : Nat) (r : Fin 64) (s : State), (s.ringState r = rsDraining) ∧ ((s.ring r).descs = [])) :=
  ⟨⟨0, 0, ((live.wr (RNG_CFG 0) RNG_CFG_size_log2 4).setReg (RNG_CQ_LO 0) 0x1000#32).setReg (RNG_CDB_LO 0) 0x2000#32 |>.setReg (RNG_DBL_LO 0) 0x3000#32, by decide⟩,
    ⟨0, 0, ringed live 3 0 0 0 [], by decide⟩,
    ⟨0, 0, ringed live 3 0 0 0 [], by decide⟩,
    ⟨0, 0, live.wr (RNG_CFG 0) RNG_CFG_state rsDraining, by decide⟩⟩

theorem test_ShaftAndGroundCommands_hypotheses :
    (∃ (t : Nat) (k : Fin 8) (v : Word) (s : State), (s.readyReg (NYM_SHAFT_CFG k) = true) ∧ (reservedOf (NYM_SHAFT_CFG k) v = 0#32) ∧ (s.shaftEn k = false) ∧ (s.shaftK12 k = false) ∧ (NYM_SHAFT_CFG_en.get v ≠ 0) ∧ (s.shaftBad k (shaftCfgOf v (s.rd (NYM_SHAFT_GEO k) NYM_SHAFT_GEO_offset)) = false)) ∧
    (∃ (t : Nat) (k : Fin 8) (v : Word) (s : State), (s.readyReg (NYM_SHAFT_CFG k) = true) ∧ (reservedOf (NYM_SHAFT_CFG k) v = 0#32) ∧ (s.shaftEn k = true) ∧ (s.shaftK12 k = false) ∧ (NYM_SHAFT_CFG_en.get v ≠ 1)) ∧
    (∃ (t : Nat) (k : Fin 8) (edge : ShaftEdge) (s : State), (s.shaftEn k = true)) ∧
    (∃ (t : Nat) (k : Fin 8) (s : State), (s.shaftEn k = true) ∧ ((s.shaftCfg k).mode ≠ 0)) ∧
    (∃ (t : Nat) (k : Fin 8) (s : State), (s.shaftEn k = true) ∧ (s.bit (NYM_SHAFT_STAT k) NYM_SHAFT_STAT_stalled = false) ∧ ((s.shaft k).stallFrom + s.stallTime k ≤ max s.cyc t)) ∧
    (∃ (t n c : Nat) (s : State), (s.gndEn = true) ∧ (s.wheelUsed = true) ∧ (s.rd NYM_GND_CFG NYM_GND_CFG_wheel_in = n) ∧ (s.nym.gnd.lastPulse = some c) ∧ (c < max s.cyc t)) ∧
    (∃ (t : Nat) (s : State), (s.gndEn = true) ∧ (s.wheelUsed = true) ∧ (s.nym.gnd.wheel ≠ some 0) ∧ ((s.nym.gnd.lastPulse.getD s.nym.gnd.since) + s.wheelTimeout ≤ max s.cyc t)) ∧
    (∃ (t : Nat) (s : State), (s.gndEn = true) ∧ (s.nym.gnd.secFrom + sec 1 ≤ max s.cyc t)) ∧
    (∃ (t : Nat) (s : State), (s.gndEn = true) ∧ (s.bit NYM_GND_STAT NYM_GND_STAT_coast = false) ∧ ((s.wheelUsed && s.nym.gnd.wheel.isSome) = false) ∧ ((s.gnssUsed && s.nym.gnd.gnss.isSome) = false) ∧ (s.nym.gnd.srcAt + ms 200 ≤ max s.cyc t)) ∧
    (∃ (t : Nat) (s : State), (s.readyReg NYM_MTIME_LO = true)) :=
  ⟨⟨0, 0, NYM_SHAFT_CFG_teeth.put (NYM_SHAFT_CFG_missing.put 0x80000000#32 2) 60, live, by decide⟩,
    ⟨0, 7, 0#32, live.wr (NYM_SHAFT_CFG 7) NYM_SHAFT_CFG_en 1, by decide⟩,
    ⟨0, 0, ⟨true, 0⟩, live.wr (NYM_SHAFT_CFG 0) NYM_SHAFT_CFG_en 1, by decide⟩,
    ⟨0, 0, (live.wr (NYM_SHAFT_CFG 0) NYM_SHAFT_CFG_en 1).wr (NYM_SHAFT_CFG 0) NYM_SHAFT_CFG_mode 1, by decide⟩,
    ⟨4800000000, 0, (live.wr (NYM_SHAFT_CFG 0) NYM_SHAFT_CFG_en 1).wr (NYM_SHAFT_CFG 0) NYM_SHAFT_CFG_teeth 60, by decide⟩,
    ⟨5, 0, 0, ((live.wr NYM_GND_CFG NYM_GND_CFG_en 1).wr NYM_GND_CFG NYM_GND_CFG_wheel_in 0).setGnd { live.nym.gnd with lastPulse := some 0 }, by decide⟩,
    ⟨4000000000, ((live.wr NYM_GND_CFG NYM_GND_CFG_en 1).wr NYM_GND_CFG NYM_GND_CFG_wheel_in 0).wr NYM_GND_CFG NYM_GND_CFG_ppm 16, by decide⟩,
    ⟨200000000, live.wr NYM_GND_CFG NYM_GND_CFG_en 1, by decide⟩,
    ⟨40000000, live.wr NYM_GND_CFG NYM_GND_CFG_en 1, by decide⟩,
    ⟨0, live, by decide⟩⟩

theorem test_EventTableCommands_hypotheses :
    (∃ (t : Nat) (r : Fin 64) (buf : List Word) (s : State) (d : RDesc), (s.opFor r 0x02 0 1 = some d) ∧ (bits (d.par 8) 13 0 + (d.len + 31) / 32 ≤ 16384) ∧ (bits (d.par 8) 17 16 ≠ 3) ∧ (d.len ≠ 0) ∧ (d.len % 32 = 0) ∧ (s.canTake r d (4 * buf.length) = true) ∧ (s.evK12 (bits (d.par 8) 13 0) (d.len / 32) = false) ∧ ((halves (s.bufWords r d buf) (d.len / 32)).any evBad = false)) ∧
    (∃ (t : Nat) (r : Fin 64) (s : State) (d : RDesc), (s.opFor r 0x02 0 2 = some d) ∧ (bits (d.par 8) 13 0 + bits (d.par 9) 14 0 ≤ 16384) ∧ (bits (d.par 9) 17 16 ≠ 0) ∧ (bits (d.par 9) 17 16 ≠ 3) ∧ (s.evK12 (bits (d.par 8) 13 0) (bits (d.par 9) 14 0) = false)) ∧
    (∃ (t : Nat) (r : Fin 64) (s : State) (d : RDesc), (s.opFor r 0x02 0 3 = some d) ∧ (bits (d.par 8) 13 0 + (d.len + 31) / 32 ≤ 16384) ∧ (bits (d.par 8) 17 16 ≠ 3) ∧ (d.len ≠ 0) ∧ (d.len % 32 = 0) ∧ (s.bufBad r d = false) ∧ (s.evK12 (bits (d.par 8) 13 0) (d.len / 32) = false)) ∧
    (∃ (t : Nat) (r : Fin 64) (s : State) (d : RDesc), (s.opFor r 0x02 0 4 = some d) ∧ (bits (d.par 8) 13 0 + bits (d.par 9) 14 0 ≤ 16384) ∧ (s.evK12 (bits (d.par 8) 13 0) (bits (d.par 9) 14 0) = false)) ∧
    (∃ (t : Nat) (s : State), (s.readyReg NYM_TBL_CMD = true) ∧ (s.evK12 (s.rd NYM_TBL_IDX NYM_TBL_IDX_index) 1 = false) ∧ (evBad s.tblData = false)) ∧
    (∃ (t : Nat) (s : State), (s.readyReg NYM_TBL_CMD = true) ∧ (s.evK12 (s.rd NYM_TBL_IDX NYM_TBL_IDX_index) 1 = false)) ∧
    (∃ (t : Nat) (i : Fin 16384) (s : State), (((s.at t).evNow i).due (max s.cyc t) = 2 ∨ (((s.at t).evNow i).due (max s.cyc t) = 1 ∧ ((s.at t).evNow i).armed = false))) ∧
    (∃ (t i : Nat) (s : State), ((s.at t).relCount < 4) ∧ ((s.at t).evNextRelease = some i) ∧ ((s.at t).evForeign i = false)) :=
  ⟨⟨0, 0, List.replicate 8 0#32, ringed live 2 0 1 32 [0#32, 0#32], ringedDesc 1 32 [0#32, 0#32], by decide⟩,
    ⟨0, 0, ringed live 2 0 2 0 [0x3FFF#32, 0x10001#32], ringedDesc 2 0 [0x3FFF#32, 0x10001#32], by decide⟩,
    ⟨0, 0, ringed live 2 0 3 32 [0x23FFF#32], ringedDesc 3 32 [0x23FFF#32], by decide⟩,
    ⟨0, 0, ringed live 2 0 4 0 [0#32, 0x4000#32], ringedDesc 4 0 [0#32, 0x4000#32], by decide⟩,
    ⟨0, live, by decide⟩,
    ⟨0, live, by decide⟩,
    ⟨9, 0, live.evCommit 0 2, by decide⟩,
    ⟨0, 0, live.setEv 0 { EvEntry.init with armed := true, act := [0x10000000#32, 0#32, 0#32, 0#32, 0#32, 0#32, 0#32, 0#32], fwd := true }, by decide⟩⟩

theorem test_LoopEngineCommands_hypotheses :
    (∃ (t : Nat) (n : Fin 64) (s : State), ((s.at t).loopRuns n = true) ∧ ((s.loop n).trigged = false) ∧ ((s.loop n).trig ≤ (s.at t).mtime) ∧ (¬ ((lpInKind (s.loop n).act = 1 ∧ s.ainEn (lpInNum (s.loop n).act) = false) ∨ (lpInKind (s.loop n).act = 2 ∧ s.finEn (lpInNum (s.loop n).act) = false)))) ∧
    (∃ (t : Nat) (n : Fin 64) (ecc hits : List EccHit) (s x : State), (hits = ecc.filter fun h => h.region.val == 0) ∧ (x = (s.at t).eccAll hits) ∧ (x.loopRuns n = true) ∧ (eccBad hits = true)) ∧
    (∃ (t : Nat) (n : Fin 64) (ecc hits : List EccHit) (raw : Int) (s x : State), (hits = ecc.filter fun h => h.region.val == 0) ∧ (x = (s.at t).eccAll hits) ∧ (x.loopRuns n = true) ∧ (eccBad hits = false) ∧ ((x.loop n).flight = none) ∧ ((x.loop n).cu = false) ∧ ((x.loop n).nom + 24000 ≤ x.mtime) ∧ (x.mtime < (x.loop n).nom + 24005) ∧ ((x.loop n).trig = (x.loop n).nom) ∧ ((x.loop n).sample = some raw) ∧ (((x.loop n).due x.cyc && x.outBad n ((x.loop n).source x.cyc)) = false)) ∧
    (∃ (t : Nat) (n : Fin 64) (ecc hits : List EccHit) (raw : Int) (f : Flight) (s x y : State), (hits = ecc.filter fun h => h.region.val == 0) ∧ (x = (s.at t).eccAll hits) ∧ (x.loopRuns n = true) ∧ (eccBad hits = false) ∧ ((x.loop n).flight = some f) ∧ (f.lane = false) ∧ (f.start = x.cyc) ∧ (f.sample = some raw) ∧ (y = x.setLoop n { x.loop n with flight := none }) ∧ (((y.loop n).due y.cyc && y.outBad n ((y.loop n).source y.cyc)) = false)) ∧
    (∃ (t : Nat) (n : Fin 64) (ecc hits : List EccHit) (s x : State), (hits = ecc.filter fun h => h.region.val == 0) ∧ (x = (s.at t).eccAll hits) ∧ (x.loopRuns n = true) ∧ (eccBad hits = false) ∧ ((x.loop n).flight = none) ∧ ((x.loop n).cu = false) ∧ ((x.loop n).nom + 24000 ≤ x.mtime) ∧ ((x.loop n).sample = none)) ∧
    (∃ (t : Nat) (n : Fin 64) (trig : Nat) (raw : Int) (own : Bool) (s x y : State), ((s.at t).loopRuns n = true) ∧ (s.cle.laneFree ≤ max s.cyc t) ∧ ((s.at t).laneJob n = some (trig, raw, own)) ∧ ((s.at t).laneAhead n trig = false) ∧ (x = { s.at t with cle := { (s.at t).cle with laneFree := (s.at t).cyc + 625 } }) ∧ (y = (if own then x else x.setLoop n { x.loop n with flight := none })) ∧ (((y.loop n).due y.cyc && y.outBad n ((y.loop n).source y.cyc)) = false)) ∧
    (∃ (t : Nat) (n : Fin 64) (s : State), ((s.loop n).due (max s.cyc t) = true) ∧ (lpEn (s.loop n).act = false) ∧ (s.outBad n ((s.loop n).source (max s.cyc t)) = false)) ∧
    (∃ (t : Nat) (s : State), (s.ready 3 = true) ∧ (s.cle.winFrom + ms 1 ≤ max s.cyc t)) :=
  ⟨⟨0, 0, live.setLoop 0 { Loop.init with act := 0x83000000#32 :: List.replicate 31 0#32 }, by decide⟩,
    ⟨4800, 0, [⟨0, 0, 0, 0, false⟩], [⟨0, 0, 0, 0, false⟩], live.setLoop 0 { Loop.init with act := 0x83000000#32 :: List.replicate 31 0#32 }, ((live.setLoop 0 { Loop.init with act := 0x83000000#32 :: List.replicate 31 0#32 }).at 4800).eccAll [⟨0, 0, 0, 0, false⟩], by decide⟩,
    ⟨4800, 0, [], [], 5, live.setLoop 0 { Loop.init with act := 0x83000000#32 :: List.replicate 31 0#32, sample := some 5 }, (live.setLoop 0 { Loop.init with act := 0x83000000#32 :: List.replicate 31 0#32, sample := some 5 }).at 4800, by decide⟩,
    ⟨0, 0, [], [], 5, ⟨live.cyc, 0, false, some 5⟩, live.setLoop 0 { Loop.init with act := 0x83000000#32 :: List.replicate 31 0#32, flight := some ⟨live.cyc, 0, false, some 5⟩ }, live.setLoop 0 { Loop.init with act := 0x83000000#32 :: List.replicate 31 0#32, flight := some ⟨live.cyc, 0, false, some 5⟩ }, (live.setLoop 0 { Loop.init with act := 0x83000000#32 :: List.replicate 31 0#32, flight := some ⟨live.cyc, 0, false, some 5⟩ }).setLoop 0 { Loop.init with act := 0x83000000#32 :: List.replicate 31 0#32 }, by decide⟩,
    ⟨4800, 0, [], [], live.setLoop 0 { Loop.init with act := 0x83000000#32 :: List.replicate 31 0#32 }, (live.setLoop 0 { Loop.init with act := 0x83000000#32 :: List.replicate 31 0#32 }).at 4800, by decide⟩,
    ⟨0, 0, 0, 5, true, live.setLoop 0 { Loop.init with act := 0x83000000#32 :: List.replicate 31 0#32, sample := some 5, cu := true }, { live.setLoop 0 { Loop.init with act := 0x83000000#32 :: List.replicate 31 0#32, sample := some 5, cu := true } with cle := { (live.setLoop 0 { Loop.init with act := 0x83000000#32 :: List.replicate 31 0#32, sample := some 5, cu := true }).cle with laneFree := live.cyc + 625 } }, { live.setLoop 0 { Loop.init with act := 0x83000000#32 :: List.replicate 31 0#32, sample := some 5, cu := true } with cle := { (live.setLoop 0 { Loop.init with act := 0x83000000#32 :: List.replicate 31 0#32, sample := some 5, cu := true }).cle with laneFree := live.cyc + 625 } }, by decide⟩,
    ⟨1, 0, live.setLoop 0 { Loop.init with pending := true }, by decide⟩,
    ⟨200000, live, by decide⟩⟩

theorem test_LoopRingAndWindowCommands_hypotheses :
    (∃ (t : Nat) (r : Fin 64) (s : State) (d : RDesc), (s.opFor r 0x03 0 1 = some d) ∧ (s.hostLoop (bits (d.par 8) 5 0) = true)) ∧
    (∃ (t : Nat) (r : Fin 64) (buf : List Word) (s : State) (d : RDesc) (ps : List (Nat × Int)), (s.opFor r 0x03 0 2 = some d) ∧ (d.len % 8 = 0) ∧ (d.len ≠ 0) ∧ (s.canTake r d (4 * buf.length) = true) ∧ (ps = (List.range (d.len / 8)).map fun i => (bits (wAt (s.bufWords r d buf) (2 * i)) 5 0, sInt (wAt (s.bufWords r d buf) (2 * i + 1)))) ∧ ((ps.all fun p => s.hostLoop p.1) = true)) ∧
    (∃ (t : Nat) (r : Fin 64) (buf : List Word) (s : State) (d : RDesc) (hs : List (List Word × Nat)), (s.opFor r 0x03 1 0x10 = some d) ∧ (bits (d.par 8) 5 0 + (d.len + 127) / 128 ≤ 64) ∧ (bits (d.par 8) 17 16 ≤ 1) ∧ (d.len % 128 = 0) ∧ (s.canTake r d (4 * buf.length) = true) ∧ (hs = (itemsOf (s.bufWords r d buf) 32 (d.len / 128)).zipIdx (bits (d.par 8) 5 0)) ∧ ((hs.any fun p => lpBad p.2 p.1) = false)) ∧
    (∃ (t : Nat) (r : Fin 64) (s : State) (d : RDesc), (s.opFor r 0x03 1 0x11 = some d) ∧ (bits (d.par 8) 5 0 + bits (d.par 9) 6 0 ≤ 64)) ∧
    (∃ (t : Nat) (r : Fin 64) (s : State) (d : RDesc), (s.opFor r 0x03 1 0x12 = some d) ∧ (bits (d.par 8) 5 0 + (d.len + 127) / 128 ≤ 64) ∧ (bits (d.par 8) 17 16 ≠ 3) ∧ (d.len % 128 = 0) ∧ (s.bufBad r d = false)) ∧
    (∃ (t : Nat) (r : Fin 64) (s : State) (d : RDesc), (s.opFor r 0x03 1 0x13 = some d) ∧ (bits (d.par 8) 5 0 + bits (d.par 9) 6 0 ≤ 64)) ∧
    (∃ (t : Nat) (r : Fin 64) (buf : List Word) (s : State) (d : RDesc), (s.opFor r 0x03 1 0x14 = some d) ∧ (bits (d.par 8) 12 0 + (d.len + 3) / 4 ≤ 8192) ∧ (d.len % 4 = 0) ∧ (s.canTake r d (4 * buf.length) = true)) ∧
    (∃ (t : Nat) (r : Fin 64) (s : State) (d : RDesc), (s.opFor r 0x03 1 0x15 = some d) ∧ (bits (d.par 8) 12 0 + (d.len + 3) / 4 ≤ 8192) ∧ (d.len % 4 = 0) ∧ (s.bufBad r d = false)) ∧
    (∃ (t : Nat) (s : State), (s.readyReg CLE_WIN_CMD = true) ∧ (lpBad (s.rd CLE_WIN_IDX CLE_WIN_IDX_loop) s.winData = false)) ∧
    (∃ (t : Nat) (s : State), (s.readyReg CLE_WIN_CMD = true)) ∧
    (∃ (t : Nat) (v : Option Word) (s : State), (s.readyReg CLE_POOL_DATA = true)) :=
  ⟨⟨0, 0, (ringed live 3 0 1 0 [5#32, 9#32]).setLoop 5 { Loop.init with act := 0x80000000#32 :: List.replicate 31 0#32 }, ringedDesc 1 0 [5#32, 9#32], by decide⟩,
    ⟨0, 0, [5#32, 9#32], (ringed live 3 0 2 8 []).setLoop 5 { Loop.init with act := 0x80000000#32 :: List.replicate 31 0#32 }, ringedDesc 2 8 [], [(5, 9)], by decide⟩,
    ⟨0, 0, List.replicate 32 0#32, ringed live 3 1 0x10 128 [63#32], ringedDesc 0x10 128 [63#32], [(List.replicate 32 0#32, 63)], by decide⟩,
    ⟨0, 0, ringed live 3 1 0x11 0 [0#32, 64#32], ringedDesc 0x11 0 [0#32, 64#32], by decide⟩,
    ⟨0, 0, ringed live 3 1 0x12 128 [0x2003F#32], ringedDesc 0x12 128 [0x2003F#32], by decide⟩,
    ⟨0, 0, ringed live 3 1 0x13 0 [63#32, 1#32], ringedDesc 0x13 0 [63#32, 1#32], by decide⟩,
    ⟨0, 0, [7#32], ringed live 3 1 0x14 4 [8191#32], ringedDesc 0x14 4 [8191#32], by decide⟩,
    ⟨0, 0, ringed live 3 1 0x15 4 [8191#32], ringedDesc 0x15 4 [8191#32], by decide⟩,
    ⟨0, live, by decide⟩,
    ⟨0, live, by decide⟩,
    ⟨0, some 0xFFFFFFFF#32, live, by decide⟩⟩

theorem test_CommitAndLeaseEndCommands_hypotheses :
    (∃ (t : Nat) (c0 c1 c2 : CoreRec) (s : State) (p : Plan) (mine ws : List Word), ((s.at t).ready 4 = true) ∧ (s.triMode ≠ modeLimp) ∧ (s.tri.due ≤ max s.cyc t) ∧ (((s.liveRecs ((s.at t).planRecord ((s.at t).expireAll.plan (s.at t).tracked.2)) c0 c1 c2).any fun x => x.2.isNone) = false ∨ s.tri.due + us 100 ≤ max s.cyc t) ∧ (p = (s.at t).expireAll.plan (s.at t).tracked.2) ∧ (mine = (s.at t).planRecord p) ∧ (verdict (s.liveRecs mine c0 c1 c2) = .apply ws) ∧ (((State.applyRecord (s.at t) p mine ws (s.at t).tracked.1).commitNext.tstUnsafe && !(s.at t).tstUnsafe) = false)) ∧
    (∃ (t : Nat) (c0 c1 c2 : CoreRec) (s : State) (p : Plan) (mine ws : List Word) (c : Nat), ((s.at t).ready 4 = true) ∧ (s.triMode ≠ modeLimp) ∧ (s.tri.due ≤ max s.cyc t) ∧ (((s.liveRecs ((s.at t).planRecord ((s.at t).expireAll.plan (s.at t).tracked.2)) c0 c1 c2).any fun x => x.2.isNone) = false ∨ s.tri.due + us 100 ≤ max s.cyc t) ∧ (p = (s.at t).expireAll.plan (s.at t).tracked.2) ∧ (mine = (s.at t).planRecord p) ∧ (verdict (s.liveRecs mine c0 c1 c2) = .drop ws c) ∧ ((((State.applyRecord (s.at t) p mine ws (s.at t).tracked.1).tailDrop c).commitNext.tstUnsafe && !(s.at t).tstUnsafe) = false)) ∧
    (∃ (t : Nat) (c0 c1 c2 : CoreRec) (s : State) (code : Nat), ((s.at t).ready 4 = true) ∧ (s.triMode ≠ modeLimp) ∧ (s.tri.due ≤ max s.cyc t) ∧ (((s.liveRecs ((s.at t).planRecord ((s.at t).expireAll.plan (s.at t).tracked.2)) c0 c1 c2).any fun x => x.2.isNone) = false ∨ s.tri.due + us 100 ≤ max s.cyc t) ∧ (verdict (s.liveRecs ((s.at t).planRecord ((s.at t).expireAll.plan (s.at t).tracked.2)) c0 c1 c2) = .escalate code)) ∧
    (∃ (t : Nat) (s : State), (s.triMode = modeLimp) ∧ (s.tri.limpDone = false) ∧ (s.pow.holdUp = none)) ∧
    (∃ (t : Nat) (g : Fin 32) (s : State), (s.holder g ≠ 0) ∧ ((s.group g).expiry ≤ max s.cyc t)) ∧
    (∃ (t c : Nat) (g : Fin 32) (s : State), ((s.group g).holdEnd = some c) ∧ (c ≤ max s.cyc t)) ∧
    (∃ (t : Nat) (n : Fin 2) (s : State), ((s.at t).ready 4 = true) ∧ (s.bit (TRI_OVR_CFG n) TRI_OVR_CFG_en = true) ∧ (s.bit TRI_OVR_STAT (ovrAct n) = false)) ∧
    (∃ (t : Nat) (n : Fin 2) (s : State), (s.bit TRI_OVR_STAT (ovrAct n) = true)) ∧
    (∃ (t : Nat) (s : State), (s.bit TRI_OVR_STAT TRI_OVR_STAT_act0 = false) ∧ (s.bit TRI_OVR_STAT TRI_OVR_STAT_act1 = false) ∧ (s.bit TRI_OVR_STAT TRI_OVR_STAT_armed = false) ∧ (s.tri.ovrFrom + ms (10 * TRI_CFG_rearm.get s.tri.cfg) ≤ max s.cyc t)) :=
  ⟨⟨20000, .same, .same, .same, (live.wr TRI_STAT TRI_STAT_live 7), _, _, (((live.wr TRI_STAT TRI_STAT_live 7).at 20000).planRecord (((live.wr TRI_STAT TRI_STAT_live 7).at 20000).expireAll.plan ((live.wr TRI_STAT TRI_STAT_live 7).at 20000).tracked.2)), by decide, by decide, by decide, .inr (by decide), rfl, rfl, by decide⟩,
    ⟨20000, .same, .same, .missing, (live.wr TRI_STAT TRI_STAT_live 7), _, _, (((live.wr TRI_STAT TRI_STAT_live 7).at 20000).planRecord (((live.wr TRI_STAT TRI_STAT_live 7).at 20000).expireAll.plan ((live.wr TRI_STAT TRI_STAT_live 7).at 20000).tracked.2)), 2, by decide, by decide, by decide, .inr (by decide), rfl, rfl, by decide⟩,
    ⟨20000, .missing, .missing, .missing, (live.wr TRI_STAT TRI_STAT_live 7), 0x0411, by decide⟩,
    ⟨0, live.wr TRI_STAT TRI_STAT_mode modeLimp, by decide⟩,
    ⟨0, 31, live.wr (TRI_GRP 31) TRI_GRP_holder 3, by decide⟩,
    ⟨0, 0, 31, live.setGroup 31 { Group.init with holdEnd := some 0 }, by decide⟩,
    ⟨0, 1, live.wr (TRI_OVR_CFG 1) TRI_OVR_CFG_en 1, by decide⟩,
    ⟨0, 1, live.wr TRI_OVR_STAT TRI_OVR_STAT_act1 1, by decide⟩,
    ⟨10000000000, live, by decide⟩⟩

theorem test_TriadRingCommands_hypotheses :
    (∃ (t : Nat) (r : Fin 64) (s : State) (d : RDesc), (s.opFor r 0x04 0 1 = some d) ∧ (s.limp = false) ∧ (bits (d.par 8) 1 0 < 3) ∧ (¬ (bits (d.par 8) 1 0 = 0 ∧ TRI_CFG_track.get s.tri.cfg = 1))) ∧
    (∃ (t : Nat) (r : Fin 64) (buf : List Word) (s : State) (d : RDesc), (s.opFor r 0x04 0 2 = some d) ∧ (d.len % 16 = 0) ∧ (s.canTake r d (4 * buf.length) = true) ∧ (s.limp = false) ∧ (pathBad (s.bufWords r d buf) (d.len / 16) = false) ∧ (s.tri.path.length + d.len / 16 ≤ 4096)) ∧
    (∃ (t : Nat) (r : Fin 64) (s : State) (d : RDesc), (s.opFor r 0x04 0 3 = some d) ∧ (¬ (TRI_CFG_track.get s.tri.cfg = 1 ∧ d.par 10 = 0#32)) ∧ (s.limp = false)) ∧
    (∃ (t : Nat) (r : Fin 64) (s : State) (d : RDesc), (s.opFor r 0x04 1 0x10 = some d) ∧ (s.limp = false) ∧ (s.passed 11 = true) ∧ (bits (d.par 8) 9 8 ≠ 0) ∧ (s.holderFenced (bits (d.par 8) 9 8) = false)) ∧
    (∃ (t : Nat) (r : Fin 64) (s : State) (d : RDesc), (s.opFor r 0x04 1 0x11 = some d) ∧ (s.limp = false) ∧ (s.passed 11 = true)) ∧
    (∃ (t : Nat) (r : Fin 64) (s : State) (d : RDesc), (s.opFor r 0x04 1 0x12 = some d) ∧ (s.limp = false) ∧ (s.passed 11 = true)) ∧
    (∃ (t : Nat) (r : Fin 64) (s : State) (d : RDesc), (s.opFor r 0x04 2 0x20 = some d) ∧ (s.limp = false) ∧ (s.passed 11 = true) ∧ (bits (d.par 8) 7 0 < 48) ∧ (s.holds (bits (d.par 8) 7 0) 3 = true)) ∧
    (∃ (t : Nat) (r : Fin 64) (s : State) (d : RDesc), (s.opFor r 0x04 2 0x20 = some d) ∧ (s.limp = false) ∧ (s.passed 11 = true) ∧ (64 ≤ bits (d.par 8) 7 0) ∧ (bits (d.par 8) 7 0 < 128) ∧ (s.holds (bits (d.par 8) 7 0) 3 = true) ∧ (bits (d.par 9) 17 16 ≠ 3)) ∧
    (∃ (t : Nat) (r : Fin 64) (s : State) (d : RDesc), (s.opFor r 0x04 2 0x21 = some d) ∧ (s.limp = false) ∧ (s.passed 11 = true) ∧ (s.holder (bits (d.par 8) 4 0) = 3) ∧ (s.limpHeld (bits (d.par 8) 4 0) = false)) ∧
    (∃ (t : Nat) (v : Word) (s : State), (s.readyReg TRI_GMAP_DATA = true) ∧ (reservedOf TRI_GMAP_DATA v = 0#32) ∧ ((s.at t).gmapLocked (s.rd TRI_GMAP_IDX TRI_GMAP_IDX_item) (TRI_GMAP_DATA_group.get v) = false)) :=
  ⟨⟨0, 0, ringed live 4 0 1 0 [2#32], ringedDesc 1 0 [2#32], by decide⟩,
    ⟨0, 0, [1#32, 2#32, 1#32, 0#32], ringed live 4 0 2 16 [], ringedDesc 2 16 [], by decide⟩,
    ⟨0, 0, ringed live 4 0 3 0 [], ringedDesc 3 0 [], by decide⟩,
    ⟨0, 0, ringed live 4 1 0x10 0 [0x31F#32], ringedDesc 0x10 0 [0x31F#32], by decide⟩,
    ⟨0, 0, ringed live 4 1 0x11 0 [31#32], ringedDesc 0x11 0 [31#32], by decide⟩,
    ⟨0, 0, ringed live 4 1 0x12 0 [5#32], ringedDesc 0x12 0 [5#32], by decide⟩,
    ⟨0, 0, (ringed live 4 2 0x20 0 [47#32, 300#32]).wr (TRI_GRP 1) TRI_GRP_holder 3, ringedDesc 0x20 0 [47#32, 300#32], by decide⟩,
    ⟨0, 0, (ringed live 4 2 0x20 0 [127#32, 0x10000#32]).wr (TRI_GRP 1) TRI_GRP_holder 3, ringedDesc 0x20 0 [127#32, 0x10000#32], by decide⟩,
    ⟨0, 0, (ringed live 4 2 0x21 0 [31#32]).wr (TRI_GRP 31) TRI_GRP_holder 3, ringedDesc 0x21 0 [31#32], by decide⟩,
    ⟨0, 31#32, live, by decide⟩⟩

theorem test_ValveCommands_hypotheses :
    (∃ (t : Nat) (n : Fin 48) (v : Word) (s : State), (s.readyReg (VDR_CFGn n) = true) ∧ (reservedOf (VDR_CFGn n) v = 0#32) ∧ (s.valveEn n = false) ∧ (s.valveK12 n = false) ∧ (valveCfgBad v = false) ∧ (VDR_CFGn_en.get v = 1)) ∧
    (∃ (t : Nat) (n : Fin 48) (v : Word) (s : State), (s.readyReg (VDR_CFGn n) = true) ∧ (reservedOf (VDR_CFGn n) v = 0#32) ∧ (s.valveEn n = true) ∧ (s.valveK12 n = false) ∧ (valveCfgBad v = false) ∧ (VDR_CFGn_en.get v = 0)) ∧
    (∃ (t cur mv : Nat) (n : Fin 48) (s : State), ((s.at t).valveEnds n = true)) ∧
    (∃ (t : Nat) (n : Fin 48) (s : State), ((s.valve n).offEnd ≤ max s.cyc t)) ∧
    (∃ (t : Nat) (n : Fin 48) (rtn : Bool) (s : State), (s.valveOn n = true) ∧ (∀ c, (s.valve n).restartAt = some c → c + ms 100 ≤ max s.cyc t)) ∧
    (∃ (t c : Nat) (n : Fin 48) (rtn : Bool) (s : State), (s.valveOn n = true) ∧ ((s.valve n).restartAt = some c) ∧ (max s.cyc t < c + ms 100)) ∧
    (∃ (t c : Nat) (n : Fin 48) (s : State), ((s.valve n).retryAt = some c) ∧ (c ≤ max s.cyc t) ∧ ((s.valve n).therm = false)) ∧
    (∃ (t c : Nat) (n : Fin 48) (s : State), ((s.valve n).restartAt = some c) ∧ (c + ms 100 ≤ max s.cyc t) ∧ (s.valveOn n = true)) ∧
    (∃ (t : Nat) (n : Fin 48) (v : Word) (s : State), (s.readyReg (VDR_STAT n) = true) ∧ (reservedOf (VDR_STAT n) v = 0#32) ∧ (s.valveK12 n = false) ∧ (clrLatch v = true)) ∧
    (∃ (t c : Nat) (n : Fin 48) (s : State), ((s.valve n).lowAt = some c) ∧ (c + ms 10 ≤ max s.cyc t) ∧ ((s.valve n).lowTold = false)) ∧
    (∃ (t c : Nat) (n : Fin 48) (s : State), ((s.valve n).headAt = some c) ∧ (c + ms 20 ≤ max s.cyc t) ∧ ((s.valve n).headTold = false)) :=
  ⟨⟨0, 47, word (VDR_CFGn_en.put 0x2710#32 1).toNat, live, by decide⟩,
    ⟨0, 47, 0x00002710#32, live.wr (VDR_CFGn 47) VDR_CFGn_en 1, by decide⟩,
    ⟨200000000, 300, 0, 0, (live.wr (VDR_CFGn 0) VDR_CFGn_en 1).wr (VDR_CFGn 0) VDR_CFGn_period 10000, by decide⟩,
    ⟨0, 0, live, by decide⟩,
    ⟨0, 0, true, (live.wr (VDR_CFGn 0) VDR_CFGn_en 1).wr (VDR_STAT 0) VDR_STAT_active 5, by decide, fun c h => by
    rw [show (((live.wr (VDR_CFGn 0) VDR_CFGn_en 1).wr (VDR_STAT 0) VDR_STAT_active 5).valve (0 : Fin 48).val).restartAt = none from by decide] at h; cases h⟩,
    ⟨0, 0, 0, false, ((live.wr (VDR_CFGn 0) VDR_CFGn_en 1).wr (VDR_STAT 0) VDR_STAT_active 5).setValve 0 { Valve.init with restartAt := some 0 }, by decide⟩,
    ⟨0, 0, 47, live.setValve 47 { Valve.init with retryAt := some 0 }, by decide⟩,
    ⟨1000000000, 0, 0, ((live.wr (VDR_CFGn 0) VDR_CFGn_en 1).wr (VDR_STAT 0) VDR_STAT_active 5).setValve 0 { Valve.init with restartAt := some 0 }, by decide⟩,
    ⟨0, 47, 0x00400000#32, live, by decide⟩,
    ⟨100000000, 0, 47, live.setValve 47 { Valve.init with lowAt := some 0 }, by decide⟩,
    ⟨100000000, 0, 47, live.setValve 47 { Valve.init with headAt := some 0 }, by decide⟩⟩

theorem test_LoadSwitchCommands_hypotheses :
    (∃ (t cur : Nat) (n : Fin 64) (s : State), ((s.at t).switchEnds n = true)) ∧
    (∃ (t : Nat) (n : Fin 64) (v : Word) (s : State), (s.readyReg (LSW_CFG n) = true) ∧ (reservedOf (LSW_CFG n) v = 0#32) ∧ (s.switchEn n = true) ∧ (s.switchK12 n = false) ∧ (switchCfgBad n v = false) ∧ (LSW_CFG_en.get v = 0)) ∧
    (∃ (t c : Nat) (n : Fin 64) (s : State), ((s.switch n).inrushEnd = some c) ∧ (c ≤ max s.cyc t)) ∧
    (∃ (t : Nat) (n : Fin 64) (s : State), (((s.at t).shortCan n || (s.at t).hotNow n && (s.switch n).shortOk) = true)) ∧
    (∃ (t : Nat) (n : Fin 64) (s : State), (((s.at t).ovlCan n || (s.at t).hotNow n && (s.switch n).ovlOk) = true)) ∧
    (∃ (t c : Nat) (n : Fin 64) (s : State), ((s.switch n).retryAt = some c) ∧ (c ≤ max s.cyc t) ∧ ((s.switch n).therm = false)) ∧
    (∃ (t c : Nat) (n : Fin 64) (s : State), ((s.switch n).restartAt = some c) ∧ (c + ms 100 ≤ max s.cyc t) ∧ ((s.switch n).on = true)) ∧
    (∃ (t : Nat) (n : Fin 64) (v : Word) (s : State), (s.readyReg (LSW_STAT n) = true) ∧ (reservedOf (LSW_STAT n) v = 0#32) ∧ (s.switchK12 n = false)) ∧
    (∃ (t c : Nat) (n : Fin 64) (s : State), ((s.switch n).protEnd = some c) ∧ (c ≤ max s.cyc t)) ∧
    (∃ (t : Nat) (n : Fin 64) (s : State), ((s.switch n).on = true) ∧ ((s.switch n).inrushEnd = none) ∧ (10000000 ≤ (s.switch n).olAcc) ∧ ((s.switch n).olTold = false)) :=
  ⟨⟨200000, 7, 63, (live.wr (LSW_CFG 63) LSW_CFG_en 1).wr (LSW_CFG 63) LSW_CFG_period 1000, by decide⟩,
    ⟨0, 63, 0x000003E8#32, live.wr (LSW_CFG 63) LSW_CFG_en 1, by decide⟩,
    ⟨0, 0, 63, live.setSwitch 63 { Switch.init with inrushEnd := some 0 }, by decide⟩,
    ⟨10000, 63, live.setSwitch 63 { Switch.init with on := true }, by decide⟩,
    ⟨1000000, 63, live.setSwitch 63 { Switch.init with on := true, ovlRun := some 0 }, by decide⟩,
    ⟨0, 0, 63, live.setSwitch 63 { Switch.init with retryAt := some 0 }, by decide⟩,
    ⟨100000000, 0, 63, live.setSwitch 63 { Switch.init with restartAt := some 0, on := true }, by decide⟩,
    ⟨0, 63, 0x00180000#32, live, by decide⟩,
    ⟨0, 0, 63, live.setSwitch 63 { Switch.init with protEnd := some 0 }, by decide⟩,
    ⟨0, 63, live.setSwitch 63 { Switch.init with on := true, olAcc := 10000000 }, by decide⟩⟩

theorem test_SensorFrontEndCommands_hypotheses :
    (∃ (t : Nat) (n : Fin 64) (s : State), (s.bit (SNS_AIN_CFG n) SNS_AIN_CFG_periodic = true) ∧ (0 < s.rd (SNS_AIN_CFG n) SNS_AIN_CFG_interval) ∧ ((s.at t).mtime % (1000 * s.rd (SNS_AIN_CFG n) SNS_AIN_CFG_interval) < 5)) ∧
    (∃ (t c : Nat) (w : List Nat) (n : Fin 64) (s : State), ((s.ain n).last = some c) ∧ ((s.ain n).wait = some w) ∧ (c + us 100 ≤ max s.cyc t) ∧ (s.snsRuns = true) ∧ (s.ainEn n = true)) ∧
    (∃ (t ref : Nat) (n : Fin 64) (edge : Fin 201) (nv : Int) (v : AinConv) (rest : List AinConv) (s : State), ((s.ain n).conv = v :: rest)) ∧
    (∃ (t peak since : Nat) (n : Fin 24) (mv : Int) (level : Bool) (s y : State), (level = decide ((s.finThr n peak : Int) ≤ 2 * mv)) ∧ ((level == (s.fin n).level) = false) ∧ (max s.cyc t = since + us (s.rd (SNS_FIN_CFG n) SNS_FIN_CFG_glitch)) ∧ (y = ((s.at t).setFin n { s.fin n with level := level }).gndFin n)) ∧
    (∃ (t : Nat) (n : Fin 24) (s : State), (s.snsRuns = true)) ∧
    (∃ (t : Nat) (lo hi : Word) (s : State), (s.snsRuns = true)) ∧
    (∃ (t : Nat) (n : Fin 16) (x : Int) (s : State), (s.snsRuns = true) ∧ (s.lossEn n = true) ∧ (s.rd (SNS_LOSS_CFG n) SNS_LOSS_CFG_raw ≠ 2) ∧ ((s.lossCh n).st = 0)) ∧
    (∃ (t : Nat) (n : Fin 16) (s : State), (s.snsRuns = true) ∧ (s.bit (SNS_LOSS_CFG n) SNS_LOSS_CFG_exc = true)) ∧
    (∃ (t : Nat) (k : Fin 16) (s : State), (s.fusRuns = true)) ∧
    (∃ (t took : Nat) (r : Fin 64) (s : State) (d : RDesc) (n k : Nat), (s.opFor r 0x08 1 0x10 = some d) ∧ (s.bufBad r d = false) ∧ (2080 ≤ d.len) ∧ (n = bits (d.par 8) 3 0) ∧ (k = bits (d.par 8) 6 4)) :=
  ⟨⟨0, 63, (live.wr (SNS_AIN_CFG 63) SNS_AIN_CFG_periodic 1).wr (SNS_AIN_CFG 63) SNS_AIN_CFG_interval 100, by decide⟩,
    ⟨20000, 0, [], 63, (live.setAin 63 { Ain.init with last := some 0, wait := some [] }).wr (SNS_AIN_CFG 63) SNS_AIN_CFG_en 1, by decide⟩,
    ⟨0, 10000000000, 63, 100, 5000000000, ⟨0, 0, true, [], []⟩, [], live.setAin 63 { Ain.init with conv := [⟨0, 0, true, [], []⟩] }, by decide⟩,
    ⟨0, 0, 0, 23, 3000, true, live, (live.setFin 23 { live.fin 23 with level := true }).gndFin 23, by decide⟩,
    ⟨0, 23, live, by decide⟩,
    ⟨0, 1#32, 2#32, live, by decide⟩,
    ⟨0, 15, -80, live.wr (SNS_LOSS_CFG 15) SNS_LOSS_CFG_en 1, by decide⟩,
    ⟨0, 15, live.wr (SNS_LOSS_CFG 15) SNS_LOSS_CFG_exc 1, by decide⟩,
    ⟨0, 15, live, by decide⟩,
    ⟨0, 0, 0, ringed live 8 1 0x10 2080 [0x7F#32], ringedDesc 0x10 2080 [0x7F#32], 15, 7, by decide⟩⟩

theorem test_FusionAndYieldCommands_hypotheses :
    (∃ (t : Nat) (u : Fin 16) (x : UInst) (rest : List UInst) (s : State), ((s.fu u).pend = x :: rest) ∧ (s.fusRuns = true) ∧ (s.fuEn u = true) ∧ (s.fuKind u ≠ 0) ∧ (s.fuKind u ≠ 5) ∧ (x.cyc + us (s.rd (FUS_FU_SET u) FUS_FU_SET_settle) ≤ max s.cyc t)) ∧
    (∃ (t cap : Nat) (src : Fin 256) (v : HeldSample) (value : Word) (s : State), (s.fusRuns = true) ∧ ((s.at t).lateUnits ⟨src, cap, v.vals, v.speeds, false⟩ ≠ [])) ∧
    (∃ (t : Nat) (k : Fin 16) (i : OpenInst) (s : State), (s.fusRuns = true) ∧ (((s.at t).collect.sched k).inst = some i) ∧ ((s.at t).collect.commitDue k i = true)) ∧
    (∃ (t : Nat) (s : State), (s.fusRuns = true) ∧ (s.fus.histAt + ms 10 ≤ max s.cyc t)) ∧
    (∃ (t : Nat) (s : State), (s.fus.yld.wait ≠ [])) ∧
    (∃ (t : Nat) (e : Hist) (fl : List (Nat × Int)) (s : State), (s.fusRuns = true) ∧ ((s.at t).headerDown = false) ∧ (s.fus.yld.down = true) ∧ (s.bit FUS_YLD_DLY FUS_YLD_DLY_adapt = true) ∧ (fl = s.fus.yld.flows.filter fun f => decide ((s.at t).mtime < f.1 + 5000000000)) ∧ (fl ≠ []) ∧ (s.fus.hist.getLast? = some e) ∧ (e.t + 5000000000 ≤ (s.at t).mtime) ∧ ((s.rd FUS_YLD_HDR FUS_YLD_HDR_fmin : Int) * 2 ^ 24 ≤ 10 * meanI (fl.map Prod.snd))) ∧
    (∃ (t : Nat) (s : State), (s.fusRuns = true) ∧ ((s.at t).headerDown = false) ∧ (s.fus.yld.down = true) ∧ (s.bit FUS_YLD_DLY FUS_YLD_DLY_adapt = false)) ∧
    (∃ (t m : Nat) (x : Int) (s : State), (s.fus.yld.meas = some (m, x)) ∧ ((s.at t).headerDown = true ∨ m + 100000000 * s.rd FUS_YLD_DLY FUS_YLD_DLY_dmax ≤ (s.at t).mtime)) ∧
    (∃ (t : Nat) (r : Fin 64) (s : State) (d : RDesc), (s.bufBad r d = false) ∧ (16 ≤ d.len)) ∧
    (∃ (t : Nat) (r : Fin 64) (s : State) (d : RDesc), (s.opFor r 8 2 0x01 = some d) ∧ (s.bufBad r d = false) ∧ (32 ≤ d.len)) ∧
    (∃ (t len recs since : Nat) (r : Fin 64) (s : State) (d : RDesc), (s.filling r = some d) ∧ (d.st = .started len recs since) ∧ (isRecv (s.ringTgt r) (s.ringFunc r) = true) ∧ (recs ≠ 0) ∧ (since + (s.recvInfo (s.ringTgt r * 16 + s.ringFunc r)).time ≤ max s.cyc t) ∧ (s.ringTgt r * 16 + s.ringFunc r ≠ 0x82)) :=
  ⟨⟨0, 15, ⟨0, 0, 0, 0, false⟩, [], ((live.wr (FUS_FU_CFG 15) FUS_FU_CFG_en 1).wr (FUS_FU_CFG 15) FUS_FU_CFG_kind 1).setFu 15 { FUnit.init with pend := [⟨0, 0, 0, 0, false⟩] }, by decide⟩,
    ⟨0, 5, 0, ⟨[0], [], true, false⟩, 0#32, ((live.wr (FUS_FU_CFG 15) FUS_FU_CFG_en 1).wr (FUS_FU_CFG 15) FUS_FU_CFG_kind 1).setFu 15 { FUnit.init with prev := 10 }, by decide⟩,
    ⟨20000000, 15, ⟨0, 0, 0, [], []⟩, live.setSched 15 { Sched.init with inst := some ⟨0, 0, 0, [], []⟩ }, by decide⟩,
    ⟨2000000, live, by decide⟩,
    ⟨0, live.setYld { live.fus.yld with wait := [[]] }, by decide⟩,
    ⟨1000000000, ⟨0, 0, 0#32, 0#32, 0, 0, false⟩, [(1, 2 ^ 40)], { (live.wr FUS_YLD_DLY FUS_YLD_DLY_adapt 1).setYld { live.fus.yld with down := true, flows := [(1, 2 ^ 40)] } with fus := { live.fus with hist := [⟨0, 0, 0#32, 0#32, 0, 0, false⟩], yld := { live.fus.yld with down := true, flows := [(1, 2 ^ 40)] } } }, by decide⟩,
    ⟨0, live.setYld { live.fus.yld with down := true }, by decide⟩,
    ⟨1000000000000, 0, 0, live.setYld { live.fus.yld with meas := some (0, 0) }, by decide⟩,
    ⟨0, 0, ringed live 8 0 1 16 [], ringedDesc 1 16 [], by decide⟩,
    ⟨0, 0, ringed live 8 2 1 32 [], ringedDesc 1 32 [], by decide⟩,
    ⟨2000000000, 16, 1, 0, 0, (ringed live 7 0 1 32 []).setRing 0 { Ring.init with descs := [⟨0, descWords 1 32 [], .started 16 1 0, false⟩] }, ⟨0, descWords 1 32 [], .started 16 1 0, false⟩, by decide⟩⟩

theorem test_SettingLoopCommands_hypotheses :
    (∃ (t : Nat) (s : State), (s.hslRuns = true) ∧ (HSL_CFG_mode.get (s.at t).hslCfgNow ≠ 0) ∧ (s.hsl.run = none) ∧ ((s.at t).hslReached = true) ∧ (s.hslFrozen = false) ∧ (HSL_CFG_mode.get (s.at t).hslCfgNow ≠ 3) ∧ ((s.at t).hslDue = false)) ∧
    (∃ (t : Nat) (s : State), (s.hslRuns = true) ∧ (HSL_CFG_mode.get (s.at t).hslCfgNow ≠ 0) ∧ (s.hsl.run = none) ∧ ((s.at t).hslReached = true) ∧ (s.hslFrozen = false) ∧ (HSL_CFG_mode.get (s.at t).hslCfgNow ≠ 3) ∧ ((s.at t).hslDue = true) ∧ (problemBad (s.at t).hslSource = false)) ∧
    (∃ (t : Nat) (x : HslRun) (s : State), (s.hsl.run = some x) ∧ (s.hslRuns = true) ∧ (x.cyc + us 16 ≤ max s.cyc t) ∧ (problemBad s.hsl.sh = false)) ∧
    (∃ (t : Nat) (v : Word) (s : State), (s.readyReg HSL_CFG = true) ∧ (reservedOf HSL_CFG v = 0#32) ∧ (s.rd HSL_CFG HSL_CFG_mode = 0) ∧ (HSL_CFG_mode.get v ≠ 0) ∧ (s.hslTrgBad = false)) ∧
    (∃ (t : Nat) (v : Word) (s : State), (s.readyReg HSL_CFG = true) ∧ (reservedOf HSL_CFG v = 0#32) ∧ (s.rd HSL_CFG HSL_CFG_mode ≠ 0 ∨ HSL_CFG_mode.get v = 0) ∧ (s.hsl.pending = false)) ∧
    (∃ (t : Nat) (r : Fin 64) (buf : List Word) (s : State) (d : RDesc), (s.opFor r 0x09 0 1 = some d) ∧ (bits (d.par 8) 10 0 + (d.len + 3) / 4 ≤ probSize) ∧ (bits (d.par 8) 17 16 = 0) ∧ (d.len ≠ 0) ∧ (d.len % 4 = 0) ∧ (s.canTake r d (4 * buf.length) = true) ∧ ((((s.bufWords r d buf).zipIdx (bits (d.par 8) 10 0)).any fun p => probBad p.2 p.1) = false)) ∧
    (∃ (t : Nat) (r : Fin 64) (s : State) (d : RDesc), (s.opFor r 0x09 0 2 = some d) ∧ (s.hsl.mode ≠ 0)) ∧
    (∃ (t : Nat) (r : Fin 64) (s : State) (d : RDesc), (s.opFor r 0x09 0 3 = some d) ∧ (bits (d.par 8) 10 0 + (d.len + 3) / 4 ≤ probSize) ∧ (bits (d.par 8) 17 16 < 2) ∧ (d.len % 4 = 0) ∧ (s.bufBad r d = false)) ∧
    (∃ (t : Nat) (r : Fin 64) (buf : List Word) (s : State) (d : RDesc) (l : List (Nat × Word)), (s.opFor r 0x09 0 4 = some d) ∧ (d.len % 8 = 0) ∧ (d.len ≠ 0) ∧ (s.canTake r d (4 * buf.length) = true) ∧ (s.hsl.mode ≠ 0) ∧ (l = (List.range (d.len / 8)).map fun i => (bits (wAt (s.bufWords r d buf) (2 * i)) 4 0, wAt (s.bufWords r d buf) (2 * i + 1))) ∧ ((l.any fun p => decide (24 ≤ p.1)) = false)) ∧
    (∃ (t : Nat) (r : Fin 64) (s : State) (d : RDesc), (s.opFor r 9 1 0x01 = some d) ∧ (s.bufBad r d = false) ∧ (272 ≤ d.len)) :=
  ⟨⟨10, (live.wr HSL_CFG HSL_CFG_mode 1).setHsl { live.hsl with armed := true, mode := 1, arm := 0, cfgAt := 5 }, by decide⟩,
    ⟨10, (live.wr HSL_CFG HSL_CFG_mode 1).setHsl { live.hsl with armed := true, mode := 1, arm := 0, cfgAt := 5, pending := true, pendAt := 5 }, by decide⟩,
    ⟨10000000, ⟨0, 0, true, 0, 0, 0#32, 0#32, 0, [], 0, [], [], 0, 0, 1, 0, 20000000, 10⟩, live.setHsl { live.hsl with run := some ⟨0, 0, true, 0, 0, 0#32, 0#32, 0, [], 0, [], [], 0, 0, 1, 0, 20000000, 10⟩ }, by decide⟩,
    ⟨0, HSL_CFG_mode.put 0#32 2, ((live.wr HSL_TRG HSL_TRG_dom 1).wr HSL_TRG HSL_TRG_per 20).wr HSL_TRG HSL_TRG_dl 1, by decide⟩,
    ⟨0, HSL_CFG_mode.put 0#32 2, live.wr HSL_CFG HSL_CFG_mode 1, by decide⟩,
    ⟨0, 0, [0#32], ringed live 9 0 1 4 [1063#32], ringedDesc 1 4 [1063#32], by decide⟩,
    ⟨0, 0, (ringed live 9 0 2 0 []).setHsl { live.hsl with mode := 1 }, ringedDesc 2 0 [], by decide⟩,
    ⟨0, 0, ringed live 9 0 3 4 [0x10427#32], ringedDesc 3 4 [0x10427#32], by decide⟩,
    ⟨0, 0, [23#32, 7#32], (ringed live 9 0 4 8 []).setHsl { live.hsl with mode := 1 }, ringedDesc 4 8 [], [(23, 7#32)], by decide⟩,
    ⟨0, 0, ringed live 9 1 1 272 [], ringedDesc 1 272 [], by decide⟩⟩

theorem test_CameraCommands_hypotheses :
    (∃ (t i : Nat) (c : Fin 12) (x : VTrig) (s : State), ((s.cam c).trigs.findIdx? (fun x => !x.sent) = some i) ∧ ((s.cam c).trigs[i]? = some x) ∧ (s.visRuns = true) ∧ (x.at_ ≤ (s.at t).ns + 1000 * s.rd (VIS_CAM_WIN c) VIS_CAM_WIN_trig_lat) ∧ (s.camEarly c x = true)) ∧
    (∃ (t i : Nat) (c : Fin 12) (x : VTrig) (s : State), ((s.cam c).trigs.findIdx? (fun x => !x.sent) = some i) ∧ ((s.cam c).trigs[i]? = some x) ∧ (s.visRuns = true) ∧ (x.at_ ≤ (s.at t).ns + 1000 * s.rd (VIS_CAM_WIN c) VIS_CAM_WIN_trig_lat) ∧ (s.camEarly c x = false) ∧ (s.winClash c x = false)) ∧
    (∃ (t : Nat) (c : Fin 12) (x : VTrig) (rest : List VTrig) (s : State), ((s.cam c).trigs = x :: rest) ∧ (s.visRuns = true) ∧ (x.sent = true) ∧ ((s.at t).winHi c x ≤ (s.at t).ns)) ∧
    (∃ (t fnum : Nat) (c : Fin 12) (ecc : List EccHit) (s z y : State), (z = (s.at t).camsNow) ∧ (y = z.closeRead c ecc) ∧ (z.visRuns = true) ∧ (z.camEn c = true) ∧ (z.bit (VIS_LINK (c / 4)) VIS_LINK_lock = true) ∧ (z.linkOver (c / 4) = false) ∧ ((y.cam c).trigs.findIdx? (fun x => y.winOpen c x) = none)) ∧
    (∃ (t fnum i : Nat) (c : Fin 12) (ecc : List EccHit) (x : VTrig) (s z y w : State), (z = (s.at t).camsNow) ∧ (y = z.closeRead c ecc) ∧ (z.visRuns = true) ∧ (z.camEn c = true) ∧ (z.bit (VIS_LINK (c / 4)) VIS_LINK_lock = true) ∧ (z.linkOver (c / 4) = false) ∧ ((y.cam c).trigs.findIdx? (fun x => y.winOpen c x) = some i) ∧ ((y.cam c).trigs[i]? = some x) ∧ (w = (if (y.cam c).due y.cyc then y.camCopy c else y).tokenStep c)) ∧
    (∃ (t : Nat) (c : Fin 12) (px : List Nat) (f : VFrame) (s : State), (s.visRuns = true) ∧ (s.camEn c = true) ∧ ((s.cam c).frame = some f)) ∧
    (∃ (t : Nat) (c : Fin 12) (ecc : List EccHit) (s : State), (s.visRuns = true)) ∧
    (∃ (t : Nat) (c : Fin 12) (f : VFrame) (ecc : List EccHit) (s : State), ((s.cam c).frame = some f) ∧ (s.visRuns = true) ∧ (sec 1 ≤ (max s.cyc t - f.fsCyc) * s.camRate c)) ∧
    (∃ (t gear : Nat) (n : Fin 3) (s : State), (s.visRuns = true) ∧ ((s.alink n).st = 1)) ∧
    (∃ (t : Nat) (n : Fin 3) (s : State), (s.visRuns = true) ∧ ((s.alink n).st = 1) ∧ ((s.alink n).since + ms 300 ≤ max s.cyc t)) ∧
    (∃ (t c : Nat) (n : Fin 3) (s : State), (s.visRuns = true) ∧ ((s.alink n).retryAt = some c) ∧ (c ≤ max s.cyc t)) ∧
    (∃ (t : Nat) (n : Fin 3) (s : State), (s.visRuns = true) ∧ ((s.alink n).st = 2)) ∧
    (∃ (t : Nat) (n : Fin 3) (s : State), (s.visRuns = true) ∧ ((s.alink n).st ≠ 0)) ∧
    (∃ (t : Nat) (c : Fin 12) (v : Word) (s z : State), (z = (s.at t).camsNow) ∧ (z.readyReg (VIS_CAM_CFG c) = true) ∧ (reservedOf (VIS_CAM_CFG c) v = 0#32) ∧ (z.camEn c = false) ∧ (VIS_CAM_CFG_en.get v = 1) ∧ (z.camBad c v = false) ∧ (z.camLoad c (VIS_CAM_CFG_rate_cap.get v) ≤ 248832000) ∧ (z.camSum + z.camLoad c (VIS_CAM_CFG_rate_cap.get v) ≤ 1500000000)) ∧
    (∃ (t : Nat) (e : Fin 4) (v : Word) (s : State), (s.readyReg (VIS_ENC_CFG e) = true) ∧ (reservedOf (VIS_ENC_CFG e) v = 0#32) ∧ (s.bit (VIS_ENC_CFG e) VIS_ENC_CFG_en = false) ∧ (VIS_ENC_CFG_en.get v = 1) ∧ (s.encBad e v = false) ∧ (s.encLoad (VIS_ENC_CFG_cam.get v) ≤ 248832000)) ∧
    (∃ (t i : Nat) (c : Fin 12) (bs : List Byte) (rest : List (List Byte)) (s : State), ((s.cam c).disp = bs :: rest) ∧ (s.visRuns = true) ∧ (i = (if ((s.cam c).ready != some 0 && (s.cam c).held != some 0) = true then 0 else if ((s.cam c).ready != some 1 && (s.cam c).held != some 1) = true then 1 else 2)) ∧ (s.rd (VIS_CAM_DISP c) VIS_CAM_DISP_base * 0x200000 + i * bs.length + bs.length ≤ sharedTop) ∧ (areasMeet [(s.rd (VIS_CAM_DISP c) VIS_CAM_DISP_base * 0x200000 + i * bs.length, bs.length)] s.ethMem = false)) ∧
    (∃ (t : Nat) (e : Fin 4) (nal : List Byte) (i : VItem) (rest : List VItem) (s : State), ((s.enc e).q = i :: rest) ∧ (s.visRuns = true) ∧ (s.bit (VIS_ENC_CFG e) VIS_ENC_CFG_en = true) ∧ (sliceNal (s.nextIdr e i) nal = true)) :=
  ⟨⟨0, 0, 11, ⟨0, 0, 0, 0, none, none, 0, false, false⟩, (live.wr (VIS_CAM_CFG 11) VIS_CAM_CFG_rate_cap 30).setCam 11 { Cam.init with trigs := [⟨0, 0, 0, 0, none, none, 0, false, false⟩], lastExp := some 0 }, by decide⟩,
    ⟨0, 0, 11, ⟨0, 0, 0, 0, none, none, 0, false, false⟩, live.setCam 11 { Cam.init with trigs := [⟨0, 0, 0, 0, none, none, 0, false, false⟩] }, by decide⟩,
    ⟨100000000, 11, ⟨0, 0, 0, 0, none, none, 0, false, true⟩, [], live.setCam 11 { Cam.init with trigs := [⟨0, 0, 0, 0, none, none, 0, false, true⟩] }, by decide⟩,
    ⟨0, 0, 11, [], (live.wr (VIS_CAM_CFG 11) VIS_CAM_CFG_en 1).wr (VIS_LINK 2) VIS_LINK_lock 1, ((live.wr (VIS_CAM_CFG 11) VIS_CAM_CFG_en 1).wr (VIS_LINK 2) VIS_LINK_lock 1).camsNow, ((live.wr (VIS_CAM_CFG 11) VIS_CAM_CFG_en 1).wr (VIS_LINK 2) VIS_LINK_lock 1).camsNow, by decide⟩,
    ⟨0, 0, 0, 11, [], ⟨0, 0, 0, 0, none, none, 0, false, true⟩, (((live.wr (VIS_CAM_CFG 11) VIS_CAM_CFG_en 1).wr (VIS_LINK 2) VIS_LINK_lock 1).setCam 11 { Cam.init with trigs := [⟨0, 0, 0, 0, none, none, 0, false, true⟩] }), (((live.wr (VIS_CAM_CFG 11) VIS_CAM_CFG_en 1).wr (VIS_LINK 2) VIS_LINK_lock 1).setCam 11 { Cam.init with trigs := [⟨0, 0, 0, 0, none, none, 0, false, true⟩] }).camsNow, (((live.wr (VIS_CAM_CFG 11) VIS_CAM_CFG_en 1).wr (VIS_LINK 2) VIS_LINK_lock 1).setCam 11 { Cam.init with trigs := [⟨0, 0, 0, 0, none, none, 0, false, true⟩] }).camsNow, (((live.wr (VIS_CAM_CFG 11) VIS_CAM_CFG_en 1).wr (VIS_LINK 2) VIS_LINK_lock 1).setCam 11 { Cam.init with trigs := [⟨0, 0, 0, 0, none, none, 0, false, true⟩] }).camsNow.tokenStep 11, by decide⟩,
    ⟨0, 11, [5], ⟨⟨0, 0, 0, 0, none, none, 0, false, true⟩, 0, 0, 0, 0, [], 0, 0#32⟩, (live.wr (VIS_CAM_CFG 11) VIS_CAM_CFG_en 1).setCam 11 { Cam.init with frame := some ⟨⟨0, 0, 0, 0, none, none, 0, false, true⟩, 0, 0, 0, 0, [], 0, 0#32⟩ }, by decide⟩,
    ⟨0, 11, [], live, by decide⟩,
    ⟨200000000, 11, ⟨⟨0, 0, 0, 0, none, none, 0, false, true⟩, 0, 0, 0, 0, [], 0, 0#32⟩, [], (live.wr (VIS_CAM_CFG 11) VIS_CAM_CFG_rate_cap 60).setCam 11 { Cam.init with frame := some ⟨⟨0, 0, 0, 0, none, none, 0, false, true⟩, 0, 0, 0, 0, [], 0, 0#32⟩ }, by decide⟩,
    ⟨0, 5, 2, live.setAlink 2 ⟨1, 0, 0, none, 0⟩, by decide⟩,
    ⟨100000000, 2, live.setAlink 2 ⟨1, 0, 0, none, 0⟩, by decide⟩,
    ⟨0, 0, 2, live.setAlink 2 ⟨0, 0, 1, some 0, 0⟩, by decide⟩,
    ⟨0, 2, live.setAlink 2 ⟨2, 0, 0, none, 0⟩, by decide⟩,
    ⟨0, 2, live.setAlink 2 ⟨2, 0, 0, none, 0⟩, by decide⟩,
    ⟨0, 11, VIS_CAM_CFG_rate_cap.put (VIS_CAM_CFG_en.put 0#32 1) 30, ((live.wr (VIS_CAM_GEO 11) VIS_CAM_GEO_width 640).wr (VIS_CAM_GEO 11) VIS_CAM_GEO_height 480).wr (VIS_CAM_WIN 11) VIS_CAM_WIN_win_hi 9, (((live.wr (VIS_CAM_GEO 11) VIS_CAM_GEO_width 640).wr (VIS_CAM_GEO 11) VIS_CAM_GEO_height 480).wr (VIS_CAM_WIN 11) VIS_CAM_WIN_win_hi 9).camsNow, by decide⟩,
    ⟨0, 3, VIS_ENC_CFG_idr_int.put (VIS_ENC_CFG_en.put 0#32 1) 30, (live.wr (VIS_ENC_RATE 3) VIS_ENC_RATE_rate 100).wr (VIS_ENC_RATE 3) VIS_ENC_RATE_peak 100, by decide⟩,
    ⟨0, 1, 11, [], [], live.setCam 11 { Cam.init with disp := [[]], ready := some 0 }, by decide⟩,
    ⟨0, 3, [0x26#8, 1#8, 0xAF#8], ⟨0, 0, 0, 0, 0, false, false, false, []⟩, [], (live.wr (VIS_ENC_CFG 3) VIS_ENC_CFG_en 1).setEnc 3 { Enc.init with q := [⟨0, 0, 0, 0, 0, false, false, false, []⟩] }, by decide⟩⟩

theorem test_VisionRingCommands_hypotheses :
    (∃ (t m : Nat) (c : Fin 12) (i : VItem) (rest : List (Nat × VItem)) (s : State), ((s.cam c).tens = (m, i) :: rest) ∧ (s.inferRuns = true) ∧ ((s.slot m).q.length < 4)) ∧
    (∃ (t m k : Nat) (scal : List Word) (blob : List Byte) (ecc : List EccHit) (h : List Word) (i : VItem) (s : State), (s.vis.run = some (m, h, i, k)) ∧ (s.inferRuns = true) ∧ (max s.cyc t - k ≤ us (2 * mdMaxUs h))) ∧
    (∃ (t m k : Nat) (h : List Word) (i : VItem) (s : State), (s.vis.run = some (m, h, i, k)) ∧ (s.inferRuns = true) ∧ (us (2 * mdMaxUs h) < max s.cyc t - k)) ∧
    (∃ (t : Nat) (r : Fin 64) (buf : List Word) (s : State) (d : RDesc), (s.opFor r 0x0A 0 1 = some d) ∧ (d.len % 4 = 0) ∧ (d.len ≠ 0) ∧ (s.canTake r d (4 * buf.length) = true) ∧ (bits (d.par 8) 3 0 < 12) ∧ (d.len ≤ 128) ∧ (s.camEn (bits (d.par 8) 3 0) = true)) ∧
    (∃ (t : Nat) (c : Fin 12) (nack : Option Nat) (x : VExp) (rest : List VExp) (s y : State), ((s.cam c).exps = x :: rest) ∧ (s.visRuns = true) ∧ ((s.cam c).frame = none) ∧ (y = (s.at t).sendItems c x.items nack)) ∧
    (∃ (t : Nat) (r : Fin 64) (buf : List Word) (reads : List Byte) (s : State) (d : RDesc), (s.pow.holdUp = none) ∧ (s.opFor r 0x0A 0 2 = some d) ∧ (d.len % 4 = 0) ∧ (d.len ≠ 0) ∧ (s.canTake r d (4 * buf.length) = true) ∧ (bits (d.par 8) 3 0 < 12) ∧ (d.len ≤ 128)) ∧
    (∃ (t : Nat) (r : Fin 64) (s z : State) (d : RDesc), (z = (s.at t).camsNow) ∧ (z.opFor r 0x0A 0 4 = some d) ∧ (d.len % 4 = 0) ∧ (d.len ≠ 0) ∧ (z.bufBad r d = false) ∧ (bits (d.par 8) 3 0 < 12) ∧ (bits (d.par 8) 27 16 + d.len / 4 ≤ 4096)) ∧
    (∃ (t : Nat) (r : Fin 64) (buf : List Word) (s z : State) (d : RDesc) (l : List (Word × Nat)), (z = (s.at t).camsNow) ∧ (z.opFor r 0x0A 0 3 = some d) ∧ (d.len % 4 = 0) ∧ (d.len ≠ 0) ∧ (z.canTake r d (4 * buf.length) = true) ∧ (bits (d.par 8) 3 0 < 12) ∧ (bits (d.par 8) 27 16 + d.len / 4 ≤ 4096) ∧ (l = (z.bufWords r d buf).zipIdx (bits (d.par 8) 27 16)) ∧ ((l.any fun p => paramBad p.2 p.1) = false)) ∧
    (∃ (t : Nat) (r : Fin 64) (buf : List Word) (s : State) (d : RDesc) (ws h : List Word), (s.opFor r 0x0A 0 5 = some d) ∧ (s.canTake r d (4 * buf.length) = true) ∧ (d.len ≠ 0) ∧ (s.slotBound (bits (d.par 8) 2 0) = false) ∧ (ws = s.bufWords r d buf) ∧ (h = (List.range 16).map fun i => wAt ws (16 + i)) ∧ (containerOk ws 0x08 d.len = true) ∧ (mdBad h = false) ∧ (s.modelFits (bits (d.par 8) 2 0) h = true)) ∧
    (∃ (t : Nat) (r : Fin 64) (s : State) (d : RDesc), (s.opFor r 0x0A 0 6 = some d) ∧ (s.slotBound (bits (d.par 8) 2 0) = false)) ∧
    (∃ (t : Nat) (r : Fin 64) (s : State) (d : RDesc), (s.opFor r 0x0A 0 7 = some d) ∧ (s.bit (VIS_ENC_CFG (bits (d.par 8) 1 0)) VIS_ENC_CFG_en = true)) ∧
    (∃ (t : Nat) (r : Fin 64) (e : Fin 4) (s : State) (d : RDesc), (s.bufBad r d = false) ∧ (0 < d.len)) :=
  ⟨⟨0, 7, 11, ⟨0, 0, 0, 0, 0, false, false, false, []⟩, [], live.setCam 11 { Cam.init with tens := [(7, ⟨0, 0, 0, 0, 0, false, false, false, []⟩)] }, by decide⟩,
    ⟨0, 7, 0, [], [], [], [], ⟨0, 0, 0, 0, 0, false, false, false, []⟩, { live with vis := { live.vis with run := some (7, [], ⟨0, 0, 0, 0, 0, false, false, false, []⟩, 0) } }, by decide⟩,
    ⟨1, 7, 0, [], ⟨0, 0, 0, 0, 0, false, false, false, []⟩, { live with vis := { live.vis with run := some (7, [], ⟨0, 0, 0, 0, 0, false, false, false, []⟩, 0) } }, by decide⟩,
    ⟨0, 0, [7#32], (ringed live 0xA 0 1 4 [11#32]).wr (VIS_CAM_CFG 11) VIS_CAM_CFG_en 1, ringedDesc 1 4 [11#32], by decide⟩,
    ⟨0, 11, some 0, ⟨(0, 0), 0, 0, [5#32]⟩, [], live.setCam 11 { Cam.init with exps := [⟨(0, 0), 0, 0, [5#32]⟩] }, (live.setCam 11 { Cam.init with exps := [⟨(0, 0), 0, 0, [5#32]⟩] }).sendItems 11 [5#32] (some 0), by decide⟩,
    ⟨0, 0, [5#32], [], ringed live 0xA 0 2 4 [11#32], ringedDesc 2 4 [11#32], by decide⟩,
    ⟨0, 0, ringed live 0xA 0 4 4 [0x4FFF000B#32], (ringed live 0xA 0 4 4 [0x4FFF000B#32]).camsNow, ringedDesc 4 4 [0x4FFF000B#32], by decide⟩,
    ⟨0, 0, [7#32], ringed live 0xA 0 3 4 [0x0800000B#32], (ringed live 0xA 0 3 4 [0x0800000B#32]).camsNow, ringedDesc 3 4 [0x0800000B#32], [(7#32, 0x800)], by decide⟩,
    ⟨0, 0, [0x56524843#32, 0x08000001#32, 64#32] ++ List.replicate 13 0#32 ++ [0#32, 0x00100010#32, 0x40000000#32, 0#32, 0#32, 0#32, 0#32, 0#32, 1#32] ++ List.replicate 31 0#32, ringed live 0xA 0 5 224 [7#32], ringedDesc 5 224 [7#32], [0x56524843#32, 0x08000001#32, 64#32] ++ List.replicate 13 0#32 ++ [0#32, 0x00100010#32, 0x40000000#32, 0#32, 0#32, 0#32, 0#32, 0#32, 1#32] ++ List.replicate 31 0#32, [0#32, 0x00100010#32, 0x40000000#32, 0#32, 0#32, 0#32, 0#32, 0#32, 1#32] ++ List.replicate 7 0#32, by decide⟩,
    ⟨0, 0, ringed live 0xA 0 6 0 [7#32], ringedDesc 6 0 [7#32], by decide⟩,
    ⟨0, 0, (ringed live 0xA 0 7 0 [3#32]).wr (VIS_ENC_CFG 3) VIS_ENC_CFG_en 1, ringedDesc 7 0 [3#32], by decide⟩,
    ⟨0, 0, 3, ringed live 0xA 6 1 16 [], ringedDesc 1 16 [], by decide⟩⟩

theorem test_PositioningCommands_hypotheses :
    (∃ (t : Nat) (x : GnssFix) (s z : State), (z = s.at t) ∧ (z.gnsRuns = true) ∧ (z.gns.epoch ≠ some (z.mtime / 10000000 * 10000000)) ∧ (z.antMisuse 0 x.cur0 = false) ∧ (z.antMisuse 1 x.cur1 = false)) ∧
    (∃ (t ma : Nat) (a : Fin 2) (s z : State), (z = s.at t) ∧ (z.antOn a = true)) ∧
    (∃ (t : Nat) (a : Fin 2) (s y : State), (s.antOn a = true) ∧ (cellGet (fun _ => 0) s.gns.antShortAt a = 0 ∨ cellGet (fun _ => 0) s.gns.antShortAt a + ms 10 ≤ max s.cyc t) ∧ (y = (s.at t).antLimit a true)) ∧
    (∃ (t : Nat) (a : Fin 2) (s : State), (cellGet (fun _ => 0) s.gns.antRetry a ≠ 0) ∧ (s.pow.holdUp = none) ∧ (cellGet (fun _ => 0) s.gns.antRetry a ≤ max s.cyc t)) ∧
    (∃ (t : Nat) (chk : GnssCheck) (s z : State), (z = s.at t) ∧ (z.gnsRuns = true) ∧ (ionoFails chk = [] ∧ z.codeFails chk = [] ∧ z.powerFails chk = [] ∧ z.consFails chk = [] ∧ chk.noAgree = false) ∧ (z.oscFails chk = false) ∧ (z.gns.excl = [])) ∧
    (∃ (t : Nat) (v : Word) (s : State), (s.readyReg GNS_CFG = true) ∧ (reservedOf GNS_CFG v = 0#32) ∧ (s.gnsLocked v = false)) ∧
    (∃ (t : Nat) (r : Fin 64) (buf : List Byte) (s : State) (d : RDesc) (bs : List Byte), (s.opFor r 0x0B 0 1 = some d) ∧ (s.canTake r d buf.length = true) ∧ (bs = s.gns.rtcm ++ s.bufIn r d buf)) ∧
    (∃ (t : Nat) (r : Fin 64) (s : State) (d : RDesc), (s.opFor r 0x0B 0 2 = some d) ∧ (s.bufBad r d = false) ∧ (s.pow.holdUp = none) ∧ (2 ≤ bits (d.par 8) 5 0) ∧ (bits (d.par 8) 5 0 ≤ 32) ∧ (bits (d.par 8) 11 8 ≠ 0) ∧ (64 + streams (bits (d.par 8) 11 8) * bits (d.par 8) 5 0 * 81840 ≤ d.len) ∧ (s.gns.snap = none) ∧ (¬ (4 ≤ bits (d.par 8) 11 8 ∧ s.bit GNS_CFG GNS_CFG_head = false)) ∧ (u64 (d.par 9) (d.par 10) = 0)) ∧
    (∃ (t : Nat) (agc0 agc1 : BitVec 16) (samples : List Byte) (x : SnapRun) (s z : State) (d : RDesc), (z = s.at t) ∧ (z.gns.snap = some x) ∧ (z.pow.holdUp = none) ∧ (x.begun ≠ none) ∧ (z.snapBegan x + ms x.len ≤ z.cyc) ∧ (z.running x.op.1 x.op.2 = some d)) ∧
    (∃ (t : Nat) (r : Fin 64) (s : State) (d : RDesc), (s.bufBad r d = false) ∧ (64 ≤ d.len)) :=
  ⟨⟨0, ⟨[], 0, 0, 0, 0, 0, 0, 0, none, 0, 0, 0, false, 0, 0, 0, 0, none, 0, 0⟩, live.wr GNS_CFG GNS_CFG_en 1, (live.wr GNS_CFG GNS_CFG_en 1).at 0, by decide⟩,
    ⟨0, 0, 1, live.wr GNS_ANT GNS_ANT_sup1 1, (live.wr GNS_ANT GNS_ANT_sup1 1).at 0, by decide⟩,
    ⟨0, 1, live.wr GNS_ANT GNS_ANT_sup1 1, ((live.wr GNS_ANT GNS_ANT_sup1 1).at 0).antLimit 1 true, by decide⟩,
    ⟨1, 1, live.setGns { live.gns with antRetry := [(1, 1)] }, by decide⟩,
    ⟨0, ⟨[], [], [], [], [], false, 0, 0⟩, live.wr GNS_CFG GNS_CFG_en 1, (live.wr GNS_CFG GNS_CFG_en 1).at 0, by decide⟩,
    ⟨0, 0#32, live.wr GNS_CFG GNS_CFG_en 1, by decide⟩,
    ⟨0, 0, [0x55#8], ringed live 0xB 0 1 1 [], ringedDesc 1 1 [], [0x55#8], by decide⟩,
    ⟨0, 0, ringed live 0xB 0 2 163744 [0x102#32], ringedDesc 2 163744 [0x102#32], by decide⟩,
    ⟨1000000000, 0#16, 0#16, [], ⟨(0, 0), 0, 2, 1, some 0, false, some 0⟩, (live.setGns { live.gns with snap := some ⟨(0, 0), 0, 2, 1, some 0, false, some 0⟩ }).setRing 0 { Ring.init with descs := [⟨0, descWords 2 163744 [], .started 0 0 0, false⟩] }, ((live.setGns { live.gns with snap := some ⟨(0, 0), 0, 2, 1, some 0, false, some 0⟩ }).setRing 0 { Ring.init with descs := [⟨0, descWords 2 163744 [], .started 0 0 0, false⟩] }).at 1000000000, ⟨0, descWords 2 163744 [], .started 0 0 0, false⟩, by decide⟩,
    ⟨0, 0, ringed live 0xB 2 1 64 [], ringedDesc 1 64 [], by decide⟩⟩

theorem test_ModuleTimeCommands_hypotheses :
    (∃ (t : Nat) (sol : TimeSol) (s z : State), (z = s.at t) ∧ (z.pow.on = true) ∧ (z.mtime % 1000000000 < 5) ∧ (z.gns.second ≠ some (z.mtime / 1000000000 * 1000000000))) ∧
    (∃ (t : Nat) (x : Nat × Nat) (s : State), (s.tstate = tsSlew) ∧ (s.gns.slew = some x) ∧ (x.2 * sec 1 < 20 * (max s.cyc t - x.1) + 5 * sec 1)) ∧
    (∃ (t c : Nat) (s : State), (s.gns.ppsEnd = some c) ∧ (c ≤ max s.cyc t)) :=
  ⟨⟨200000000, ⟨0, 0, 0, 0, false, 0, 0⟩, live, live.at 200000000, by decide⟩,
    ⟨0, (0, 0), (live.setGns { live.gns with slew := some (0, 0) }).wr GNS_STAT GNS_STAT_tstate tsSlew, by decide⟩,
    ⟨0, 0, live.setGns { live.gns with ppsEnd := some 0 }, by decide⟩⟩

theorem test_CanCommands_hypotheses :
    (∃ (t : Nat) (n : Fin 8) (v : Word) (s : State), (s.readyReg (CAN_CFG n) = true) ∧ (reservedOf (CAN_CFG n) v = 0#32) ∧ (s.canEn n = false) ∧ (s.canK12 n = false) ∧ (CAN_CFG_en.get v = 1) ∧ (s.canTimingBad n = false)) ∧
    (∃ (t : Nat) (n : Fin 8) (v : Word) (s : State), (s.readyReg (CAN_CFG n) = true) ∧ (reservedOf (CAN_CFG n) v = 0#32) ∧ (s.canEn n = true) ∧ (s.canK12 n = false) ∧ (CAN_CFG_en.get v = 0)) ∧
    (∃ (t : Nat) (n : Fin 8) (frame : CanFrame) (s z x : State), (z = s.at t) ∧ (z.canHears n frame.sof = true) ∧ (x = (z.bump (CAN_CNT0 n) CAN_CNT0_rx_cnt).canGood n)) ∧
    (∃ (t q : Nat) (n : Fin 8) (s : State), (s.canEn n = true) ∧ (s.bit (CAN_CFG n) CAN_CFG_listen = false) ∧ (s.canState n < csBusOff) ∧ ((s.canCh n).cur = none) ∧ ((s.canCh n).best = some q)) ∧
    (∃ (t sof q : Nat) (n : Fin 8) (f : TxFrame) (rest : List TxFrame) (s z : State), (z = s.at t) ∧ (25 * sof ≤ 10 * z.cyc) ∧ ((z.canCh n).cur = some q) ∧ ((z.canCh n).queue q = f :: rest)) ∧
    (∃ (t : Nat) (n : Fin 8) (err : CanFault) (s : State), (s.canOnBus n = true) ∧ (err.own = false) ∧ (err.forced = false)) ∧
    (∃ (t : Nat) (n : Fin 8) (err : CanFault) (s : State), (s.canOnBus n = true) ∧ (err.own = true) ∧ (err.forced = false) ∧ ((s.canCh n).cur ≠ none)) ∧
    (∃ (t : Nat) (n : Fin 8) (v : Word) (s : State), (s.readyReg (CAN_CTL n) = true) ∧ (reservedOf (CAN_CTL n) v = 0#32) ∧ (s.canK12 n = false)) ∧
    (∃ (t : Nat) (n : Fin 8) (s : State), (s.canState n = csRecovering)) ∧
    (∃ (t : Nat) (r : Fin 64) (s : State) (d : RDesc), (s.ringFunc r < 8) ∧ (s.behindRing r = false) ∧ (s.opFor r 0x0C (s.ringFunc r) 1 = some d) ∧ (s.bufBad r d = false) ∧ (0 < d.len)) ∧
    (∃ (t n q : Nat) (fdf brs : Bool) (r : Fin 64) (buf : List Byte) (s : State) (d : RDesc) (bs : List Byte) (h0 h1 : Word), (s.ringFunc r = 8 + n) ∧ (s.opFor r 0x0C (8 + n) 1 = some d) ∧ (s.canTake r d buf.length = true) ∧ (q = bits (d.par 8) 1 0) ∧ (bs = s.bufIn r d buf) ∧ (h0 = wAt (bytesWords bs) 0) ∧ (h1 = wAt (bytesWords bs) 1) ∧ (fdf = (bits h0 31 31 == 1)) ∧ (brs = (bits h0 30 30 == 1)) ∧ (8 ≤ d.len) ∧ (fdf = true ∨ (bits h1 3 0 ≤ 8 ∧ brs = false)) ∧ (d.len = 8 + dlcLen fdf (bits h1 3 0)) ∧ (s.queueClass n q = s.rd (RNG_CFG r) RNG_CFG_class) ∧ (bits h1 31 4 = 0) ∧ (s.canEn n = true) ∧ (s.bit (CAN_CFG n) CAN_CFG_listen = false) ∧ (s.canK12 n = false) ∧ (fdf = false ∨ s.bit (CAN_CFG n) CAN_CFG_fd = true) ∧ (((s.canCh n).queue q).length < (if q = 0 then 16 else 64))) :=
  ⟨⟨0, 7, CAN_CFG_en.put 0#32 1, ((((((live.wr (CAN_NBT 7) CAN_NBT_brp 1).wr (CAN_NBT 7) CAN_NBT_tseg1 63).wr (CAN_NBT 7) CAN_NBT_tseg2 16).wr (CAN_DBT 7) CAN_DBT_dbrp 1).wr (CAN_DBT 7) CAN_DBT_dtseg1 31).wr (CAN_DBT 7) CAN_DBT_dtseg2 8).wr (CAN_DBT 7) CAN_DBT_tdc 1, by decide⟩,
    ⟨0, 7, 0#32, live.wr (CAN_CFG 7) CAN_CFG_en 1, by decide⟩,
    ⟨0, 7, ⟨false, false, false, false, false, 0, 0, [], 0⟩, live.wr (CAN_CFG 7) CAN_CFG_en 1, (live.wr (CAN_CFG 7) CAN_CFG_en 1).at 0, (((live.wr (CAN_CFG 7) CAN_CFG_en 1).at 0).bump (CAN_CNT0 7) CAN_CNT0_rx_cnt).canGood 7, by decide⟩,
    ⟨0, 3, 7, (live.wr (CAN_CFG 7) CAN_CFG_en 1).setCan 7 (CanCh.init.setQueue 3 [⟨false, false, false, 0, 0, [], none, none, false⟩]), by decide⟩,
    ⟨0, 0, 3, 7, ⟨false, false, false, 0, 0, [], none, none, false⟩, [], (live.wr (CAN_CFG 7) CAN_CFG_en 1).setCan 7 { CanCh.init.setQueue 3 [⟨false, false, false, 0, 0, [], none, none, false⟩] with cur := some 3 }, ((live.wr (CAN_CFG 7) CAN_CFG_en 1).setCan 7 { CanCh.init.setQueue 3 [⟨false, false, false, 0, 0, [], none, none, false⟩] with cur := some 3 }).at 0, by decide⟩,
    ⟨0, 7, ⟨false, 1, false⟩, live.wr (CAN_CFG 7) CAN_CFG_en 1, by decide⟩,
    ⟨0, 7, ⟨true, 8, false⟩, (live.wr (CAN_CFG 7) CAN_CFG_en 1).setCan 7 { CanCh.init with cur := some 3 }, by decide⟩,
    ⟨0, 7, 0xF1#32, live, by decide⟩,
    ⟨0, 7, live.wr (CAN_STAT 7) CAN_STAT_state csRecovering, by decide⟩,
    ⟨0, 0, ringed live 0xC 7 1 16 [], ringedDesc 1 16 [], by decide⟩,
    ⟨0, 7, 3, false, false, 0, [0#8, 0#8, 0#8, 0#8, 0#8, 0#8, 0#8, 0#8], ((ringed live 0xC 15 1 8 [3#32]).wr (CAN_CFG 7) CAN_CFG_en 1).wr (RNG_CFG 0) RNG_CFG_class ((ringed live 0xC 15 1 8 [3#32]).queueClass 7 3), ringedDesc 1 8 [3#32], [0#8, 0#8, 0#8, 0#8, 0#8, 0#8, 0#8, 0#8], 0#32, 0#32, by decide⟩⟩

theorem test_SwitchCommands_hypotheses :
    (∃ (t : Nat) (k : Fin 8) (bs : List Byte) (s : State), (s.netRuns = true) ∧ (s.netUp k = true) ∧ (14 ≤ bs.length)) ∧
    (∃ (t : Nat) (k : Fin 7) (s : State), (s.netRuns = true)) ∧
    (∃ (t : Nat) (k : Fin 7) (s x : State), (s.netRuns = true) ∧ (x = (s.at t).portCatch k) ∧ ((x.nport k).oper = none)) ∧
    (∃ (t : Nat) (k : Fin 7) (g : Gcl) (s x : State), (s.netRuns = true) ∧ (x = (s.at t).portCatch k) ∧ ((x.nport k).oper = some g) ∧ ((x.nport k).endM ≤ x.mtime) ∧ ((x.nport k).cut = true ∨ g.es.length ≤ (x.nport k).idx + 1)) ∧
    (∃ (t : Nat) (s x : State), (s.netRuns = true) ∧ (∀ c, s.net.syncAt = some c → c + ms 125 ≤ max s.cyc t) ∧ (x = ({ s.at t with net := { s.net with syncAt := some (max s.cyc t) } } : State).portsCatch)) ∧
    (∃ (t : Nat) (s x : State), (s.netRuns = true) ∧ (∀ c, s.net.pdAt = some c → c + sec 1 ≤ max s.cyc t) ∧ (x = ({ s.at t with net := { s.net with pdAt := some (max s.cyc t) } } : State).portsCatch)) ∧
    (∃ (t : Nat) (k : Fin 7) (s : State), (s.netRuns = true) ∧ (s.netUp k = true)) ∧
    (∃ (t : Nat) (grounded : Bool) (s : State), (s.netRuns = true) ∧ (s.pow.svc = !grounded)) ∧
    (∃ (t : Nat) (r : Fin 64) (buf : List Byte) (s : State) (d : RDesc), (s.opFor r 0x0D 0 1 = some d) ∧ (s.canTake r d buf.length = true) ∧ (14 ≤ d.len) ∧ (d.len ≤ 2000)) ∧
    (∃ (t : Nat) (r : Fin 64) (s : State) (d : RDesc), (s.opFor r 0x0D 1 0x01 = some d) ∧ (s.bufBad r d = false) ∧ (0 < d.len)) ∧
    (∃ (t : Nat) (r : Fin 64) (buf : List Word) (s : State) (d : RDesc) (l : List (Word × Word)) (g : Gcl) (p p1 p2 : NPort), (s.opFor r 0x0D 2 0x10 = some d) ∧ (d.len % 8 = 0) ∧ (s.canTake r d (4 * buf.length) = true) ∧ (d.len ≠ 0) ∧ (d.len ≤ 1024) ∧ (bits (d.par 8) 2 0 ≠ 7) ∧ (l = gatePairs (s.bufWords r d buf)) ∧ (g = ⟨u64 (d.par 9) (d.par 10), l.map fun e => (bits e.1 31 24, e.2.toNat)⟩) ∧ (l.any gateBad = false) ∧ (g.cycle ≤ 1000000000) ∧ (p = s.nport (bits (d.par 8) 2 0)) ∧ (p1 = { p with adm := g, wroteAt := max s.cyc t, prevAdm := if p.wroteAt = max s.cyc t then p.prevAdm else p.adm }) ∧ (p2 = if bits (d.par 8) 7 7 = 1 then { p1 with pending := true, pendAt := max s.cyc t, pendM := (s.at t).mtime, prevPend := if p.pendAt = max s.cyc t then p.prevPend else p.pending } else p1)) ∧
    (∃ (t : Nat) (r : Fin 64) (buf : List Word) (s : State) (d : RDesc) (x : State), (s.opFor r 0x0D 2 0x11 = some d) ∧ (d.len % 16 = 0) ∧ (s.canTake r d (4 * buf.length) = true) ∧ (d.len ≠ 0) ∧ (bits (d.par 8) 7 0 + d.len / 16 ≤ 256) ∧ (x = ((filterQuads (s.bufWords r d buf)).zipIdx (bits (d.par 8) 7 0)).foldl (fun x e =>
          x.setSfilt e.2 { (⟨e.1, (x.sfilt e.2).blocked, 0, max s.cyc t⟩ : SFilter) with tok := SFilter.burst ⟨e.1, (x.sfilt e.2).blocked, 0, max s.cyc t⟩ }) (s.at t)) ∧ (((filterQuads (s.bufWords r d buf)).any fun q => bits (wAt q 0) 29 12 != 0) = false) ∧ (x.filtersClash = false)) ∧
    (∃ (t : Nat) (r : Fin 64) (s : State) (d : RDesc), (s.opFor r 0x0D 2 0x12 = some d)) :=
  ⟨⟨0, 7, List.replicate 60 0#8, live, by decide⟩,
    ⟨0, 6, live, by decide⟩,
    ⟨0, 6, live, (live.at 0).portCatch 6, by decide⟩,
    ⟨0, 6, ⟨0, []⟩, live.setNport 6 { NPort.init with oper := some ⟨0, []⟩ }, ((live.setNport 6 { NPort.init with oper := some ⟨0, []⟩ }).at 0).portCatch 6, by decide⟩,
    ⟨0, live, _, by decide, (fun c h => by cases h), rfl⟩,
    ⟨0, live, _, by decide, (fun c h => by cases h), rfl⟩,
    ⟨0, 6, (live.wr (NET_PORT 6) NET_PORT_en 1).wr (NET_PSTAT 6) NET_PSTAT_link 1, by decide⟩,
    ⟨0, true, live, by decide⟩,
    ⟨0, 0, List.replicate 64 0#8, ringed live 0xD 0 1 64 [], ringedDesc 1 64 [], by decide⟩,
    ⟨0, 0, ringed live 0xD 1 1 64 [], ringedDesc 1 64 [], by decide⟩,
    ⟨0, 0, [0xFF000000#32, 5000#32], ringed live 0xD 2 0x10 8 [6#32], ringedDesc 0x10 8 [6#32], [(0xFF000000#32, 5000#32)], ⟨0, [(255, 5000)]⟩, _, _, _, by decide, by decide, by decide, by decide, by decide, by decide, by decide, by decide, by decide, by decide, rfl, rfl, rfl⟩,
    ⟨0, 0, [0#32, 0#32, 0#32, 0#32], ringed live 0xD 2 0x11 16 [255#32], ringedDesc 0x11 16 [255#32], _, by decide, by decide, by decide, by decide, by decide, rfl, by decide⟩,
    ⟨0, 0, ringed live 0xD 2 0x12 0 [255#32], ringedDesc 0x12 0 [255#32], by decide⟩⟩

theorem test_ModemPortCommands_hypotheses :
    (∃ (t : Nat) (v : Option Word) (s : State), (s.netRuns = true) ∧ ((s.reg NET_RP_ADDR).toNat % 4 = 0)) ∧
    (∃ (t : Nat) (v : Word) (s : State), (s.netRuns = true) ∧ ((s.reg NET_RP_ADDR).toNat % 4 = 0)) ∧
    (∃ (t addr len : Nat) (bs : List Byte) (s : State), (s.netRuns = true) ∧ (s.rpUp = true) ∧ (addr + bs.length ≤ sharedTop) ∧ (addr + len ≤ sharedTop) ∧ (areasMeet [(addr, bs.length)] (s.at t).writtenAreas = false) ∧ ((s.at t).poisoned addr len = false)) ∧
    (∃ (t addr len : Nat) (bs : List Byte) (s : State), (s.netRuns = true) ∧ (s.rpUp = true) ∧ (sharedTop < addr + bs.length) ∧ (sharedTop < addr + len)) ∧
    (∃ (t : Nat) (s : State), (s.netRuns = true) ∧ (s.rpUp = true)) ∧
    (∃ (t : Nat) (s : State), (s.netRuns = true) ∧ (s.rpUp = true)) ∧
    (∃ (t c : Nat) (gen : Fin 5) (s : State), (s.net.rpRetry = some c) ∧ (s.netRuns = true) ∧ (s.bit NET_RP_CFG NET_RP_CFG_en = true) ∧ (c ≤ max s.cyc t)) :=
  ⟨⟨0, none, live, by decide⟩,
    ⟨0, 7#32, live, by decide⟩,
    ⟨0, 0, 4, [1#8, 2#8], (live.wr NET_RP_CFG NET_RP_CFG_en 1).wr NET_RP_STAT NET_RP_STAT_link 1, by decide⟩,
    ⟨0, sharedTop, 4, [1#8, 2#8], (live.wr NET_RP_CFG NET_RP_CFG_en 1).wr NET_RP_STAT NET_RP_STAT_link 1, by decide⟩,
    ⟨0, (live.wr NET_RP_CFG NET_RP_CFG_en 1).wr NET_RP_STAT NET_RP_STAT_link 1, by decide⟩,
    ⟨0, (live.wr NET_RP_CFG NET_RP_CFG_en 1).wr NET_RP_STAT NET_RP_STAT_link 1, by decide⟩,
    ⟨0, 0, 4, (live.wr NET_RP_CFG NET_RP_CFG_en 1).rpRetry (some 0), by decide⟩⟩

theorem test_DmaCommands_hypotheses :
    (∃ (t : Nat) (n : Fin 32) (beaten : List (Fin 32)) (s : State), (s.readyReg (DMA_CH_CTL n) = true) ∧ (((s.at t).dmaKick n (beaten.map Fin.val)).dmaShared n = false)) ∧
    (∃ (t : Nat) (n : Fin 32) (v : Word) (s : State), (s.readyReg (DMA_CH_NEXT_LO n) = true) ∧ (reservedOf (DMA_CH_NEXT_LO n) v = 0#32) ∧ (s.dmaState n = dmaIdle)) ∧
    (∃ (t : Nat) (n : Fin 32) (ws : List Word) (beaten : List (Fin 32)) (ecc : List EccHit) (d : List Word) (x : DChan) (s z y : State), (z = s.at t) ∧ (x = z.dch n) ∧ (x.fetch = true) ∧ (z.dmaState n ≠ dmaIdle) ∧ (z.dmaStalled n = false) ∧ (x.host = false → z.dmaDescAddr n + 64 ≤ sharedTop) ∧ (d = if x.host then (List.range 16).map (wAt ws) else z.memWords (z.dmaDescAddr n) 16) ∧ (eccBad ecc = false) ∧ (x.host = false → z.poisoned (z.dmaDescAddr n) 64 = false) ∧ (dBad d = false) ∧ (y = (z.eccAll ecc).setDch n { x with
            fetch := false, desc := some d, put := 0, got := 0, owned := x.owned ++ descAreas (z.dmaDescAddr n) x.host d, past := x.past ++ [(z.dmaDescAddr n, x.host)] }) ∧ (y.dmaShared n = false) ∧ (z.dmaClash n d = false) ∧ (z.mirrorMisused n d = false)) ∧
    (∃ (t : Nat) (n : Fin 32) (ws : List Word) (beaten : List (Fin 32)) (ecc : List EccHit) (s z : State), (z = s.at t) ∧ ((z.dch n).fetch = true) ∧ (z.dmaState n ≠ dmaIdle) ∧ (z.dmaStalled n = false) ∧ ((z.dch n).host = false → z.dmaDescAddr n + 64 ≤ sharedTop) ∧ (eccBad ecc = true)) ∧
    (∃ (t put : Nat) (n : Fin 32) (bs : List Byte) (ecc : List EccHit) (ws : List Word) (s z : State), (z = s.at t) ∧ ((z.dch n).desc = some ws) ∧ (z.dmaState n ≠ dmaIdle) ∧ (z.dmaState n ≠ dmaPaused) ∧ (z.dmaStalled n = false) ∧ (z.dmaReq n = 0 ∨ dLen ws = (z.dch n).put ∨ z.dmaLineOn (z.dmaReq n) = true) ∧ (eccBad ecc = false) ∧ (dLen ws ≤ z.dmaClean ws) ∧ (z.dmaOverfeeds n (dLen ws) = false)) ∧
    (∃ (t put : Nat) (n : Fin 32) (bs : List Byte) (ecc : List EccHit) (ws : List Word) (s z : State), (z = s.at t) ∧ ((z.dch n).desc = some ws) ∧ (z.dmaState n ≠ dmaIdle) ∧ (z.dmaState n ≠ dmaPaused) ∧ (z.dmaStalled n = false) ∧ (z.dmaReq n = 0 ∨ dLen ws = (z.dch n).put ∨ z.dmaLineOn (z.dmaReq n) = true) ∧ (eccBad ecc = true ∨ z.dmaClean ws < dLen ws) ∧ (z.dmaOverfeeds n put = false)) ∧
    (∃ (t : Nat) (n : Fin 32) (s : State), (s.readyReg (DMA_CH_CTL n) = true)) ∧
    (∃ (t put : Nat) (n : Fin 32) (bs : List Byte) (s : State), (s.dmaState n = dmaPausing) ∧ ((s.at t).dmaOverfeeds n put = false)) ∧
    (∃ (t : Nat) (n : Fin 32) (s : State), (s.readyReg (DMA_CH_CTL n) = true)) ∧
    (∃ (t put : Nat) (n : Fin 32) (bs : List Byte) (s : State), (s.readyReg (DMA_CH_CTL n) = true) ∧ ((s.at t).dmaOverfeeds n put = false)) ∧
    (∃ (t put : Nat) (n : Fin 32) (bs : List Byte) (s : State), (s.dmaState n ≠ dmaIdle) ∧ ((s.at t).dmaOverfeeds n put = false)) ∧
    (∃ (t : Nat) (q : Fin 4) (s z : State), (z = s.at t) ∧ (z.dmaLineOn (q + 1) = false) ∧ (z.lineAsks (q + 1) = true)) ∧
    (∃ (t : Nat) (q : Fin 4) (done : List (Nat × Nat × List Byte)) (s z : State), (z = s.at t) ∧ (z.dmaLineOn (q + 1) = true) ∧ (¬ (q.val = 3 ∧ z.sessWritten = true ∧ done.any (fun e => decide ((z.dch e.1).put < z.burstEnd e.1 e.2.1)) = true))) :=
  ⟨⟨0, 31, [], live, by decide⟩,
    ⟨0, 31, 0x40#32, live, by decide⟩,
    ⟨0, 31, [0x30000000#32], [], [], [0x30000000#32] ++ List.replicate 15 0#32, { DChan.init with fetch := true, host := true }, (live.setDmaState 31 dmaRun).setDch 31 { DChan.init with fetch := true, host := true }, _, _, rfl, by decide, by decide, by decide, by decide, by decide, by decide, by decide, by decide, by decide, rfl, by decide⟩,
    ⟨0, 31, [], [], [⟨2, 0, 0, 0, false⟩], (live.setDmaState 31 dmaRun).setDch 31 { DChan.init with fetch := true, host := true }, ((live.setDmaState 31 dmaRun).setDch 31 { DChan.init with fetch := true, host := true }).at 0, by decide⟩,
    ⟨0, 0, 31, [], [], List.replicate 16 0#32, (live.setDmaState 31 dmaRun).setDch 31 { DChan.init with desc := some (List.replicate 16 0#32) }, ((live.setDmaState 31 dmaRun).setDch 31 { DChan.init with desc := some (List.replicate 16 0#32) }).at 0, by decide⟩,
    ⟨0, 0, 31, [], [⟨2, 0, 0, 0, false⟩], List.replicate 16 0#32, (live.setDmaState 31 dmaRun).setDch 31 { DChan.init with desc := some (List.replicate 16 0#32) }, ((live.setDmaState 31 dmaRun).setDch 31 { DChan.init with desc := some (List.replicate 16 0#32) }).at 0, by decide⟩,
    ⟨0, 31, live, by decide⟩,
    ⟨0, 0, 31, [], live.setDmaState 31 dmaPausing, by decide⟩,
    ⟨0, 31, live, by decide⟩,
    ⟨0, 0, 31, [], live, by decide⟩,
    ⟨0, 0, 31, [], live.setDmaState 31 dmaRun, by decide⟩,
    ⟨0, 2, { (live.wr REC_CFG REC_CFG_mirror 1).wr REC_MIRROR REC_MIRROR_en 1 with recr := { live.recr with mirror := [⟨0, [0#32]⟩] } }, ({ (live.wr REC_CFG REC_CFG_mirror 1).wr REC_MIRROR REC_MIRROR_en 1 with recr := { live.recr with mirror := [⟨0, [0#32]⟩] } }).at 0, by decide⟩,
    ⟨0, 3, [], { live with dmaLine := cellSet (fun _ => false) live.dmaLine 4 true }, { live with dmaLine := cellSet (fun _ => false) live.dmaLine 4 true }.at 0, by decide⟩⟩

theorem test_DisplayCommands_hypotheses :
    (∃ (t p : Nat) (r : Fin 64) (s z : State) (d : RDesc) (x : DRect), (z = s.at t) ∧ (p = z.ringFunc r) ∧ (z.opFor r 0x0F p 1 = some d) ∧ (d.area.w ≠ 0) ∧ (d.area.h ≠ 0) ∧ (z.bufBad r d = false) ∧ (z.rectBad p d = false) ∧ (p = 1 → z.dpy.wavesOk = true) ∧ (p = 1 → z.bit DPY_STAT DPY_STAT_clearing = false ∧ z.dpy.ckClear = false ∧ z.dpy.decided = false) ∧ (z.rectHeld p d = false) ∧ (z.portDown p = false) ∧ (z.mayFly p d.area = true) ∧ (x = ⟨some (r, d.slot), d.area, bits (d.par 10) 29 28, [], [], .fetching, false⟩)) ∧
    (∃ (t : Nat) (r : Fin 64) (s z : State) (d : RDesc) (x : DRect), (z = s.at t) ∧ (z.ringFunc r = 1) ∧ (z.opFor r 0x0F 1 1 = some d) ∧ (d.area.w ≠ 0) ∧ (d.area.h ≠ 0) ∧ (z.bufBad r d = false) ∧ (z.rectBad 1 d = false) ∧ (z.dpy.wavesOk = true) ∧ (z.bit DPY_STAT DPY_STAT_clearing = false) ∧ (z.rectHeld 1 d = true) ∧ (z.portDown 1 = false) ∧ (z.dpy.held.length < 32) ∧ (z.pow.stop = none) ∧ (x = ⟨some (r, d.slot), d.area, bits (d.par 10) 29 28, [], [], .fetching, true⟩)) ∧
    (∃ (t i slot : Nat) (p : Fin 2) (r : Nat) (buf : List Byte) (x : DRect) (d : RDesc) (s : State), (((s.rects p).findIdx? fun r => r.st == .fetching) = some i) ∧ ((s.rects p)[i]? = some x) ∧ (s.bit (DPY_INTAKE p) DPY_INTAKE_en = false) ∧ (x.op = some (r, slot)) ∧ (s.running r slot = some d) ∧ (s.ringEth r = false → d.len ≤ buf.length) ∧ (s.ringEth r = true → s.poisoned d.addr d.len = false)) ∧
    (∃ (t i : Nat) (p : Fin 2) (buf : List Byte) (x : DRect) (s : State), (((s.rects p).findIdx? fun r => r.st == .fetching) = some i) ∧ ((s.rects p)[i]? = some x) ∧ (s.bit (DPY_INTAKE p) DPY_INTAKE_en = true) ∧ (rowBytes p x.area.w * x.area.h ≤ x.fed.length)) ∧
    (∃ (t : Nat) (s z : State), (z = s.at t) ∧ (z.dpy.pa = 3) ∧ (z.frameDue = true) ∧ (z.dpy.black ≠ 0)) ∧
    (∃ (t : Nat) (s z : State), (z = s.at t) ∧ (z.dpy.pa = 3) ∧ (z.frameDue = true) ∧ (z.dpy.black = 0)) ∧
    (∃ (t : Nat) (s : State), (s.dpy.pa ≠ 0)) ∧
    (∃ (t : Nat) (vrr : Bool) (s : State), (s.dpy.pa = 1 ∨ s.dpy.pa = 2)) ∧
    (∃ (t w k : Nat) (vrr : Bool) (s z x y : State), (z = s.at t) ∧ (z.dpy.pa = 1 ∨ z.dpy.pa = 2) ∧ (x = z.setDpy { z.dpy with pa := 3, vrr := vrr, black := if z.bit DPY_STAT DPY_STAT_a_on then 0 else 3 }) ∧ (y = (x.setReg DPY_GEO0 (packW [(w % 2 ^ 16, 16), (k % 2 ^ 16, 0)])).wr SYS_LINK SYS_LINK_edp_up 1)) ∧
    (∃ (t res thr up dn : Nat) (s z : State), (z = s.at t) ∧ (z.passed 14 = true) ∧ (z.dpy.crackAt + ms 100 ≤ z.cyc) ∧ (thr = if z.dpy.pa = 3 then z.dpy.thrA else z.rd DPY_A_CRACK DPY_A_CRACK_thr) ∧ (up = if thr < res then z.dpy.above + 1 else 0) ∧ (dn = if thr < res then 0 else z.dpy.below + 1)) ∧
    (∃ (t : Nat) (s : State), (s.dpy.pa ≠ 0) ∧ (s.pow.stop.isSome = true ∨ s.pow.holdUp.isSome = true ∨ s.dpy.dead = true ∨ s.bit DPY_A_CFG DPY_A_CFG_en = false)) ∧
    (∃ (t : Nat) (fresh : Bool) (s z x : State), (z = s.at t) ∧ (∀ c, z.dpy.frameB = some c → c + z.fper ≤ z.cyc) ∧ (z.dpy.rectB.any DRect.spent = false) ∧ (fresh = z.dpy.rectB.any (DRect.ripe z.cyc)) ∧ (fresh = true ∨ z.dpy.rectB.any DRect.drives = true) ∧ (z.rd DPY_B_STAT DPY_B_STAT_rails ≠ 0) ∧ (z.rd DPY_B_STAT DPY_B_STAT_rails ≠ 3) ∧ (x = if fresh && !z.dpy.railsEnd then (z.wr DPY_B_STAT DPY_B_STAT_rails 2).beginWaves.clear2 0x0F10 else z.wr DPY_B_STAT DPY_B_STAT_rails 2)) ∧
    (∃ (t c : Nat) (s : State), (s.dpy.frameB = some c) ∧ (c + s.fper ≤ max s.cyc t) ∧ (s.dpy.rectB.any DRect.spent = true)) ∧
    (∃ (t : Nat) (s z y : State), (z = s.at t) ∧ (z.rd DPY_B_STAT DPY_B_STAT_rails = 1 ∨ z.rd DPY_B_STAT DPY_B_STAT_rails = 2) ∧ (y = (z.dpy.rectB.filter DRect.drives).foldl State.rectStop ((z.wr DPY_STAT DPY_STAT_rail_seen 1).raise2 0x0F10 0))) ∧
    (∃ (t : Nat) (s : State), ((s.at t).railsNow = 3) ∧ (s.dpy.rectB.any DRect.drives = false)) ∧
    (∃ (t : Nat) (present : Bool) (temp : Option Int) (s : State), (s.passed 12 = true) ∧ (s.dpy.pollAt + sec 10 ≤ max s.cyc t)) ∧
    (∃ (t : Nat) (bad : List (Nat × Nat)) (st : Cells Nat) (s : State), (s.passed 12 = true) ∧ (s.dpy.ckAt + sec 10 ≤ max s.cyc t) ∧ (st = bad.foldl (fun m k => cellSet (storeReset 1) m k.1 (k.2 % 16)) s.dpy.storeB) ∧ (crc32 (s.storeBytes st) = s.dpy.crcB)) ∧
    (∃ (t : Nat) (bad : List (Nat × Nat)) (st : Cells Nat) (s : State), (s.passed 12 = true) ∧ (s.dpy.ckAt + sec 10 ≤ max s.cyc t) ∧ (s.dpy.ckClear = false) ∧ (st = bad.foldl (fun m k => cellSet (storeReset 1) m k.1 (k.2 % 16)) s.dpy.storeB) ∧ (crc32 (s.storeBytes st) ≠ s.dpy.crcB)) ∧
    (∃ (t : Nat) (s : State), (s.dpy.unsaved ≠ []) ∧ (s.pow.holdUp = none)) ∧
    (∃ (t : Nat) (x : StopRun) (s : State), (s.pow.stop = some x) ∧ (x.ts + ms 2900 ≤ max s.cyc t) ∧ ((s.dpy.rectB.all fun r => !r.final) = true)) :=
  ⟨⟨0, 0, 0, ((ringed live 0xF 0 1 64 [0#32, 0x00040004#32, 16#32]).wr SYS_LINK SYS_LINK_edp_up 1).setReg DPY_GEO0 0x01000100#32, (((ringed live 0xF 0 1 64 [0#32, 0x00040004#32, 16#32]).wr SYS_LINK SYS_LINK_edp_up 1).setReg DPY_GEO0 0x01000100#32).at 0, ringedDesc 1 64 [0#32, 0x00040004#32, 16#32], ⟨some (0, 0), ⟨0, 0, 4, 4⟩, 0, [], [], .fetching, false⟩, by decide⟩,
    ⟨0, 0, ((((ringed live 0xF 1 1 64 [0#32, 0x00040004#32, 0x80000002#32]).wr SYS_LINK SYS_LINK_epd_present 1).setReg DPY_GEO1 0x01000100#32).setReg DPY_B_CFG (DPY_B_CFG_final.put (DPY_B_CFG_en.put 0#32 1) 1)).setDpy { live.dpy with wavesOk := true }, (((((ringed live 0xF 1 1 64 [0#32, 0x00040004#32, 0x80000002#32]).wr SYS_LINK SYS_LINK_epd_present 1).setReg DPY_GEO1 0x01000100#32).setReg DPY_B_CFG (DPY_B_CFG_final.put (DPY_B_CFG_en.put 0#32 1) 1)).setDpy { live.dpy with wavesOk := true }).at 0, ringedDesc 1 64 [0#32, 0x00040004#32, 0x80000002#32], ⟨some (0, 0), ⟨0, 0, 4, 4⟩, 0, [], [], .fetching, true⟩, by decide⟩,
    ⟨0, 0, 0, 0, 0, [1#8, 2#8, 3#8, 4#8], ⟨some (0, 0), ⟨0, 0, 1, 1⟩, 0, [], [], .fetching, false⟩, ⟨0, descWords 1 4 [], .started 0 0 0, false⟩, ((ringed live 0xF 0 1 4 []).setRing 0 { Ring.init with descs := [⟨0, descWords 1 4 [], .started 0 0 0, false⟩] }).setRects 0 [⟨some (0, 0), ⟨0, 0, 1, 1⟩, 0, [], [], .fetching, false⟩], by decide⟩,
    ⟨0, 0, 1, [], ⟨some (0, 0), ⟨0, 0, 2, 1⟩, 0, [], [1#8], .fetching, false⟩, (live.wr (DPY_INTAKE 1) DPY_INTAKE_en 1).setRects 1 [⟨some (0, 0), ⟨0, 0, 2, 1⟩, 0, [], [1#8], .fetching, false⟩], by decide⟩,
    ⟨1000000000, live.setDpy { live.dpy with pa := 3, black := 3 }, (live.setDpy { live.dpy with pa := 3, black := 3 }).at 1000000000, by decide⟩,
    ⟨1000000000, live.setDpy { live.dpy with pa := 3 }, (live.setDpy { live.dpy with pa := 3 }).at 1000000000, by decide⟩,
    ⟨0, live.setDpy { live.dpy with pa := 1 }, by decide⟩,
    ⟨0, true, live.setDpy { live.dpy with pa := 1 }, by decide⟩,
    ⟨0, 1920, 1080, true, live.setDpy { live.dpy with pa := 2 }, _, _, _, rfl, by decide, rfl, rfl⟩,
    ⟨100000000, 70000, 10, 1, 0, (live.wr DPY_A_CRACK DPY_A_CRACK_thr 10), ((live.wr DPY_A_CRACK DPY_A_CRACK_thr 10)).at 100000000, by decide⟩,
    ⟨0, live.setDpy { live.dpy with pa := 3 }, by decide⟩,
    ⟨1000000000, false, (live.wr DPY_B_STAT DPY_B_STAT_rails 2).setDpy { live.dpy with frameB := some 0, rectB := [⟨none, ⟨0, 0, 2, 1⟩, 1, [1, 2], [], .driven 0 9 0 0, false⟩] }, _, _, rfl, fun c h => by cases h; decide, by decide, by decide, by decide, by decide, by decide, rfl⟩,
    ⟨1000000000, 0, live.setDpy { live.dpy with frameB := some 0, rectB := [⟨none, ⟨0, 0, 2, 1⟩, 1, [1, 2], [], .driven 9 9 0 0, false⟩] }, by decide⟩,
    ⟨0, live.wr DPY_B_STAT DPY_B_STAT_rails 2, _, _, rfl, by decide, rfl⟩,
    ⟨1000000000, live.wr DPY_B_STAT DPY_B_STAT_rails 3, by decide⟩,
    ⟨2000000000, false, none, live, by decide⟩,
    ⟨2000000000, [], [], live, by decide⟩,
    ⟨2000000000, [], [], live.setDpy { live.dpy with crcB := 1 }, by decide⟩,
    ⟨0, live.setDpy { live.dpy with unsaved := [(⟨0, 0, 2, 1⟩, 0)] }, by decide⟩,
    ⟨2000000000, _, { live with pow := { live.pow with stop := some ⟨0, .wake, .wake, false, false, false, false⟩ } }, rfl, by decide⟩⟩

theorem test_RecorderCommands_hypotheses :
    (∃ (t code detail i : Nat) (s : State), (s.passed 10 = true) ∧ ((s.flt.wins.findIdx? fun w : FltWin => w.code == code && w.detail == detail && w.cls == 2 && !w.told && decide (w.since + (s.at t).plim ≤ max s.cyc t)) = some i)) ∧
    (∃ (t : Nat) (s : State), (s.bit FLT_STAT FLT_STAT_alive = true) ∧ (s.flt.croakAt ≤ max s.cyc t)) ∧
    (∃ (t : Nat) (r : Fin 64) (s : State) (d : RDesc), (s.opFor r 0x10 0 1 = some d) ∧ (s.bufBad r d = false) ∧ (32 ≤ d.len)) ∧
    (∃ (t : Nat) (s x : State), (s.recr.flushDue = true) ∧ (s.recr.flush = none) ∧ (s.passed 10 = true) ∧ ((s.pow.stop = none ∧ x = s.at t) ∨ (∃ y, s.pow.stop = some y ∧ x = (s.at t).stopTold y))) ∧
    (∃ (t : Nat) (s : State), ((s.at t).rdThen REC_CFG REC_CFG_per ≠ 0) ∧ (s.passed 10 = true) ∧ (s.recr.perFrom + sec ((s.at t).rdThen REC_CFG REC_CFG_per) ≤ max s.cyc t)) ∧
    (∃ (t next : Nat) (r : Fin 64) (ecc : List (Nat × EccHit)) (s : State) (d : RDesc) (l fit : List RecEntry) (hits : List (Nat × EccHit)) (ws : List Word), (s.opFor r 0x11 0 1 = some d) ∧ (s.bufBad r d = false) ∧ (d.len ≠ 0) ∧ (l = s.recr.store.filter fun e => decide ((d.par 8).toNat ≤ e.seq)) ∧ (fit = takeFit d.len l) ∧ (fit ≠ []) ∧ ((∃ e, l[fit.length]? = some e ∧ next = e.seq) ∨ (l.length ≤ fit.length ∧ ∃ e, fit.getLast? = some e ∧ next = e.seq + 1)) ∧ (hits = ecc.filter fun x => x.2.region.val == 6) ∧ (ws = fit.flatMap fun e => e.out (hits.any fun x => x.1 == e.seq && !x.2.correctable))) ∧
    (∃ (t : Nat) (r : Fin 64) (s : State) (d : RDesc), (s.opFor r 0x11 0 2 = some d)) ∧
    (∃ (t : Nat) (r : Fin 64) (buf : List Word) (s : State) (d : RDesc), (s.opFor r 0x11 0 3 = some d) ∧ (s.canTake r d (4 * buf.length) = true) ∧ (d.len = 16)) ∧
    (∃ (t : Nat) (r : Fin 64) (s z : State) (d : RDesc) (a : State × Bool), (z = s.at t) ∧ (z.opFor r 0x11 0 4 = some d) ∧ (z.bitThen (REC_TRG_A (bits (d.par 8) 5 0)) REC_TRG_A_en = true) ∧ (a = z.snap (bits (d.par 8) 5 0) 0xFFFFFFFF)) ∧
    (∃ (t : Nat) (r : Fin 64) (s : State) (d : RDesc), (s.opFor r 0x11 0 5 = some d) ∧ (s.bufBad r d = false) ∧ (64 ≤ d.len)) ∧
    (∃ (t m c : Nat) (s : State), (s.recr.chal = some (m, c)) ∧ (c ≤ max s.cyc t)) ∧
    (∃ (t m c : Nat) (r : Fin 64) (s z x : State) (d : RDesc), (z = s.at t) ∧ (z.opFor r 0x11 0 6 = some d) ∧ (z.canTake r d d.len = true) ∧ (d.len = 96) ∧ (z.recr.chal = some (m, c)) ∧ (z.cyc < c) ∧ (x = z.setRecr { z.recr with chal := none })) :=
  ⟨⟨20000000000, 0x0F01, 0, 0, { live with flt := { live.flt with wins := [⟨0x0F01, 0, 2, 0, 0, false⟩] } }, by decide⟩,
    ⟨100000, live.wr FLT_STAT FLT_STAT_alive 1, by decide⟩,
    ⟨0, 0, ringed live 0x10 0 1 64 [], ringedDesc 1 64 [], by decide⟩,
    ⟨0, live.setRecr { live.recr with flushDue := true }, _, by decide, by decide, by decide, .inl ⟨by decide, rfl⟩⟩,
    ⟨2000000000, live.wr REC_CFG REC_CFG_per 1, by decide⟩,
    ⟨0, 6, 0, [], (ringed live 0x11 0 1 64 [5#32]).setRecr { live.recr with store := [⟨5, List.replicate 4 1#32⟩] }, ringedDesc 1 64 [5#32], [⟨5, List.replicate 4 1#32⟩], [⟨5, List.replicate 4 1#32⟩], [], List.replicate 4 1#32, by decide, by decide, by decide, by decide, by decide, by decide, .inr ⟨by decide, _, rfl, rfl⟩, rfl, by decide⟩,
    ⟨0, 0, ringed live 0x11 0 2 0 [], ringedDesc 2 0 [], by decide⟩,
    ⟨0, 0, List.replicate 4 1#32, ringed live 0x11 0 3 16 [], ringedDesc 3 16 [], by decide⟩,
    ⟨0, 0, (ringed live 0x11 0 4 0 [31#32]).wr (REC_TRG_A 31) REC_TRG_A_en 1, _, ringedDesc 4 0 [31#32], _, rfl, by decide, by decide, rfl⟩,
    ⟨0, 0, ringed live 0x11 0 5 64 [], ringedDesc 5 64 [], by decide⟩,
    ⟨0, 5, 0, live.setRecr { live.recr with chal := some (5, 0) }, by decide⟩,
    ⟨0, 5, 9, 0, (ringed live 0x11 0 6 96 []).setRecr { live.recr with chal := some (5, 9) }, _, _, ringedDesc 6 96 [], rfl, by decide, by decide, by decide, by decide, by decide, rfl⟩⟩

theorem test_ThermalUpdates_hypotheses :
    (∃ (t : Nat) (heat : List (Nat × Nat)) (s z : State), (z = s.at t) ∧ (z.passed 10 = true) ∧ (z.thm.modelAt + us 50 ≤ z.cyc)) ∧
    (∃ (t : Nat) (s : State), (s.passed 10 = true) ∧ (s.thm.derAt + ms 1 ≤ max s.cyc t)) :=
  ⟨⟨10000, [], live, live.at 10000, by decide⟩,
    ⟨1000000, live, by decide⟩⟩

theorem test_UpdateRingCommands_hypotheses :
    (∃ (t : Nat) (r : Fin 64) (s : State) (d : RDesc), (s.opFor r 0x13 0 1 = some d) ∧ (s.upd.sess = none) ∧ (1 ≤ bits (d.par 8) 7 0) ∧ (bits (d.par 8) 7 0 ≤ 0x0B) ∧ (slotType (bits (d.par 8) 7 0) = false ∨ s.slotMoved = false)) ∧
    (∃ (t : Nat) (r : Fin 64) (buf : List Byte) (s z : State) (d : RDesc) (a : State × Nat), (z = s.at t) ∧ (z.opFor r 0x13 0 2 = some d) ∧ (z.canTake r d buf.length = true) ∧ (d.len ≠ 0) ∧ (a = z.sessWrite (d.par 9).toNat (z.bufIn r d buf)) ∧ (a.2 ≠ stDone ∨ z.sessFed = false)) ∧
    (∃ (t : Nat) (r : Fin 64) (sig : Bool) (s : State) (d : RDesc) (y : Sess), (s.opFor r 0x13 0 3 = some d) ∧ (s.upd.sess = some y)) ∧
    (∃ (t : Nat) (r : Fin 64) (s : State) (d : RDesc), (s.opFor r 0x13 0 4 = some d)) ∧
    (∃ (t : Nat) (r : Fin 64) (s : State) (d : RDesc), (s.opFor r 0x13 0 5 = some d) ∧ (s.upd.sess = none) ∧ (s.slotMoved = false) ∧ (slotType (bits (d.par 8) 7 0) = true)) ∧
    (∃ (t : Nat) (r : Fin 64) (s : State) (d : RDesc), (s.opFor r 0x13 0 6 = some d) ∧ (s.upd.sess = none) ∧ ((bits (d.par 8) 0 0 = s.actSlot ∧ s.slotFloors (bits (d.par 8) 0 0) = true) ∨ (bits (d.par 8) 0 0 ≠ s.actSlot ∧ s.slotReady (bits (d.par 8) 0 0) = true))) ∧
    (∃ (t : Nat) (r : Fin 64) (s : State) (d : RDesc), (s.opFor r 0x13 0 7 = some d) ∧ (s.bufBad r d = false) ∧ (4 * s.reportWords.length ≤ d.len)) :=
  ⟨⟨0, 0, ringed live 0x13 0 1 0 [8#32], ringedDesc 1 0 [8#32], by decide⟩,
    ⟨0, 0, List.replicate 64 0#8, ringed live 0x13 0 2 64 [0#32, 0#32], _, ringedDesc 2 64 [0#32, 0#32], _, rfl, by decide, by decide, by decide, rfl, .inr (by decide)⟩,
    ⟨0, 0, false, (ringed live 0x13 0 3 0 []).sessOpen 8 0 1, ringedDesc 3 0 [], _, by decide, rfl⟩,
    ⟨0, 0, ringed live 0x13 0 4 0 [], ringedDesc 4 0 [], by decide⟩,
    ⟨0, 0, ringed live 0x13 0 5 0 [8#32], ringedDesc 5 0 [8#32], by decide⟩,
    ⟨0, 0, ringed live 0x13 0 6 0 [0#32], ringedDesc 6 0 [0#32], by decide⟩,
    ⟨0, 0, ringed live 0x13 0 7 64 [], ringedDesc 7 64 [], by decide⟩⟩

theorem test_RecoveryCommands_hypotheses :
    (∃ (t : Nat) (via : AxoVia) (s : State), (s.axoRuns via.path = true) ∧ ((s.upd.path.any fun p => p != via.path.val) = false) ∧ (via.path = 2)) ∧
    (∃ (t : Nat) (via : AxoVia) (s : State), (s.axoRuns via.path = true) ∧ ((s.upd.path.any fun p => p != via.path.val) = false) ∧ (via.path ≠ 2) ∧ (via.path = 1 → s.upd.lastSeq ≠ some via.seq)) ∧
    (∃ (t : Nat) (via : AxoVia) (arg : Word) (a : Word) (s : State), (s.axoRuns via.path = true) ∧ (s.upd.path = some via.path.val) ∧ (via.path = 1 → s.upd.lastSeq ≠ some via.seq) ∧ (via.path = 2 → via.seq % 256 = s.upd.canSeq) ∧ (a = if via.path = 0 then s.reg (UPD_AXO_ARG 0) else arg) ∧ (1 ≤ bits a 7 0) ∧ (bits a 7 0 ≤ 9) ∧ (s.upd.sess = none)) ∧
    (∃ (t off : Nat) (via : AxoVia) (bs : List Byte) (s : State), (s.axoRuns via.path = true) ∧ (s.upd.path = some via.path.val) ∧ (via.path = 1 → s.upd.lastSeq ≠ some via.seq) ∧ (via.path = 2 → via.seq % 256 = s.upd.canSeq) ∧ (via.path = 0) ∧ (1 ≤ (s.reg (UPD_AXO_ARG 1)).toNat) ∧ ((s.reg (UPD_AXO_ARG 1)).toNat < 2 ^ 24)) ∧
    (∃ (t off : Nat) (via : AxoVia) (bs : List Byte) (s : State), (s.axoRuns via.path = true) ∧ (s.upd.path = some via.path.val) ∧ (via.path = 1 → s.upd.lastSeq ≠ some via.seq) ∧ (via.path = 2 → via.seq % 256 = s.upd.canSeq) ∧ (via.path ≠ 0) ∧ (via.path = 1 → bs.length ≤ 1024)) ∧
    (∃ (t : Nat) (via : AxoVia) (sig : Bool) (y : Sess) (s : State), (s.axoRuns via.path = true) ∧ (s.upd.path = some via.path.val) ∧ (via.path = 1 → s.upd.lastSeq ≠ some via.seq) ∧ (via.path = 2 → via.seq % 256 = s.upd.canSeq) ∧ (s.upd.sess = some y)) ∧
    (∃ (t k : Nat) (via : AxoVia) (arg : Word) (s : State), (s.axoRuns via.path = true) ∧ (s.upd.path = some via.path.val) ∧ (via.path = 1 → s.upd.lastSeq ≠ some via.seq) ∧ (via.path = 2 → via.seq % 256 = s.upd.canSeq) ∧ (k = bits (if via.path = 0 then s.reg (UPD_AXO_ARG 0) else arg) 0 0) ∧ ((s.slotReady k) = true)) ∧
    (∃ (t : Nat) (via : AxoVia) (s : State), (s.axoRuns via.path = true) ∧ (s.upd.path = some via.path.val) ∧ (via.path = 1 → s.upd.lastSeq ≠ some via.seq) ∧ (via.path = 2 → via.seq % 256 = s.upd.canSeq)) ∧
    (∃ (t c : Nat) (s : State), (s.upd.canAt = some c) ∧ (c + ms 20 ≤ max s.cyc t)) :=
  ⟨⟨0, ⟨2, 9, true, 0#48⟩, { live with pow := { live.pow with axo := true } }, by decide⟩,
    ⟨0, ⟨1, 9, true, 0#48⟩, { live with pow := { live.pow with axo := true } }, by decide⟩,
    ⟨0, ⟨2, 9, false, 0#48⟩, 0x109#32, 0x109#32, ({ live with pow := { live.pow with axo := true } }).setUpd { live.upd with path := some 2, canSeq := 9 }, by decide⟩,
    ⟨0, 0, ⟨0, 0, false, 0#48⟩, [], (({ live with pow := { live.pow with axo := true } }).setReg (UPD_AXO_ARG 1) 64#32).setUpd { live.upd with path := some 0 }, by decide⟩,
    ⟨0, 0, ⟨2, 9, false, 0#48⟩, [1#8], ({ live with pow := { live.pow with axo := true } }).setUpd { live.upd with path := some 2, canSeq := 9 }, by decide⟩,
    ⟨0, ⟨0, 0, false, 0#48⟩, false, ⟨9, 0, 1, [], false, false⟩, { live with pow := { live.pow with axo := true }, upd := { live.upd with path := some 0, sess := some ⟨9, 0, 1, [], false, false⟩ } }, by decide⟩,
    ⟨0, 0, ⟨1, 9, false, 0#48⟩, 0#32, (({ live with pow := { live.pow with axo := true } }).setImg 0 1 0 { Image.init with valid := true }).setUpd { live.upd with path := some 1 }, by decide⟩,
    ⟨0, ⟨0, 0, false, 0#48⟩, ({ live with pow := { live.pow with axo := true } }).setUpd { live.upd with path := some 0 }, by decide⟩,
    ⟨20000000, 0, live.setUpd { live.upd with path := some 2, canAt := some 0 }, by decide⟩⟩

theorem test_LegacyPortCommands_hypotheses :
    (∃ (t : Nat) (a v : BitVec 16) (s : State), (s.k12Answers = true) ∧ (s.fenced 6 = false) ∧ (16 ≤ a.toNat) ∧ (a.toNat < 32)) ∧
    (∃ (t : Nat) (a v : BitVec 16) (s : State), (s.k12Answers = true) ∧ (s.fenced 6 = false) ∧ (k12Ro a.toNat = false) ∧ (s.k12Bad a.toNat v.toNat = false) ∧ ((a.toNat = 6 ∨ 0x38 ≤ a.toNat)) ∧ (([0x70, 0x71, 0xB5, 0xC4].contains a.toNat) = false)) ∧
    (∃ (t : Nat) (a v : BitVec 16) (s : State), (s.k12Answers = true) ∧ (a.toNat ≠ 0xA2) ∧ (a.toNat ≠ 0xC0)) ∧
    (∃ (t clocks : Nat) (op : Fin 16) (a v : BitVec 16) (s : State), (s.k12Answers = true) ∧ (clocks ≠ 36 ∨ (op ≠ 9 ∧ op ≠ 6))) ∧
    (∃ (t : Nat) (v : BitVec 16) (s : State), (s.k12Answers = true) ∧ (s.fenced 6 = false)) ∧
    (∃ (t : Nat) (v : BitVec 16) (s : State), (s.k12Answers = true) ∧ (s.fenced 6 = false) ∧ (v.toNat / 2 % 2 ^ 13 = 0)) ∧
    (∃ (t : Nat) (s : State), (s.k12Answers = true) ∧ (s.fenced 6 = false) ∧ (s.k12Get 0x0B0 < 3000) ∧ ((let w := s.k12Get 0x0B1; w / 2 ^ 12 % 4 ≠ 3 ∧ (w / 2 ^ 12 % 4 = 0 → w % 32 < 16) ∧ (w / 2 ^ 12 % 4 = 1 → w % 32 < 24))) ∧ (evBad (s.k12Half (s.k12Get 0x0B0)) = false)) ∧
    (∃ (t : Nat) (s : State), (s.k12Answers = true) ∧ (s.fenced 6 = false) ∧ (s.k12Get 0x0B0 < 3000) ∧ ((let w := s.k12Get 0x0B1; w / 2 ^ 12 % 4 ≠ 3 ∧ (w / 2 ^ 12 % 4 = 0 → w % 32 < 16) ∧ (w / 2 ^ 12 % 4 = 1 → w % 32 < 24))) ∧ (evBad (s.k12Half (s.k12Get 0x0B0)) = false)) ∧
    (∃ (t : Nat) (s : State), (s.k12Answers = true) ∧ (s.fenced 6 = false) ∧ (s.k12Get 0x0B0 < 3000)) ∧
    (∃ (t : Nat) (s : State), (s.k12Answers = true) ∧ (s.fenced 6 = false) ∧ (s.k12Get 0x0B0 < 3000)) :=
  ⟨⟨0, 31#16, 9#16, liveK12, by decide⟩,
    ⟨0, 0xA6#16, 9#16, liveK12, by decide⟩,
    ⟨0, 4#16, 0#16, liveK12, by decide⟩,
    ⟨0, 35, 9, 4#16, 0#16, liveK12, by decide⟩,
    ⟨0, 9#16, liveK12, by decide⟩,
    ⟨0, 0x8001#16, liveK12, by decide⟩,
    ⟨0, liveK12.k12Set 0x0B1 0x9005 |>.k12Set 0xB2 5 |>.k12Set 0xB3 7, by decide⟩,
    ⟨0, liveK12.k12Set 0x0B1 0x9005 |>.k12Set 0xB2 5 |>.k12Set 0xB3 7, by decide⟩,
    ⟨0, liveK12, by decide⟩,
    ⟨0, liveK12, by decide⟩⟩

theorem test_EngineCycleCommands_hypotheses :
    (∃ (t : Nat) (s : State), (s.k12Runs = true) ∧ ((s.at t).k12Latches = true)) ∧
    (∃ (t : Nat) (s : State), (s.k12Runs = true) ∧ ((s.at t).k12On 200000 = true) ∧ (s.k12.refreshAt ≠ some (max s.cyc t))) ∧
    (∃ (t : Nat) (frames : List (Fin 2 × Nat × List Byte)) (s : State), (s.k12Runs = true) ∧ ((s.at t).k12On 750000 = true) ∧ (s.k12Get 0x0C4 / 256 ≠ 0xFE)) ∧
    (∃ (t : Nat) (p : Fin 8) (s : State), (s.k12Runs = true) ∧ ((s.at t).k12On 0 = true) ∧ (s.k12.stale.contains p.val = true) ∧ (s.valveActive (2 * p) = 0) ∧ (s.valveActive (2 * p + 1) = 0) ∧ ((s.valve (2 * p)).offEnd ≤ max s.cyc t) ∧ ((s.valve (2 * p + 1)).offEnd ≤ max s.cyc t)) ∧
    (∃ (t : Nat) (s : State), (s.k12Runs = true) ∧ (s.k12.hto = false) ∧ (s.k12Get 0x002 / 2 ^ 14 % 2 = 1) ∧ (s.k12.lastFrame + ms (s.k12Get 0x006) ≤ max s.cyc t)) ∧
    (∃ (t : Nat) (won : Option (Fin 254)) (s : State), (s.k12Runs = true)) ∧
    (∃ (t : Nat) (n : Fin 2) (s : State), (s.k12Runs = true) ∧ (s.canState n = csBusOff) ∧ (cellGet (fun _ => 0) s.k12.busOff n + ms 100 ≤ max s.cyc t)) :=
  ⟨⟨195000, liveK12, by decide⟩,
    ⟨40000, liveK12, by decide⟩,
    ⟨150000, [], liveK12.k12Set 0xC4 0x0900, by decide⟩,
    ⟨0, 7, liveK12.setK12 { liveK12.k12 with stale := [7] }, by decide⟩,
    ⟨2000000000, liveK12.k12Set 2 0xC000, by decide⟩,
    ⟨0, some 9, liveK12, by decide⟩,
    ⟨2000000000, 1, liveK12.wr (CAN_STAT 1) CAN_STAT_state csBusOff, by decide⟩⟩

theorem test_PerturbationCommands_hypotheses :
    (∃ (t : Nat) (s : State), (s.readyReg TST_UNLOCK = true) ∧ (s.tstOpen = false)) ∧
    (∃ (t c : Nat) (s : State), (s.readyReg TST_UNLOCK = true) ∧ (s.tstOpen = false) ∧ (s.tst.key = some c) ∧ (max s.cyc t ≤ c + ms 1)) ∧
    (∃ (t : Nat) (s : State), (s.readyReg TST_UNLOCK = true) ∧ (s.tstOpen = true)) ∧
    (∃ (t : Nat) (v : Word) (s : State), (s.readyReg TST_JIT = true) ∧ (reservedOf TST_JIT v = 0#32) ∧ (s.tstOpen = true) ∧ (((s.at t).store TST_JIT v).tstUnsafe = false)) ∧
    (∃ (t c : Nat) (s : State), (s.tst.endAt = some c) ∧ (c ≤ max s.cyc t) ∧ (s.tstLive = false)) :=
  ⟨⟨0, live, by decide⟩,
    ⟨100, 0, { live with tst := { live.tst with key := some 0 } }, by decide⟩,
    ⟨0, live.wr TST_UNLOCK TST_UNLOCK_open 1, by decide⟩,
    ⟨0, 5#32, live.wr TST_UNLOCK TST_UNLOCK_open 1, by decide⟩,
    ⟨0, 0, { live with tst := { live.tst with endAt := some 0 } }, by decide⟩⟩

theorem test_StepCarriesOutTheFrontCommand_hypotheses :
    ∃ (c : Instr) (rest : List Instr) (s : State), (s.pending = c :: rest) :=
  ⟨.flushEnd 5, [], live.setPending [.flushEnd 5], rfl⟩

theorem test_IdleCycleAdvancesTime_hypotheses :
    ∃ (s : State), (s.pending = []) :=
  ⟨live, rfl⟩

theorem test_StepKeepsCanonicalForm_hypotheses :
    ∃ (s u : State), (s.Canonical) ∧ (step s = .next u) :=
  ⟨State.reset, _, ⟨by decide, by decide⟩, rfl⟩

theorem test_CommandsComeInOrderAndTimeNeverRunsBack_hypotheses :
    ∃ (s u : State), (step s = .next u) :=
  ⟨live.setPending [.flushEnd 5, .flushEnd 6], _, rfl⟩

theorem test_Bar2ReachesModuleMemory_hypotheses :
    (∃ (t off : Nat) (bs : List Byte) (s : State), (bar2Bad off bs.length = false) ∧ (off < bar2Top) ∧ (s.readyReg 0 = true) ∧ (s.bit SYS_BAR2_BASE SYS_BAR2_BASE_win_en = true) ∧ (∀ i, i < bs.length → (s.rd SYS_BAR2_BASE SYS_BAR2_BASE_base * 0x200000 + off + i) % 2 ^ 36 < sharedTop ∨ sramTop ≤ (s.rd SYS_BAR2_BASE SYS_BAR2_BASE_base * 0x200000 + off + i) % 2 ^ 36) ∧ (∀ i, i < bs.length → inAreas (s.at t).moduleAreas ((s.rd SYS_BAR2_BASE SYS_BAR2_BASE_base * 0x200000 + off + i) % 2 ^ 36) = false) ∧ (s.bar2Poison off bs.length = false)) ∧
    (∃ (t off len : Nat) (s : State), (bar2Bad off len = false) ∧ (off < bar2Top) ∧ (s.readyReg 0 = true) ∧ (s.bit SYS_BAR2_BASE SYS_BAR2_BASE_win_en = true) ∧ (s.bar2Poison off len = false) ∧ (∀ i, i < len → s.mirrorHit ((s.rd SYS_BAR2_BASE SYS_BAR2_BASE_base * 0x200000 + off + i) % 2 ^ 36) 1 = false)) :=
  ⟨⟨0, 0xFFFFFF8, [1#8, 2#8, 3#8, 4#8, 5#8, 6#8, 7#8, 8#8], (live.wr SYS_BAR2_BASE SYS_BAR2_BASE_win_en 1).wr SYS_BAR2_BASE SYS_BAR2_BASE_base 0x7F81, by decide⟩,
    ⟨0, 0xFFFFFF8, 8, (live.wr SYS_BAR2_BASE SYS_BAR2_BASE_win_en 1).wr SYS_BAR2_BASE SYS_BAR2_BASE_base 0x7F81, by decide⟩⟩

theorem test_IgnoredRingCommands_hypotheses :
    (∃ (t : Nat) (r : Fin 64) (s : State), (s.readyReg (RNG_CTL r) = true) ∧ (s.ringState r ≠ rsOff)) ∧
    (∃ (t : Nat) (r : Fin 64) (s : State), (s.readyReg (RNG_CTL r) = true) ∧ (s.ringState r = rsOff)) ∧
    (∃ (t : Nat) (r : Fin 64) (s : State), (s.readyReg (RNG_CTL r) = true) ∧ (s.ringState r = rsDraining)) ∧
    (∃ (t : Nat) (r : Fin 64) (s : State), (s.readyReg (RNG_CTL r) = true) ∧ (s.ringState r = rsHalted)) :=
  ⟨⟨0, 63, live.wr (RNG_CFG 63) RNG_CFG_state rsHalted, by decide⟩,
    ⟨0, 63, live, by decide⟩,
    ⟨0, 63, live.wr (RNG_CFG 63) RNG_CFG_state rsDraining, by decide⟩,
    ⟨0, 63, live.wr (RNG_CFG 63) RNG_CFG_state rsHalted, by decide⟩⟩

theorem test_EngineConversionsRoundTrip_hypotheses :
    ∃ (d : Nat), (d < 1000) :=
  ⟨999, by decide⟩

theorem test_LoopOutputStaysInItsLimits_hypotheses :
    (∃ (ws : List Word) (pool : Nat → Int) (st : LawState) (y tgt f : Int) (auth : Bool) (range : Int × Int), (lpS ws 13 ≤ lpS ws 14) ∧ (range.1 ≤ range.2) ∧ (0 ≤ lpS ws 12)) ∧
    (∃ (ws : List Word) (pool : Nat → Int) (st : LawState) (y tgt f : Int) (range : Int × Int), (-(lpS ws 12) ≤ st.integ) ∧ (st.integ ≤ lpS ws 12)) :=
  ⟨⟨[], fun _ => 0, ⟨⟨0, 0, 0⟩, 0, 0, 0, false, false, false⟩, 0, 0, 0, false, (0, 0), by decide⟩,
    ⟨[], fun _ => 0, ⟨⟨0, 0, 0⟩, 0, 0, 0, false, false, false⟩, 0, 0, 0, (0, 0), by decide⟩⟩

theorem test_RecorderCommandsChangeNoEngine_hypotheses :
    ∃ (t : Nat) (r : Fin 64) (ok : Bool) (buf : List Word) (c : Instr) (s u : State), (c ∈ [.croakToggle t, .recorderFlushStart t, .flushPeriodEnd t, .flushEnd t, .faultFill t r, .flush t r, .mark t r buf, .challenge t r, .challengeExpiry t, .clear t r ok]) ∧ (exec c s = .next u) :=
  ⟨5, 0, true, [], .flushPeriodEnd 5, live, _, by simp, rfl⟩

theorem test_OutputsObeyTheLeaseHolder_hypotheses :
    (∃ (t : Nat) (r : Fin 64) (s : State) (d : RDesc), (s.opFor r 4 2 0x20 = some d) ∧ (s.passed 11 = true) ∧ (bits (d.par 8) 7 0 < 48 ∨ (64 ≤ bits (d.par 8) 7 0 ∧ bits (d.par 8) 7 0 < 128)) ∧ (s.limp = true ∨ s.holds (bits (d.par 8) 7 0) 3 = false)) ∧
    (∃ (c v : Nat) (s : State), (s.holds (if c < 16 then itemValve c else itemSwitch c) 2 = false)) :=
  ⟨⟨0, 0, ringed live 4 2 0x20 0 [127#32, 0#32], ringedDesc 0x20 0 [127#32, 0#32], by decide⟩,
    ⟨39, 5, live, by decide⟩⟩

theorem test_ErrorCountersSelectTheState_hypotheses :
    (∃ (n : Nat) (s : State), (n < 8) ∧ (s.canState n ≠ csBusOff) ∧ (s.canState n ≠ csRecovering)) ∧
    (∃ (n : Nat) (s : State), (s.canState n = csBusOff ∨ s.canState n = csRecovering)) :=
  ⟨⟨7, live, by decide⟩,
    ⟨7, live.wr (CAN_STAT 7) CAN_STAT_state csRecovering, by decide⟩⟩

theorem test_CatchUpRegainsTheSchedule_hypotheses :
    ∃ (e : EvEntry) (p : Int) (onTime : Bool) (f c : Nat), (evRepeat e.act = repPeriodic) :=
  ⟨{ EvEntry.init with act := [0x00040000#32, 0#32, 0#32, 100#32, 0#32, 0#32, 0#32, 0#32], sh := [] }, 5, true, 0, 0, by decide⟩

theorem test_DrawnPixelsEnterTheStore_hypotheses :
    ∃ (p : Nat) (st : Cells Nat) (a : Area) (pix : List Nat), (a.x + a.w ≤ 65536) ∧ (pix.length = a.w * a.h) :=
  ⟨1, [], ⟨4, 4, 2, 1⟩, [3, 5], by decide⟩

theorem test_DmaWritesItsDestination_hypotheses :
    ∃ (n i : Nat) (ws : List Word) (bs : List Byte) (s : State), (dBit ws dFixDst = false) ∧ (dBit ws dDstHost = false) ∧ (dDst ws + i + bs.length ≤ 2 ^ 36) :=
  ⟨0, 0, List.replicate 16 0#32, [1#8, 2#8], live, by decide⟩

theorem test_MisuseStopsByName_hypotheses :
    (∃ (t off : Nat) (v : Word) (s : State), (off % 4 ≠ 0)) ∧
    (∃ (t off len : Nat) (bs : List Byte) (ecc : List EccHit) (s : State), (off < bar2Top) ∧ (s.readyReg 0 = true) ∧ (bar2Bad off len = true) ∧ (bs.length = len)) ∧
    (∃ (t : Nat) (v : Word) (s : State), (s.readyReg SYS_BAR2_BASE = true) ∧ (bits v 22 15 ≠ 0)) ∧
    (∃ (off : Nat) (v : Word) (s : State) (k : State → Out) (locked : Bool), (s.readyReg off = true) ∧ (reservedOf off v ≠ 0#32)) :=
  ⟨⟨0, 2, 0#32, live, by decide⟩,
    ⟨0, 2, 4, [1#8, 2#8, 3#8, 4#8], [], live, by decide⟩,
    ⟨0, 0x8000#32, live, by decide⟩,
    ⟨SYS_GUAR, 0x40000000#32, live, fun s => .next s, false, by decide⟩⟩

end Sys2Proof.Tests
end

/-! PROOFS. The canonical form of registers and memory: at reset, and kept by every step. -/

namespace Sys2Proof.Machine

/-- A step idles, or carries out the front command on the queue's rest. -/
theorem step_cases {s u : State} (h : step s = .next u) :
    (s.pending = [] ∧ u = s.idle) ∨ ∃ c rest, s.pending = c :: rest ∧ exec c (s.setPending rest) = .next u := by
  unfold step at h
  split at h
  next e => exact .inl ⟨e, by cases h; rfl⟩
  next c rest e => exact .inr ⟨c, rest, e, h⟩

/-- Every command keeps the queue, the canonical form, and the time but for running on to the command's own cycle. -/
theorem exec_keep (c : Instr) (s : State) : ∃ t, OutKeep (s.at t) (exec c s) :=
  match c with
  | .registerWrite t off v => ⟨t, execRegisterWrite_keep t off v s⟩
  | .unmappedBar0Access t off => ⟨t, execUnmappedBar0Access_keep t off s⟩
  | .sysBar2BaseWrite t v => ⟨t, execSysBar2BaseWrite_keep t v s⟩
  | .bar2Read t off len ecc => ⟨t, execBar2Read_keep t off len ecc s⟩
  | .bar2Write t off bs ecc => ⟨t, execBar2Write_keep t off bs ecc s⟩
  | .scrubPass t ecc => ⟨t, execScrubPass_keep t ecc s⟩
  | .loadWindowEnd t => ⟨t, execLoadWindowEnd_keep t s⟩
  | .powerGood t strap => ⟨t, execPowerGood_keep t strap s⟩
  | .outputsSafeHold t => ⟨t, execOutputsSafeHold_keep t s⟩
  | .firstHousekeepingEnd t x => ⟨t, execFirstHousekeepingEnd_keep t x s⟩
  | .dramTrained t => ⟨t, execDramTrained_keep t s⟩
  | .triadImageVerified t okA okB header record => ⟨t, execTriadImageVerified_keep t okA okB header record s⟩
  | .triadRelease t => ⟨t, execTriadRelease_keep t s⟩
  | .canCroakAlive t => ⟨t, execCanCroakAlive_keep t s⟩
  | .pcieConfigReady t => ⟨t, execPcieConfigReady_keep t s⟩
  | .settingsRead t ok image => ⟨t, execSettingsRead_keep t ok image s⟩
  | .defaultSettingsWritten t ok => ⟨t, execDefaultSettingsWritten_keep t ok s⟩
  | .classAImagesLoaded t bad => ⟨t, execClassAImagesLoaded_keep t bad s⟩
  | .authorityPossible t => ⟨t, execAuthorityPossible_keep t s⟩
  | .networkPanelBStart t present temp waves copyOk mapOk =>
    ⟨t, execNetworkPanelBStart_keep t present temp waves copyOk mapOk s⟩
  | .gnssFirmwareRunning t ok => ⟨t, execGnssFirmwareRunning_keep t ok s⟩
  | .portAPowerOn t umap => ⟨t, execPortAPowerOn_keep t umap s⟩
  | .visionFirmwareRunning t ok => ⟨t, execVisionFirmwareRunning_keep t ok s⟩
  | .modelsLoaded t named bad => ⟨t, execModelsLoaded_keep t named bad s⟩
  | .nativeReady t gnss => ⟨t, execNativeReady_keep t gnss s⟩
  | .bootFailTimer t => ⟨t, execBootFailTimer_keep t s⟩
  | .persSelWrite t v => ⟨t, execPersSelWrite_keep t v s⟩
  | .persSelStored t => ⟨t, execPersSelStored_keep t s⟩
  | .pcieLinkTrained t gen width => ⟨t, execPcieLinkTrained_keep t gen width s⟩
  | .pcieNoLinkTimeout t => ⟨t, execPcieNoLinkTimeout_keep t s⟩
  | .perstAssert t => ⟨t, execPerstAssert_keep t s⟩
  | .functionLevelReset t => ⟨t, execFunctionLevelReset_keep t s⟩
  | .hostLinkLoss t => ⟨t, execHostLinkLoss_keep t s⟩
  | .ethLinkChange t k up => ⟨t, execEthLinkChange_keep t k up s⟩
  | .wakeOn t => ⟨t, execWakeOn_keep t s⟩
  | .wakeOff t => ⟨t, execWakeOff_keep t s⟩
  | .stopCfgWrite t v => ⟨t, execStopCfgWrite_keep t v s⟩
  | .stopDelayEnd t => ⟨t, execStopDelayEnd_keep t s⟩
  | .stopFlushDone t => ⟨t, execStopFlushDone_keep t s⟩
  | .orderlyStopEnd t => ⟨t, execOrderlyStopEnd_keep t s⟩
  | .sysRestartRestart t => ⟨t, execSysRestartRestart_keep t s⟩
  | .sysRestartOff t => ⟨t, execSysRestartOff_keep t s⟩
  | .feedOutOfRange t n under => ⟨t, execFeedOutOfRange_keep t n under s⟩
  | .feedBackInRange t n => ⟨t, execFeedBackInRange_keep t n s⟩
  | .feedRestartDelayEnd t n => ⟨t, execFeedRestartDelayEnd_keep t n s⟩
  | .feedOvervoltExcursion t n => ⟨t, execFeedOvervoltExcursion_keep t n s⟩
  | .logicFeedOvervoltage t => ⟨t, execLogicFeedOvervoltage_keep t s⟩
  | .logicFeedOvRecover t => ⟨t, execLogicFeedOvRecover_keep t s⟩
  | .housekeepingRound t x => ⟨t, execHousekeepingRound_keep t x s⟩
  | .supplyOverload t n => ⟨t, execSupplyOverload_keep t n s⟩
  | .supplyRetry t n => ⟨t, execSupplyRetry_keep t n s⟩
  | .powerFailWarning t draw low => ⟨t, execPowerFailWarning_keep t draw low s⟩
  | .internalPowerCycle t lf stored => ⟨t, execInternalPowerCycle_keep t lf stored s⟩
  | .doorbellLineRead t m => ⟨t, execDoorbellLineRead_keep t m s⟩
  | .lineReadReturn t m slots => ⟨t, execLineReadReturn_keep t m slots s⟩
  | .descriptorArrival t r ws => ⟨t, execDescriptorArrival_keep t r ws s⟩
  | .nop t r => ⟨t, execNop_keep t r s⟩
  | .completionWrite t r => ⟨t, execCompletionWrite_keep t r s⟩
  | .irqHoldoffEnd t r => ⟨t, execIrqHoldoffEnd_keep t r s⟩
  | .ringStart t r => ⟨t, execRingStart_keep t r s⟩
  | .ringStop t r => ⟨t, execRingStop_keep t r s⟩
  | .ringStopDiscard t r => ⟨t, execRingStopDiscard_keep t r s⟩
  | .ringDrainEnd t r => ⟨t, execRingDrainEnd_keep t r s⟩
  | .hostReadFailure t what => ⟨t, execHostReadFailure_keep t what s⟩
  | .ethDoorbellFrame t src m image => ⟨t, execEthDoorbellFrame_keep t src m image s⟩
  | .ethWriteFrame t src addr bs => ⟨t, execEthWriteFrame_keep t src addr bs s⟩
  | .ethReadFrame t src lo hi len => ⟨t, execEthReadFrame_keep t src lo hi len s⟩
  | .completionFrameSend t r => ⟨t, execCompletionFrameSend_keep t r s⟩
  | .shaftEnable t k v => ⟨t, execShaftEnable_keep t k v s⟩
  | .shaftDisable t k v => ⟨t, execShaftDisable_keep t k v s⟩
  | .shaftEdge t k edge => ⟨t, execShaftEdge_keep t k edge s⟩
  | .shaftStall t k => ⟨t, execShaftStall_keep t k s⟩
  | .wheelPulse t n => ⟨t, execWheelPulse_keep t n s⟩
  | .wheelTimeout t => ⟨t, execWheelTimeout_keep t s⟩
  | .groundScaleUpdate t => ⟨t, execGroundScaleUpdate_keep t s⟩
  | .groundCoast t => ⟨t, execGroundCoast_keep t s⟩
  | .mtimeSnapshotRead t => ⟨t, execMtimeSnapshotRead_keep t s⟩
  | .eventRelease t => ⟨t, execEventRelease_keep t s⟩
  | .eventHandover t e => ⟨t, execEventHandover_keep t e s⟩
  | .nymWrite t r buf => ⟨t, execNymWrite_keep t r buf s⟩
  | .nymCommit t r => ⟨t, execNymCommit_keep t r s⟩
  | .nymRead t r => ⟨t, execNymRead_keep t r s⟩
  | .nymDisarm t r => ⟨t, execNymDisarm_keep t r s⟩
  | .tblWriteShadow t => ⟨t, execTblWriteShadow_keep t s⟩
  | .tblWriteCommitArm t => ⟨t, execTblWriteCommitArm_keep t s⟩
  | .tblWriteCommitNow t => ⟨t, execTblWriteCommitNow_keep t s⟩
  | .tblReadShadow t => ⟨t, execTblReadShadow_keep t s⟩
  | .tblReadActive t => ⟨t, execTblReadActive_keep t s⟩
  | .tblReadRunState t => ⟨t, execTblReadRunState_keep t s⟩
  | .tblDisarm t => ⟨t, execTblDisarm_keep t s⟩
  | .loopTrigger t n => ⟨t, execLoopTrigger_keep t n s⟩
  | .loopEvaluation t n ecc => ⟨t, execLoopEvaluation_keep t n ecc s⟩
  | .catchupEvaluation t n => ⟨t, execCatchupEvaluation_keep t n s⟩
  | .loopHandover t n => ⟨t, execLoopHandover_keep t n s⟩
  | .setTarget t r => ⟨t, execSetTarget_keep t r s⟩
  | .setTargets t r buf => ⟨t, execSetTargets_keep t r buf s⟩
  | .cleWrite t r buf => ⟨t, execCleWrite_keep t r buf s⟩
  | .cleCommit t r => ⟨t, execCleCommit_keep t r s⟩
  | .cleRead t r => ⟨t, execCleRead_keep t r s⟩
  | .clearState t r => ⟨t, execClearState_keep t r s⟩
  | .poolWrite t r buf => ⟨t, execPoolWrite_keep t r buf s⟩
  | .poolRead t r => ⟨t, execPoolRead_keep t r s⟩
  | .winWriteShadow t => ⟨t, execWinWriteShadow_keep t s⟩
  | .winWriteCommit t => ⟨t, execWinWriteCommit_keep t s⟩
  | .winReadShadow t => ⟨t, execWinReadShadow_keep t s⟩
  | .winReadActive t => ⟨t, execWinReadActive_keep t s⟩
  | .winReadRunState t => ⟨t, execWinReadRunState_keep t s⟩
  | .winClearState t => ⟨t, execWinClearState_keep t s⟩
  | .poolDataAccess t v => ⟨t, execPoolDataAccess_keep t v s⟩
  | .commitVote t c0 c1 c2 => ⟨t, execCommitVote_keep t c0 c1 c2 s⟩
  | .limpSafeStateApply t => ⟨t, execLimpSafeStateApply_keep t s⟩
  | .leaseExpiry t g => ⟨t, execLeaseExpiry_keep t g s⟩
  | .holdLimitEnd t g => ⟨t, execHoldLimitEnd_keep t g s⟩
  | .overrideActive t n => ⟨t, execOverrideActive_keep t n s⟩
  | .overrideRearm t => ⟨t, execOverrideRearm_keep t s⟩
  | .setSp t r => ⟨t, execSetSp_keep t r s⟩
  | .pathAppend t r buf => ⟨t, execPathAppend_keep t r buf s⟩
  | .pathClear t r => ⟨t, execPathClear_keep t r s⟩
  | .grant t r => ⟨t, execGrant_keep t r s⟩
  | .release t r => ⟨t, execRelease_keep t r s⟩
  | .setState t r => ⟨t, execSetState_keep t r s⟩
  | .drive t r => ⟨t, execDrive_keep t r s⟩
  | .renew t r => ⟨t, execRenew_keep t r s⟩
  | .triGmapWrite t v => ⟨t, execTriGmapWrite_keep t v s⟩
  | .valveEnable t n v => ⟨t, execValveEnable_keep t n v s⟩
  | .valveDisable t n v => ⟨t, execValveDisable_keep t n v s⟩
  | .valvePeriodEnd t n cur mv => ⟨t, execValvePeriodEnd_keep t n cur mv s⟩
  | .valveOfftimeEnd t n => ⟨t, execValveOfftimeEnd_keep t n s⟩
  | .valveTrip t n rtn => ⟨t, execValveTrip_keep t n rtn s⟩
  | .valveRetryEnd t n => ⟨t, execValveRetryEnd_keep t n s⟩
  | .valveRestartOk t n => ⟨t, execValveRestartOk_keep t n s⟩
  | .valveClrLatch t n v => ⟨t, execValveClrLatch_keep t n v s⟩
  | .valveOpenLoad t n => ⟨t, execValveOpenLoad_keep t n s⟩
  | .valveHeadroom t n => ⟨t, execValveHeadroom_keep t n s⟩
  | .lswDisable t n v => ⟨t, execLswDisable_keep t n v s⟩
  | .lswPeriodEnd t n cur => ⟨t, execLswPeriodEnd_keep t n cur s⟩
  | .inrushEnd t n => ⟨t, execInrushEnd_keep t n s⟩
  | .lswShortTrip t n => ⟨t, execLswShortTrip_keep t n s⟩
  | .lswOverloadTrip t n => ⟨t, execLswOverloadTrip_keep t n s⟩
  | .lswRetryEnd t n => ⟨t, execLswRetryEnd_keep t n s⟩
  | .lswRestartOk t n => ⟨t, execLswRestartOk_keep t n s⟩
  | .lswClrLatch t n v => ⟨t, execLswClrLatch_keep t n v s⟩
  | .lswClrTherm t n v => ⟨t, execLswClrTherm_keep t n v s⟩
  | .protectedPhaseEnd t n => ⟨t, execProtectedPhaseEnd_keep t n s⟩
  | .lswOpenLoad t n => ⟨t, execLswOpenLoad_keep t n s⟩
  | .ainPeriodicTrigger t n => ⟨t, execAinPeriodicTrigger_keep t n s⟩
  | .ainDeferredConversion t n => ⟨t, execAinDeferredConversion_keep t n s⟩
  | .ainConversionDone t n edge x => ⟨t, execAinConversionDone_keep t n edge x s⟩
  | .finEdge t n x => ⟨t, execFinEdge_keep t n x s⟩
  | .finDataUpdate t n => ⟨t, execFinDataUpdate_keep t n s⟩
  | .dinSample t lo hi => ⟨t, execDinSample_keep t lo hi s⟩
  | .lossSample t n x => ⟨t, execLossSample_keep t n x s⟩
  | .lossExcFault t n => ⟨t, execLossExcFault_keep t n s⟩
  | .mapBankSwap t k => ⟨t, execMapBankSwap_keep t k s⟩
  | .fuIssue t u => ⟨t, execFuIssue_keep t u s⟩
  | .lateSample t src cap v value => ⟨t, execLateSample_keep t src cap v value s⟩
  | .collectorCommit t k => ⟨t, execCollectorCommit_keep t k s⟩
  | .historyEntry t => ⟨t, execHistoryEntry_keep t s⟩
  | .yieldFlashWrite t => ⟨t, execYieldFlashWrite_keep t s⟩
  | .headerLift t => ⟨t, execHeaderLift_keep t s⟩
  | .delayMeasurementEnd t => ⟨t, execDelayMeasurementEnd_keep t s⟩
  | .rawFill t r => ⟨t, execRawFill_keep t r s⟩
  | .receiveBufferTimeout t r => ⟨t, execReceiveBufferTimeout_keep t r s⟩
  | .fusedFill t r => ⟨t, execFusedFill_keep t r s⟩
  | .readMap t x => ⟨t, execReadMap_keep t x s⟩
  | .yieldFill t r => ⟨t, execYieldFill_keep t r s⟩
  | .hslTriggerRelease t => ⟨t, execHslTriggerRelease_keep t s⟩
  | .hslStepEnd t => ⟨t, execHslStepEnd_keep t s⟩
  | .hslModeWrite t v => ⟨t, execHslModeWrite_keep t v s⟩
  | .hslWrite t r buf => ⟨t, execHslWrite_keep t r buf s⟩
  | .hslCommit t r => ⟨t, execHslCommit_keep t r s⟩
  | .hslRead t r => ⟨t, execHslRead_keep t r s⟩
  | .setObj t r buf => ⟨t, execSetObj_keep t r buf s⟩
  | .reportFill t r => ⟨t, execReportFill_keep t r s⟩
  | .triggerMessageSend t c => ⟨t, execTriggerMessageSend_keep t c s⟩
  | .frameStart t c x => ⟨t, execFrameStart_keep t c x s⟩
  | .lineReceived t c px crc => ⟨t, execLineReceived_keep t c px crc s⟩
  | .pairingWindowClose t c => ⟨t, execPairingWindowClose_keep t c s⟩
  | .frameEnd t c ecc => ⟨t, execFrameEnd_keep t c ecc s⟩
  | .frameCloseTimeout t x => ⟨t, execFrameCloseTimeout_keep t x s⟩
  | .aphyLock t n gear => ⟨t, execAphyLock_keep t n gear s⟩
  | .aphyLockTimeout t n => ⟨t, execAphyLockTimeout_keep t n s⟩
  | .aphyRetry t n => ⟨t, execAphyRetry_keep t n s⟩
  | .aphyLockLoss t n => ⟨t, execAphyLockLoss_keep t n s⟩
  | .aphyOvercurrent t n => ⟨t, execAphyOvercurrent_keep t n s⟩
  | .cameraEnable t c v => ⟨t, execCameraEnable_keep t c v s⟩
  | .encoderEnable t e v => ⟨t, execEncoderEnable_keep t e v s⟩
  | .displayBufferReady t c => ⟨t, execDisplayBufferReady_keep t c s⟩
  | .accessUnitDone t e nal => ⟨t, execAccessUnitDone_keep t e nal s⟩
  | .tensorReady t c => ⟨t, execTensorReady_keep t c s⟩
  | .inferenceRunDone t res ecc => ⟨t, execInferenceRunDone_keep t res ecc s⟩
  | .inferenceTimeout t => ⟨t, execInferenceTimeout_keep t s⟩
  | .setExposure t x => ⟨t, execSetExposure_keep t x s⟩
  | .exposureAccepted t c nack => ⟨t, execExposureAccepted_keep t c nack s⟩
  | .sensorXfer t r buf reads nack => ⟨t, execSensorXfer_keep t r buf reads nack s⟩
  | .paramWrite t r buf => ⟨t, execParamWrite_keep t r buf s⟩
  | .paramRead t r => ⟨t, execParamRead_keep t r s⟩
  | .loadModel t r buf sig => ⟨t, execLoadModel_keep t r buf sig s⟩
  | .unloadModel t r => ⟨t, execUnloadModel_keep t r s⟩
  | .forceIdr t r => ⟨t, execForceIdr_keep t r s⟩
  | .frameRecordFill t r => ⟨t, execFrameRecordFill_keep t r s⟩
  | .inferenceFill t r => ⟨t, execInferenceFill_keep t r s⟩
  | .accessUnitFill t r e => ⟨t, execAccessUnitFill_keep t r e s⟩
  | .fixEpoch t fix => ⟨t, execFixEpoch_keep t fix s⟩
  | .antennaOpen t x => ⟨t, execAntennaOpen_keep t x s⟩
  | .antennaShort t a => ⟨t, execAntennaShort_keep t a s⟩
  | .antennaRetry t a => ⟨t, execAntennaRetry_keep t a s⟩
  | .gnssCheckSecond t chk => ⟨t, execGnssCheckSecond_keep t chk s⟩
  | .exclusionExpiry t con id => ⟨t, execExclusionExpiry_keep t con id s⟩
  | .timeSecondBoundary t sol => ⟨t, execTimeSecondBoundary_keep t sol s⟩
  | .gnssDisable t v => ⟨t, execGnssDisable_keep t v s⟩
  | .rtcmIn t r buf => ⟨t, execRtcmIn_keep t r buf s⟩
  | .snapshot t r => ⟨t, execSnapshot_keep t r s⟩
  | .snapshotDone t agc0 agc1 samples => ⟨t, execSnapshotDone_keep t agc0 agc1 samples s⟩
  | .pvtFill t r => ⟨t, execPvtFill_keep t r s⟩
  | .timeFill t r => ⟨t, execTimeFill_keep t r s⟩
  | .canEnable t n v => ⟨t, execCanEnable_keep t n v s⟩
  | .canDisable t n v => ⟨t, execCanDisable_keep t n v s⟩
  | .canFrameReceived t n frame => ⟨t, execCanFrameReceived_keep t n frame s⟩
  | .canTxOpportunity t n => ⟨t, execCanTxOpportunity_keep t n s⟩
  | .canFrameTransmitted t n sof => ⟨t, execCanFrameTransmitted_keep t n sof s⟩
  | .canArbitrationLost t n => ⟨t, execCanArbitrationLost_keep t n s⟩
  | .canError t n err => ⟨t, execCanError_keep t n err s⟩
  | .canRecover t n v => ⟨t, execCanRecover_keep t n v s⟩
  | .canRecoveryDone t n => ⟨t, execCanRecoveryDone_keep t n s⟩
  | .canFlush t n v => ⟨t, execCanFlush_keep t n v s⟩
  | .canFill t r => ⟨t, execCanFill_keep t r s⟩
  | .canSend t r buf => ⟨t, execCanSend_keep t r buf s⟩
  | .switchFrameIngress t k bs => ⟨t, execSwitchFrameIngress_keep t k bs s⟩
  | .gateIntervalEnd t k => ⟨t, execGateIntervalEnd_keep t k s⟩
  | .gclHandover t k => ⟨t, execGclHandover_keep t k s⟩
  | .gptpSyncSend t => ⟨t, execGptpSyncSend_keep t s⟩
  | .pdelayMeasure t => ⟨t, execPdelayMeasure_keep t s⟩
  | .announceReceived t k => ⟨t, execAnnounceReceived_keep t k s⟩
  | .svcDetEdge t grounded => ⟨t, execSvcDetEdge_keep t grounded s⟩
  | .netSend t r buf => ⟨t, execNetSend_keep t r buf s⟩
  | .netFill t r => ⟨t, execNetFill_keep t r s⟩
  | .gclWrite t r buf => ⟨t, execGclWrite_keep t r buf s⟩
  | .sfWrite t r buf => ⟨t, execSfWrite_keep t r buf s⟩
  | .unblock t r => ⟨t, execUnblock_keep t r s⟩
  | .rpDataRead t v => ⟨t, execRpDataRead_keep t v s⟩
  | .rpDataWrite t v => ⟨t, execRpDataWrite_keep t v s⟩
  | .modemMemoryRequest t write addr len bs => ⟨t, execModemMemoryRequest_keep t write addr len bs s⟩
  | .modemMsi t => ⟨t, execModemMsi_keep t s⟩
  | .modemLinkLoss t => ⟨t, execModemLinkLoss_keep t s⟩
  | .modemLinkRetry t gen => ⟨t, execModemLinkRetry_keep t gen s⟩
  | .dmaKick t n beaten => ⟨t, execDmaKick_keep t n beaten s⟩
  | .dmaNextWrite t n v => ⟨t, execDmaNextWrite_keep t n v s⟩
  | .dmaDescriptorArrival t n ws beaten ecc => ⟨t, execDmaDescriptorArrival_keep t n ws beaten ecc s⟩
  | .dmaDescriptorEnd t n put bs ecc => ⟨t, execDmaDescriptorEnd_keep t n put bs ecc s⟩
  | .dmaPause t n => ⟨t, execDmaPause_keep t n s⟩
  | .dmaPaused t n put bs => ⟨t, execDmaPaused_keep t n put bs s⟩
  | .dmaResume t n => ⟨t, execDmaResume_keep t n s⟩
  | .dmaStop t n put bs => ⟨t, execDmaStop_keep t n put bs s⟩
  | .dmaReadError t n put bs => ⟨t, execDmaReadError_keep t n put bs s⟩
  | .dmaRequestAssert t q => ⟨t, execDmaRequestAssert_keep t q s⟩
  | .dmaRequestWithdraw t q done => ⟨t, execDmaRequestWithdraw_keep t q done s⟩
  | .rect t r => ⟨t, execRect_keep t r s⟩
  | .rectFetchDone t p buf => ⟨t, execRectFetchDone_keep t p buf s⟩
  | .portAFrameStart t => ⟨t, execPortAFrameStart_keep t s⟩
  | .portBFrameStart t => ⟨t, execPortBFrameStart_keep t s⟩
  | .waveformComplete t => ⟨t, execWaveformComplete_keep t s⟩
  | .hpdRise t => ⟨t, execHpdRise_keep t s⟩
  | .edpTrainingResult t geo vrr => ⟨t, execEdpTrainingResult_keep t geo vrr s⟩
  | .crackMeasure t res => ⟨t, execCrackMeasure_keep t res s⟩
  | .portAPowerOff t => ⟨t, execPortAPowerOff_keep t s⟩
  | .railFault t => ⟨t, execRailFault_keep t s⟩
  | .railHoldEnd t => ⟨t, execRailHoldEnd_keep t s⟩
  | .epdPanelPoll t present temp => ⟨t, execEpdPanelPoll_keep t present temp s⟩
  | .storeCrcCheck t bad => ⟨t, execStoreCrcCheck_keep t bad s⟩
  | .storeFlashCopy t => ⟨t, execStoreFlashCopy_keep t s⟩
  | .finalImageCutoff t => ⟨t, execFinalImageCutoff_keep t s⟩
  | .faultPersisting t code detail => ⟨t, execFaultPersisting_keep t code detail s⟩
  | .croakToggle t => ⟨t, execCroakToggle_keep t s⟩
  | .recorderFlushStart t => ⟨t, execRecorderFlushStart_keep t s⟩
  | .flushPeriodEnd t => ⟨t, execFlushPeriodEnd_keep t s⟩
  | .flushEnd t => ⟨t, execFlushEnd_keep t s⟩
  | .faultFill t r => ⟨t, execFaultFill_keep t r s⟩
  | .recRead t r ecc => ⟨t, execRecRead_keep t r ecc s⟩
  | .flush t r => ⟨t, execFlush_keep t r s⟩
  | .mark t r buf => ⟨t, execMark_keep t r buf s⟩
  | .snap t r => ⟨t, execSnap_keep t r s⟩
  | .challenge t r => ⟨t, execChallenge_keep t r s⟩
  | .challengeExpiry t => ⟨t, execChallengeExpiry_keep t s⟩
  | .clear t r ok => ⟨t, execClear_keep t r ok s⟩
  | .modelUpdate t heat => ⟨t, execModelUpdate_keep t heat s⟩
  | .deratingUpdate t => ⟨t, execDeratingUpdate_keep t s⟩
  | .hwThermalShutdown t reading low => ⟨t, execHwThermalShutdown_keep t reading low s⟩
  | .coolingCheck t temp => ⟨t, execCoolingCheck_keep t temp s⟩
  | .updBegin t r => ⟨t, execUpdBegin_keep t r s⟩
  | .updWrite t r buf => ⟨t, execUpdWrite_keep t r buf s⟩
  | .finish t r sig => ⟨t, execFinish_keep t r sig s⟩
  | .abort t r => ⟨t, execAbort_keep t r s⟩
  | .copy t r => ⟨t, execCopy_keep t r s⟩
  | .activate t r => ⟨t, execActivate_keep t r s⟩
  | .report t r => ⟨t, execReport_keep t r s⟩
  | .updReq t v => ⟨t, execUpdReq_keep t v s⟩
  | .axoHello t via => ⟨t, execAxoHello_keep t via s⟩
  | .axoBegin t via arg => ⟨t, execAxoBegin_keep t via arg s⟩
  | .axoData t via off bs => ⟨t, execAxoData_keep t via off bs s⟩
  | .axoFinish t via sig => ⟨t, execAxoFinish_keep t via sig s⟩
  | .axoActivate t via arg => ⟨t, execAxoActivate_keep t via arg s⟩
  | .axoBoot t via => ⟨t, execAxoBoot_keep t via s⟩
  | .axoCanSilenceReply t => ⟨t, execAxoCanSilenceReply_keep t s⟩
  | .k12PortWrite t clocks op addr data => ⟨t, execK12PortWrite_keep t clocks op addr data s⟩
  | .k12PortRead t clocks op addr data => ⟨t, execK12PortRead_keep t clocks op addr data s⟩
  | .k12Latch t => ⟨t, execK12Latch_keep t s⟩
  | .k12InputRefresh t => ⟨t, execK12InputRefresh_keep t s⟩
  | .k12CyclicCan t frames => ⟨t, execK12CyclicCan_keep t frames s⟩
  | .k12PairRealign t p => ⟨t, execK12PairRealign_keep t p s⟩
  | .evWriteCommitArm t => ⟨t, execEvWriteCommitArm_keep t s⟩
  | .evWriteCommitNow t => ⟨t, execEvWriteCommitNow_keep t s⟩
  | .evRead t => ⟨t, execEvRead_keep t s⟩
  | .evDisarm t => ⟨t, execEvDisarm_keep t s⟩
  | .k12StatusClear t v => ⟨t, execK12StatusClear_keep t v s⟩
  | .k12HostTimeout t => ⟨t, execK12HostTimeout_keep t s⟩
  | .k12HtoClear t v => ⟨t, execK12HtoClear_keep t v s⟩
  | .k12AddressClaim t won => ⟨t, execK12AddressClaim_keep t won s⟩
  | .k12BusoffRecover t n => ⟨t, execK12BusoffRecover_keep t n s⟩
  | .tstUnlock t v => ⟨t, execTstUnlock_keep t v s⟩
  | .tstLock t => ⟨t, execTstLock_keep t s⟩
  | .tstJitWrite t v => ⟨t, execTstJitWrite_keep t v s⟩
  | .perturbEnd t => ⟨t, execPerturbEnd_keep t s⟩
  | .perstDeassert t => ⟨t, execPerstDeassert_keep t s⟩
  | .shaftIndexPulse t k => ⟨t, execShaftIndexPulse_keep t k s⟩
  | .overrideInactive t n => ⟨t, execOverrideInactive_keep t n s⟩
  | .slewEnd t => ⟨t, execSlewEnd_keep t s⟩
  | .ppsPulseEnd t => ⟨t, execPpsPulseEnd_keep t s⟩
  | .addressAgeOut t => ⟨t, execAddressAgeOut_keep t s⟩
  | .logicFeedLossWhileOff t => ⟨t, execLogicFeedLossWhileOff_keep t s⟩

/-- The canonical form is a property of the registers and the memory alone. -/
theorem State.Canonical.of_eq {s t : State} (h : s.Canonical) (hr : t.regs = s.regs) (hm : t.mem = s.mem) :
    t.Canonical := ⟨by rw [hr]; exact h.regs, by rw [hm]; exact h.mem⟩

/-- Settles O39: an idle cycle touches neither table, and of the front command this is `exec_keep`. -/
theorem stepKeepsCanonicalForm : Obligations.StepKeepsCanonicalForm := by
  unfold Obligations.StepKeepsCanonicalForm
  intro s u hs h
  obtain ⟨-, rfl⟩ | ⟨c, rest, -, hc⟩ := step_cases h
  · exact hs.of_eq rfl rfl
  · obtain ⟨t, hk⟩ := exec_keep c (s.setPending rest)
    exact (hk u hc).canon (hs.of_eq rfl rfl)

/-- Settles O38: at reset both tables are empty. -/
theorem resetIsCanonical : Obligations.ResetIsCanonical := by
  unfold Obligations.ResetIsCanonical
  exact ⟨rfl, rfl⟩

end Sys2Proof.Machine

/-! PROOFS. Host register writes, unmapped accesses, the BAR2 window and the scrubber (spec/00, spec/01). -/

namespace Sys2Proof.Machine

/-! ### Registers outside a list of offsets -/

/-- Equal registers and equal memory: nothing changes, whatever the list. -/
theorem State.SameBut.of_eq {s u : State} (hr : u.regs = s.regs) (hm : u.mem = s.mem) (offs : List Nat) :
    s.SameBut u offs :=
  ⟨fun off _ => by simp only [State.reg, hr], fun a => by simp only [State.memRd, hm]⟩

theorem State.SameBut.trans {s t u : State} {offs : List Nat} (h : s.SameBut t offs) (k : t.SameBut u offs) :
    s.SameBut u offs :=
  ⟨fun off ho => (k.1 off ho).trans (h.1 off ho), fun a => (k.2 a).trans (h.2 a)⟩

theorem State.setReg_sameBut (s : State) (off : Nat) (w : Word) : s.SameBut (s.setReg off w) [off] :=
  ⟨fun o ho => State.reg_setReg_other s off o w (by simpa using ho), fun _ => rfl⟩

/-! ### A host write by its access codes (R7, R8, R9) -/

theorem reservedOf_of_row {off : Nat} {row : RegRow} (v : Word) (h : regRow off = some row) :
    reservedOf off v = maskBits v row.res := by simp [reservedOf, h]

/-- A write to a ready register that is neither locked nor sets a reserved bit does what the register does. -/
theorem State.hostWrite_of_ready (s : State) {off : Nat} {v : Word} (k : State → Out) (hr : s.readyReg off = true)
    (hv : reservedOf off v = 0#32) : s.hostWrite off v false k = k s := by simp [State.hostWrite, hr, hv]

/-- A reserved bit set stops the write, locked or not. -/
theorem State.hostWrite_of_reserved (s : State) {off : Nat} {v : Word} (locked : Bool) (k : State → Out)
    (hr : s.readyReg off = true) (hv : reservedOf off v ≠ 0#32) :
    s.hostWrite off v locked k = .fault .reservedField := by simp [State.hostWrite, hr, hv]

/-- The word that a write of `v` leaves in a register of this row that held `old`, of which the module has set the bits
`hot` in this cycle. -/
def RegRow.stored (row : RegRow) (old hot v : Word) : Word :=
  (((old &&& word (2 ^ 32 - 1 - (row.rw ||| row.cl))) ||| (v &&& word row.rw)) &&& ~~~(v &&& word row.w1c))
    ||| (old &&& hot &&& word (row.w1c ||| row.rws))

theorem State.store_of_row (s : State) {off : Nat} {row : RegRow} (v : Word) (h : regRow off = some row) :
    s.store off v = s.setReg off (row.stored (s.reg off) (s.hotBits off) v) := by
  simp only [State.store, h, maskBits, RegRow.stored]

/-- A write of a register of FLT stores its value; the old one acts for the rest of the cycle (R444). -/
theorem State.regRoute_flt (s : State) {off : Nat} {row : RegRow} {v : Word} (hg : off % 4 = 0)
    (hrow : regRow off = some row) (hb : off / 0x10000 = 0x10) (hr : s.readyReg off = true)
    (hv : reservedOf off v = 0#32) : s.regRoute off v = .next ((s.keepThen off).store off v) := by
  have hmirror : off ≠ REC_MIRROR := by simp only [REC_MIRROR]; omega
  have htrigger : regIdx off (REC_TRG_A 0) 8 64 = none := by
    rw [regIdx, if_neg]; simp only [REC_TRG_A]; omega
  simp [State.regRoute, hg, hrow, hb, State.writeRec, State.hostWrite_of_ready s _ hr hv, hmirror, htrigger]

/-- A write of a register of K12 stores its value. -/
theorem State.regRoute_k12 (s : State) {off : Nat} {row : RegRow} {v : Word} (hg : off % 4 = 0)
    (hrow : regRow off = some row) (hb : off / 0x10000 = 0x14) (hr : s.readyReg off = true)
    (hv : reservedOf off v = 0#32) : s.regRoute off v = .next (s.store off v) := by
  simp [State.regRoute, hg, hrow, hb, State.plainWrite, State.hostWrite_of_ready s _ hr hv]

/-- A write of a register of FLT or K12 changes this register alone, and as its access codes say. -/
theorem execRegisterWrite_fltOrK12 {t off : Nat} {v : Word} {s : State} {row : RegRow} (hg : off % 4 = 0)
    (hrow : regRow off = some row) (hb : off / 0x10000 = 0x10 ∨ off / 0x10000 = 0x14) (hr : s.readyReg off = true)
    (hv : maskBits v row.res = 0#32) :
    ∃ u, execRegisterWrite t off v s = .next u ∧ s.SameBut u [off] ∧
      u.reg off = row.stored (s.reg off) ((s.at t).hotBits off) v := by
  have hres : reservedOf off v = 0#32 := (reservedOf_of_row v hrow).trans hv
  have effect : ∀ x : State, x.regs = s.regs → x.mem = s.mem → x.hotBits off = (s.at t).hotBits off →
      s.SameBut (x.store off v) [off] ∧
        (x.store off v).reg off = row.stored (s.reg off) ((s.at t).hotBits off) v := by
    intro x hregs hmem hhot
    have hold : x.reg off = s.reg off := by simp only [State.reg, hregs]
    rw [State.store_of_row x v hrow, hold, hhot]
    exact ⟨(State.SameBut.of_eq hregs hmem _).trans (State.setReg_sameBut ..), State.reg_setReg_same ..⟩
  obtain hb | hb := hb
  · exact ⟨_, State.regRoute_flt _ hg hrow hb hr hres, effect _ rfl rfl rfl⟩
  · exact ⟨_, State.regRoute_k12 _ hg hrow hb hr hres, effect _ rfl rfl rfl⟩

/-- An aligned access where no table has a register is noted (R25, R424). -/
theorem execUnmappedBar0Access_of_none {t off : Nat} {s : State} (hg : off % 4 = 0) (hoff : off < 0x400000)
    (hrow : regRow off = none) (hr : s.readyReg 0 = true) :
    execUnmappedBar0Access t off s = .next ((s.at t).note 0x00F1 off) := by
  simp [execUnmappedBar0Access, hg, hoff, hrow, hr]

/-- A write of the window register stores base and enable, and clears the count of accesses outside (R28). -/
theorem execSysBar2BaseWrite_of_ready {t : Nat} {v : Word} {s : State} (hr : s.readyReg SYS_BAR2_BASE = true)
    (hv : bits v 22 15 = 0) :
    execSysBar2BaseWrite t v s = .next ((s.at t).setReg SYS_BAR2_BASE (v &&& 0x80007FFF#32)) := by
  simp [execSysBar2BaseWrite, hr, hv]

/-! ### The BAR2 window (R26 to R34) -/

theorem sharedTop_lt_sramTop : sharedTop < sramTop := by decide

/-- No error found: nothing to count and nothing to end. -/
@[simp] theorem State.eccDone_nil (s : State) : s.eccDone [] = s := rfl

/-- Bytes inside shared DRAM are all populated. -/
theorem State.bar2Oob_of_shared {s : State} {off len : Nat} (hen : s.bit SYS_BAR2_BASE SYS_BAR2_BASE_win_en = true)
    (ha : ∀ i < len, s.bar2Addr off i < sharedTop) : s.bar2Oob off len = false := by
  simp only [State.bar2Oob, hen, Bool.not_true, Bool.false_or, List.any_eq_false, List.mem_range, decide_eq_true_eq,
    not_le]
  exact fun i hi => (ha i hi).trans sharedTop_lt_sramTop

/-- The bytes of a read inside shared DRAM are those of module memory. -/
theorem State.bar2Bytes_of_shared {s : State} {off len : Nat} (hen : s.bit SYS_BAR2_BASE SYS_BAR2_BASE_win_en = true)
    (ha : ∀ i < len, s.bar2Addr off i < sharedTop) :
    (List.range len).map (s.bar2Byte off) = (List.range len).map fun i => s.memRd (s.bar2Addr off i) := by
  refine List.map_congr_left fun i hi => ?_
  have hshared := ha i (List.mem_range.1 hi)
  have hpopulated := not_le.2 (hshared.trans sharedTop_lt_sramTop)
  simp [State.bar2Byte, hen, hshared, hpopulated]

theorem State.bar2Poison_of_clear {s : State} {off len : Nat}
    (hp : ∀ i < len, s.poisoned (s.bar2Addr off i) 1 = false) : s.bar2Poison off len = false := by
  simpa [State.bar2Poison] using fun _ => hp

@[simp] theorem State.bar2Poison_emit (s : State) (e : Emission) (off len : Nat) :
    (s.emit e).bar2Poison off len = s.bar2Poison off len := rfl
@[simp] theorem State.bar2Poison_freeNext (s : State) (off len : Nat) :
    s.freeNext.bar2Poison off len = s.bar2Poison off len := rfl

/-- A read of clear bytes of shared DRAM sends them out, and uses up one free value. -/
theorem execBar2Read_of_shared {t off len : Nat} {s : State} (htop : off < bar2Top) (hok : bar2Bad off len = false)
    (hr : s.readyReg 0 = true) (hen : s.bit SYS_BAR2_BASE SYS_BAR2_BASE_win_en = true)
    (ha : ∀ i < len, s.bar2Addr off i < sharedTop) (hp : ∀ i < len, s.poisoned (s.bar2Addr off i) 1 = false)
    (hm : ∀ i < len, s.mirrorHit (s.bar2Addr off i) 1 = false) :
    execBar2Read t off len [] s = .next
      ((s.at t).emit (.bar2Data ((List.range len).map fun i => s.memRd (s.bar2Addr off i)) false)).freeNext := by
  have hmirror : ((List.range len).any fun i => s.mirrorHit (s.bar2Addr off i) 1) = false := by simpa using hm
  have hbytes := State.bar2Bytes_of_shared (s := s.at t) hen ha
  simp [execBar2Read, not_le.2 htop, hok, hr, hmirror, hbytes, State.bar2Oob_of_shared hen ha, State.bar2Flag,
    State.bar2Poison_of_clear hp, eccBad]

/-- A write of clear bytes of shared DRAM that the module does not write stores them, and does nothing else. -/
theorem execBar2Write_of_shared {t off : Nat} {bs : List Byte} {s : State} (htop : off < bar2Top)
    (hok : bar2Bad off bs.length = false) (hr : s.readyReg 0 = true)
    (hen : s.bit SYS_BAR2_BASE SYS_BAR2_BASE_win_en = true) (ha : ∀ i < bs.length, s.bar2Addr off i < sharedTop)
    (hm : ∀ i < bs.length, inAreas (s.at t).moduleAreas (s.bar2Addr off i) = false)
    (hp : ∀ i < bs.length, s.poisoned (s.bar2Addr off i) 1 = false) :
    execBar2Write t off bs [] s = .next
      ((List.range bs.length).foldl (fun x i => x.memWr (s.bar2Addr off i) (bs.getD i 0#8)) (s.at t)) := by
  have hmay : ((List.range bs.length).any fun i =>
      (decide (sharedTop ≤ s.bar2Addr off i) && decide (s.bar2Addr off i < sramTop))
        || inAreas (s.at t).moduleAreas (s.bar2Addr off i)) = false := by
    simp only [List.any_eq_false, List.mem_range]
    intro i hi
    simp [not_le.2 (ha i hi), hm i hi]
  have hstore : (List.range bs.length).foldl (fun (x : State) i =>
      if s.bar2Addr off i < sharedTop then x.memWr (s.bar2Addr off i) (bs.getD i 0#8) else x) (s.at t)
      = (List.range bs.length).foldl (fun x i => x.memWr (s.bar2Addr off i) (bs.getD i 0#8)) (s.at t) :=
    List.foldl_ext _ _ _ fun x i hi => if_pos (ha i (List.mem_range.1 hi))
  simpa [execBar2Write, not_le.2 htop, hok, hr, hen, hmay, State.bar2Oob_of_shared hen ha,
    State.bar2Poison_of_clear hp] using hstore

/-- Stores of bytes leave every register. -/
theorem State.foldl_memWr_reg (s : State) (l : List Nat) (a : Nat → Nat) (b : Nat → Byte) (o : Nat) :
    (l.foldl (fun x i => x.memWr (a i) (b i)) s).reg o = s.reg o := by
  induction l generalizing s with
  | nil => rfl
  | cons i l ih => exact ih _

/-! ### The scrubber (R33) -/

/-- A correctable error outside payloads in transit is counted for its region, and its address is kept. -/
theorem State.eccHit_of_correctable {s : State} {h : EccHit} (hc : h.correctable = true) (hg : h.region.val ≠ 7) :
    s.eccHit h = ((s.bump (FLT_ECC h.region) FLT_ECC_corr).setReg FLT_ECC_ADDR_LO (lo32 h.addr)).wr FLT_ECC_ADDR_HI
      FLT_ECC_ADDR_HI_addr (h.addr / 2 ^ 32) := by
  simp [State.eccHit, hc, hg]

/-- The counters of the regions stand below the address of the last error. -/
theorem FLT_ECC_lt_addr (n : Fin 8) : FLT_ECC n < FLT_ECC_ADDR_LO := by
  simp only [FLT_ECC, FLT_ECC_ADDR_LO]; omega

/-- Settles O1: one law for each command, above. -/
theorem hostAccessAndWindowCommands : Obligations.HostAccessAndWindowCommands := by
  unfold Obligations.HostAccessAndWindowCommands
  refine ⟨?registerWrite, ?unmapped, ?bar2Base, ?bar2Read, ?bar2Write, ?scrub⟩
  case registerWrite => exact fun t off v s row hg hrow hb hr hv => execRegisterWrite_fltOrK12 hg hrow hb hr hv
  case unmapped => exact fun t off s hg hoff hrow hr => execUnmappedBar0Access_of_none hg hoff hrow hr
  case bar2Base =>
    intro t v s hr hv
    exact ⟨_, execSysBar2BaseWrite_of_ready hr hv, State.setReg_sameBut (s.at t) .., State.reg_setReg_same ..⟩
  case bar2Read =>
    intro t off len s htop hok hr hen ha hp hm
    exact ⟨_, execBar2Read_of_shared htop hok hr hen ha hp hm, .of_eq rfl rfl _, rfl⟩
  case bar2Write =>
    intro t off bs s htop hok hr hen ha hm hp
    refine ⟨_, execBar2Write_of_shared htop hok hr hen ha hm hp, fun o => ?_, rfl⟩
    exact State.foldl_memWr_reg ..
  case scrub =>
    intro t h s hc hg
    refine ⟨(s.at t).eccHit h, rfl, ?_, ?_, ?_⟩ <;> rw [State.eccHit_of_correctable hc hg]
    · have hlo : FLT_ECC h.region ≠ FLT_ECC_ADDR_LO := (FLT_ECC_lt_addr _).ne
      have hhi : FLT_ECC h.region ≠ FLT_ECC_ADDR_HI := ((FLT_ECC_lt_addr _).trans (by decide)).ne
      rw [State.rd_wr_other _ _ _ _ _ _ hhi, State.rd, State.reg_setReg_other _ _ _ _ hlo]
      exact State.rd_bump _ _ _ (by decide)
    · rw [State.reg_wr_other _ _ _ _ _ (by decide), State.reg_setReg_same]
    · exact State.rd_wr_same _ _ _ _ (by decide)

/-- Settles O56: each misuse is tested before anything else that the access could do. -/
theorem misuseStopsByName : Obligations.MisuseStopsByName := by
  unfold Obligations.MisuseStopsByName
  refine ⟨?offGrid, ?bar2, ?bar2Base, ?reserved⟩
  case offGrid =>
    intro t off v s hg
    exact ⟨by simp [exec, execRegisterWrite, State.regRoute, hg], by simp [exec, execUnmappedBar0Access, hg]⟩
  case bar2 =>
    intro t off len bs ecc s htop hr hbad hlen
    exact ⟨by simp [exec, execBar2Read, not_le.2 htop, hr, hbad],
      by simp [exec, execBar2Write, not_le.2 htop, hr, hlen, hbad]⟩
  case bar2Base =>
    intro t v s hr hv
    simp [exec, execSysBar2BaseWrite, hr, hv]
  case reserved => exact fun off v s k locked hr hv => State.hostWrite_of_reserved s locked k hr hv

end Sys2Proof.Machine

/-! PROOFS. The queue and the passing of time, and the registers at reset (spec/01, spec/95). -/

namespace Sys2Proof.Machine

/-- Settles O40: an idle cycle only counts, and the front command is carried out on the queue's rest, which `exec_keep`
says it keeps, at its own cycle or at the present one if that is past. -/
theorem commandsComeInOrderAndTimeNeverRunsBack : Obligations.CommandsComeInOrderAndTimeNeverRunsBack := by
  unfold Obligations.CommandsComeInOrderAndTimeNeverRunsBack
  intro s u h
  obtain ⟨hp, rfl⟩ | ⟨c, rest, hp, hc⟩ := step_cases h
  · exact ⟨by simp [State.idle, hp], Nat.le_succ _⟩
  · obtain ⟨t, hk⟩ := exec_keep c (s.setPending rest)
    obtain ⟨hpending, hcyc, -⟩ := hk u hc
    rw [hp]
    exact ⟨hpending, hcyc ▸ le_max_left _ _⟩

/-- MTIME runs 5 ns a cycle, modulo 2^64 (R22). -/
theorem State.mtime_of_later {s u : State} {n : Nat} (hoff : u.mtOff = s.mtOff) (hcyc : u.cyc = s.cyc + n) :
    u.mtime = (s.mtime + 5 * n) % 2 ^ 64 := by
  simp only [State.mtime, hoff, hcyc]; omega

/-- Settles O36: both clauses are the law of MTIME, over one cycle and over those up to `t`. -/
theorem idleCycleAdvancesTime : Obligations.IdleCycleAdvancesTime := by
  unfold Obligations.IdleCycleAdvancesTime
  refine ⟨fun s hp => ⟨?step, State.mtime_of_later (s := s) (n := 1) rfl rfl⟩, fun t s => ?later⟩
  case step => simp only [step, hp, State.idle]
  case later => exact State.mtime_of_later (s := s) rfl (Nat.add_sub_cancel' (le_max_left s.cyc t)).symm

/-- At reset no register is listed, so that each reads the reset value of its row. -/
theorem State.reg_reset (off : Nat) : State.reset.reg off = regReset off := rfl

/-- Settles O37: the lists are empty by definition, and the reset values are those of the table's rows. -/
theorem resetRegisterValues : Obligations.ResetRegisterValues := by
  unfold Obligations.ResetRegisterValues
  simp only [State.reg_reset]
  refine ⟨⟨rfl, rfl, rfl, rfl, rfl⟩, ?single, ?domains, ?groups, ?valves, ?switches⟩
  case single => decide
  case domains => decide
  case groups => decide
  case valves => decide
  case switches => decide

end Sys2Proof.Machine

/-! PROOFS. Where a BAR2 access goes, byte by byte (spec/01, R26 to R28, R32). -/

namespace Sys2Proof.Machine

/-! ### Bytes stored one by one -/

/-- The bytes `b 0` to `b (n - 1)` stored in turn at `a 0` to `a (n - 1)`, but for those outside shared DRAM. -/
def State.storeShared (s : State) (a : Nat → Nat) (b : Nat → Byte) (n : Nat) : State :=
  (List.range n).foldl (fun x i => if a i < sharedTop then x.memWr (a i) (b i) else x) s

theorem State.storeShared_succ (s : State) (a : Nat → Nat) (b : Nat → Byte) (n : Nat) :
    s.storeShared a b (n + 1) =
      if a n < sharedTop then (s.storeShared a b n).memWr (a n) (b n) else s.storeShared a b n := by
  simp only [State.storeShared, List.range_succ, List.foldl_append, List.foldl_cons, List.foldl_nil]

/-- A byte that none of the addresses names is as before. -/
theorem State.memRd_storeShared_other (s : State) {a : Nat → Nat} (b : Nat → Byte) {n c : Nat}
    (hc : ∀ i < n, a i ≠ c) : (s.storeShared a b n).memRd c = s.memRd c := by
  induction n with
  | zero => rfl
  | succ n ih =>
    have hrest := ih fun i hi => hc i (by omega)
    rw [State.storeShared_succ]
    split
    · rw [State.memRd_memWr, if_neg (hc n (by omega)).symm, hrest]
    · exact hrest

/-- A byte of shared DRAM whose address no other byte has reads back. -/
theorem State.memRd_storeShared_same (s : State) {a : Nat → Nat} (b : Nat → Byte) {n i : Nat} (hi : i < n)
    (hs : a i < sharedTop) (hinj : ∀ j < n, a j = a i → j = i) : (s.storeShared a b n).memRd (a i) = b i := by
  induction n with
  | zero => omega
  | succ n ih =>
    rw [State.storeShared_succ]
    by_cases hin : i = n
    · subst hin
      rw [if_pos hs, State.memRd_memWr, if_pos rfl]
    · have hne : a i ≠ a n := fun e => hin (hinj n (by omega) e.symm).symm
      have hrest := ih (by omega) fun j hj => hinj j (by omega)
      split
      · rw [State.memRd_memWr, if_neg hne, hrest]
      · exact hrest

/-! ### Accesses outside populated memory, counted -/

/-- The count of accesses that return 0 or drop bytes, if this is one (R28). -/
def State.countOob (s : State) (oob : Bool) : State :=
  if oob then s.bump SYS_BAR2_BASE SYS_BAR2_BASE_oob_cnt else s

@[simp] theorem State.countOob_mem (s : State) (oob : Bool) : (s.countOob oob).mem = s.mem := by
  cases oob <;> simp [State.countOob]
@[simp] theorem State.countOob_out (s : State) (oob : Bool) : (s.countOob oob).out = s.out := by
  cases oob <;> simp [State.countOob]
@[simp] theorem State.countOob_poison (s : State) (oob : Bool) : (s.countOob oob).poison = s.poison := by
  cases oob <;> simp [State.countOob]
@[simp] theorem State.countOob_memRd (s : State) (oob : Bool) (a : Nat) : (s.countOob oob).memRd a = s.memRd a := by
  simp only [State.memRd, State.countOob_mem]

/-- The window's other fields are as before. -/
theorem State.rd_countOob (s : State) (oob : Bool) (g : Fld) (h : g.lo + g.wd ≤ 23 ∨ 31 ≤ g.lo) :
    (s.countOob oob).rd SYS_BAR2_BASE g = s.rd SYS_BAR2_BASE g := by
  unfold State.countOob
  split
  · exact State.rd_wr_field _ _ _ _ _ (by decide) h
  · rfl

@[simp] theorem State.bar2Poison_countOob (s : State) (oob : Bool) (off len : Nat) :
    (s.countOob oob).bar2Poison off len = s.bar2Poison off len := by
  have hbase := s.rd_countOob oob SYS_BAR2_BASE_base (by decide)
  have hen := s.rd_countOob oob SYS_BAR2_BASE_win_en (by decide)
  have hpoisoned : ∀ a, (s.countOob oob).poisoned a 1 = s.poisoned a 1 := by
    intro a; rw [State.poisoned, State.countOob_poison]; rfl
  simp only [State.bar2Poison, State.bit, State.bar2Addr, hbase, hen, hpoisoned]

/-! ### The addresses of one access -/

/-- An access that is no misuse has at most 64 bytes. -/
theorem length_le_of_bar2Bad {off len : Nat} (h : bar2Bad off len = false) : len ≤ 64 := by
  simp only [bar2Bad, Bool.or_eq_false_iff, decide_eq_false_iff_not] at h
  omega

/-- The bytes of one access have addresses of their own, also where they wrap. -/
theorem State.bar2Addr_inj (s : State) {off i j : Nat} (hi : i < 64) (hj : j < 64)
    (h : s.bar2Addr off i = s.bar2Addr off j) : i = j := by
  simp only [State.bar2Addr] at h
  omega

/-! ### Reads and writes through the open window -/

section
variable {t off : Nat} {s : State} (htop : off < bar2Top) (hr : s.readyReg 0 = true)
include htop hr

/-- A read of clear bytes sends out what each address holds, and counts if one of them is unpopulated. -/
theorem execBar2Read_of_clear {len : Nat} (hok : bar2Bad off len = false) (hp : s.bar2Poison off len = false)
    (hm : ∀ i < len, s.mirrorHit (s.bar2Addr off i) 1 = false) :
    execBar2Read t off len [] s = .next
      (((s.at t).emit (.bar2Data ((List.range len).map (s.bar2Byte off)) false)).countOob
        (s.bar2Oob off len)).freeNext := by
  have hmirror : ((List.range len).any fun i => s.mirrorHit (s.bar2Addr off i) 1) = false := by simpa using hm
  have hbytes : (List.range len).map ((s.at t).bar2Byte off) = (List.range len).map (s.bar2Byte off) := rfl
  have hflag : ∀ x : State, x.bar2Poison off len = false → x.bar2Flag off len = x := by
    intro x hx; simp [State.bar2Flag, hx]
  have hclear : ((((s.at t).emit (.bar2Data ((List.range len).map (s.bar2Byte off)) false)).countOob
      (s.bar2Oob off len)).freeNext).bar2Poison off len = false := by simpa using hp
  rw [← hflag _ hclear]
  simp [execBar2Read, not_le.2 htop, hok, hr, hmirror, hp, eccBad, hbytes, State.countOob]

/-- A write that is no misuse stores its bytes of shared DRAM, and counts if one of the others is dropped. -/
theorem execBar2Write_of_clear {bs : List Byte} (hen : s.bit SYS_BAR2_BASE SYS_BAR2_BASE_win_en = true)
    (hok : bar2Bad off bs.length = false)
    (ha : ∀ i < bs.length, s.bar2Addr off i < sharedTop ∨ sramTop ≤ s.bar2Addr off i)
    (hm : ∀ i < bs.length, inAreas (s.at t).moduleAreas (s.bar2Addr off i) = false)
    (hp : s.bar2Poison off bs.length = false) :
    execBar2Write t off bs [] s = .next
      (((s.at t).storeShared (s.bar2Addr off) (fun i => bs.getD i 0#8) bs.length).countOob
        (s.bar2Oob off bs.length)) := by
  have hmay : ((List.range bs.length).any fun i =>
      (decide (sharedTop ≤ s.bar2Addr off i) && decide (s.bar2Addr off i < sramTop))
        || inAreas (s.at t).moduleAreas (s.bar2Addr off i)) = false := by
    simp only [List.any_eq_false, List.mem_range]
    intro i hi
    have hregion : sharedTop ≤ s.bar2Addr off i → sramTop ≤ s.bar2Addr off i :=
      fun h => (ha i hi).resolve_left (not_lt.2 h)
    simpa [hm i hi] using hregion
  simp [execBar2Write, not_le.2 htop, hok, hr, hen, hmay, hp, State.storeShared, State.countOob]

end

/-- Through the open window a byte of shared DRAM reads as it is. -/
theorem State.bar2Byte_of_shared {s : State} {off i : Nat} (hen : s.bit SYS_BAR2_BASE SYS_BAR2_BASE_win_en = true)
    (ha : s.bar2Addr off i < sharedTop) : s.bar2Byte off i = s.memRd (s.bar2Addr off i) := by
  simp [State.bar2Byte, hen, ha, ha.trans sharedTop_lt_sramTop]

/-- An unpopulated byte reads 0. -/
theorem State.bar2Byte_of_unpopulated {s : State} {off i : Nat} (ha : sramTop ≤ s.bar2Addr off i) :
    s.bar2Byte off i = 0#8 := by
  simp [State.bar2Byte, ha]

/-- Settles O41: the law of each access, and the laws of bytes stored one by one at addresses of their own. -/
theorem bar2ReachesModuleMemory : Obligations.Bar2ReachesModuleMemory := by
  unfold Obligations.Bar2ReachesModuleMemory
  refine ⟨?write, ?read⟩
  case write =>
    intro t off bs s hok htop hr hen ha hm hp
    have hlen := length_le_of_bar2Bad hok
    refine ⟨_, execBar2Write_of_clear htop hr hen hok ha hm hp, fun i hi hs => ?_, fun a hother => ?_⟩
    · rw [State.countOob_memRd]
      exact State.memRd_storeShared_same _ _ hi hs
        fun j hj => s.bar2Addr_inj (hj.trans_le hlen) (hi.trans_le hlen)
    · rw [State.countOob_memRd]
      exact State.memRd_storeShared_other _ _ hother
  case read =>
    intro t off len s hok htop hr hen hp hm
    refine ⟨_, _, execBar2Read_of_clear htop hr hok hp hm, State.countOob_out .., by simp,
      State.countOob_memRd _ _, fun i hi => ?_⟩
    have hbyte : ((List.range len).map (s.bar2Byte off)).getD i 0#8 = s.bar2Byte off i := by simp [List.getD, hi]
    rw [hbyte]
    exact ⟨State.bar2Byte_of_shared hen, State.bar2Byte_of_unpopulated⟩

end Sys2Proof.Machine

/-! PROOFS. Triggers, evaluations, hand-over and load window of the loops (spec/06). -/

namespace Sys2Proof.Machine

/-! ### LOOP_TRIGGER (R151) -/

section
variable {t : Nat} {n : Fin 64} {s : State} (hruns : (s.at t).loopRuns n = true) (htrig : (s.loop n).trigged = false)
  (hdue : (s.loop n).trig ≤ (s.at t).mtime)
include hruns htrig hdue

/-- The trigger of a loop on an analogue input that is enabled and not K12's starts or joins a conversion. -/
theorem execLoopTrigger_of_ain (hk : lpInKind (s.loop n).act = 1) (hen : s.ainEn (lpInNum (s.loop n).act) = true)
    (h12 : s.ainK12 (lpInNum (s.loop n).act) = false) :
    execLoopTrigger t n s = .next
      (((s.at t).setLoop n { s.loop n with trigged := true, sample := none }).ainTrigger
        (lpInNum (s.loop n).act) [n]) := by
  simp [execLoopTrigger, hruns, htrig, not_lt.2 hdue, hk, hen, h12]

/-- The trigger of a loop on a frequency input that is enabled and not K12's latches it. -/
theorem execLoopTrigger_of_fin (hk : lpInKind (s.loop n).act = 2) (hen : s.finEn (lpInNum (s.loop n).act) = true)
    (h12 : s.finK12 (lpInNum (s.loop n).act) = false) :
    execLoopTrigger t n s = .next
      (((s.at t).setLoop n { s.loop n with trigged := true, sample := none }).finLatch
        (lpInNum (s.loop n).act) [n]) := by
  simp [execLoopTrigger, hruns, htrig, not_lt.2 hdue, hk, hen, h12]

/-- The trigger of a loop on an input that gives no sample to fusion takes the input's value at once. -/
theorem execLoopTrigger_of_latched (hk : lpInKind (s.loop n).act ∉ [1, 2, 3, 5]) (x : State)
    (hx : x = (s.at t).setLoop n { s.loop n with trigged := true, sample := none }) :
    execLoopTrigger t n s = .next (x.setLoop n { x.loop n with
      sample := some ((s.at t).latchOf (lpInKind (s.loop n).act) (lpInNum (s.loop n).act)) }) := by
  simp only [List.mem_cons, List.not_mem_nil, or_false, not_or] at hk
  obtain ⟨h1, h2, h3, h5⟩ := hk
  simp [execLoopTrigger, hruns, htrig, not_lt.2 hdue, h1, h2, h3, h5, hx]

end

/-! ### Evaluations (R147, R148, R158, R166) -/

/-- An evaluation start whose hand-over, if one is due, finds its output free. -/
theorem State.evaluate_of_free {s : State} {n : Nat} (raw : Int) (trig m : Nat) (own : Bool)
    (h : ((s.loop n).due s.cyc && s.outBad n ((s.loop n).source s.cyc)) = false) :
    s.evaluate n raw trig m own = .next (s.evaluated n raw trig m own) := by
  simp [State.evaluate, h]

/-- At its slot start a loop whose sample is held is evaluated. -/
theorem State.slotStart_of_held {s : State} {n : Nat} {raw : Int} (hcu : (s.loop n).cu = false)
    (hfrom : (s.loop n).nom + 24000 ≤ s.mtime) (hto : s.mtime < (s.loop n).nom + 24005)
    (htrig : (s.loop n).trig = (s.loop n).nom) (hsample : (s.loop n).sample = some raw) :
    s.slotStart n = s.evaluate n raw (s.loop n).trig ((s.loop n).nom + 24000) true := by
  simp [State.slotStart, hcu, not_lt.2 hfrom, hto, htrig, hsample]

/-- A loop that reaches its slot start without its sample moves to the catch-up lane. -/
theorem State.slotStart_of_unheld {s : State} {n : Nat} (hcu : (s.loop n).cu = false)
    (hfrom : (s.loop n).nom + 24000 ≤ s.mtime) (hsample : (s.loop n).sample = none) :
    s.slotStart n = .next (s.toLane n) := by
  simp [State.slotStart, hcu, not_lt.2 hfrom, hsample]

section
variable {t : Nat} {n : Fin 64} {ecc hits : List EccHit} {s x : State}
  (hhits : hits = ecc.filter fun h => h.region.val == 0) (hx : x = (s.at t).eccAll hits)
include hhits hx

/-- A loop does not run on poisoned data (R32). -/
theorem execLoopEvaluation_of_poisoned (hbad : eccBad hits = true) : execLoopEvaluation t n ecc s = .next x := by
  subst hhits hx
  simp [execLoopEvaluation, hbad]

variable (hruns : x.loopRuns n = true) (hgood : eccBad hits = false)
include hruns hgood

/-- With no evaluation under way the command is the slot start. -/
theorem execLoopEvaluation_of_noFlight (hflight : (x.loop n).flight = none) :
    execLoopEvaluation t n ecc s = x.slotStart n := by
  subst hhits hx
  simp [execLoopEvaluation, hruns, hgood, hflight]

/-- An evaluation that was under way as MTIME stepped starts at its own instant. -/
theorem execLoopEvaluation_of_flight {f : Flight} {raw : Int} (hflight : (x.loop n).flight = some f)
    (hlane : f.lane = false) (hstart : f.start = x.cyc) (hsample : f.sample = some raw) :
    execLoopEvaluation t n ecc s =
      (x.setLoop n { x.loop n with flight := none }).evaluate n raw f.trig x.mtime false := by
  subst hhits hx
  simp [execLoopEvaluation, hruns, hgood, hflight, hlane, hstart, hsample]

end

/-- The evaluation first in order on the free catch-up lane takes it for 625 cycles. -/
theorem execCatchupEvaluation_of_first {t : Nat} {n : Fin 64} {trig : Nat} {raw : Int} {own : Bool} {s x : State}
    (hruns : (s.at t).loopRuns n = true) (hfree : s.cle.laneFree ≤ max s.cyc t)
    (hjob : (s.at t).laneJob n = some (trig, raw, own)) (hfirst : (s.at t).laneAhead n trig = false)
    (hx : x = { s.at t with cle := { (s.at t).cle with laneFree := (s.at t).cyc + 625 } }) :
    execCatchupEvaluation t n s =
      (if own then x else x.setLoop n { x.loop n with flight := none }).evaluate n raw trig x.mtime own := by
  have hlane : (s.at t).cle.laneFree ≤ (s.at t).cyc := hfree
  subst hx
  simp only [execCatchupEvaluation, hruns, hjob, hfirst, not_lt.2 hlane, Bool.not_true, decide_false, Bool.or_false,
    Bool.false_eq_true, if_false]
  rfl

/-- A due hand-over of a disabled loop copies its shadow half, if the output is free (R169). -/
theorem execLoopHandover_of_free {t : Nat} {n : Fin 64} {s : State} (hdue : (s.loop n).due (max s.cyc t) = true)
    (hen : lpEn (s.loop n).act = false) (hfree : s.outBad n ((s.loop n).source (max s.cyc t)) = false) :
    execLoopHandover t n s = .next ((s.at t).loopCopy n) := by
  simp [execLoopHandover, hdue, hen, hfree]

/-! ### The load window (R18, R19) -/

theorem State.wr_sameBut (s : State) (off : Nat) (f : Fld) (v : Nat) : s.SameBut (s.wr off f v) [off] :=
  ⟨fun o ho => State.reg_wr_other s off o f v (by simpa using ho), fun _ => rfl⟩

/-- The window's count goes to CLE_LOAD, and a new window starts with none. -/
def State.closeLoadWindow (s : State) : State :=
  let x := (s.wr CLE_LOAD CLE_LOAD_last (min 0xFFFF s.cle.evals)).wrMax CLE_LOAD CLE_LOAD_peak s.cle.evals
  { x with cle := { x.cle with evals := 0, winFrom := s.cyc } }

theorem State.sameBut_setCle (s : State) (c : Cle) (offs : List Nat) : s.SameBut { s with cle := c } offs :=
  .of_eq rfl rfl offs

theorem State.rd_setCle (s : State) (c : Cle) (off : Nat) (f : Fld) :
    ({ s with cle := c } : State).rd off f = s.rd off f := rfl

theorem State.closeLoadWindow_sameBut (s : State) : s.SameBut s.closeLoadWindow [CLE_LOAD] := by
  unfold State.closeLoadWindow State.wrMax
  exact ((State.wr_sameBut _ _ _ _).trans (State.wr_sameBut _ _ _ _)).trans (State.sameBut_setCle _ _ _)

/-- CLE_LOAD.last holds the count of the window closed, saturating. -/
theorem State.rd_closeLoadWindow_last (s : State) :
    s.closeLoadWindow.rd CLE_LOAD CLE_LOAD_last = min 0xFFFF s.cle.evals := by
  unfold State.closeLoadWindow State.wrMax
  rw [State.rd_setCle, State.rd_wr_field _ _ _ _ _ (by decide) (by decide), State.rd_wr_same _ _ _ _ (by decide)]
  exact Nat.mod_eq_of_lt ((min_le_left _ _).trans_lt (by decide))

/-- A window that has lasted 1 ms closes, and the guarantee monitor judges its count. -/
theorem execLoadWindowEnd_of_over {t : Nat} {s : State} (hr : s.ready 3 = true)
    (hover : s.cle.winFrom + ms 1 ≤ max s.cyc t) :
    execLoadWindowEnd t s = .next ((s.at t).closeLoadWindow.guarSet SYS_GUAR_load_over SYS_GUAR_load_seen
      (decide (1280 < s.cle.evals))) := by
  have hready : (s.at t).ready 3 = true := hr
  have hcyc : (s.at t).cle.winFrom + ms 1 ≤ (s.at t).cyc := hover
  simp only [execLoadWindowEnd, hready, not_lt.2 hcyc, Bool.not_true, decide_false, Bool.or_false, Bool.false_eq_true,
    if_false]
  rfl

/-- Settles O10: one law for each command, above. -/
theorem loopEngineCommands : Obligations.LoopEngineCommands := by
  unfold Obligations.LoopEngineCommands
  refine ⟨?trigger, ?poisoned, ?held, ?flight, ?unheld, ?catchup, ?handover, ?window⟩
  case trigger =>
    intro t n s hruns htrig hdue hserved
    simp only [not_or, not_and, Bool.not_eq_false] at hserved
    obtain ⟨hain, hfin⟩ := hserved
    exact ⟨_, rfl, fun hk => execLoopTrigger_of_ain hruns htrig hdue hk (hain hk),
      fun hk => execLoopTrigger_of_fin hruns htrig hdue hk (hfin hk),
      fun hk => execLoopTrigger_of_latched hruns htrig hdue hk _ rfl⟩
  case poisoned => exact fun t n ecc hits s x hhits hx _ hbad => execLoopEvaluation_of_poisoned hhits hx hbad
  case held =>
    intro t n ecc hits raw s x hhits hx hruns hgood hflight hcu hfrom hto htrig hsample hfree
    calc execLoopEvaluation t n ecc s
        = x.slotStart n := execLoopEvaluation_of_noFlight hhits hx hruns hgood hflight
      _ = x.evaluate n raw (x.loop n).trig ((x.loop n).nom + 24000) true :=
          State.slotStart_of_held hcu hfrom hto htrig hsample
      _ = _ := State.evaluate_of_free _ _ _ _ hfree
  case flight =>
    intro t n ecc hits raw f s x y hhits hx hruns hgood hflight hlane hstart hsample hy hfree
    subst hy
    exact (execLoopEvaluation_of_flight hhits hx hruns hgood hflight hlane hstart hsample).trans
      (State.evaluate_of_free _ _ _ _ hfree)
  case unheld =>
    intro t n ecc hits s x hhits hx hruns hgood hflight hcu hfrom hsample
    exact (execLoopEvaluation_of_noFlight hhits hx hruns hgood hflight).trans
      (State.slotStart_of_unheld hcu hfrom hsample)
  case catchup =>
    intro t n trig raw own s x y hruns hlane hjob hfirst hx hy hfree
    subst hy
    exact (execCatchupEvaluation_of_first hruns hlane hjob hfirst hx).trans (State.evaluate_of_free _ _ _ _ hfree)
  case handover => exact fun t n s hdue hen hfree => execLoopHandover_of_free hdue hen hfree
  case window =>
    intro t s hr hover
    exact ⟨_, execLoadWindowEnd_of_over hr hover, State.rd_closeLoadWindow_last _, rfl, rfl,
      State.closeLoadWindow_sameBut (s.at t)⟩

end Sys2Proof.Machine

/-! PROOFS. The power-fail warning turns every channel off (spec/02, spec/08, spec/09). -/

namespace Sys2Proof.Machine

/-! ### What a fold over channels does to each of them -/

/-- A fold of steps each of which brings its own item to `P`, and takes none out of it, brings every item of the list
to `P`. -/
theorem foldl_establishes {σ α : Type} {P : σ → α → Prop} {f : σ → α → σ} {l : List α}
    (hdo : ∀ s, ∀ a ∈ l, P (f s a) a) (hkeep : ∀ s, ∀ a ∈ l, ∀ b ∈ l, P s b → P (f s a) b) (s : σ) :
    ∀ b ∈ l, P (l.foldl f s) b := by
  induction l using List.reverseRecOn generalizing s with
  | nil => exact fun b hb => absurd hb List.not_mem_nil
  | append_singleton l a ih =>
    intro b hb
    have hin : ∀ c ∈ l, c ∈ l ++ [a] := fun c hc => List.mem_append_left _ hc
    rw [List.foldl_append, List.foldl_cons, List.foldl_nil]
    obtain hb' | hb' := List.mem_append.1 hb
    · have hlist := ih (fun s c hc => hdo s c (hin c hc)) (fun s c hc d hd => hkeep s c (hin c hc) d (hin d hd)) s b hb'
      exact hkeep _ a (by simp) b hb hlist
    · obtain rfl := List.mem_singleton.1 hb'
      exact hdo _ b hb

/-! ### Valves (R207) -/

/-- A valve off for good: shadow and active code 0, and nothing waiting for a hand-over. -/
def State.ValveKilled (s : State) (n : Nat) : Prop :=
  (s.valve n).shadow = 0 ∧ (s.valve n).wrote = false ∧ s.valveActive n = 0

theorem State.valveOn_of_killed {s : State} {n : Nat} (h : s.ValveKilled n) : s.valveOn n = false := by
  obtain ⟨-, -, hactive⟩ := h
  simp [State.valveOn, hactive]

theorem State.valve_setValve (s : State) (n m : Nat) (v : Valve) :
    (s.setValve n v).valve m = if m = n then v else s.valve m := cellGet_set ..

theorem State.valve_wr (s : State) (off : Nat) (f : Fld) (v m : Nat) : (s.wr off f v).valve m = s.valve m := by
  simp only [State.valve, State.wr_valves]

theorem VDR_STAT_inj {m n : Nat} : VDR_STAT m = VDR_STAT n ↔ m = n := by simp only [VDR_STAT]; omega

/-- Putting back a valve's record writes VDR_STATn.state alone, and leaves every active code. -/
theorem State.valveActive_setValve (s : State) (n m : Nat) (v : Valve) :
    (s.setValve n v).valveActive m = s.valveActive m := by
  by_cases h : m = n
  · subst h
    exact State.rd_wr_field _ _ _ _ _ (by decide) (by decide)
  · exact State.rd_wr_other _ _ _ _ _ _ (mt VDR_STAT_inj.1 h)

theorem State.valveActive_valveSetActive (s : State) (n m : Nat) :
    (s.valveSetActive n 0).valveActive m = if m = n then 0 else s.valveActive m := by
  by_cases h : m = n
  · subst h
    rw [if_pos rfl]
    exact State.rd_wr_same _ _ _ _ (by decide)
  · rw [if_neg h]
    exact State.rd_wr_other _ _ _ _ _ _ (mt VDR_STAT_inj.1 h)

theorem State.valve_valveSetActive (s : State) (n m : Nat) : (s.valveSetActive n 0).valve m = s.valve m :=
  State.valve_wr ..

theorem State.valve_valveOff_other (s : State) {n m : Nat} (h : m ≠ n) : (s.valveOff n).valve m = s.valve m := by
  rw [State.valveOff, State.valve_setValve, if_neg h]

theorem State.valveActive_valveOff (s : State) (n m : Nat) : (s.valveOff n).valveActive m = s.valveActive m :=
  State.valveActive_setValve ..

/-- The end of a deferral touches the valve's own record and its pair's register. -/
theorem State.deferEnd_other (s : State) {n m : Nat} (hn : n < 48) (h : m ≠ n) :
    (s.deferEnd n).valve m = s.valve m ∧ (s.deferEnd n).valveActive m = s.valveActive m := by
  unfold State.deferEnd
  split
  · exact ⟨rfl, rfl⟩
  · have hreg : VDR_STAT m ≠ VDR_PAIRSTAT (n / 2) := by simp only [VDR_STAT, VDR_PAIRSTAT]; omega
    rw [State.valve_setValve, if_neg h, State.valveActive_setValve]
    exact ⟨State.valve_wr .., State.rd_wr_other _ _ _ _ _ _ hreg⟩

theorem State.valveKill_killed (s : State) (n : Nat) : (s.valveKill n).ValveKilled n := by
  unfold State.valveKill State.ValveKilled
  simp only [State.valve_setValve, State.valveActive_setValve, State.valveActive_valveSetActive, if_true, and_self]

theorem State.valveKill_other (s : State) {n m : Nat} (hn : n < 48) (h : m ≠ n) :
    (s.valveKill n).valve m = s.valve m ∧ (s.valveKill n).valveActive m = s.valveActive m := by
  obtain ⟨hvalve, hactive⟩ := (s.valveOff n).deferEnd_other hn h
  unfold State.valveKill
  rw [State.valve_setValve, State.valveActive_setValve, State.valveActive_valveSetActive, if_neg h, if_neg h,
    State.valve_valveSetActive]
  exact ⟨hvalve.trans (State.valve_valveOff_other _ h), hactive.trans (State.valveActive_valveOff ..)⟩

theorem State.valveKill_keeps_killed {s : State} {n m : Nat} (hn : n < 48) (h : s.ValveKilled m) :
    (s.valveKill n).ValveKilled m := by
  by_cases hm : m = n
  · exact hm ▸ State.valveKill_killed ..
  · obtain ⟨hvalve, hactive⟩ := s.valveKill_other hn hm
    rwa [State.ValveKilled, hvalve, hactive]

/-! ### Load switches (R227) -/

/-- A load switch off for good: shadow and active mode off, and nothing waiting for a hand-over. -/
def State.SwitchKilled (s : State) (n : Nat) : Prop :=
  (s.switch n).on = false ∧ (s.switch n).shMode = 0 ∧ (s.switch n).actMode = 0 ∧ (s.switch n).wrote = false

theorem State.switch_setSwitch (s : State) (n m : Nat) (w : Switch) : (s.setSwitch n w).switch m =
    if m = n then w.settled n (s.derate (nodeSwitch n)) s.cyc else s.switch m := cellGet_set ..

theorem State.on_switchOff (s : State) (n : Nat) : ((s.switchOff n).switch n).on = false := by
  rw [State.switchOff, State.switch_setSwitch, if_pos rfl]; rfl

theorem State.switchKill_killed (s : State) (n : Nat) : (s.switchKill n).SwitchKilled n := by
  unfold State.switchKill State.SwitchKilled
  rw [State.switch_setSwitch, if_pos rfl]
  exact ⟨s.on_switchOff n, rfl, rfl, rfl⟩

theorem State.switchKill_keeps_killed {s : State} {n m : Nat} (h : s.SwitchKilled m) :
    (s.switchKill n).SwitchKilled m := by
  by_cases hm : m = n
  · exact hm ▸ State.switchKill_killed ..
  · have hswitch : (s.switchKill n).switch m = s.switch m := by
      simp only [State.switchKill, State.switchOff, State.switch_setSwitch, if_neg hm]
    rwa [State.SwitchKilled, hswitch]

/-- Putting back a switch's record writes registers of LSW alone. -/
theorem State.valveActive_setSwitch (s : State) (n : Nat) (w : Switch) {m : Nat} (hm : m < 48) :
    (s.setSwitch n w).valveActive m = s.valveActive m := by
  have hstat : VDR_STAT m ≠ LSW_STAT n := by simp only [VDR_STAT, LSW_STAT]; omega
  have hmeas : VDR_STAT m ≠ LSW_MEAS n := by simp only [VDR_STAT, LSW_MEAS]; omega
  unfold State.setSwitch State.valveActive
  rw [State.rd_wr_other _ _ _ _ _ _ hstat, State.rd_wr_other _ _ _ _ _ _ hmeas, State.rd_wr_other _ _ _ _ _ _ hstat]
  rfl

theorem State.setSwitch_valves (s : State) (n : Nat) (w : Switch) : (s.setSwitch n w).valves = s.valves := by
  simp only [State.setSwitch, State.wr_valves]

theorem State.switchKill_valves (s : State) (n : Nat) : (s.switchKill n).valves = s.valves := by
  simp only [State.switchKill, State.switchOff, State.setSwitch_valves]

theorem State.switchKill_keeps_valveKilled {s : State} (n : Nat) {m : Nat} (hm : m < 48) (h : s.ValveKilled m) :
    (s.switchKill n).ValveKilled m := by
  have hactive : (s.switchKill n).valveActive m = s.valveActive m := by
    simp only [State.switchKill, State.switchOff, State.valveActive_setSwitch _ _ _ hm]
  have hvalve : (s.switchKill n).valve m = s.valve m := by simp only [State.valve, State.switchKill_valves]
  rwa [State.ValveKilled, hvalve, hactive]

/-! ### All of them (R59) -/

theorem State.killAll_valves (s : State) {m : Nat} (hm : m < 48) : s.killAll.ValveKilled m := by
  have hvalves : ((List.range 48).foldl State.valveKill s).ValveKilled m :=
    foldl_establishes (P := State.ValveKilled) (fun s n _ => s.valveKill_killed n)
      (fun _ n hn _ _ => State.valveKill_keeps_killed (List.mem_range.1 hn)) s m (List.mem_range.2 hm)
  unfold State.killAll
  exact List.foldlRecOn (motive := fun x : State => x.ValveKilled m) _ _ hvalves
    fun _ h n _ => State.switchKill_keeps_valveKilled n hm h

theorem State.killAll_switches (s : State) {m : Nat} (hm : m < 64) : s.killAll.SwitchKilled m := by
  unfold State.killAll
  exact foldl_establishes (P := State.SwitchKilled) (fun s n _ => s.switchKill_killed n)
      (fun _ _ _ _ _ => State.switchKill_keeps_killed) _ m (List.mem_range.2 hm)

/-- Settles O49: each channel's own step takes it off, and no other channel's step puts it on again. -/
theorem powerFailTurnsEveryOutputOff : Obligations.PowerFailTurnsEveryOutputOff := by
  unfold Obligations.PowerFailTurnsEveryOutputOff
  intro s
  refine ⟨fun n hn => ?_, fun n hn => s.killAll_switches hn⟩
  obtain ⟨hshadow, hwrote, -⟩ := s.killAll_valves hn
  exact ⟨hshadow, hwrote, State.valveOn_of_killed (s.killAll_valves hn)⟩

end Sys2Proof.Machine

/-! PROOFS. Power-good and stages 2 to 8 of the start (spec/03, R56, R68 to R76, R460, R463, R464). -/

namespace Sys2Proof.Machine

/-! ### Registers outside a list, fields of one bit -/

theorem State.memRd_wr (s : State) (off : Nat) (f : Fld) (v a : Nat) : (s.wr off f v).memRd a = s.memRd a := by
  simp only [State.memRd, State.wr_mem]

/-- A further write of a field of a listed register changes nothing else. -/
theorem State.SameBut.wr {s x : State} {offs : List Nat} (h : s.SameBut x offs) {off : Nat} (ho : off ∈ offs) (f : Fld)
    (v : Nat) : s.SameBut (x.wr off f v) offs :=
  ⟨fun o hn => (State.reg_wr_other _ _ _ _ _ (ne_of_mem_of_not_mem ho hn).symm).trans (h.1 o hn),
    fun a => (x.memRd_wr off f v a).trans (h.2 a)⟩

theorem State.SameBut.setReg {s x : State} {offs : List Nat} (h : s.SameBut x offs) {off : Nat} (ho : off ∈ offs)
    (w : Word) : s.SameBut (x.setReg off w) offs :=
  ⟨fun o hn => (State.reg_setReg_other _ _ _ _ (ne_of_mem_of_not_mem ho hn).symm).trans (h.1 o hn), h.2⟩

/-- A write after updates of other parts of the state changes its register alone. -/
theorem State.sameBut_wr_of_eq {s x : State} (hr : x.regs = s.regs) (hm : x.mem = s.mem) (off : Nat) (f : Fld)
    (v : Nat) : s.SameBut (x.wr off f v) [off] := (State.SameBut.of_eq hr hm _).wr (List.mem_singleton_self _) f v

/-- A field of one bit shows the Boolean written to it. -/
theorem State.bit_wr_same (s : State) (off : Nat) (f : Fld) (b : Bool) (hw : f.wd = 1) (h : f.lo + f.wd ≤ 32) :
    (s.wr off f (b2n b)).bit off f = b := by
  rw [State.bit, State.rd_wr_same _ _ _ _ h, hw]
  cases b <;> rfl

theorem State.bit_wr_other (s : State) (off b : Nat) (f g : Fld) (v : Nat) (h : b ≠ off) :
    (s.wr off f v).bit b g = s.bit b g := by rw [State.bit, State.bit, State.rd_wr_other _ _ _ _ _ _ h]

/-! ### Power-good -/

/-- What a start shows of itself is in `u` as in `s`: the rails, the stages passed, the time of power-good, SYS_START
and SYS_PERSONALITY. -/
structure State.SameStart (s u : State) : Prop where
  on : u.pow.on = s.pow.on
  passed : u.pow.passed = s.pow.passed
  t0 : u.pow.t0 = s.pow.t0
  start : u.reg SYS_START = s.reg SYS_START
  personality : u.reg SYS_PERSONALITY = s.reg SYS_PERSONALITY

theorem State.SameStart.refl (s : State) : s.SameStart s := ⟨rfl, rfl, rfl, rfl, rfl⟩

theorem State.SameStart.trans {s t u : State} (h : s.SameStart t) (k : t.SameStart u) : s.SameStart u where
  on := k.on.trans h.on
  passed := k.passed.trans h.passed
  t0 := k.t0.trans h.t0
  start := k.start.trans h.start
  personality := k.personality.trans h.personality

theorem State.SameStart.ite {s a b : State} {c : Prop} [Decidable c] (h : s.SameStart a) (k : s.SameStart b) :
    s.SameStart (if c then a else b) := by split <;> assumption

/-- Recording touches none of it. -/
theorem Quiet.sameStart {s u : State} (h : Quiet s u) : s.SameStart u where
  on := by rw [h.pow]
  passed := by rw [h.pow]
  t0 := by rw [h.pow]
  start := h.regs _ (by decide)
  personality := h.regs _ (by decide)

theorem State.wr_sameStart (s : State) {off : Nat} (f : Fld) (v : Nat) (h : SYS_START ≠ off)
    (k : SYS_PERSONALITY ≠ off) : s.SameStart (s.wr off f v) :=
  ⟨rfl, rfl, rfl, State.reg_wr_other _ _ _ _ _ h, State.reg_wr_other _ _ _ _ _ k⟩

theorem State.slotSync_sameStart (s : State) : s.SameStart s.slotSync := by
  have hslot (x : State) (f : Fld) (v : Nat) : x.SameStart (x.wr UPD_SLOT f v) :=
    x.wr_sameStart f v (by decide) (by decide)
  exact (((hslot ..).trans (hslot ..)).trans (hslot ..)).trans (hslot ..)

theorem State.setBoot_sameStart (s : State) (b : Boot) : s.SameStart (s.setBoot b) := by
  have hrecord : s.SameStart { s with kept := { s.kept with boot := b } } := ⟨rfl, rfl, rfl, rfl, rfl⟩
  exact hrecord.trans (State.slotSync_sameStart _)

theorem State.trialStart_sameStart (s : State) : s.SameStart s.trialStart := by
  unfold State.trialStart
  refine .ite ?_ (.ite (s.setBoot_sameStart _) s.slotSync_sameStart)
  exact ((s.setBoot_sameStart _).trans (State.wr_sameStart _ _ _ (by decide) (by decide))).trans
    (State.note_quiet ..).sameStart

theorem State.enterAxo_sameStart (s : State) (why : Nat) : s.SameStart (s.enterAxo why) where
  on := rfl
  passed := rfl
  t0 := rfl
  start := by
    rw [State.enterAxo, State.reg_setReg_other _ _ _ _ (by decide), State.reg_wr_other _ _ _ _ _ (by decide)]; rfl
  personality := by
    rw [State.enterAxo, State.reg_setReg_other _ _ _ _ (by decide), State.reg_wr_other _ _ _ _ _ (by decide)]; rfl

/-- The rails up with stage 1 passed and the time set, and the start's cause and the strap shown. -/
def State.powerShown (s : State) (c : Nat) (strapLow : Bool) : State :=
  let p := { s.pow with
    on := true, t0 := s.cyc, passed := [1], wait := .powerOn
    noLinkAt := if s.pow.perst then none else some (s.cyc + sec 1) }
  (((((s.setPow p).setThm Thm.init).timeStart).wr SYS_START SYS_START_cause c).wr THM_SUPPLY THM_SUPPLY_strap_low
    (b2n strapLow)).wr SYS_PERSONALITY SYS_PERSONALITY_strap_low (b2n strapLow)

theorem State.powerShown_pow (s : State) (c : Nat) (low : Bool) : (s.powerShown c low).pow.on = true ∧
    (s.powerShown c low).pow.passed = [1] ∧ (s.powerShown c low).pow.t0 = s.cyc := ⟨rfl, rfl, rfl⟩

theorem State.rd_powerShown_cause (s : State) (c : Nat) (low : Bool) :
    (s.powerShown c low).rd SYS_START SYS_START_cause = c % 16 := by
  rw [State.powerShown, State.rd_wr_other _ _ _ _ _ _ (by decide), State.rd_wr_other _ _ _ _ _ _ (by decide)]
  exact State.rd_wr_same _ _ _ _ (by decide)

theorem State.bit_powerShown_strap (s : State) (c : Nat) (low : Bool) :
    (s.powerShown c low).bit SYS_PERSONALITY SYS_PERSONALITY_strap_low = low :=
  State.bit_wr_same _ _ _ _ rfl (by decide)

/-- Power-good brings the rails up; what follows in its cycle (the strap's note, the boot record, axolotl) leaves
what the start shows of itself. -/
theorem execPowerGood_of_cause {t c : Nat} (strap : Fin 3) {s : State} (hon : s.pow.on = false)
    (hwake : s.pow.wake = true) (hcause : s.pow.cause (s.at t).cyc = some c) :
    ∃ u, execPowerGood t strap s = .next u ∧ ((s.at t).powerShown c (strap == 0)).SameStart u := by
  have hcause' : (s.at t).pow.cause (s.at t).cyc = some c := hcause
  have hgo : ¬ ((s.at t).pow.on || !(s.at t).pow.wake) = true := by simp [hon, hwake]
  simp only [execPowerGood, hcause', if_neg hgo]
  refine ⟨_, rfl, ?_⟩
  have hstrap := State.SameStart.ite (c := strap = 1)
    (State.note_quiet ((s.at t).powerShown c (strap == 0)) 0x0010 0).sameStart (.refl _)
  have htrial := hstrap.trans (State.trialStart_sameStart _)
  exact .ite (htrial.trans (State.enterAxo_sameStart ..)) (.ite (htrial.trans (State.enterAxo_sameStart ..)) htrial)

/-! ### The boot-fail counter (R464) -/

theorem execBootFailTimer_of_due {t : Nat} {s : State} (hon : s.pow.on = true) (h11 : s.passed 11 = false)
    (hcounted : s.pow.bfailCounted = false) (hdue : s.pow.t0 + sec 1 ≤ (s.at t).cyc) :
    execBootFailTimer t s = .next (((s.at t).setPow { s.pow with bfailCounted := true }).wr UPD_SLOT UPD_SLOT_bfail
      (min 3 (s.rd UPD_SLOT UPD_SLOT_bfail + 1))) := by
  have hdue' : ¬ (s.at t).cyc < s.pow.t0 + sec 1 := not_lt.2 hdue
  simp only [execBootFailTimer, State.at_pow, State.passed_at, hon, h11, hcounted, hdue', Bool.not_true,
    decide_false, Bool.or_false, Bool.false_eq_true, if_false, State.rd_at]

/-! ### The stages -/

@[simp] theorem State.pass_passed (s : State) (k : Nat) : (s.pass k).pow.passed = k :: s.pow.passed := (rfl)

theorem execOutputsSafeHold_of_may {t : Nat} {s : State} (h : s.mayStage 2 = true) :
    execOutputsSafeHold t s = .next (((s.at t).pass 2).started SYS_START_safe_hold) := by simp [execOutputsSafeHold, h]

theorem execFirstHousekeepingEnd_of_may {t : Nat} {x : Round} {s : State} (h : s.mayStage 3 = true) :
    execFirstHousekeepingEnd t x s = .next (((s.at t).round x).pass 3) := by simp [execFirstHousekeepingEnd, h]

theorem execDramTrained_of_may {t : Nat} {s : State} (h : s.mayStage 4 = true) :
    execDramTrained t s = .next ((s.at t).pass 4) := by simp [execDramTrained, h]

theorem execTriadRelease_of_may {t : Nat} {s : State} (h : s.mayStage 6 = true) :
    execTriadRelease t s =
      .next (((s.at t).pass 6).wr TRI_STAT TRI_STAT_live (7 - s.rd FLT_FENCE FLT_FENCE_fenced % 8)) := by
  simp [execTriadRelease, h]

theorem execCanCroakAlive_of_may {t : Nat} {s : State} (h : s.mayStage 7 = true) : execCanCroakAlive t s
    = .next (((List.range 8).foldl State.canStart (((s.at t).pass 7).started SYS_START_croak_alive)).croakStart) := by
  simp [execCanCroakAlive, h]

theorem execPcieConfigReady_of_may {t : Nat} {s : State} (h : s.mayStage 8 = true) :
    execPcieConfigReady t s = .next (((s.at t).pass 8).started SYS_START_pcie_ready) := by simp [execPcieConfigReady, h]

/-- A bit of SYS_START reads 1 once its stage has shown it. -/
theorem State.rd_started (s : State) (f : Fld) (hw : f.wd = 1) (h : f.lo + f.wd ≤ 32) :
    (s.started f).rd SYS_START f = 1 := by
  rw [State.started, State.rd_wr_same _ _ _ _ h, hw]; rfl

/-! ### Stage 5: the booted slot and the personality (R74, R75, R460) -/

/-- A good image in the slot that the boot record names is booted. -/
theorem execTriadImageVerified_of_good {t : Nat} {okA okB : Bool} {s : State} (h : s.mayStage 5 = true)
    (hgood : s.imageGood s.kept.boot.next 1 0 (if s.kept.boot.next = 0 then okA else okB) = true) :
    execTriadImageVerified t okA okB true true s =
      .next ((((s.at t).wr UPD_SLOT UPD_SLOT_act s.kept.boot.next).personality true).pass 5) := by
  simp only [execTriadImageVerified, State.mayStage_at, h, State.at_kept, State.imageGood_at, hgood, Bool.not_true,
    Bool.false_eq_true, if_true, if_false]

/-- SYS_PERSONALITY with the source and the personality of a readable header in it, before any note. -/
def State.personalityShown (s : State) : State :=
  (s.wr SYS_PERSONALITY SYS_PERSONALITY_src s.kept.pers).wr SYS_PERSONALITY SYS_PERSONALITY_k12
    (b2n (s.kept.pers == 2 || (s.kept.pers == 0 && s.bit SYS_PERSONALITY SYS_PERSONALITY_strap_low)))

theorem State.personalityShown_pow (s : State) : s.personalityShown.pow = s.pow := by
  simp only [State.personalityShown, State.wr_pow]

/-- Beyond that, the choice of a personality only takes notes. -/
theorem State.personality_quiet (s : State) : Quiet s.personalityShown (s.personality true) :=
  Quiet.ite (State.note_quiet ..) (Quiet.refl _)

theorem State.rd_personalityShown_src (s : State) :
    s.personalityShown.rd SYS_PERSONALITY SYS_PERSONALITY_src = s.kept.pers % 4 := by
  rw [State.personalityShown, State.rd_wr_field _ _ _ _ _ (by decide) (by decide)]
  exact State.rd_wr_same _ _ _ _ (by decide)

theorem State.isK12_personalityShown (s : State) : s.personalityShown.isK12 =
    (s.kept.pers == 2 || (s.kept.pers == 0 && s.bit SYS_PERSONALITY SYS_PERSONALITY_strap_low)) :=
  State.bit_wr_same _ _ _ _ rfl (by decide)

theorem State.rd_personalityShown_other (s : State) {off : Nat} (f : Fld) (h : off ≠ SYS_PERSONALITY) :
    s.personalityShown.rd off f = s.rd off f := by
  rw [State.personalityShown, State.rd_wr_other _ _ _ _ _ _ h, State.rd_wr_other _ _ _ _ _ _ h]

/-- What stage 5 leaves of a slot and a stored personality. -/
theorem State.bootSlot_spec (s : State) {a : Nat} (ha : a ≤ 1) :
    let u := ((s.wr UPD_SLOT UPD_SLOT_act a).personality true).pass 5
    u.pow.passed = 5 :: s.pow.passed ∧ u.actSlot = a ∧ u.rd SYS_PERSONALITY SYS_PERSONALITY_src = s.kept.pers % 4 ∧
      u.isK12 = (s.kept.pers == 2 || (s.kept.pers == 0 && s.bit SYS_PERSONALITY SYS_PERSONALITY_strap_low)) := by
  have hquiet := (s.wr UPD_SLOT UPD_SLOT_act a).personality_quiet
  have hslot := hquiet.rd UPD_SLOT UPD_SLOT_act (by decide)
  have hsrc := hquiet.rd SYS_PERSONALITY SYS_PERSONALITY_src (by decide)
  have hk12 := hquiet.rd SYS_PERSONALITY SYS_PERSONALITY_k12 (by decide)
  refine ⟨?passed, ?slot, ?src, ?k12⟩
  case passed => rw [State.pass_passed, hquiet.pow, State.personalityShown_pow, State.wr_pow]
  case slot =>
    refine hslot.trans ?_
    rw [State.rd_personalityShown_other _ _ (by decide), State.rd_wr_same _ _ _ _ (by decide)]
    exact Nat.mod_eq_of_lt (Nat.lt_succ_of_le ha)
  case src => exact hsrc.trans (State.rd_personalityShown_src _)
  case k12 =>
    have hstrap : (s.wr UPD_SLOT UPD_SLOT_act a).bit SYS_PERSONALITY SYS_PERSONALITY_strap_low
        = s.bit SYS_PERSONALITY SYS_PERSONALITY_strap_low := State.bit_wr_other _ _ _ _ _ _ (by decide)
    rw [← hstrap]
    exact (congrArg (· != 0) hk12).trans (State.isK12_personalityShown _)

/-- Settles O2: one law for each command, above. -/
theorem startStagesReleaseAndLoad : Obligations.StartStagesReleaseAndLoad := by
  unfold Obligations.StartStagesReleaseAndLoad
  refine ⟨?powerGood, ?bootFail, ?safeHold, ?housekeeping, ?dram, ?image, ?release, ?croak, ?pcie⟩
  case powerGood =>
    intro t c strap s hon hwake hcause
    obtain ⟨u, hu, hsame⟩ := execPowerGood_of_cause strap hon hwake hcause
    obtain ⟨hon', hpassed, ht0⟩ := (s.at t).powerShown_pow c (strap == 0)
    refine ⟨u, hu, hsame.on.trans hon', hsame.passed.trans hpassed, hsame.t0.trans ht0, ?_, ?_⟩
    · rw [State.rd, hsame.start]
      exact State.rd_powerShown_cause ..
    · rw [State.bit, State.rd, hsame.personality]
      exact State.bit_powerShown_strap ..
  case bootFail =>
    intro t s hon h11 hcounted hdue
    refine ⟨_, execBootFailTimer_of_due hon h11 hcounted hdue, ?_, State.sameBut_wr_of_eq rfl rfl ..⟩
    rw [State.rd_wr_same _ _ _ _ (by decide)]
    exact Nat.mod_eq_of_lt ((min_le_left _ _).trans_lt (by decide))
  case safeHold =>
    exact fun t s h => ⟨_, execOutputsSafeHold_of_may h, rfl, State.rd_started _ _ rfl (by decide),
      State.sameBut_wr_of_eq rfl rfl ..⟩
  case housekeeping => exact fun t x s h => execFirstHousekeepingEnd_of_may h
  case dram => exact fun t s h => ⟨_, execDramTrained_of_may h, rfl, .of_eq rfl rfl _⟩
  case image =>
    intro t okA okB s h ha hgood
    exact ⟨_, execTriadImageVerified_of_good h hgood, (s.at t).bootSlot_spec ha⟩
  case release =>
    intro t s h
    refine ⟨_, execTriadRelease_of_may h, rfl, ?_, State.sameBut_wr_of_eq rfl rfl ..⟩
    rw [State.rd_wr_same _ _ _ _ (by decide)]
    exact Nat.mod_eq_of_lt ((Nat.sub_le _ _).trans_lt (by decide))
  case croak => exact fun t s h => execCanCroakAlive_of_may h
  case pcie =>
    exact fun t s h => ⟨_, execPcieConfigReady_of_may h, rfl, State.rd_started _ _ rfl (by decide),
      State.sameBut_wr_of_eq rfl rfl ..⟩

end Sys2Proof.Machine

/-! PROOFS. Feeds, sensor supplies, hold-up, thermal shutdown and the host link (spec/02, spec/03, spec/19). -/

namespace Sys2Proof.Machine

/-! ### Feeds (R45, R46) -/

theorem execFeedOutOfRange_of_in {t : Nat} {n : Fin 6} {s : State} (under : Bool) (hon : s.pow.on = true)
    (hin : (s.feed n).out = false) : execFeedOutOfRange t n under s =
      .next ((((s.at t).setFeed n { s.feed n with out := true, under := under, backAt := none }).feedDown n).raise2
        (0x1208 + n) 0) := by
  simp [execFeedOutOfRange, hon, hin]

theorem execFeedBackInRange_of_out {t : Nat} {n : Fin 6} {s : State} (hon : s.pow.on = true)
    (hout : (s.feed n).out = true) : execFeedBackInRange t n s =
      .next (((s.at t).setFeed n { s.feed n with out := false, backAt := some (max s.cyc t) }).clear2
        (0x1208 + n)) := by
  simp [execFeedBackInRange, hon, hout]

/-- A feed that has been back in range for 1 ms restarts its channels, unless the logic feed is over its limit. -/
theorem execFeedRestartDelayEnd_of_over {t c : Nat} {n : Fin 6} {s : State} (hback : (s.feed n).backAt = some c)
    (hdue : c + ms 1 ≤ max s.cyc t) (hlf : s.pow.lfOver = false) : execFeedRestartDelayEnd t n s =
      .next (((s.at t).setFeed n { s.feed n with backAt := none }).feedUp n) := by
  simp [execFeedRestartDelayEnd, hback, not_lt.2 hdue, hlf]

theorem execFeedOvervoltExcursion_of_not_over {t : Nat} {n : Fin 6} {s : State} (hon : s.pow.on = true)
    (hover : ((s.feed n).out && !(s.feed n).under) = false) :
    execFeedOvervoltExcursion t n s = .next ((s.at t).note (0x1228 + n) 0) := by
  simp [execFeedOvervoltExcursion, hon, hover]

theorem execLogicFeedOvervoltage_of_on {t : Nat} {s : State} (hon : s.pow.on = true) (hlf : s.pow.lfOver = false) :
    execLogicFeedOvervoltage t s = .next
      (((List.range 6).foldl State.feedDown ((s.at t).setPow { s.pow with lfOver := true })).raise2 0x120E 0) := by
  simp only [execLogicFeedOvervoltage, State.at_pow, hon, hlf, Bool.not_true, Bool.or_false, Bool.false_eq_true,
    if_false]

/-- The feeds in range for 1 ms or longer restart when the logic feed has recovered. -/
theorem execLogicFeedOvRecover_of_over {t : Nat} {s : State} (hlf : s.pow.lfOver = true) :
    execLogicFeedOvRecover t s = .next
      ((((List.range 6).filter fun n => !(s.feed n).out && (s.feed n).backAt.isNone).foldl State.feedUp
        ((s.at t).setPow { s.pow with lfOver := false })).clear2 0x120E) := by
  simp only [execLogicFeedOvRecover, State.at_pow, State.feed_at, hlf, Bool.not_true, Bool.false_eq_true, if_false]

/-! ### Sensor supplies (R51) -/

/-- A supply that is enabled and not off goes off for 1 s. -/
theorem execSupplyOverload_of_on {t : Nat} {n : Fin 8} {s x : State} (hon : s.pow.on = true) (haxo : s.pow.axo = false)
    (hhold : s.pow.holdUp = none) (hen : s.rd SNS_SUP SNS_SUP_en / 2 ^ n.val % 2 = 1)
    (hoff : s.rd SNS_SUP SNS_SUP_off / 2 ^ n.val % 2 = 0)
    (hx : x = ((s.at t).supBit SNS_SUP_off n true).supBit SNS_SUP_ovl_seen n true) : execSupplyOverload t n s =
      .next ((x.setPow { x.pow with supRetry := cellSet (fun _ => 0) x.pow.supRetry n (max s.cyc t + sec 1) }).raise2
        (0x0780 + n) 0) := by
  subst hx
  simp [execSupplyOverload, hon, haxo, hhold, hen, hoff]

theorem execSupplyRetry_of_due {t : Nat} {n : Fin 8} {s : State} (hset : cellGet (fun _ => 0) s.pow.supRetry n ≠ 0)
    (hdue : cellGet (fun _ => 0) s.pow.supRetry n ≤ max s.cyc t) : execSupplyRetry t n s =
      .next ((((s.at t).setPow { s.pow with supRetry := cellSet (fun _ => 0) s.pow.supRetry n 0 }).supBit SNS_SUP_off n
        false).clear2 (0x0780 + n)) := by
  simp [execSupplyRetry, hset, not_lt.2 hdue]

/-! ### Housekeeping and the hold-up (R59, R60, R62) -/

theorem execHousekeepingRound_of_due {t : Nat} {x : Round} {s : State} (h3 : s.passed 3 = true)
    (hdue : s.thm.roundAt + ms 10 ≤ max s.cyc t) : execHousekeepingRound t x s = .next ((s.at t).round x) := by
  simp only [execHousekeepingRound, State.passed_at, State.at_thm, State.at_cyc, h3, hdue, decide_true, Bool.and_self,
    if_true]

theorem execPowerFailWarning_of_on {t draw : Nat} {low : Bool} {s : State} (hon : s.pow.on = true)
    (hhold : s.pow.holdUp = none) : execPowerFailWarning t draw low s =
      .next (({ s.at t with kept := { s.kept with secs := none } }).powerFail draw low) := by
  simp [execPowerFailWarning, hon, hhold]

/-- With the rails off every register but the two that count across starts has its reset value. -/
theorem State.reg_railsOff (s : State) (w : StartWait) {off : Nat} (h : off ∉ [THM_CNT, UPD_SLOT]) :
    (s.railsOff w).reg off = regReset off := by
  simp only [List.mem_cons, List.not_mem_nil, or_false, not_or] at h
  obtain ⟨hcnt, hslot⟩ := h
  rw [State.railsOff, State.reg_wr_other _ _ _ _ _ hslot, State.reg_wr_other _ _ _ _ _ hcnt,
    State.reg_wr_other _ _ _ _ _ hcnt]
  rfl

/-- The hold-up ends with the rails off. -/
theorem execInternalPowerCycle_of_holdUp {t stored c : Nat} {lf : Bool} {s : State} (h : s.pow.holdUp = some c) :
    ∃ (x : State) (w : StartWait), execInternalPowerCycle t lf stored s = .next (x.railsOff w) := by
  simp only [execInternalPowerCycle, State.at_pow, h, Option.isNone_some, Bool.false_eq_true, if_false]
  exact ⟨_, _, rfl⟩

/-! ### Thermal shutdown (R453, R454) -/

/-- The comparator acts where its thermistor has reached the threshold: the shutdown counts, and a hold-up begins. -/
theorem execHwThermalShutdown_of_hot {t : Nat} {x : HwReading} {low : Bool} {s : State} (hon : s.pow.on = true)
    (hshut : s.pow.hwShut = false) (hen : s.hwEnabled = true) (hhold : s.pow.holdUp = none)
    (hhot : s.hwThreshold ≤ x.temp) : execHwThermalShutdown t x low s = .next
      ((((s.at t).setPow { s.pow with hwShut := true }).bump THM_CNT THM_CNT_hw_cnt).powerFail x.draw low) := by
  simp [execHwThermalShutdown, hon, hshut, hen, hhold, not_lt.2 hhot]

theorem execHwThermalShutdown_of_cool {t : Nat} {x : HwReading} {low : Bool} {s : State}
    (hcool : x.temp < s.hwThreshold) : execHwThermalShutdown t x low s = .next (s.at t) := by
  simp [execHwThermalShutdown, hcool]

section
variable {t : Nat} {temp : Int} {s : State} (hoff : s.pow.on = false) (hwait : s.pow.wait = .cooling)
  (hdue : s.thm.coolAt + sec 1 ≤ max s.cyc t)
include hoff hwait hdue

theorem execCoolingCheck_of_cooled (h : temp < 16 * (THM_SHUT_t_rst.get s.thm.shut : Nat)) :
    execCoolingCheck t temp s =
      .next ((s.at t).setPow { s.pow with wait := if s.pow.wake then .cooled else .powerOn }) := by
  simp [execCoolingCheck, hoff, hwait, not_lt.2 hdue, h]

theorem execCoolingCheck_of_warm (h : ¬ temp < 16 * (THM_SHUT_t_rst.get s.thm.shut : Nat)) :
    execCoolingCheck t temp s = .next ((s.at t).setThm { s.thm with coolAt := max s.cyc t }) := by
  simp [execCoolingCheck, hoff, hwait, not_lt.2 hdue, h]

end

/-- What the always-on domain keeps, lost: the seconds count, every wait, and both counters. -/
def State.alwaysOnLost (s : State) : State :=
  ((({ s with kept := { s.kept with secs := none } }).setPow { s.pow with wait := .powerOn }).setReg THM_CNT 0#32).wr
    UPD_SLOT UPD_SLOT_bfail 0

theorem execLogicFeedLossWhileOff_of_off {t : Nat} {s : State} (hoff : s.pow.on = false) :
    execLogicFeedLossWhileOff t s = .next (s.at t).alwaysOnLost := by
  simp [execLogicFeedLossWhileOff, hoff, State.alwaysOnLost]

theorem State.alwaysOnLost_sameBut (s : State) : s.SameBut s.alwaysOnLost [THM_CNT, UPD_SLOT] :=
  ((State.SameBut.of_eq rfl rfl _).setReg (by decide) _).wr (by decide) _ _

theorem State.reg_alwaysOnLost_cnt (s : State) : s.alwaysOnLost.reg THM_CNT = 0#32 := by
  rw [State.alwaysOnLost, State.reg_wr_other _ _ _ _ _ (by decide), State.reg_setReg_same]

theorem State.rd_alwaysOnLost_bfail (s : State) : s.alwaysOnLost.rd UPD_SLOT UPD_SLOT_bfail = 0 :=
  State.rd_wr_same _ _ _ _ (by decide)

/-! ### The PCIe link (R81, R82, R107, R382) -/

theorem execPcieLinkTrained_of_down {t : Nat} {gen : Fin 4} {width : Fin 3} {s : State} (h8 : s.passed 8 = true)
    (hperst : s.pow.perst = false) (hdown : s.pow.linkUp = false) : execPcieLinkTrained t gen width s =
      .next ((((s.at t).setPow { s.pow with linkUp := true, noLinkAt := none }).wr SYS_LINK SYS_LINK_pcie_gen
        (gen + 1)).wr SYS_LINK SYS_LINK_pcie_width (2 ^ width.val)) := by
  simp [execPcieLinkTrained, h8, hperst, hdown]

theorem execPcieNoLinkTimeout_of_due {t c : Nat} {s : State} (hat : s.pow.noLinkAt = some c) (hdue : c ≤ max s.cyc t) :
    execPcieNoLinkTimeout t s = .next (((s.at t).setPow { s.pow with noLinkAt := none }).note 0x0020 0) := by
  simp [execPcieNoLinkTimeout, hat, not_lt.2 hdue]

theorem execPerstAssert_of_on {t : Nat} {s : State} (hon : s.pow.on = true) : execPerstAssert t s =
    .next (((s.at t).setPow { s.pow with perst := true, noLinkAt := none }).hostLost) := by
  simp [execPerstAssert, hon]

theorem execPerstDeassert_of_perst {t : Nat} {s : State} (hperst : s.pow.perst = true) : execPerstDeassert t s =
    .next ((s.at t).setPow { s.pow with
      perst := false, noLinkAt := if s.pow.on then some (max s.cyc t + sec 1) else none }) := by
  simp [execPerstDeassert, hperst]

theorem execFunctionLevelReset_of_up {t : Nat} {s : State} (hup : s.pow.linkUp = true) :
    execFunctionLevelReset t s = .next (s.at t).hostLost := by simp [execFunctionLevelReset, hup]

theorem execHostLinkLoss_of_up {t : Nat} {s : State} (hup : s.pow.linkUp = true) :
    execHostLinkLoss t s = .next (s.at t).hostLost := by simp [execHostLinkLoss, hup]

/-! ### Links of the Ethernet ports (R81) -/

/-- Frames that leave a port change no register and no byte of memory. -/
theorem State.portSend_tables (s : State) (k n : Nat) :
    (s.portSend k n).regs = s.regs ∧ (s.portSend k n).mem = s.mem := by
  induction n generalizing s with
  | zero => exact ⟨rfl, rfl⟩
  | succ n ih =>
    unfold State.portSend
    dsimp only
    split
    · exact ⟨rfl, rfl⟩
    · split
      · exact ⟨rfl, rfl⟩
      · exact ih _

theorem State.portCatch_tables (s : State) (k : Nat) :
    (s.portCatch k).regs = s.regs ∧ (s.portCatch k).mem = s.mem := by
  unfold State.portCatch
  split
  · exact ⟨rfl, rfl⟩
  · exact s.portSend_tables k _

theorem State.portCatch_sameBut (s : State) (k : Nat) (offs : List Nat) : s.SameBut (s.portCatch k) offs := by
  obtain ⟨hregs, hmem⟩ := s.portCatch_tables k
  exact .of_eq hregs hmem offs

theorem State.rd_portCatch (s : State) (k off : Nat) (f : Fld) : (s.portCatch k).rd off f = s.rd off f := by
  rw [State.rd, State.rd, State.reg, State.reg, (s.portCatch_tables k).1]

/-- Bit `k` of a field of `n` bits, after `b` has been put there. -/
theorem bit_of_bitPut (x : Nat) {k n b : Nat} (hk : k < n) (hb : b < 2) :
    (x / 2 ^ (k + 1) * 2 ^ (k + 1) + b * 2 ^ k + x % 2 ^ k) % 2 ^ n / 2 ^ k % 2 = b := by
  obtain ⟨m, rfl⟩ := Nat.exists_eq_add_of_lt hk
  have hshape : x / 2 ^ (k + 1) * 2 ^ (k + 1) + b * 2 ^ k + x % 2 ^ k
      = x % 2 ^ k + 2 ^ k * (2 * (x / 2 ^ (k + 1)) + b) := by ring
  rw [hshape, Nat.add_assoc k m 1, Nat.pow_add 2 k (m + 1), Nat.mod_mul_right_div_self,
    Nat.mod_mod_of_dvd _ (dvd_pow_self 2 m.succ_ne_zero), Nat.add_mul_div_left _ _ (Nat.two_pow_pos k),
    Nat.div_eq_of_lt (Nat.mod_lt _ (Nat.two_pow_pos k))]
  omega

theorem NET_PSTAT_ne_SYS_LINK (k : Nat) : NET_PSTAT k ≠ SYS_LINK := by simp only [NET_PSTAT, SYS_LINK]; omega

theorem b2n_lt_two (b : Bool) : b2n b < 2 := by cases b <;> decide

theorem State.netLink_sameBut (s : State) (k : Nat) (up : Bool) :
    s.SameBut (s.netLink k up) [NET_PSTAT k, SYS_LINK] :=
  ((State.SameBut.of_eq rfl rfl _).wr (by simp) _ _).wr (by simp) _ _

theorem State.rd_netLink_link (s : State) (k : Nat) (up : Bool) :
    (s.netLink k up).rd (NET_PSTAT k) NET_PSTAT_link = b2n up := by
  rw [State.netLink, State.rd_wr_other _ _ _ _ _ _ (NET_PSTAT_ne_SYS_LINK k), State.rd_wr_same _ _ _ _ (by decide)]
  exact Nat.mod_eq_of_lt (b2n_lt_two up)

theorem State.rd_netLink_ethUp (s : State) {k : Nat} (hk : k < 7) (up : Bool) :
    (s.netLink k up).rd SYS_LINK SYS_LINK_eth_up / 2 ^ k % 2 = b2n up := by
  rw [State.netLink, State.rd_wr_same _ _ _ _ (by decide)]
  exact bit_of_bitPut _ hk (b2n_lt_two up)

theorem execEthLinkChange_of_enabled {t : Nat} {k : Fin 7} {up : Bool} {s : State} (hruns : s.netRuns = true)
    (hen : s.netEn k = true) (hhold : s.pow.holdUp = none) :
    execEthLinkChange t k up s = .next ((((s.at t).portCatch k).netLink k up).portCatch k) := by
  simp [execEthLinkChange, hruns, hen, hhold]

/-- Settles O5: one law for each command, above. -/
theorem supplyAndHostLinkCommands : Obligations.SupplyAndHostLinkCommands := by
  unfold Obligations.SupplyAndHostLinkCommands
  refine ⟨?feedOut, ?feedBack, ?feedRestart, ?feedExcursion, ?logicOver, ?logicRecover, ?overload, ?retry, ?round,
    ?warning, ?cycle, ?hwShut, ?cooling, ?loss, ?trained, ?noLink, ?perst, ?perstOff, ?reset, ?linkLoss, ?eth⟩
  case feedOut => exact fun t n under s hon hin => execFeedOutOfRange_of_in under hon hin
  case feedBack => exact fun t n s hon hout => execFeedBackInRange_of_out hon hout
  case feedRestart => exact fun t c n s hback hdue hlf => execFeedRestartDelayEnd_of_over hback hdue hlf
  case feedExcursion => exact fun t n s hon hover => execFeedOvervoltExcursion_of_not_over hon hover
  case logicOver => exact fun t s hon hlf => execLogicFeedOvervoltage_of_on hon hlf
  case logicRecover => exact fun t s hlf => execLogicFeedOvRecover_of_over hlf
  case overload =>
    exact fun t n s hon haxo hhold hen hoff => ⟨_, rfl, execSupplyOverload_of_on hon haxo hhold hen hoff rfl⟩
  case retry => exact fun t n s hset hdue => execSupplyRetry_of_due hset hdue
  case round => exact fun t x s h3 hdue => execHousekeepingRound_of_due h3 hdue
  case warning => exact fun t draw low s hon hhold => execPowerFailWarning_of_on hon hhold
  case cycle =>
    intro t stored lf s c h
    obtain ⟨x, w, hx⟩ := execInternalPowerCycle_of_holdUp (t := t) (stored := stored) (lf := lf) h
    exact ⟨_, hx, rfl, rfl, fun off ho => State.reg_railsOff x w ho⟩
  case hwShut =>
    exact fun t x low s hon hshut hen hhold => ⟨execHwThermalShutdown_of_hot hon hshut hen hhold,
      execHwThermalShutdown_of_cool⟩
  case cooling =>
    intro t temp s hoff hwait hdue
    split
    next h => exact ⟨_, execCoolingCheck_of_cooled hoff hwait hdue h, .of_eq rfl rfl _, rfl⟩
    next h => exact ⟨_, execCoolingCheck_of_warm hoff hwait hdue h, .of_eq rfl rfl _, hwait, rfl⟩
  case loss =>
    exact fun t s hoff => ⟨_, execLogicFeedLossWhileOff_of_off hoff, rfl, rfl, State.reg_alwaysOnLost_cnt _,
      State.rd_alwaysOnLost_bfail _, (s.at t).alwaysOnLost_sameBut⟩
  case trained =>
    intro t gen width s h8 hperst hdown
    refine ⟨_, execPcieLinkTrained_of_down h8 hperst hdown, rfl, rfl,
      (State.sameBut_wr_of_eq rfl rfl ..).wr (by decide) _ _, ?_, ?_⟩
    · rw [State.rd_wr_field _ _ _ _ _ (by decide) (by decide), State.rd_wr_same _ _ _ _ (by decide)]
      exact Nat.mod_eq_of_lt (show gen.val + 1 < 8 by omega)
    · rw [State.rd_wr_same _ _ _ _ (by decide)]
      exact Nat.mod_eq_of_lt (Nat.pow_lt_pow_right (by decide) width.isLt)
  case noLink => exact fun t c s hat hdue => execPcieNoLinkTimeout_of_due hat hdue
  case perst => exact fun t s hon => execPerstAssert_of_on hon
  case perstOff => exact fun t s hperst => ⟨_, execPerstDeassert_of_perst hperst, rfl, .of_eq rfl rfl _, rfl⟩
  case reset => exact fun t s hup => execFunctionLevelReset_of_up hup
  case linkLoss => exact fun t s hup => execHostLinkLoss_of_up hup
  case eth =>
    intro t k up s hruns hen hhold
    have hsame := (((s.at t).portCatch_sameBut k _).trans (State.netLink_sameBut _ k up)).trans
      (State.portCatch_sameBut _ k _)
    refine ⟨_, execEthLinkChange_of_enabled hruns hen hhold, ?_, ?_, hsame⟩
    · rw [State.rd_portCatch, State.rd_netLink_link]
    · rw [State.rd_portCatch]
      exact State.rd_netLink_ethUp _ k.isLt up

end Sys2Proof.Machine

/-! PROOFS. Stages 9 to 17 of the start (spec/03, R69, R71, R76, R77, R79, R316, R406, R437, R460 to R465). -/

namespace Sys2Proof.Machine

/-! ### The settings of a stage (R77, R79) -/

/-- What follows settings that load goes on from the state they leave. -/
theorem andThen_loadStage {s : State} {k : Nat} (h : s.loads k = true) (f : State → Out) :
    andThen (s.loadStage k) f = f (s.loadedAt k) := by rw [State.loadStage_eq h, andThen]

/-- Stage 9 shows SYS_START and pers_sel, loads its settings, and last the stop delay if the store has one. -/
theorem execSettingsRead_of_loads {t : Nat} {ok image : Bool} {s x y : State} (h : s.mayStage 9 = true)
    (hx : x = if ok || ((s.img 0 9 0).valid && s.imageGood 0 9 0 image) then ((s.at t).useSettings image).storeVersion
      else ((s.at t).useSettings image).storeDefaults)
    (hy : y = ((x.pass 9).started SYS_START_settings_ok).wr SYS_PERSONALITY SYS_PERSONALITY_pers_sel
      (if x.bit SYS_START SYS_START_defaults then 0 else x.kept.pers))
    (hl : y.loads 9 = true) : execSettingsRead t ok image s = .next
      ((cellGet (fun _ => none) (y.loadedAt 9).kept.setRegs SYS_STOP_CFG).elim (y.loadedAt 9)
        (y.loadedAt 9).loadStop) := by
  simp only [execSettingsRead, State.mayStage_at, h, Bool.not_true, Bool.false_eq_true, if_false, State.img_at,
    State.imageGood_at, ← hx, ← hy]
  rw [andThen_loadStage hl]
  generalize cellGet _ _ SYS_STOP_CFG = w
  cases w <;> rfl

/-- Default settings written with no pers_sel of the host's put the stored one, and the one shown, at 0. -/
theorem execDefaultSettingsWritten_of_due {t : Nat} {s : State} (hdue : s.pow.defaultsDue = true)
    (hhost : s.pow.persHost = false) : execDefaultSettingsWritten t true s = .next
      ((({ (s.at t).setPow { s.pow with defaultsDue := false } with kept := { s.kept with pers := 0 } } : State).wr
        SYS_PERSONALITY SYS_PERSONALITY_pers_sel 0).clear2 0x0014) := by
  simp [execDefaultSettingsWritten, hdue, hhost]

/-! ### Stages 10 to 17 (R69, R71) -/

/-- Stage 10 ends with the triad started, over loops that run and, in K12 mode, over the K12 engine's set-up. -/
theorem execClassAImagesLoaded_of_loads {t : Nat} {bad : List (Fin 12)} {s x z w : State} (h : s.mayStage 10 = true)
    (hx : x = ((((s.at t).classA bad).guarSet SYS_GUAR_reload SYS_GUAR_reload_seen false).pass 10).recStart)
    (hl : x.loads 10 = true) (hgood : (x.loadedAt 10).loadedBad = none)
    (hz : z = ((x.loadedAt 10).loadKept x.kept.setRegs).loopsStart) (hw : w = if z.isK12 then z.k12Claim else z) :
    execClassAImagesLoaded t bad s = .next (if w.k12Runs then w.k12Setup else w).triadStart := by
  subst hx hz hw
  simp only [execClassAImagesLoaded, State.mayStage_at, h, Bool.not_true, Bool.false_eq_true, if_false]
  rw [andThen_loadStage hl]
  simp only [hgood]

theorem execAuthorityPossible_of_may {t : Nat} {s x y : State} (h : s.mayStage 11 = true)
    (hx : x = (((s.at t).pass 11).started SYS_START_authority_ok).wr UPD_SLOT UPD_SLOT_bfail 0)
    (hy : y = (if x.kept.boot.trying then x.confirmSlot x.actSlot else x).wr TRI_STAT TRI_STAT_mstate 1) :
    execAuthorityPossible t s = .next ({ y with tri := { y.tri with stillFrom := y.cyc } }).k12Lease := by
  subst hx hy
  simp [execAuthorityPossible, h]

/-- Stage 12: a modem port that is enabled, and does not wait for a retry, tries its link; the ports train, and panel B
starts. -/
theorem execNetworkPanelBStart_of_loads {t : Nat} {present waves copyOk mapOk : Bool} {temp : Option Int}
    {s x v : State} (h : s.mayStage 12 = true) (hx : x = ((s.at t).onceImage 11 waves).pass 12) (hl : x.loads 12 = true)
    (hv : v = x.loadedAt 12) : execNetworkPanelBStart t present temp waves copyOk mapOk s = .next
      ((if v.bit NET_RP_CFG NET_RP_CFG_en ∧ v.net.rpRetry.isNone then v.rpRetry (some v.cyc) else v).netBegin.portBStart
        present temp (s.oncePay 11 waves) copyOk mapOk) := by
  subst hx hv
  simp only [execNetworkPanelBStart, State.mayStage_at, h, Bool.not_true, Bool.false_eq_true, if_false,
    State.oncePay_at]
  exact andThen_loadStage hl _

theorem execGnssFirmwareRunning_of_loads {t : Nat} {s x : State} (h : s.mayStage 13 = true)
    (hgood : s.imageGood s.actSlot 6 0 true = true)
    (hx : x = ((s.at t).pass 13).setGns { s.gns with eph := s.kept.eph, lastPos := s.kept.lastPos })
    (hl : x.loads 13 = true) : execGnssFirmwareRunning t true s = .next (x.loadedAt 13) := by
  subst hx
  simpa [execGnssFirmwareRunning, h, hgood] using State.loadStage_eq hl

theorem execPortAPowerOn_of_loads {t : Nat} {umap : Bool} {s x : State} (h : s.mayStage 14 = true)
    (hx : x = ((s.at t).onceImage 10 umap).pass 14) (hl : x.loads 14 = true) :
    execPortAPowerOn t umap s = .next ((x.loadedAt 14).portAOn (s.oncePay 10 umap)) := by
  subst hx
  simp [execPortAPowerOn, h, andThen_loadStage hl]

theorem execVisionFirmwareRunning_of_loads {t : Nat} {s x : State} (h : s.mayStage 15 = true)
    (hgood : s.imageGood s.actSlot 7 0 true = true) (hx : x = (s.at t).pass 15) (hl : x.loads 15 = true) :
    execVisionFirmwareRunning t true s = .next ((List.range 3).foldl State.linkStart (x.loadedAt 15)) := by
  subst hx
  simp [execVisionFirmwareRunning, h, hgood, andThen_loadStage hl]

theorem execModelsLoaded_of_may {t : Nat} {named bad : List (Fin 8)} {s : State} (h : s.mayStage 16 = true) :
    execModelsLoaded t named bad s = .next
      ((((List.range 8).filter fun i => named.contains (Fin.ofNat 8 i)).foldl
        (fun s i => s.loadModel i (!bad.contains (Fin.ofNat 8 i))) (s.at t)).pass 16) := by
  simp only [execModelsLoaded, State.mayStage_at, h, Bool.not_true, Bool.false_eq_true, if_false]

/-- Stage 17 passed, with native_ready and the time since power-good shown. -/
def State.nativeShown (s : State) : State :=
  ((s.pass 17).started SYS_START_native_ready).wr SYS_START SYS_START_ready_ms
    (min 0xFFFF ((s.cyc - s.pow.t0) / ms 1))

/-- Beyond that, a start that took longer than 2.5 s is noted. -/
theorem execNativeReady_of_may {t : Nat} {s : State} (h : s.mayStage 17 = true) (hmodels : s.pow.modelFail = false) :
    ∃ u, execNativeReady t true s = .next u ∧ Quiet (s.at t).nativeShown u := by
  have hgo : ¬ (!(s.at t).mayStage 17 || !true || (s.at t).pow.modelFail) = true := by simp [h, hmodels]
  simp only [execNativeReady, if_neg hgo]
  exact ⟨_, rfl, Quiet.ite (State.note_quiet ..) (Quiet.refl _)⟩

theorem State.rd_nativeShown_ready (s : State) : s.nativeShown.rd SYS_START SYS_START_native_ready = 1 := by
  rw [State.nativeShown, State.rd_wr_field _ _ _ _ _ (by decide) (by decide), State.rd_started _ _ rfl (by decide)]

theorem State.rd_nativeShown_ms (s : State) :
    s.nativeShown.rd SYS_START SYS_START_ready_ms = min 0xFFFF ((s.cyc - s.pow.t0) / ms 1) := by
  rw [State.nativeShown, State.rd_wr_same _ _ _ _ (by decide)]
  exact Nat.mod_eq_of_lt ((min_le_left _ _).trans_lt (by decide))

/-! ### The personality's store (R76) -/

theorem State.rd_setPow (s : State) (p : Power) (off : Nat) (f : Fld) : (s.setPow p).rd off f = s.rd off f := rfl

/-- A pers_sel that waits goes to the store, and from stage 9 on it is shown. -/
theorem State.persStore_of_waiting {s : State} {v : Nat} (h : s.pow.persWrite = some v) :
    s.persStore.kept.pers = v ∧ s.persStore.pow.persWrite = none ∧
      (s.passed 9 = true → s.persStore.rd SYS_PERSONALITY SYS_PERSONALITY_pers_sel = v % 4) := by
  simp only [State.persStore, h]
  split
  next h9 => exact ⟨rfl, rfl, fun _ => (State.rd_setPow ..).trans (State.rd_wr_same _ _ _ _ (by decide))⟩
  next h9 => exact ⟨rfl, rfl, fun h => absurd h h9⟩

/-- Settles O3: one law for each stage and each store, above. -/
theorem startStagesSettingsToNative : Obligations.StartStagesSettingsToNative := by
  unfold Obligations.StartStagesSettingsToNative
  refine ⟨?settings, ?defaults, ?classA, ?authority, ?network, ?gnss, ?portA, ?vision, ?models, ?native, ?stored⟩
  case settings =>
    intro t ok image s x y h hx hy hl
    refine (execSettingsRead_of_loads h hx hy hl).trans ?_
    cases cellGet (fun _ => none) (y.loadedAt 9).kept.setRegs SYS_STOP_CFG <;> rfl
  case defaults =>
    exact fun t s hdue hhost => ⟨_, execDefaultSettingsWritten_of_due hdue hhost, rfl,
      State.rd_wr_same _ _ _ _ (by decide), rfl, State.sameBut_wr_of_eq rfl rfl ..⟩
  case classA => exact fun t bad s x z w h hx hl hgood hz hw => execClassAImagesLoaded_of_loads h hx hl hgood hz hw
  case authority => exact fun t s h => ⟨_, rfl, execAuthorityPossible_of_may h rfl rfl⟩
  case network =>
    exact fun t present temp waves copyOk mapOk s x h hx hl => execNetworkPanelBStart_of_loads h hx hl rfl
  case gnss => exact fun t s x h hgood hx hl => execGnssFirmwareRunning_of_loads h hgood hx hl
  case portA => exact fun t umap s x h hx hl => execPortAPowerOn_of_loads h hx hl
  case vision => exact fun t s x h hgood hx hl => execVisionFirmwareRunning_of_loads h hgood hx hl
  case models => exact fun t named bad s h => execModelsLoaded_of_may h
  case native =>
    intro t s h hmodels
    obtain ⟨u, hu, hquiet⟩ := execNativeReady_of_may h hmodels
    refine ⟨u, hu, by rw [hquiet.pow]; rfl, ?_, ?_⟩ <;> rw [hquiet.rd _ _ (by decide)]
    · exact State.rd_nativeShown_ready _
    · exact State.rd_nativeShown_ms _
  case stored => exact fun t v s h => ⟨_, rfl, State.persStore_of_waiting (s := s.at t) h⟩

end Sys2Proof.Machine

/-! PROOFS. WAKE, SYS_STOP_CFG, SYS_RESTART, UPD_REQ, pers_sel and the orderly stop (spec/03, R76, R83 to R86, R467,
R496). -/

namespace Sys2Proof.Machine

/-! ### WAKE (R83, R85) -/

/-- WAKE on, its instant kept, no stop delay running, and a stop that runs told of it. -/
def State.wakeShown (s : State) : State :=
  s.setPow { s.pow with
    wake := true, wakeSince := s.cyc, wakeOffAt := none
    stop := s.pow.stop.map fun x => { x with wakeAgain := true } }

theorem execWakeOn_of_noDelay {t : Nat} {s : State} (hwake : s.pow.wake = false) (hoff : s.pow.wakeOffAt = none) :
    execWakeOn t s = .next (s.at t).wakeShown := by simp [execWakeOn, hwake, hoff, State.wakeShown]

/-- WAKE that comes on in a stop delay ends it with a note. -/
theorem execWakeOn_of_delay {t c : Nat} {s : State} (hwake : s.pow.wake = false) (hoff : s.pow.wakeOffAt = some c) :
    execWakeOn t s = .next ((s.at t).wakeShown.note 0x0013 0) := by simp [execWakeOn, hwake, hoff, State.wakeShown]

theorem execWakeOff_of_on {t : Nat} {s : State} (hwake : s.pow.wake = true) : execWakeOff t s = .next
    ((s.at t).setPow { s.pow with
      wake := false, wakeSince := max s.cyc t, wait := s.pow.wait.wakeOff
      wakeOffAt := if s.mayStop then some (max s.cyc t) else none
      stop := s.pow.stop.map fun x => { x with wakeSeenOff := true } }) := by
  simp [execWakeOff, hwake]

/-! ### What begins an orderly stop (R84, R86, R467) -/

theorem execStopCfgWrite_of_ready {t : Nat} {v : Word} {s : State} (hr : s.readyReg SYS_STOP_CFG = true)
    (hv : reservedOf SYS_STOP_CFG v = 0#32) : execStopCfgWrite t v s = .next ((s.at t).stopCfg v) :=
  State.hostWrite_of_ready (s.at t) _ hr hv

theorem execStopDelayEnd_of_due {t : Nat} {s : State} (h : (s.at t).stopDue = true) :
    execStopDelayEnd t s = .next ((s.at t).stopBegin .wake) := by simp [execStopDelayEnd, h]

section
variable {t : Nat} {s : State} (hr : s.readyReg SYS_RESTART = true) (haxo : s.pow.axo = false)
  (hhold : s.pow.holdUp = none) (hstop : s.pow.stop = none)
include haxo hhold hstop

/-- With no stop under way a keyed write begins the stop that its off bit names. -/
theorem State.sysRestart_of_keyed {v : Word} (hkey : SYS_RESTART_key.get v = 0xA5C3) :
    (s.at t).sysRestart v = (s.at t).stopBegin (if SYS_RESTART_off.get v = 1 then .off else .restart) := by
  simp [State.sysRestart, haxo, hhold, hstop, hkey]

include hr

theorem execSysRestartRestart_of_ready : execSysRestartRestart t s = .next ((s.at t).stopBegin .restart) := by
  rw [execSysRestartRestart, State.hostWrite_of_ready (s.at t) _ hr (by decide),
    State.sysRestart_of_keyed haxo hhold hstop (by decide), if_neg (by decide)]

theorem execSysRestartOff_of_ready : execSysRestartOff t s = .next ((s.at t).stopBegin .off) := by
  rw [execSysRestartOff, State.hostWrite_of_ready (s.at t) _ hr (by decide),
    State.sysRestart_of_keyed haxo hhold hstop (by decide), if_pos (by decide)]

end

theorem execUpdReq_of_keyed {t : Nat} {v : Word} {s : State} (hr : s.readyReg UPD_REQ = true)
    (hv : reservedOf UPD_REQ v = 0#32) (hkey : UPD_REQ_key.get v = 0xC35A) (hmay : s.mayStop = true) :
    execUpdReq t v s = .next ((s.at t).stopBegin .upd) := by
  rw [execUpdReq, State.hostWrite_of_ready (s.at t) _ hr hv]
  simp [State.updReq, hkey, hmay]

/-! ### The course of the stop (R84) -/

section
variable {t : Nat} {s : State} {x : StopRun} (hstop : s.pow.stop = some x)
include hstop

theorem execStopFlushDone_of_unflushed (h : x.flushed = false) :
    execStopFlushDone t s = .next ((s.at t).stopFlush x) := by simp [execStopFlushDone, hstop, h]

theorem execOrderlyStopEnd_of_flushed (h : x.flushed = true) :
    execOrderlyStopEnd t s = .next ((s.at t).portAOff.epdCopy.railsOff x.next) := by
  simp [execOrderlyStopEnd, hstop, h]

end

/-! ### The choice of the personality (R76) -/

theorem execPersSelWrite_of_legal {t : Nat} {v : Word} {s : State} (hr : s.readyReg SYS_PERSONALITY = true)
    (hv : reservedOf SYS_PERSONALITY v = 0#32) (hlegal : SYS_PERSONALITY_pers_sel.get v ≠ 3) :
    execPersSelWrite t v s =
      .next ((s.at t).setPow { s.pow with persWrite := some (SYS_PERSONALITY_pers_sel.get v) }) := by
  rw [execPersSelWrite, State.persSel, State.hostWrite_of_ready (s.at t) _ hr hv, if_neg hlegal, State.at_pow]

/-- Settles O4: one law for each command, above. -/
theorem wakeAndOrderlyStopCommands : Obligations.WakeAndOrderlyStopCommands := by
  unfold Obligations.WakeAndOrderlyStopCommands
  refine ⟨?wakeOn, ?wakeOnDelay, ?wakeOff, ?stopCfg, ?delayEnd, ?restart, ?off, ?upd, ?flush, ?stopEnd, ?persSel⟩
  case wakeOn =>
    exact fun t s hwake hoff => ⟨_, execWakeOn_of_noDelay hwake hoff, rfl, rfl, .of_eq rfl rfl _, rfl⟩
  case wakeOnDelay =>
    exact fun t c s hwake hoff => ⟨(s.at t).wakeShown, rfl, rfl, .of_eq rfl rfl _, execWakeOn_of_delay hwake hoff⟩
  case wakeOff => exact fun t s hwake => ⟨_, execWakeOff_of_on hwake, rfl, rfl, .of_eq rfl rfl _, rfl⟩
  case stopCfg => exact fun t v s hr hv => execStopCfgWrite_of_ready hr hv
  case delayEnd => exact fun t s h => execStopDelayEnd_of_due h
  case restart => exact fun t s hr haxo hhold hstop => execSysRestartRestart_of_ready hr haxo hhold hstop
  case off => exact fun t s hr haxo hhold hstop => execSysRestartOff_of_ready hr haxo hhold hstop
  case upd => exact fun t v s hr hv hkey hmay => execUpdReq_of_keyed hr hv hkey hmay
  case flush => exact fun t s x hstop h => execStopFlushDone_of_unflushed hstop h
  case stopEnd =>
    exact fun t s x hstop h => ⟨_, execOrderlyStopEnd_of_flushed hstop h, rfl, rfl, rfl, rfl,
      fun _ ho => State.reg_railsOff _ _ ho⟩
  case persSel => exact fun t v s hr hv hlegal => ⟨_, execPersSelWrite_of_legal hr hv hlegal, rfl, .of_eq rfl rfl _⟩

end Sys2Proof.Machine

/-! PROOFS. Triggers, frames, links, enables, display buffers and access units of the cameras (spec/12, R81, R296 to
R313). -/

namespace Sys2Proof.Machine

/-! ### Trigger messages and pairing windows (R296, R297) -/

/-- Trigger `i` of camera `c`, which is `x`, counted as sent. -/
def State.triggerSent (s : State) (c i : Nat) (x : VTrig) : State :=
  s.setCam c { s.cam c with trigs := modAt (fun y => { y with sent := true }) i (s.cam c).trigs, lastExp := some x.at_ }

section
variable {t i : Nat} {c : Fin 12} {x : VTrig} {s : State}
  (hfirst : (s.cam c).trigs.findIdx? (fun x => !x.sent) = some i) (hx : (s.cam c).trigs[i]? = some x)
  (hruns : s.visRuns = true) (hdue : x.at_ ≤ (s.at t).ns + 1000 * s.rd (VIS_CAM_WIN c) VIS_CAM_WIN_trig_lat)
include hfirst hx hruns hdue

/-- A trigger too soon after the last becomes a gap. -/
theorem execTriggerMessageSend_of_early (hearly : s.camEarly c x = true) : execTriggerMessageSend t c s =
    .next (((s.at t).setCam c { s.cam c with trigs := (s.cam c).trigs.eraseIdx i }).issueGap c x true) := by
  simp [execTriggerMessageSend, hfirst, hx, hruns, not_lt.2 hdue, hearly]

/-- Any other counts as sent; its message leaves on a link with lock. -/
theorem execTriggerMessageSend_of_inTime (hearly : s.camEarly c x = false) (hclash : s.winClash c x = false) :
    execTriggerMessageSend t c s = .next (if s.bit (VIS_LINK (c / 4)) VIS_LINK_lock
      then ((s.at t).triggerSent c i x).emit (.cameraTrigger c) else (s.at t).triggerSent c i x) := by
  simp [execTriggerMessageSend, hfirst, hx, hruns, not_lt.2 hdue, hearly, hclash, State.triggerSent]

end

theorem execPairingWindowClose_of_over {t : Nat} {c : Fin 12} {x : VTrig} {rest : List VTrig} {s : State}
    (htrigs : (s.cam c).trigs = x :: rest) (hruns : s.visRuns = true) (hsent : x.sent = true)
    (hover : (s.at t).winHi c x ≤ (s.at t).ns) : execPairingWindowClose t c s =
      .next (((s.at t).setCam c { s.cam c with trigs := rest }).issueGap c x false) := by
  have hover' : s.winHi c x ≤ (s.at t).ns := hover
  simp [execPairingWindowClose, htrigs, hruns, hsent, not_lt.2 hover']

/-! ### Frames (R299, R300, R302) -/

section
variable {t : Nat} (fnum : Nat) {c : Fin 12} {ecc : List EccHit} {s z y : State} (hz : z = (s.at t).camsNow)
  (hy : y = z.closeRead c ecc) (hruns : z.visRuns = true) (hen : z.camEn c = true)
  (hlock : z.bit (VIS_LINK (c / 4)) VIS_LINK_lock = true) (hover : z.linkOver (c / 4) = false)
include hz hy hruns hen hlock hover

/-- A Frame Start in no open window is stray. -/
theorem execFrameStart_of_stray (hnone : (y.cam c).trigs.findIdx? (fun x => y.winOpen c x) = none) :
    execFrameStart t c ⟨fnum, ecc⟩ s =
      .next ((y.bump (VIS_CAM_CNT0 c) VIS_CAM_CNT0_stray_cnt).noteSlow (0x0A10 + c) 0) := by
  simp only [execFrameStart, ← hz, ← hy, hruns, hen, hlock, hover, hnone, Bool.not_true, Bool.or_false,
    Bool.false_eq_true, if_false]

/-- In an open window it takes the trigger, after the hand-over of a parameter set and of a token if they are due. -/
theorem execFrameStart_of_open {i : Nat} {x : VTrig} {w : State} {k : Cam}
    (hopen : (y.cam c).trigs.findIdx? (fun x => y.winOpen c x) = some i) (hx : (y.cam c).trigs[i]? = some x)
    (hw : w = (if (y.cam c).due y.cyc then y.camCopy c else y).tokenStep c) (hk : k = w.cam c) :
    execFrameStart t c ⟨fnum, ecc⟩ s = .next ((w.setCam c { k with
      trigs := k.trigs.eraseIdx i
      frame := some ⟨{ x with exp := k.exp }, w.cyc, w.mtime, fnum, k.token, [], 0, w.reg (VIS_CAM_SEQ c)⟩ }).wr
        (VIS_CAM_TOK c) VIS_CAM_TOK_tok_frame k.token) := by
  simp only [execFrameStart, ← hz, ← hy, hruns, hen, hlock, hover, hopen, hx, Bool.not_true, Bool.or_false,
    Bool.false_eq_true, if_false, ← hw, ← hk]

end

section
variable {t : Nat} {c : Fin 12} {f : VFrame} {s : State} (hruns : s.visRuns = true)
include hruns

/-- A line beyond the camera's height is counted and not kept. -/
theorem execLineReceived_of_frame {px : List Nat} (hen : s.camEn c = true) (hframe : (s.cam c).frame = some f) :
    execLineReceived t c px false s = .next ((s.at t).setCam c { s.cam c with
      frame := some { f with
        lines := if f.got < s.camH c then f.lines ++ [some px] else f.lines, got := f.got + 1 } }) := by
  simp [execLineReceived, hruns, hen, hframe]

theorem execFrameEnd_of_runs {ecc : List EccHit} : execFrameEnd t c ecc s = .next ((s.at t).closeRead c ecc) := by
  simp [execFrameEnd, hruns]

theorem execFrameCloseTimeout_of_over {ecc : List EccHit} (hframe : (s.cam c).frame = some f)
    (hover : sec 1 ≤ (max s.cyc t - f.fsCyc) * s.camRate c) :
    execFrameCloseTimeout t ⟨c, ecc⟩ s = .next ((s.at t).closeRead c ecc) := by
  simp [execFrameCloseTimeout, hruns, hframe, not_lt.2 hover]

end

/-! ### Links (R81, R304) -/

section
variable {t : Nat} {n : Fin 3} {s : State} (hruns : s.visRuns = true)
include hruns

theorem execAphyLock_of_training {gear : Nat} (hst : (s.alink n).st = 1) : execAphyLock t n gear s = .next
    ((((((((s.at t).wr (VIS_LINK n) VIS_LINK_lock 1).wr (VIS_LINK n) VIS_LINK_gear
      (min gear (s.alink n).gmax)).linkBit SYS_LINK_aphy_up n true).setAlink n { s.alink n with
        st := 2, since := max s.cyc t, fails := 0, retryAt := none }).clear2 (0x0A04 + n)).clear2 (0x0A08 + n))) := by
  simp only [execAphyLock, State.visRuns_at, State.alink_at, State.at_cyc, hruns, hst, Bool.not_true, bne_self_eq_false,
    Bool.or_false, Bool.false_eq_true, if_false]

theorem execAphyLockTimeout_of_over (hst : (s.alink n).st = 1) (hover : (s.alink n).since + ms 300 ≤ max s.cyc t) :
    execAphyLockTimeout t n s = .next ((s.at t).linkFailed n) := by
  simp [execAphyLockTimeout, hruns, hst, not_lt.2 hover]

theorem execAphyRetry_of_due {c : Nat} (hretry : (s.alink n).retryAt = some c) (hdue : c ≤ max s.cyc t) :
    execAphyRetry t n s = .next ((s.at t).linkStart n) := by
  simp [execAphyRetry, hruns, hretry, not_lt.2 hdue]

theorem execAphyLockLoss_of_locked (hst : (s.alink n).st = 2) :
    execAphyLockLoss t n s = .next ((((s.at t).linkDown n).raise2 (0x0A04 + n) 0).linkStart n) := by
  simp [execAphyLockLoss, hruns, hst]

theorem execAphyOvercurrent_of_on (hst : (s.alink n).st ≠ 0) :
    execAphyOvercurrent t n s = .next ((((s.at t).linkDown n).wr (VIS_LINK n) VIS_LINK_ocp 1).linkFailed n) := by
  simp [execAphyOvercurrent, hruns, hst]

end

/-! ### Enables (R305, R313) -/

/-- A camera within the limits of its own rate and of all cameras' is enabled, with nothing left from before. -/
theorem execCameraEnable_of_legal {t : Nat} {c : Fin 12} {v : Word} {s z : State} (hz : z = (s.at t).camsNow)
    (hr : z.readyReg (VIS_CAM_CFG c) = true) (hv : reservedOf (VIS_CAM_CFG c) v = 0#32) (hoff : z.camEn c = false)
    (hen : VIS_CAM_CFG_en.get v = 1) (hok : z.camBad c v = false)
    (hone : z.camLoad c (VIS_CAM_CFG_rate_cap.get v) ≤ 248832000)
    (hall : z.camSum + z.camLoad c (VIS_CAM_CFG_rate_cap.get v) ≤ 1500000000) :
    execCameraEnable t c v s = .next (((z.store (VIS_CAM_CFG c) v).setCam c { z.cam c with
      trigs := [], lastExp := none, frame := none, token := 0, exp := 0 }).mpix) := by
  have hlimits : ¬ (248832000 < z.camLoad c (VIS_CAM_CFG_rate_cap.get v) ∨
      1500000000 < z.camSum + z.camLoad c (VIS_CAM_CFG_rate_cap.get v)) := by omega
  simp only [execCameraEnable, ← hz, hoff, State.hostWrite_of_ready z _ hr hv, hen, hok, hlimits, Nat.one_ne_zero,
    Bool.false_eq_true, if_false]

theorem execEncoderEnable_of_legal {t : Nat} {e : Fin 4} {v : Word} {s : State}
    (hr : s.readyReg (VIS_ENC_CFG e) = true) (hv : reservedOf (VIS_ENC_CFG e) v = 0#32)
    (hoff : s.bit (VIS_ENC_CFG e) VIS_ENC_CFG_en = false) (hen : VIS_ENC_CFG_en.get v = 1)
    (hok : s.encBad e v = false) (hload : s.encLoad (VIS_ENC_CFG_cam.get v) ≤ 248832000) :
    execEncoderEnable t e v s = .next (((s.at t).store (VIS_ENC_CFG e) v).setEnc e Enc.init) := by
  rw [execEncoderEnable, State.bit_at, hoff, State.hostWrite_of_ready (s.at t) _ hr hv]
  simp [hen, hok, not_lt.2 hload]

/-! ### Display buffers (R308) -/

/-- A frame for the displays goes to the first of the three buffers that is neither ready nor held. -/
theorem execDisplayBufferReady_of_free {t i a : Nat} {c : Fin 12} {bs : List Byte} {rest : List (List Byte)} {s : State}
    (hdisp : (s.cam c).disp = bs :: rest) (hruns : s.visRuns = true)
    (hi : i = if ((s.cam c).ready != some 0 && (s.cam c).held != some 0) = true then 0
      else if ((s.cam c).ready != some 1 && (s.cam c).held != some 1) = true then 1 else 2)
    (ha : a = s.rd (VIS_CAM_DISP c) VIS_CAM_DISP_base * 0x200000 + i * bs.length)
    (htop : a + bs.length ≤ sharedTop) (hmeet : areasMeet [(a, bs.length)] s.ethMem = false) :
    execDisplayBufferReady t c s =
      .next (((s.at t).memStore a bs).setCam c { s.cam c with disp := rest, ready := some i }) := by
  subst hi ha
  simp only [execDisplayBufferReady, State.cam_at, State.rd_at, State.visRuns_at, State.ethMem_at, hdisp, hruns, hmeet,
    not_lt.2 htop, Bool.not_true, Bool.false_eq_true, decide_false, Bool.or_false, if_false]

/-! ### Access units (R304, R305) -/

theorem State.enc_setEnc (s : State) (e : Nat) (x : Enc) : (s.setEnc e x).enc e = x := cellGet_set_same ..

theorem State.cams_setEnc (s : State) (e : Nat) (x : Enc) : (s.setEnc e x).vis.cams = s.vis.cams := rfl

/-- How far encoder `e` is in its sequence after picture `i`: at its first one if that is an IDR. -/
def State.sinceAfter (s : State) (e : Nat) (i : VItem) : Option Nat :=
  if s.nextIdr e i then some 1 else (s.enc e).since.map (· + 1)

/-- A gap is never an IDR. -/
theorem State.sinceAfter_of_gap {s : State} {e : Nat} {i : VItem} (h : i.gap = true) :
    s.sinceAfter e i = (s.enc e).since.map (· + 1) := by simp [State.sinceAfter, State.nextIdr, h]

/-- The first picture of a sequence is an IDR. -/
theorem State.sinceAfter_of_first {s : State} {e : Nat} {i : VItem} (h : i.gap = false)
    (hfirst : (s.enc e).since = none) : s.sinceAfter e i = some 1 := by
  simp [State.sinceAfter, State.nextIdr, h, hfirst]

/-- An access unit, delivered or dropped, takes its picture off the encoder's queue; nothing else of VIS changes. -/
theorem execAccessUnitDone_of_picture {t : Nat} {e : Fin 4} {nal : List Byte} {i : VItem} {rest : List VItem}
    {s : State} (hq : (s.enc e).q = i :: rest) (hruns : s.visRuns = true)
    (hen : s.bit (VIS_ENC_CFG e) VIS_ENC_CFG_en = true) (hnal : sliceNal (s.nextIdr e i) nal = true) :
    ∃ (x : State) (y : Enc), execAccessUnitDone t e nal s = .next (x.setEnc e y) ∧ x.vis = s.vis ∧ y.q = rest ∧
      y.since = s.sinceAfter e i := by
  have hgo : (!s.visRuns || !s.bit (VIS_ENC_CFG e) VIS_ENC_CFG_en || !sliceNal (s.nextIdr e i) nal) = false := by
    simp [hruns, hen, hnal]
  have hdeliver (ws : List Word) : ((s.at t).freeNext.deliver (0xA3 + e) ws).1.vis = s.vis :=
    (State.deliver_quiet ..).vis
  have hskip (x : State) : (if i.gap then x.bump (VIS_ENC_STAT e) VIS_ENC_STAT_skip_cnt else x).vis = x.vis := by
    split <;> rfl
  simp only [execAccessUnitDone, State.enc_at, hq, State.visRuns_at, State.bit_at, State.nextIdr_at, hgo,
    Bool.false_eq_true, if_false]
  generalize hd : (s.at t).freeNext.deliver (0xA3 + e) _ = a
  have ha : a.1.vis = s.vis := hd ▸ hdeliver _
  by_cases hdrop : a.2 = true
  · rw [if_pos hdrop]
    exact ⟨_, _, rfl, ((State.noteSlow_quiet ..).vis.trans (State.bump_vis ..)).trans ((hskip _).trans ha), rfl, rfl⟩
  · rw [if_neg hdrop]
    exact ⟨_, _, rfl, (hskip _).trans ha, rfl, rfl⟩

/-- Settles O19: one law for each command, above. -/
theorem cameraCommands : Obligations.CameraCommands := by
  unfold Obligations.CameraCommands
  refine ⟨?early, ?inTime, ?window, ?stray, ?frameStart, ?line, ?frameEnd, ?timeout, ?lock, ?lockTimeout, ?retry, ?loss,
    ?overcurrent, ?camera, ?encoder, ?display, ?accessUnit⟩
  case early =>
    exact fun t i c x s hfirst hx hruns hdue hearly => execTriggerMessageSend_of_early hfirst hx hruns hdue hearly
  case inTime =>
    exact fun t i c x s hfirst hx hruns hdue hearly hclash =>
      execTriggerMessageSend_of_inTime hfirst hx hruns hdue hearly hclash
  case window =>
    exact fun t c x rest s htrigs hruns hsent hover => execPairingWindowClose_of_over htrigs hruns hsent hover
  case stray =>
    exact fun t fnum c ecc s z y hz hy hruns hen hlock hover hnone =>
      (execFrameStart_of_stray fnum hz hy hruns hen hlock hover hnone :)
  case frameStart =>
    exact fun t fnum i c ecc x s z y w hz hy hruns hen hlock hover hopen hx hw =>
      (execFrameStart_of_open fnum hz hy hruns hen hlock hover hopen hx hw rfl :)
  case line => exact fun t c px f s hruns hen hframe => execLineReceived_of_frame hruns hen hframe
  case frameEnd => exact fun t c ecc s hruns => execFrameEnd_of_runs hruns
  case timeout => exact fun t c f ecc s hframe hruns hover => execFrameCloseTimeout_of_over hruns hframe hover
  case lock => exact fun t gear n s hruns hst => execAphyLock_of_training hruns hst
  case lockTimeout => exact fun t n s hruns hst hover => execAphyLockTimeout_of_over hruns hst hover
  case retry => exact fun t c n s hruns hretry hdue => execAphyRetry_of_due hruns hretry hdue
  case loss => exact fun t n s hruns hst => execAphyLockLoss_of_locked hruns hst
  case overcurrent => exact fun t n s hruns hst => execAphyOvercurrent_of_on hruns hst
  case camera =>
    exact fun t c v s z hz hr hv hoff hen hok hone hall => execCameraEnable_of_legal hz hr hv hoff hen hok hone hall
  case encoder => exact fun t e v s hr hv hoff hen hok hload => execEncoderEnable_of_legal hr hv hoff hen hok hload
  case display =>
    exact fun t i c bs rest s hdisp hruns hi htop hmeet =>
      execDisplayBufferReady_of_free hdisp hruns hi rfl htop hmeet
  case accessUnit =>
    intro t e nal i rest s hq hruns hen hnal
    obtain ⟨x, y, hxy, hvis, hrest, hsince⟩ := execAccessUnitDone_of_picture (t := t) hq hruns hen hnal
    refine ⟨_, hxy, ?_, (State.cams_setEnc ..).trans (congrArg Vis.cams hvis), fun hgap => ?_,
      fun hgap hfirst => ?_⟩ <;> rw [State.enc_setEnc]
    · exact hrest
    · rw [hsince, State.sinceAfter_of_gap hgap]
    · rw [hsince, State.sinceAfter_of_first hgap hfirst]

end Sys2Proof.Machine

/-! PROOFS. The poll interval of a ring, and its starts, stops, drains and failed reads (spec/04, R93, R101 to R103,
R106). -/

namespace Sys2Proof.Machine

/-! ### The guarantee monitor (R19) -/

/-- Taking a condition of SYS_GUAR to a value is a run of writes of its fields. -/
theorem State.guarSet_induct {P : State → Prop} {s : State} (f seen : Fld) (v : Bool)
    (hw : ∀ x g w, P x → P (x.wr SYS_GUAR g w)) (hs : P s) : P (s.guarSet f seen v) := by
  have hite : ∀ {c : Prop} [Decidable c] {a b : State}, P a → P b → P (if c then a else b) := by
    intro c _ a b ha hb
    split <;> assumption
  have hcond := hw s f (b2n v) hs
  have hseen := hite (c := (v && !s.bit SYS_GUAR f) = true) (hw _ seen 1 hcond) hcond
  exact hw _ _ _ (hite (hw _ _ _ hseen) hseen)

theorem State.guarPoll_sameBut (s : State) : s.SameBut s.guarPoll [SYS_GUAR] :=
  State.guarSet_induct (P := (s.SameBut · [SYS_GUAR])) _ _ _ (fun _ g w h => h.wr (List.mem_singleton_self _) g w)
    (.of_eq rfl rfl _)

@[simp] theorem State.guarPoll_out (s : State) : s.guarPoll.out = s.out :=
  State.guarSet_induct (P := fun x => x.out = s.out) _ _ _ (fun _ _ _ h => h) rfl

@[simp] theorem State.guarPoll_rng (s : State) : s.guarPoll.rng = s.rng :=
  State.guarSet_induct (P := fun x => x.rng = s.rng) _ _ _ (fun _ _ _ h => h) rfl

/-- SYS_GUAR.poll_over shows the condition it was last taken to: the fields written after it lie above it. -/
theorem State.bit_guarSet_poll (s : State) (v : Bool) :
    (s.guarSet SYS_GUAR_poll_over SYS_GUAR_poll_seen v).bit SYS_GUAR SYS_GUAR_poll_over = v := by
  have habove : ∀ (x : State) (g : Fld) (w : Nat), 2 ≤ g.lo → g.lo + g.wd ≤ 32 →
      (x.wr SYS_GUAR g w).bit SYS_GUAR SYS_GUAR_poll_over = x.bit SYS_GUAR SYS_GUAR_poll_over := fun x g w h k => by
    rw [State.bit, State.bit, State.rd_wr_field x _ g SYS_GUAR_poll_over w k (.inl h)]
  have hcond : (s.wr SYS_GUAR SYS_GUAR_poll_over (b2n v)).bit SYS_GUAR SYS_GUAR_poll_over = v :=
    State.bit_wr_same _ _ _ _ rfl (by decide)
  simp only [State.guarSet, State.bump, State.bumpBy]
  rw [habove _ _ _ (by decide) (by decide), apply_ite (State.bit · _ _), habove _ _ _ (by decide) (by decide), ite_self,
    apply_ite (State.bit · _ _), habove _ _ _ (by decide) (by decide), ite_self, hcond]

/-- SYS_GUAR.poll_over stands while a running Class A ring on PCIe has a poll interval above 10 µs. -/
theorem State.bit_guarPoll (s : State) : s.guarPoll.bit SYS_GUAR SYS_GUAR_poll_over = true ↔
    ∃ r, r < 64 ∧ s.ringState r = rsRunning ∧ s.ringEth r = false ∧ s.rd (RNG_CFG r) RNG_CFG_class = 0 ∧
      10 < s.pollUs r := by
  rw [State.guarPoll, State.bit_guarSet_poll]
  simp only [List.any_eq_true, List.mem_range, Bool.and_eq_true, Bool.not_eq_true', beq_iff_eq, decide_eq_true_eq,
    and_assoc]

/-! ### The poll interval (R93) -/

/-- A value that is not 0 is the interval, up to 1,000. -/
theorem State.pollUs_of_set {s : State} {r : Nat} (h : 1 ≤ s.rd (RNG_POLL r) RNG_POLL_interval) :
    s.pollUs r = min (s.rd (RNG_POLL r) RNG_POLL_interval) 1000 := if_neg (Nat.one_le_iff_ne_zero.1 h)

/-- The value 0 selects the default of the ring's class. -/
theorem State.pollUs_of_zero {s : State} {r : Nat} (h : s.rd (RNG_POLL r) RNG_POLL_interval = 0) :
    (s.rd (RNG_CFG r) RNG_CFG_class = 0 → s.pollUs r = 1) ∧ (s.rd (RNG_CFG r) RNG_CFG_class = 1 → s.pollUs r = 50) ∧
      (s.rd (RNG_CFG r) RNG_CFG_class = 2 → s.pollUs r = 1000) := by
  simp only [State.pollUs, h, if_true]
  exact ⟨fun hclass => by simp only [hclass], fun hclass => by simp only [hclass], fun hclass => by simp only [hclass]⟩

/-- Settles O42: the interval by its two equations, the monitor by the condition it was taken to. -/
theorem pollIntervalOfARing : Obligations.PollIntervalOfARing := by
  unfold Obligations.PollIntervalOfARing
  refine ⟨fun r s => ⟨fun hlo hhi => ?_, fun hhi => ?_, fun hz => (State.pollUs_of_zero hz).1,
    fun hz => (State.pollUs_of_zero hz).2.1, fun hz => (State.pollUs_of_zero hz).2.2⟩, State.bit_guarPoll⟩
  · rw [State.pollUs_of_set hlo, min_eq_left hhi]
  · rw [State.pollUs_of_set (by omega), min_eq_right hhi.le]

/-! ### Rings beside their registers -/

theorem State.reg_setRing (s : State) (r off : Nat) (x : Ring) : (s.setRing r x).reg off = s.reg off := rfl

@[simp] theorem State.ring_setRing_same (s : State) (r : Nat) (x : Ring) : (s.setRing r x).ring r = x :=
  cellGet_set_same ..

theorem State.setRing_sameBut (s : State) (r : Nat) (x : Ring) (offs : List Nat) : s.SameBut (s.setRing r x) offs :=
  .of_eq rfl rfl offs

theorem State.ringState_of_wr (s : State) (r v : Nat) (h : v < 4) :
    (s.wr (RNG_CFG r) RNG_CFG_state v).ringState r = v := by
  rw [State.ringState, State.rd_wr_same _ _ _ _ (by decide)]
  exact Nat.mod_eq_of_lt h

theorem RNG_CFG_ne_SYS_GUAR (r : Nat) : RNG_CFG r ≠ SYS_GUAR := by simp only [RNG_CFG, SYS_GUAR]; omega

@[simp] theorem State.ringState_guarPoll (s : State) (r : Nat) : s.guarPoll.ringState r = s.ringState r := by
  rw [State.ringState, State.ringState, State.rd, State.rd,
    s.guarPoll_sameBut.1 _ (by simpa using RNG_CFG_ne_SYS_GUAR r)]

@[simp] theorem State.ring_guarPoll (s : State) (r : Nat) : s.guarPoll.ring r = s.ring r := by
  rw [State.ring, State.ring, State.guarPoll_rng]

/-- A stop that leaves descriptor reads under way changes when they must have ended, and nothing else. -/
theorem State.readsLeft_cases (s : State) (r : Nat) :
    s.readsLeft r = s ∨ s.readsLeft r = s.setRing r { s.ring r with readTill := s.cyc + ms 50 } := by
  unfold State.readsLeft
  split
  · exact .inl rfl
  · exact .inr rfl

theorem State.readsLeft_sameBut (s : State) (r : Nat) (offs : List Nat) : s.SameBut (s.readsLeft r) offs := by
  rcases s.readsLeft_cases r with h | h <;> rw [h]
  · exact .of_eq rfl rfl _
  · exact s.setRing_sameBut _ _ _

@[simp] theorem State.readsLeft_out (s : State) (r : Nat) : (s.readsLeft r).out = s.out := by
  rcases s.readsLeft_cases r with h | h <;> rw [h]
  rfl

@[simp] theorem State.descs_readsLeft (s : State) (r : Nat) : ((s.readsLeft r).ring r).descs = (s.ring r).descs := by
  rcases s.readsLeft_cases r with h | h <;> rw [h]
  rw [State.ring_setRing_same]

/-- Aborting what has not started leaves registers and memory. -/
theorem State.abortUnstarted_sameBut (s : State) (r : Nat) (offs : List Nat) : s.SameBut (s.abortUnstarted r) offs :=
  s.setRing_sameBut _ _ _

theorem State.descs_abortUnstarted (s : State) (r : Nat) : ((s.abortUnstarted r).ring r).descs =
    (s.ring r).descs.map fun d => if d.st = .read then { d with st := .ended stAborted 0 0 } else d := by
  rw [State.abortUnstarted, State.ring_setRing_same]

/-! ### From HALTED to OFF (R102) -/

theorem State.ringState_haltedOff (s : State) (r : Nat) : (s.haltedOff r).ringState r = rsOff := by
  rw [State.haltedOff, State.ringState_guarPoll]
  exact State.ringState_of_wr _ r rsOff (by decide)

theorem State.descs_haltedOff (s : State) (r : Nat) : ((s.haltedOff r).ring r).descs = [] := by
  rw [State.haltedOff, State.ring_guarPoll, State.ring_setRing_same]

theorem State.haltedOff_out (s : State) (r : Nat) : (s.haltedOff r).out = s.out := by
  rw [State.haltedOff, State.guarPoll_out, State.setRing_out, State.wr_out, State.readsLeft_out]

theorem State.memRd_haltedOff (s : State) (r a : Nat) : (s.haltedOff r).memRd a = s.memRd a := by
  rw [State.haltedOff, (State.guarPoll_sameBut _).2, (State.setRing_sameBut _ _ _ []).2, State.memRd_wr,
    (s.readsLeft_sameBut r []).2]

/-! ### RING_START, RING_STOP, RING_STOP_DISCARD (R102, R103) -/

/-- The start of ring `r` before the rings behind it and the monitor are looked at. -/
def State.ringStarted (s : State) (r : Nat) : State :=
  (((s.setReg (RNG_HEAD r) 0#32).setReg (RNG_TAIL r) 0#32).wr (RNG_CFG r) RNG_CFG_state rsRunning).setRing r
    { s.ring r with descs := [], epoch := (s.ring r).epoch + 1 }

section
variable {t : Nat} {r : Fin 64} {s : State} (hr : s.readyReg (RNG_CTL r) = true)
include hr

theorem State.ctlUnready_of_ready : s.ctlUnready r = false := by rw [State.ctlUnready, hr]; rfl

theorem execRingStart_of_not_off (h : s.ringState r ≠ rsOff) :
    execRingStart t r s = .next ((s.at t).bump (RNG_CNT r) RNG_CNT_ign_cnt) := by
  simp [execRingStart, State.ctlUnready_of_ready hr, h]

theorem execRingStop_of_ignored (h : s.ringState r = rsOff ∨ s.ringState r = rsDraining) :
    execRingStop t r s = .next ((s.at t).bump (RNG_CNT r) RNG_CNT_ign_cnt) := by
  simp [execRingStop, State.ctlUnready_of_ready hr, h]

theorem execRingStop_of_halted (h : s.ringState r = rsHalted) : execRingStop t r s = .next ((s.at t).haltedOff r) := by
  simp [execRingStop, State.ctlUnready_of_ready hr, h]

theorem execRingStop_of_running (h : s.ringState r = rsRunning) : execRingStop t r s =
    .next ((((s.at t).readsLeft r).wr (RNG_CFG r) RNG_CFG_state rsDraining).abortUnstarted r).guarPoll := by
  simp [execRingStop, State.ctlUnready_of_ready hr, h]

theorem execRingStopDiscard_of_off (h : s.ringState r = rsOff) :
    execRingStopDiscard t r s = .next ((s.at t).bump (RNG_CNT r) RNG_CNT_ign_cnt) := by
  simp [execRingStopDiscard, State.ctlUnready_of_ready hr, h]

theorem execRingStopDiscard_of_halted (h : s.ringState r = rsHalted) :
    execRingStopDiscard t r s = .next ((s.at t).haltedOff r) := by
  simp [execRingStopDiscard, State.ctlUnready_of_ready hr, h]

/-- A stop and discard stops a running ring first; then the started FILL buffers end and the rectangles are
abandoned. -/
theorem execRingStopDiscard_of_active (h : s.ringState r = rsRunning ∨ s.ringState r = rsDraining) :
    execRingStopDiscard t r s = .next (((if s.ringState r = rsRunning
      then ((((s.at t).readsLeft r).wr (RNG_CFG r) RNG_CFG_state rsDraining).abortUnstarted r).guarPoll
      else s.at t).abortFills r).dpyDiscard r) := by
  rcases h with h | h <;> simp [execRingStopDiscard, State.ctlUnready_of_ready hr, h]

theorem execRingStart_of_legal (h : s.ringState r = rsOff) (hlo : 4 ≤ s.ringLog r) (hhi : s.ringLog r ≤ 16)
    (hclass : s.rd (RNG_CFG r) RNG_CFG_class ≠ 3) (hclash : s.ringClash r = false) (hdisp : s.ringOnDisplay r = false)
    (hslot : ((List.range 64).any fun q => q != r.val && s.ringState q != rsOff &&
      s.rd (RNG_CFG q) RNG_CFG_line == s.rd (RNG_CFG r) RNG_CFG_line &&
      s.rd (RNG_CFG q) RNG_CFG_slot == s.rd (RNG_CFG r) RNG_CFG_slot) = false) :
    execRingStart t r s = .next ((List.range 64).foldl State.fillsBehind ((s.at t).ringStarted r)).guarPoll := by
  simp only [execRingStart, State.ctlUnready_at, State.ctlUnready_of_ready hr, State.ringState_at, h, State.ringLog_at,
    not_lt.2 hlo, not_lt.2 hhi, State.rd_at, hclass, State.ringClash_at, hclash, State.ringOnDisplay_at, hdisp, hslot,
    Bool.false_eq_true, ne_eq, not_true_eq_false, or_self, if_false]
  rfl

end

/-- Settles O43: one law for each command and state, above. -/
theorem ignoredRingCommands : Obligations.IgnoredRingCommands := by
  unfold Obligations.IgnoredRingCommands
  refine ⟨fun t r s hr h => execRingStart_of_not_off hr h,
    fun t r s hr h => ⟨execRingStop_of_ignored hr (.inl h), execRingStopDiscard_of_off hr h⟩,
    fun t r s hr h => ⟨execRingStop_of_ignored hr (.inr h), ?_⟩,
    fun t r s hr h => ⟨_, execRingStop_of_halted hr h, execRingStopDiscard_of_halted hr h,
      State.ringState_haltedOff _ r, State.descs_haltedOff _ r, State.haltedOff_out _ r, State.memRd_haltedOff _ r⟩⟩
  have hnot : s.ringState r ≠ rsRunning := by rw [h]; decide
  exact (execRingStopDiscard_of_active hr (.inr h)).trans (by rw [if_neg hnot])

/-! ### RING_DRAIN_END, HOST_READ_FAILURE (R101, R106) -/

theorem execRingDrainEnd_of_drained {t : Nat} {r : Fin 64} {s : State} (h : s.ringState r = rsDraining)
    (hdescs : (s.ring r).descs = []) : execRingDrainEnd t r s =
      .next (((s.at t).wr (RNG_CFG r) RNG_CFG_state rsOff).writeCdb r).guarPoll := by
  simp [execRingDrainEnd, h, hdescs]

theorem execHostReadFailure_desc {t : Nat} {r : Fin 64} {s : State} (h : (s.at t).descReads r = true) :
    execHostReadFailure t (.desc r) s = .next ((s.at t).haltRing r).guarPoll.ringFault := by
  simp [execHostReadFailure, h]

/-- A failed read of a line halts every ring on it that is not OFF. -/
theorem execHostReadFailure_line {t : Nat} {m : Fin 4} {s : State} (h : s.lineOut m ≠ 0) :
    execHostReadFailure t (.line m) s = .next ((((List.range 64).filter fun r =>
      s.ringState r != rsOff && s.rd (RNG_CFG r) RNG_CFG_line == m.val).foldl (fun s r => s.haltRing r)
        ((s.at t).setLineOut m (s.lineOut m - 1))).guarPoll.ringFault) := by
  simp [execHostReadFailure, h]

/-! ### The state a start and a stop leave -/

theorem State.ringState_ringStarted (s : State) (r : Nat) : (s.ringStarted r).ringState r = rsRunning :=
  State.ringState_of_wr _ r rsRunning (by decide)

theorem State.reg_ringStarted_head (s : State) (r : Nat) : (s.ringStarted r).reg (RNG_HEAD r) = 0#32 := by
  have hcfg : RNG_HEAD r ≠ RNG_CFG r := by simp only [RNG_HEAD, RNG_CFG]; omega
  have htail : RNG_HEAD r ≠ RNG_TAIL r := by simp only [RNG_HEAD, RNG_TAIL]; omega
  rw [State.ringStarted, State.reg_setRing, State.reg_wr_other _ _ _ _ _ hcfg, State.reg_setReg_other _ _ _ _ htail,
    State.reg_setReg_same]

theorem State.reg_ringStarted_tail (s : State) (r : Nat) : (s.ringStarted r).reg (RNG_TAIL r) = 0#32 := by
  have hcfg : RNG_TAIL r ≠ RNG_CFG r := by simp only [RNG_TAIL, RNG_CFG]; omega
  rw [State.ringStarted, State.reg_setRing, State.reg_wr_other _ _ _ _ _ hcfg, State.reg_setReg_same]

theorem State.descs_ringStarted (s : State) (r : Nat) : ((s.ringStarted r).ring r).descs = [] := by
  rw [State.ringStarted, State.ring_setRing_same]

theorem State.ringStarted_sameBut (s : State) (r : Nat) :
    s.SameBut (s.ringStarted r) [RNG_CFG r, RNG_HEAD r, RNG_TAIL r] :=
  ((((State.SameBut.of_eq rfl rfl _).setReg (by simp) _).setReg (by simp) _).wr (by simp) _ _).trans
    (State.setRing_sameBut _ _ _ _)

/-- A running ring that is stopped keeps all registers but its own state. -/
theorem State.ringStopped_sameBut (s : State) (r : Nat) :
    s.SameBut (((s.readsLeft r).wr (RNG_CFG r) RNG_CFG_state rsDraining).abortUnstarted r) [RNG_CFG r] :=
  ((s.readsLeft_sameBut r _).wr (List.mem_singleton_self _) _ _).trans (State.abortUnstarted_sameBut _ r _)

/-- Settles O7: one law for each command, above. -/
theorem ringStateCommands : Obligations.RingStateCommands := by
  unfold Obligations.RingStateCommands
  refine ⟨?start, ?stop, ?discard, ?drain, ?failure⟩
  case start =>
    exact fun t r s hr hoff hlo hhi hclass hclash hdisp hslot => ⟨(s.at t).ringStarted r,
      State.ringState_ringStarted _ r, State.reg_ringStarted_head _ r, State.reg_ringStarted_tail _ r,
      State.descs_ringStarted _ r, (s.at t).ringStarted_sameBut r,
      execRingStart_of_legal hr hoff hlo hhi hclass hclash hdisp hslot⟩
  case stop =>
    refine fun t r s hr h => ⟨_, rfl, State.ringState_of_wr _ r rsDraining (by decide), (s.at t).ringStopped_sameBut r,
      execRingStop_of_running hr h, ?_⟩
    rw [State.descs_abortUnstarted]
    exact congrArg _ ((s.at t).descs_readsLeft r)
  case discard => exact fun t r s hr h => execRingStopDiscard_of_active hr h
  case drain => exact fun t r s h hdescs => execRingDrainEnd_of_drained h hdescs
  case failure =>
    exact fun t s => ⟨fun r h => execHostReadFailure_desc h, rfl, fun m h => execHostReadFailure_line h⟩

end Sys2Proof.Machine

/-! PROOFS. Doorbells, descriptors, completions and Ethernet carriage of the rings (spec/04, R92 to R100, R108,
R109). -/

namespace Sys2Proof.Machine

/-! ### Doorbell lines and tails (R92, R94) -/

@[simp] theorem State.lineOut_setLineOut_same (s : State) (m n : Nat) : (s.setLineOut m n).lineOut m = n :=
  cellGet_set_same ..

theorem State.setLineOut_sameBut (s : State) (m n : Nat) (offs : List Nat) : s.SameBut (s.setLineOut m n) offs :=
  .of_eq rfl rfl offs

theorem execDoorbellLineRead_of_read {t n : Nat} {m : Fin 4} {s : State} (h : s.lineUs m = some n) :
    execDoorbellLineRead t m s =
      .next (((s.at t).setLineOut m (s.lineOut m + 1)).emit (.hostRead (s.dbl m) 64)) := by
  simp [execDoorbellLineRead, h]

/-- Which rings run on a line is a matter of their registers. -/
theorem State.lineRings_of_regs {s u : State} (h : u.regs = s.regs) (m : Nat) (eth : Bool) :
    u.lineRings m eth = s.lineRings m eth := by
  simp only [State.lineRings, State.ringState, State.ringEth, State.bit, State.rd, State.reg, h]

/-- So is whether a slot word is misuse for a ring. -/
theorem State.tailBad_of_regs {s u : State} (h : u.regs = s.regs) (r : Nat) (w : Word) :
    u.tailBad r w = s.tailBad r w :=
  calc u.tailBad r w
      = ({ s with regs := u.regs } : State).tailBad r w := rfl
    _ = s.tailBad r w := by rw [h]

/-- A line whose words are no misuse gives every running ring on it its tail; `s` has the registers of `u`. -/
theorem State.evalLine_of_good {s u : State} (h : u.regs = s.regs) {m : Nat} {eth : Bool} {slots : List Word}
    (hgood : ((s.lineRings m eth).any fun r => s.tailBad r (wAt slots (s.rd (RNG_CFG r) RNG_CFG_slot))) = false) :
    u.evalLine m eth slots = .next ((s.lineRings m eth).foldl
      (fun s' r => s'.seeTail r (wAt slots (s.rd (RNG_CFG r) RNG_CFG_slot))) u) := by
  have hslot : ∀ r, u.rd (RNG_CFG r) RNG_CFG_slot = s.rd (RNG_CFG r) RNG_CFG_slot := fun r => by
    simp only [State.rd, State.reg, h]
  simp only [State.evalLine, State.lineRings_of_regs h, State.tailBad_of_regs h, hslot, hgood, Bool.false_eq_true,
    if_false]

theorem execLineReadReturn_of_good {t : Nat} {m : Fin 4} {slots : List Word} {s : State} (hout : s.lineOut m ≠ 0)
    (hgood : ((s.lineRings m false).any fun r => s.tailBad r (wAt slots (s.rd (RNG_CFG r) RNG_CFG_slot))) = false) :
    execLineReadReturn t m slots s = .next ((s.lineRings m false).foldl
      (fun s' r => s'.seeTail r (wAt slots (s.rd (RNG_CFG r) RNG_CFG_slot)))
        ((s.at t).setLineOut m (s.lineOut m - 1))) :=
  (if_neg hout).trans (State.evalLine_of_good rfl hgood)

/-! ### Descriptors (R94 to R96) -/

/-- A well-formed descriptor of a ring on PCIe joins the ring's list. -/
theorem execDescriptorArrival_of_good {t : Nat} {r : Fin 64} {ws : List Word} {s : State} {d : RDesc}
    (hrun : s.ringState r = rsRunning) (hawait : s.ringAwait r ≠ 0) (hstall : (s.at t).ringStalled r = false)
    (heth : s.ringEth r = false) (hgood : descBad ((List.range 16).map (wAt ws)) = false)
    (hop : opMisuse (s.ringTgt r) (s.ringFunc r) (s.rd (RNG_CFG r) RNG_CFG_dir) (bits (wAt ws 0) 31 24) = none)
    (hd : d = ⟨(s.ringHead r + (s.ring r).descs.length) % 2 ^ s.ringLog r + 2 ^ 16 * (s.ring r).epoch,
      (List.range 16).map (wAt ws), .read, false⟩) :
    execDescriptorArrival t r ws s = .next (((s.at t).setRing r { s.ring r with
      descs := (s.ring r).descs ++ [{ d with late := (s.at t).dueLate d }] }).settleRing r) := by
  have hfirst : wAt ((List.range 16).map (wAt ws)) 0 = wAt ws 0 := rfl
  subst hd
  simp [execDescriptorArrival, hrun, hawait, hstall, heth, hgood, RDesc.op, hfirst, hop]

theorem execNop_of_next {t : Nat} {r : Fin 64} {s : State} {d : RDesc}
    (h : s.opFor r (s.ringTgt r) (s.ringFunc r) 0 = some d) :
    execNop t r s = .next (((s.at t).endOp r d.slot stDone 0 0).settleRing r) := 
  State.ringOp_next (k := fun s d => .next (s.endOp r d.slot stDone 0 0)) ((s.opFor_at t ..).trans h) rfl

/-! ### Completions (R99, R100) -/

/-- The entries of the ended descriptors are written, then the doorbell word, then the interrupt if one asks for it. -/
theorem execCompletionWrite_of_ended {t : Nat} {r : Fin 64} {s x : State} (hx : x = (s.at t).settleRing r)
    (hl : (x.ring r).descs.takeWhile RDesc.done ≠ []) (hstall : x.ringStalled r = false)
    (hst : x.ringState r = rsRunning ∨ x.ringState r = rsDraining) (y : State)
    (hy : y = (((x.ring r).descs.takeWhile RDesc.done).foldl (fun s d => s.writeEntry r d) x).writeCdb r) :
    execCompletionWrite t r s = .next ((if ((x.ring r).descs.takeWhile RDesc.done).any RDesc.irq &&
      x.bit (RNG_POLL r) RNG_POLL_irq_en then y.ringIrq r else y).settleRing r) := by
  have hrun : (x.ringState r == rsRunning || x.ringState r == rsDraining) = true := by simpa using hst
  have hempty : ((x.ring r).descs.takeWhile RDesc.done).isEmpty = false := by simpa using hl
  subst hx hy
  simp only [execCompletionWrite, hempty, hstall, hrun, Bool.not_true, Bool.or_false, Bool.false_eq_true, if_false]

/-- Once the holdoff is over the ring's vector is sent, and a new holdoff begins. -/
theorem State.ringIrq_of_free {s : State} {r : Nat} (h : (s.ring r).irqFree ≤ s.cyc) :
    s.ringIrq r = (s.emit (.msix (s.rd (RNG_POLL r) RNG_POLL_vector))).setRing r
      { s.ring r with irqDue := false, irqFree := s.cyc + s.holdoff r } := if_neg (not_lt.2 h)

theorem execIrqHoldoffEnd_of_due {t : Nat} {r : Fin 64} {s : State} (hdue : (s.ring r).irqDue = true)
    (hfree : (s.ring r).irqFree ≤ max s.cyc t) (hst : s.ringState r ≠ rsHalted) :
    execIrqHoldoffEnd t r s = .next (((s.at t).emit (.msix (s.rd (RNG_POLL r) RNG_POLL_vector))).setRing r
      { s.ring r with irqDue := false, irqFree := max s.cyc t + s.holdoff r }) := by
  have hirq := State.ringIrq_of_free (s := s.at t) (r := r) hfree
  simp only [execIrqHoldoffEnd, State.ring_at, hdue, State.at_cyc, hfree, State.ringState_at, bne_iff_ne.2 hst, hirq,
    decide_true, Bool.and_self, if_true]
  rfl

/-! ### Ethernet carriage (R108, R109) -/

@[simp] theorem State.takesFrame_at (s : State) (t : Nat) (src : FrameSource) (kind n : Nat) :
    (s.at t).takesFrame src kind n = s.takesFrame src kind n := (rfl)

theorem State.memStore_regs (s : State) (a : Nat) (bs : List Byte) : (s.memStore a bs).regs = s.regs := by
  induction bs generalizing s a with
  | nil => rfl
  | cons b l ih => exact ih (s.memWr a b) (a + 1)

theorem execEthDoorbellFrame_of_good {t : Nat} {src : FrameSource} {m : Fin 4} {image ws : List Word} {s : State}
    (htakes : s.takesFrame src 1 68 = true) (hlen : frameBytes src = 68) (hws : ws = (List.range 16).map (wAt image))
    (hgood : ((s.lineRings m true).any fun r => s.tailBad r (wAt ws (s.rd (RNG_CFG r) RNG_CFG_slot))) = false) :
    execEthDoorbellFrame t src m image s = .next ((s.lineRings m true).foldl
      (fun s' r => s'.seeTail r (wAt ws (s.rd (RNG_CFG r) RNG_CFG_slot)))
        ((s.at t).memStore (s.dbl m) (wordsBytes ws))) := by
  subst hws
  exact (State.ringFrame_takes ((s.takesFrame_at t ..).trans htakes) (beq_iff_eq.2 hlen)).trans
    (State.evalLine_of_good (State.memStore_regs ..) hgood)

theorem execEthWriteFrame_of_good {t addr n : Nat} {src : FrameSource} {bs : List Byte} {s : State}
    (htakes : s.takesFrame src 2 (8 + bs.length) = true) (hn : n = frameBytes src - 8) (hlo : 1 ≤ n) (hhi : n ≤ 1024)
    (htop : addr + n ≤ sharedTop)
    (hfree : ((s.at t).moduleAreas.any fun x => decide (addr < x.1 + x.2) && decide (x.1 < addr + n)) = false) :
    execEthWriteFrame t src addr bs s = .next (((s.at t).memStore addr (bs.take n)).poisonEnds addr n) := by
  subst hn
  refine (State.ringFrame_takes ((s.takesFrame_at t ..).trans htakes) (by simp [hlo, hhi])).trans (if_neg ?_)
  rw [hfree]
  simpa using htop

theorem execEthReadFrame_of_good {t addr len : Nat} {src : FrameSource} {lo hi : Word} {s : State}
    (haddr : addr = u64 lo hi) (htakes : s.takesFrame src 3 12 = true) (hbytes : frameBytes src = 12) (hlo : 1 ≤ len)
    (hhi : len ≤ 1024) (htop : addr + len ≤ sharedTop) (hpoison : s.poisoned addr len = false)
    (hmirror : s.mirrorHit addr len = false) :
    execEthReadFrame t src lo hi len s = .next ((s.at t).sendFrame (packW [(4, 28), (bits src.w0 15 0, 0)])
      (packW [(len, 0)] :: bytesWords (s.memBytes addr len))) := by
  subst haddr
  refine (State.ringFrame_takes ((s.takesFrame_at t ..).trans htakes) (by simp [hbytes, hlo, hhi])).trans ?_
  simp only [State.mirrorHit_at, State.poisoned_at, not_lt.2 htop, hmirror, hpoison, Bool.false_eq_true, if_false]
  rfl

/-- Of the entries that pend, up to 32 leave in one frame, which takes the next sequence number. -/
theorem execCompletionFrameSend_of_due {t : Nat} {r : Fin 64} {s : State} {e : Nat × List Word}
    (hhead : (s.ring r).cqPend.head? = some e)
    (hdue : 32 ≤ (s.ring r).cqPend.length ∨ e.1 + s.holdoff r ≤ max s.cyc t) (hst : s.ringState r ≠ rsHalted)
    (l : List (List Word)) (hl : l = ((s.ring r).cqPend.take 32).map Prod.snd) (x : State)
    (hx : x = (s.at t).sendFrame (packW [(5, 28), (r.val, 22), (l.length, 16), (s.rng.frameSeq, 0)])
      (packW [(4 + 16 * l.length, 0)] :: s.cdbWord r :: l.flatten)) :
    execCompletionFrameSend t r s = .next ({ x with rng := { x.rng with
      frameSeq := (x.rng.frameSeq + 1) % 2 ^ 16 } }.setRing r
        { s.ring r with cqPend := (s.ring r).cqPend.drop 32 }) := by
  subst hl hx
  have hgo : (decide (32 ≤ (s.ring r).cqPend.length) || decide (e.1 + s.holdoff r ≤ max s.cyc t)) = true := by
    simpa using hdue
  simp only [execCompletionFrameSend, State.ring_at, hhead, State.holdoff_at, State.at_cyc, hgo, State.ringState_at,
    beq_eq_false_iff_ne.2 hst, Bool.not_true, Bool.or_false, Bool.false_eq_true, if_false]
  rfl

/-- Settles O6: one law for each command, above. -/
theorem doorbellDescriptorAndCompletionCommands : Obligations.DoorbellDescriptorAndCompletionCommands := by
  unfold Obligations.DoorbellDescriptorAndCompletionCommands
  refine ⟨?lineRead, ?lineReturn, ?descriptor, ?nop, ?completion, ?irq, ?doorbell, ?write, ?read, ?send⟩
  case lineRead =>
    exact fun t n m s h => ⟨_, execDoorbellLineRead_of_read h, rfl, State.lineOut_setLineOut_same (s.at t) m _,
      .of_eq rfl rfl _⟩
  case lineReturn => exact fun t m slots s hout hgood => execLineReadReturn_of_good hout hgood
  case descriptor =>
    exact fun t r ws s d hrun hawait hstall heth hgood hop hd =>
      execDescriptorArrival_of_good hrun hawait hstall heth hgood hop hd
  case nop => exact fun t r s d h => execNop_of_next h
  case completion =>
    exact fun t r s hl hstall hst => ⟨_, rfl, execCompletionWrite_of_ended rfl hl hstall hst _ rfl⟩
  case irq =>
    intro t r s hdue hfree hst
    refine ⟨_, execIrqHoldoffEnd_of_due hdue hfree hst, rfl, ?_, ?_, .of_eq rfl rfl _⟩ <;> rw [State.ring_setRing_same]
  case doorbell =>
    exact fun t src m image ws s htakes hlen hws hgood => execEthDoorbellFrame_of_good htakes hlen hws hgood
  case write =>
    exact fun t addr n src bs s htakes hn hlo hhi htop hfree _ =>
      ⟨execEthWriteFrame_of_good htakes hn hlo hhi htop hfree, fun i h => State.memRd_memStore_inside _ _ _ _ h,
        fun c h => State.memRd_memStore_outside (s.at t) _ _ _ h⟩
  case read =>
    exact fun t addr len src lo hi s haddr htakes hbytes hlo hhi htop hpoison hmirror =>
      execEthReadFrame_of_good haddr htakes hbytes hlo hhi htop hpoison hmirror
  case send =>
    intro t r s e hhead hdue hst
    refine ⟨_, execCompletionFrameSend_of_due hhead hdue hst _ rfl _ rfl, ?_, rfl, rfl, .of_eq rfl rfl _, rfl⟩
    rw [State.ring_setRing_same]

end Sys2Proof.Machine

/-! PROOFS. Fusion units, the collector, the position history, the delay measurement and receive rings (spec/10, R96,
R254 to R260, R266, R269 to R272). -/

namespace Sys2Proof.Machine

/-! ### Units and the collector (R254, R257, R259, R260) -/

/-- A unit of a kind other than LOSS_SECTORS whose first interval has settled issues its result to the collector. -/
theorem execFuIssue_of_settled {t : Nat} {u : Fin 16} {x : UInst} {rest : List UInst} {s : State}
    (hpend : (s.fu u).pend = x :: rest) (hruns : s.fusRuns = true) (hen : s.fuEn u = true) (hkind : s.fuKind u ≠ 0)
    (hloss : s.fuKind u ≠ 5) (hdue : x.cyc + us (s.rd (FUS_FU_SET u) FUS_FU_SET_settle) ≤ max s.cyc t) (f : FUnit)
    (hf : f = s.fu u) (y : State)
    (hy : y = (s.at t).setFu u { f with
      prev := x.at_, prevCyc := x.cyc, prevGnd := x.gnd, pend := rest, late := false
      smps := f.smps.filter fun q => decide (x.at_ < q.cap) }) :
    execFuIssue t u s = .next ({ y with fus := { y.fus with wait := y.fus.wait ++
      [(⟨u, s.fuSched u, x.seq, f.prev, x.at_, (s.at t).fuWords u x, 2 * max s.cyc t⟩ : FRes)] } }.freeAdd 9) := by
  subst hf hy
  simp only [execFuIssue, State.fu_at, hpend, State.fusRuns_at, hruns, State.fuEn_at, hen, State.fuKind_at,
    beq_eq_false_iff_ne.2 hkind, State.at_cyc, State.rd_at, not_lt.2 hdue, decide_false, beq_eq_false_iff_ne.2 hloss,
    Bool.not_true, Bool.false_and, Bool.or_false, Bool.false_eq_true, if_false]
  rfl

theorem execLateSample_of_late {t cap : Nat} {src : Fin 256} {v : HeldSample} {value : Word} {s : State}
    (hruns : s.fusRuns = true) (hlate : (s.at t).lateUnits ⟨src, cap, v.vals, v.speeds, false⟩ ≠ []) :
    execLateSample t src cap v value s = .next ((s.at t).sampleIn ⟨src, cap, v.vals, v.speeds, false⟩ false
      ((if v.defer then rfDefer else 0) ||| (if v.sat then rfSat else 0)) value) := by
  simp only [execLateSample, State.fusRuns_at, hruns, beq_eq_false_iff_ne.2 hlate, Bool.not_true, Bool.or_false,
    Bool.false_eq_true, if_false]

theorem execCollectorCommit_of_due {t : Nat} {k : Fin 16} {i : OpenInst} {s : State} (hruns : s.fusRuns = true)
    (hinst : ((s.at t).collect.sched k).inst = some i) (hdue : (s.at t).collect.commitDue k i = true) :
    execCollectorCommit t k s = .next ((s.at t).collect.commitSched k) := by
  simp [execCollectorCommit, hruns, hinst, hdue]

/-! ### The position history (R266) -/

/-- Keeping the crossings of the entry that leaves the history changes the list of crossings alone. -/
theorem State.keepCrossed_eq (s : State) : ∃ l, s.keepCrossed = s.setYld { s.fus.yld with crossed := l } := by
  unfold State.keepCrossed
  split
  · exact ⟨_, rfl⟩
  · split
    · exact ⟨_, rfl⟩
    · exact ⟨_, rfl⟩

/-- Seeing the header changes nothing but that it has been seen down. -/
theorem State.headerSeen_eq {s : State} (h : s.fusRuns = true) :
    s.headerSeen = s.setYld { s.fus.yld with down := s.headerDown || s.fus.yld.down } := by
  unfold State.headerSeen
  split
  next hnew =>
    simp only [h, Bool.true_and, Bool.and_eq_true] at hnew
    rw [hnew.1, Bool.true_or]
  next hold =>
    simp only [h, Bool.true_and, Bool.and_eq_true, Bool.not_eq_true', not_and, Bool.not_eq_false] at hold
    have hdown : (s.headerDown || s.fus.yld.down) = s.fus.yld.down := by
      cases e : s.headerDown
      · rfl
      · rw [hold e]; rfl
    rw [hdown]
    rfl

/-- The entry of this cycle joins the history, and a header that is down has been seen. -/
theorem execHistoryEntry_of_due {t : Nat} {s : State} (hruns : s.fusRuns = true)
    (hdue : s.fus.histAt + ms 10 ≤ max s.cyc t) : ∃ l, execHistoryEntry t s = .next { s.at t with fus := { s.fus with
      hist := ((s.at t).histNow :: s.fus.hist).take 4096
      histAt := max s.cyc t
      yld := { s.fus.yld with crossed := l, down := (s.at t).headerDown || s.fus.yld.down } } } := by
  obtain ⟨l, hl⟩ := (s.at t).keepCrossed_eq
  refine ⟨l, ?_⟩
  simp only [execHistoryEntry, State.fusRuns_at, hruns, State.at_fus, State.at_cyc, not_lt.2 hdue, decide_false,
    Bool.not_true, Bool.or_false, Bool.false_eq_true, if_false, hl]
  exact congrArg Host.Outcome.next (State.headerSeen_eq hruns)

/-! ### Yield records and the transport delay (R269, R270) -/

theorem execYieldFlashWrite_of_waiting {t : Nat} {s : State} (h : s.fus.yld.wait ≠ []) :
    execYieldFlashWrite t s = .next (s.at t).yieldFlush := by
  simp [execYieldFlashWrite, h]

section
variable {t : Nat} {s : State} (hruns : s.fusRuns = true) (hup : (s.at t).headerDown = false)
  (hdown : s.fus.yld.down = true)
include hruns hup hdown

/-- A header lift begins a measurement when adaptation is on, the history reaches back 5 s and the flow of that time is
large enough. -/
theorem execHeaderLift_of_steady {e : Hist} {fl : List (Nat × Int)}
    (hadapt : s.bit FUS_YLD_DLY FUS_YLD_DLY_adapt = true)
    (hfl : fl = s.fus.yld.flows.filter fun f => decide ((s.at t).mtime < f.1 + 5000000000)) (hne : fl ≠ [])
    (hlast : s.fus.hist.getLast? = some e) (hold : e.t + 5000000000 ≤ (s.at t).mtime)
    (hmean : (s.rd FUS_YLD_HDR FUS_YLD_HDR_fmin : Int) * 2 ^ 24 ≤ 10 * meanI (fl.map Prod.snd)) :
    execHeaderLift t s = .next ((s.at t).setYld { s.fus.yld with
      down := false, meas := some ((s.at t).mtime, meanI (fl.map Prod.snd)) }) := by
  subst hfl
  simp only [execHeaderLift, State.fusRuns_at, hruns, hup, State.at_fus, hdown, State.bit_at, hadapt,
    beq_eq_false_iff_ne.2 hne, hlast, hold, decide_true, State.rd_at, not_lt.2 hmean, decide_false, Bool.not_true,
    Bool.or_false, Bool.false_eq_true, if_false]
  rfl

theorem execHeaderLift_of_not_adapting (hadapt : s.bit FUS_YLD_DLY FUS_YLD_DLY_adapt = false) :
    execHeaderLift t s = .next ((s.at t).setYld { s.fus.yld with down := false }) := by
  simp [execHeaderLift, hruns, hup, hdown, hadapt]

end

theorem execDelayMeasurementEnd_of_over {t m : Nat} {x : Int} {s : State} (hmeas : s.fus.yld.meas = some (m, x))
    (hover : (s.at t).headerDown = true ∨ m + 100000000 * s.rd FUS_YLD_DLY FUS_YLD_DLY_dmax ≤ (s.at t).mtime) :
    execDelayMeasurementEnd t s = .next (s.at t).delayReject := by
  have hend : ((s.at t).headerDown || decide (m + 100000000 * s.rd FUS_YLD_DLY FUS_YLD_DLY_dmax ≤ (s.at t).mtime)) =
      true := by simpa using hover
  simp only [execDelayMeasurementEnd, State.at_fus, hmeas, State.rd_at]
  exact if_pos hend

/-! ### Receive rings (R96, R271, R272) -/

/-- A FILL of yield records also takes what waits in the store. -/
theorem execYieldFill_of_buffer {t : Nat} {r : Fin 64} {s : State} {d : RDesc} (h : s.opFor r 8 2 0x01 = some d)
    (hb : s.bufBad r d = false) (hl : 32 ≤ d.len) : execYieldFill t r s =
      .next ((((s.at t).startOp r d.slot).pumpAll 0x82).settleRing r).yieldPump := by
  have hfill := State.fill_next (s := s.at t) h hb (by omega) hl
  simp only [execYieldFill, hfill]

/-- A buffer that holds records completes when its time is over; only yield records have a store to go on from. -/
theorem execReceiveBufferTimeout_of_over {t len recs since : Nat} {r : Fin 64} {s : State} {d : RDesc}
    (hfill : s.filling r = some d) (hst : d.st = .started len recs since)
    (hrecv : isRecv (s.ringTgt r) (s.ringFunc r) = true) (hrecs : recs ≠ 0)
    (hover : since + (s.recvInfo (s.ringTgt r * 16 + s.ringFunc r)).time ≤ max s.cyc t)
    (hkey : s.ringTgt r * 16 + s.ringFunc r ≠ 0x82) :
    execReceiveBufferTimeout t r s = .next ((((s.at t).endOp r d.slot stDone len recs).pumpAll
      (s.ringTgt r * 16 + s.ringFunc r)).settleRing r) := by
  have hend : isRecv (s.ringTgt r) (s.ringFunc r) = true ∧ recs ≠ 0 ∧
      since + (s.recvInfo (s.ringTgt r * 16 + s.ringFunc r)).time ≤ max s.cyc t := ⟨hrecv, hrecs, hover⟩
  simp only [execReceiveBufferTimeout, State.filling_at, hfill, hst, State.ringTgt_at, State.ringFunc_at,
    State.recvInfo_at, State.at_cyc, if_pos hend, if_neg hkey]

/-- Settles O17: one law for each command, above. -/
theorem fusionAndYieldCommands : Obligations.FusionAndYieldCommands := by
  unfold Obligations.FusionAndYieldCommands
  refine ⟨?issue, ?late, ?commit, ?history, ?flash, ?lift, ?liftPlain, ?delayEnd, ?fills, ?yieldFill, ?timeout⟩
  case issue =>
    exact fun t u x rest s hpend hruns hen hkind hloss hdue =>
      execFuIssue_of_settled hpend hruns hen hkind hloss hdue _ rfl _ rfl
  case late => exact fun t cap src v value s hruns hlate => execLateSample_of_late hruns hlate
  case commit =>
    exact fun t k i s hruns hinst hdue => execCollectorCommit_of_due (t := t) (k := k) (s := s) hruns hinst hdue
  case history =>
    intro t s hruns hdue
    obtain ⟨l, hl⟩ := execHistoryEntry_of_due hruns hdue
    exact ⟨_, hl, rfl, rfl, rfl, .of_eq rfl rfl _⟩
  case flash => exact fun t s h => execYieldFlashWrite_of_waiting h
  case lift =>
    exact fun t e fl s hruns hup hdown hadapt hfl hne hlast hold hmean =>
      execHeaderLift_of_steady hruns hup hdown hadapt hfl hne hlast hold hmean
  case liftPlain => exact fun t s hruns hup hdown hadapt => execHeaderLift_of_not_adapting hruns hup hdown hadapt
  case delayEnd => exact fun t m x s hmeas hover => execDelayMeasurementEnd_of_over hmeas hover
  case fills =>
    exact fun t r s d hb hl => ⟨fun h => State.fill_next (s := s.at t) h hb (by omega) hl,
      fun h => State.fill_next (s := s.at t) h hb (by omega) (by omega)⟩
  case yieldFill => exact fun t r s d h hb hl => execYieldFill_of_buffer h hb hl
  case timeout =>
    exact fun t len recs since r s d hfill hst hrecv hrecs hover hkey =>
      execReceiveBufferTimeout_of_over hfill hst hrecv hrecs hover hkey

end Sys2Proof.Machine

/-! PROOFS. What a release makes of the schedule of a periodic event entry (spec/05, R132, R136). -/

namespace Sys2Proof.Machine

theorem dirSign_mul_self (fwd : Bool) : dirSign fwd * dirSign fwd = 1 := by cases fwd <;> rfl

/-- In the direction `d` an occurrence one period after the release lies beyond the next nominal position by what the
release lay beyond the old one, less the shortening. -/
theorem beyond_next_nominal {d : Int} (hd : d * d = 1) (nom ref per short : Int) :
    d * (ref + d * (per - short) - (nom + d * per)) = d * (ref - nom) - short := by
  linear_combination (-short) * hd

/-- The later, in the direction `d`, of that occurrence and the next nominal position. -/
theorem nextArm_eq {d : Int} (hd : d * d = 1) (nom ref per short : Int) :
    (if 0 < d * (ref - nom) - short then ref + d * (per - short) else nom + d * per)
      = nom + d * per + d * max 0 (d * (ref - nom) - short) := by
  split
  next hlate =>
    rw [max_eq_right hlate.le]
    linear_combination (nom - ref) * hd
  next hcaught => rw [max_eq_left (not_lt.1 hcaught), mul_zero, add_zero]

/-- How far the release's reference lies beyond the entry's nominal position, in the entry's own direction: below 0 for
one ahead of it. -/
def EvEntry.beyond (e : EvEntry) (p : Int) (onTime : Bool) : Int :=
  dirSign e.fwd * ((if onTime then e.arm else p) - e.nom)

/-- By how much a release shortens the period of an entry that lags. -/
def EvEntry.shortening (e : EvEntry) (f : Nat) : Nat := evPeriod e.act * f / 256

theorem EvEntry.shortening_zero (e : EvEntry) : e.shortening 0 = 0 := by simp [EvEntry.shortening]

/-- The entry of a periodic schedule after its release: one period on in its nominal position, and beyond that by what
the shortening leaves of the lag. -/
def EvEntry.periodicNext (e : EvEntry) (p : Int) (onTime : Bool) (f c : Nat) : EvEntry :=
  let nom := e.nom + dirSign e.fwd * (evPeriod e.act : Int)
  let arm := nom + dirSign e.fwd * max 0 (e.beyond p onTime - e.shortening f)
  { e with
    lag := (max 0 (e.beyond p onTime)).toNat, missed := false, leapt := false, nom := nom, arm := arm
    hit := if atOrPast e.fwd arm p then some c else none }

theorem EvEntry.advance_of_periodic {e : EvEntry} (h : evRepeat e.act = repPeriodic) (p : Int) (onTime : Bool)
    (f c : Nat) : (e.advance p onTime f c).1 = e.periodicNext p onTime f c := by
  have hd := dirSign_mul_self e.fwd
  simp only [EvEntry.periodicNext, EvEntry.beyond, EvEntry.shortening, ← nextArm_eq hd]
  simp only [EvEntry.advance, h, true_or, if_true, beyond_next_nominal hd]
  generalize (if onTime then e.arm else p) = ref
  split <;> rfl

section
variable (e : EvEntry) (p : Int) (onTime : Bool) (f c : Nat)

theorem EvEntry.lag_periodicNext : ((e.periodicNext p onTime f c).lag : Int) = max 0 (e.beyond p onTime) :=
  Int.toNat_of_nonneg (le_max_left _ _)

/-- What is left of the lag at the next occurrence. -/
theorem EvEntry.arm_sub_nom_periodicNext :
    dirSign e.fwd * ((e.periodicNext p onTime f c).arm - (e.periodicNext p onTime f c).nom)
      = max 0 (e.beyond p onTime - e.shortening f) := by
  simp only [EvEntry.periodicNext, add_sub_cancel_left]
  rw [← mul_assoc, dirSign_mul_self, one_mul]

end

/-- Settles O53: the release's entry in closed form, and the arithmetic of the next occurrence in the entry's own
direction. -/
theorem catchUpRegainsTheSchedule : Obligations.CatchUpRegainsTheSchedule := by
  unfold Obligations.CatchUpRegainsTheSchedule
  intro e p onTime f c h
  rw [EvEntry.advance_of_periodic h]
  have hdist := e.arm_sub_nom_periodicNext p onTime f c
  refine ⟨e.lag_periodicNext p onTime f c, rfl, rfl, hdist, fun hf => ?_, hdist.trans_le ?_⟩
  · subst hf
    rw [hdist, EvEntry.shortening_zero, Nat.cast_zero, sub_zero]
    rfl
  · exact max_le_max_left 0 (sub_le_self _ (Int.natCast_nonneg _))

end Sys2Proof.Machine

/-! PROOFS. The event table's ring operations and window commands, its hand-over and release (spec/05, R130 to R143). -/

namespace Sys2Proof.Machine

/-! ### Ring operations (R141, R143) -/

section
variable {t : Nat} {r : Fin 64} {s : State} {d : RDesc}

/-- A good write of shadow halves writes each of them, and commits it as asked. -/
theorem execNymWrite_of_good {buf : List Word} (h : s.opFor r 0x02 0 1 = some d)
    (hrange : bits (d.par 8) 13 0 + (d.len + 31) / 32 ≤ 16384) (hmode : bits (d.par 8) 17 16 ≠ 3) (hlen : d.len ≠ 0)
    (hwhole : d.len % 32 = 0) (htake : s.canTake r d (4 * buf.length) = true)
    (hnative : s.evK12 (bits (d.par 8) 13 0) (d.len / 32) = false)
    (hgood : (halves (s.bufWords r d buf) (d.len / 32)).any evBad = false) (x : State)
    (hx : x = ((halves (s.bufWords r d buf) (d.len / 32)).zipIdx (bits (d.par 8) 13 0)).foldl (fun s p =>
      if bits (d.par 8) 17 16 = 0 then s.evWrite p.2 p.1
      else (s.evWrite p.2 p.1).evCommit p.2 (bits (d.par 8) 17 16)) (s.at t)) :
    execNymWrite t r buf s = .next ((x.endSeq 2 r d.slot d.len x.hoNym).settleRing r) := by
  subst hx
  refine State.ringOp_next (s := s.at t) h ?_
  simp [not_lt.2 hrange, hmode, hlen, hwhole, hnative, hgood, htake]

theorem execNymCommit_of_good (h : s.opFor r 0x02 0 2 = some d)
    (hrange : bits (d.par 8) 13 0 + bits (d.par 9) 14 0 ≤ 16384) (hmode : bits (d.par 9) 17 16 ≠ 0)
    (hmode3 : bits (d.par 9) 17 16 ≠ 3) (hnative : s.evK12 (bits (d.par 8) 13 0) (bits (d.par 9) 14 0) = false)
    (x : State) (hx : x = (List.range (bits (d.par 9) 14 0)).foldl
      (fun s k => s.evCommit (bits (d.par 8) 13 0 + k) (bits (d.par 9) 17 16)) (s.at t)) :
    execNymCommit t r s = .next ((x.endSeq 2 r d.slot 0 x.hoNym).settleRing r) := by
  subst hx
  refine State.ringOp_next (s := s.at t) h ?_
  simp [not_lt.2 hrange, hmode, hmode3, hnative]

/-- A good read puts the items asked for into the buffer. -/
theorem execNymRead_of_good (h : s.opFor r 0x02 0 3 = some d)
    (hrange : bits (d.par 8) 13 0 + (d.len + 31) / 32 ≤ 16384) (hitem : bits (d.par 8) 17 16 ≠ 3) (hlen : d.len ≠ 0)
    (hwhole : d.len % 32 = 0) (hbuf : s.bufBad r d = false)
    (hnative : s.evK12 (bits (d.par 8) 13 0) (d.len / 32) = false) :
    execNymRead t r s = .next ((((s.at t).bufOut r d 0 ((List.range (d.len / 32)).flatMap fun k =>
      (s.at t).evItem (bits (d.par 8) 13 0 + k) (bits (d.par 8) 17 16))).endSeq 2 r d.slot d.len s.hoNym).settleRing
        r) := by
  refine State.ringOp_next (s := s.at t) h ?_
  simp [not_lt.2 hrange, hitem, hlen, hwhole, hnative, hbuf]

theorem execNymDisarm_of_good (h : s.opFor r 0x02 0 4 = some d)
    (hrange : bits (d.par 8) 13 0 + bits (d.par 9) 14 0 ≤ 16384)
    (hnative : s.evK12 (bits (d.par 8) 13 0) (bits (d.par 9) 14 0) = false) (x : State)
    (hx : x = (List.range (bits (d.par 9) 14 0)).foldl (fun s k => s.evDisarm (bits (d.par 8) 13 0 + k)) (s.at t)) :
    execNymDisarm t r s = .next ((x.endSeq 2 r d.slot 0 x.hoNym).settleRing r) := by
  subst hx
  refine State.ringOp_next (s := s.at t) h ?_
  simp [not_lt.2 hrange, hnative]

end

/-! ### The register window (R142) -/

/-- NYM_HO_SEQ latched after a window command. -/
def State.tblLatch (s : State) : State := (s.setReg NYM_TBL_SEQ (s.reg NYM_HO_SEQ)).hoNote 2 (.reg NYM_TBL_SEQ)

section
variable {s : State} (hr : s.readyReg NYM_TBL_CMD = true)
  (hnative : s.evK12 (s.rd NYM_TBL_IDX NYM_TBL_IDX_index) 1 = false)
include hr hnative

/-- A window command on a native entry acts on the selected entry, and latches NYM_HO_SEQ. -/
theorem State.tblCmd_next {u : State} {k : State → Nat → Out}
    (hk : k s (s.rd NYM_TBL_IDX NYM_TBL_IDX_index) = .next u) : s.tblCmd k = .next u.tblLatch := by
  simp only [State.tblCmd, State.tblLatch, hr, hnative, hk, Bool.not_true, Bool.or_false, Bool.false_eq_true, if_false]

theorem State.tblWrite_shadow (hgood : evBad s.tblData = false) :
    s.tblWrite 0 = .next (s.evWrite (s.rd NYM_TBL_IDX NYM_TBL_IDX_index) s.tblData).tblLatch :=
  State.tblCmd_next hr hnative (by simp [hgood])

theorem State.tblWrite_commit {mode : Nat} (hmode : mode ≠ 0) (hgood : evBad s.tblData = false) :
    s.tblWrite mode = .next ((s.evWrite (s.rd NYM_TBL_IDX NYM_TBL_IDX_index) s.tblData).evCommit
      (s.rd NYM_TBL_IDX NYM_TBL_IDX_index) mode).tblLatch :=
  State.tblCmd_next hr hnative (by simp [hgood, hmode])

theorem State.tblRead_item (item : Nat) : s.tblRead item =
    .next (s.setTblData (s.evItem (s.rd NYM_TBL_IDX NYM_TBL_IDX_index) item)).tblLatch :=
  State.tblCmd_next hr hnative rfl

theorem State.tblCmd_disarm : s.tblCmd (fun s i => .next (s.evDisarm i)) =
    .next (s.evDisarm (s.rd NYM_TBL_IDX NYM_TBL_IDX_index)).tblLatch :=
  State.tblCmd_next hr hnative rfl

end

/-! ### Hand-over and release (R134, R138) -/

/-- A commit now, or one at arm with no armed occurrence, takes over. -/
theorem execEventHandover_of_due {t : Nat} {i : Fin 16384} {s : State}
    (h : ((s.at t).evNow i).due (max s.cyc t) = 2 ∨
      (((s.at t).evNow i).due (max s.cyc t) = 1 ∧ ((s.at t).evNow i).armed = false)) :
    execEventHandover t i s = .next ((s.at t).evCopy i false) :=
  if_pos (by simpa using h)

theorem execEventRelease_of_next {t i : Nat} {s : State} (hcount : (s.at t).relCount < 4)
    (hnext : (s.at t).evNextRelease = some i) (hown : (s.at t).evForeign i = false) :
    execEventRelease t s = .next ((s.at t).evRelease i) := by
  simp [execEventRelease, not_le.2 hcount, hnext, hown]

/-- Settles O9: one law for each command, above. -/
theorem eventTableCommands : Obligations.EventTableCommands := by
  unfold Obligations.EventTableCommands
  refine ⟨?write, ?commit, ?read, ?disarm, ?winWrite, ?winRead, ?handover, ?release⟩
  case write =>
    exact fun t r buf s d h hrange hmode hlen hwhole htake hnative hgood =>
      ⟨_, rfl, execNymWrite_of_good h hrange hmode hlen hwhole htake hnative hgood _ rfl⟩
  case commit =>
    exact fun t r s d h hrange hmode hmode3 hnative =>
      ⟨_, rfl, execNymCommit_of_good h hrange hmode hmode3 hnative _ rfl⟩
  case read =>
    exact fun t r s d h hrange hitem hlen hwhole hbuf hnative =>
      execNymRead_of_good h hrange hitem hlen hwhole hbuf hnative
  case disarm => exact fun t r s d h hrange hnative => ⟨_, rfl, execNymDisarm_of_good h hrange hnative _ rfl⟩
  case winWrite =>
    exact fun t s hr hnative hgood => ⟨State.tblWrite_shadow (s := s.at t) hr hnative hgood,
      State.tblWrite_commit (s := s.at t) hr hnative (by decide) hgood,
      State.tblWrite_commit (s := s.at t) hr hnative (by decide) hgood⟩
  case winRead =>
    exact fun t s hr hnative => ⟨State.tblRead_item (s := s.at t) hr hnative 0,
      State.tblRead_item (s := s.at t) hr hnative 1, State.tblRead_item (s := s.at t) hr hnative 2,
      State.tblCmd_disarm (s := s.at t) hr hnative⟩
  case handover => exact fun t i s h => execEventHandover_of_due h
  case release => exact fun t i s hcount hnext hown => execEventRelease_of_next hcount hnext hown

end Sys2Proof.Machine

/-! PROOFS. Shafts, GROUND and the snapshot of all positions (spec/05, R114 to R126). -/

namespace Sys2Proof.Machine

/-! ### Enabling and disabling a shaft (R117, R123) -/

section
variable {t : Nat} {k : Fin 8} {v : Word} {s : State} (hr : s.readyReg (NYM_SHAFT_CFG k) = true)
  (hv : reservedOf (NYM_SHAFT_CFG k) v = 0#32) (hnative : s.shaftK12 k = false)
include hr hv hnative

theorem execShaftEnable_of_good (hoff : s.shaftEn k = false) (hen : NYM_SHAFT_CFG_en.get v ≠ 0)
    (hgood : s.shaftBad k (shaftCfgOf v (s.rd (NYM_SHAFT_GEO k) NYM_SHAFT_GEO_offset)) = false) :
    execShaftEnable t k v s = .next (((s.at t).store (NYM_SHAFT_CFG k) v).shaftSeek k) := by
  simp only [execShaftEnable, State.shaftEn_at, State.shaftK12_at, hoff, hnative, Bool.or_self,
    State.hostWrite_of_ready (s.at t) _ hr hv]
  simp [hen, hgood]

theorem execShaftDisable_of_enabled (hon : s.shaftEn k = true) (hen : NYM_SHAFT_CFG_en.get v ≠ 1) :
    execShaftDisable t k v s = .next (((s.at t).store (NYM_SHAFT_CFG k) v).shaftUnsync k) := by
  simp only [execShaftDisable, State.shaftK12_at, hnative, State.hostWrite_of_ready (s.at t) _ hr hv]
  simp [hen, hon]

end

/-! ### Edges, index pulses and stalls (R117, R118, R120) -/

/-- The record of shaft `k` at an edge of direction `fwd`: without rate and periods after a stall or a turn. -/
def State.edgeBase (s : State) (k : Nat) (fwd : Bool) : Shaft :=
  if s.bit (NYM_SHAFT_STAT k) NYM_SHAFT_STAT_stalled || fwd != (s.shaft k).fwd then (s.shaft k).fresh else s.shaft k

theorem State.cnt_edgeBase (s : State) (k : Nat) (fwd : Bool) : (s.edgeBase k fwd).cnt = (s.shaft k).cnt := by
  unfold State.edgeBase
  split <;> rfl

/-- The time since the last edge; none for a second edge in one cycle. -/
def Shaft.edgePeriod (h : Shaft) (c : Nat) : Option Nat :=
  if (h.tEdge.map fun a => c - a) = some 0 then none else h.tEdge.map fun a => c - a

/-- An edge of direction `fwd` in cycle `c`, taken into the record before its check. -/
def Shaft.withEdge (h : Shaft) (fwd : Bool) (c : Nat) : Shaft :=
  { h with
    fwd := fwd, tEdge := some c, stallFrom := c, cnt := h.cnt + dirSign fwd
    per := match h.edgePeriod c with
      | some n => n :: h.per.take 2
      | none => h.per }

/-- The check of an edge that a shaft's sync mode asks for. -/
def edgeCheck (c : ShaftCfg) (sync : Nat) (h : Shaft) : EdgeFinding × Shaft :=
  if c.mode = 0 then gapCheck c sync h else indexCheck c sync h

/-- An edge of an enabled shaft is taken into its record, checked, and reported. -/
theorem execShaftEdge_of_enabled {t : Nat} {k : Fin 8} {edge : ShaftEdge} {s : State} (hen : s.shaftEn k = true)
    (b : Shaft) (hb : b = (s.at t).edgeBase k ((s.at t).edgeFwd (s.shaftCfg k) edge)) (r : EdgeFinding × Shaft)
    (hcheck : r = edgeCheck (s.shaftCfg k) (s.shaftSync k)
      (b.withEdge ((s.at t).edgeFwd (s.shaftCfg k) edge) (max s.cyc t))) :
    execShaftEdge t k edge s = .next (((s.at t).shaftFound k (s.shaftCfg k) r.1 r.2
      (b.edgePeriod (max s.cyc t))).shaftReport k (s.shaftCfg k)) := by
  subst hcheck hb
  exact if_neg (by simp [hen])

/-- An index pulse closes the count of edges, and writes no register. -/
theorem execShaftIndexPulse_of_indexed {t : Nat} {k : Fin 8} {s : State} (hen : s.shaftEn k = true)
    (hmode : (s.shaftCfg k).mode ≠ 0) : execShaftIndexPulse t k s =
      .next ((s.at t).setShaft k { s.shaft k with idx := some (s.shaft k).cnt, cnt := 0 }) := by
  simp [execShaftIndexPulse, hen, hmode]

theorem State.shaft_setShaft_same (s : State) (k : Nat) (h : Shaft) : (s.setShaft k h).shaft k = h :=
  (cellGet_set ..).trans (if_pos rfl)

/-- With no edge for the stall time the shaft stops where it stands. -/
theorem execShaftStall_of_due {t : Nat} {k : Fin 8} {s : State} (hen : s.shaftEn k = true)
    (hmoves : s.bit (NYM_SHAFT_STAT k) NYM_SHAFT_STAT_stalled = false)
    (hdue : (s.shaft k).stallFrom + s.stallTime k ≤ max s.cyc t) (x : State)
    (hx : x = (s.at t).course (2 + k) fun s => s.setShaft k ((s.shaft k).hold s.cyc).fresh) :
    execShaftStall t k s = .next ((x.wr (NYM_SHAFT_STAT k) NYM_SHAFT_STAT_stalled 1).wr (NYM_SHAFT_STAT k)
      NYM_SHAFT_STAT_speed 0) := by
  subst hx
  simp only [execShaftStall, State.shaftEn_at, State.bit_at, State.at_cyc, State.shaft_at, State.stallTime_at, hen,
    hmoves, not_lt.2 hdue, Bool.not_true, decide_false, Bool.or_false, Bool.false_eq_true, if_false]

/-! ### GROUND (R124, R126) -/

section
variable {t : Nat} {s : State} (hen : s.gndEn = true)
include hen

/-- A wheel pulse after an earlier one gives the wheel's period. -/
theorem execWheelPulse_of_second {n c : Nat} (hwheel : s.wheelUsed = true)
    (hin : s.rd NYM_GND_CFG NYM_GND_CFG_wheel_in = n) (hlast : s.nym.gnd.lastPulse = some c) (hc : c < max s.cyc t) :
    execWheelPulse t n s = .next ((s.at t).setGnd { s.nym.gnd with
      lastPulse := some (max s.cyc t), wheel := some (max s.cyc t - c), dWheel := s.nym.gnd.dWheel + 1
      bothFast := s.nym.gnd.bothFast && s.wheelFast (max s.cyc t - c) }).gndRecalc.freeNext := by
  subst hin
  simp only [execWheelPulse, State.gndEn_at, State.wheelUsed_at, State.rd_at, State.at_nym, State.at_cyc, hen, hwheel,
    hlast, if_pos hc, Option.any_some, State.wheelFast_at, bne_self_eq_false, Bool.not_true, Bool.not_not,
    Bool.or_false, Bool.false_eq_true, if_false]

/-- With no pulse for the time of one the wheel stands. -/
theorem execWheelTimeout_of_due (hwheel : s.wheelUsed = true) (hmoves : s.nym.gnd.wheel ≠ some 0)
    (hdue : s.nym.gnd.lastPulse.getD s.nym.gnd.since + s.wheelTimeout ≤ max s.cyc t) :
    execWheelTimeout t s = .next (((s.at t).setGnd { s.nym.gnd with
      wheel := some 0, bothFast := false }).gndRecalc.freeNext) := by
  simp only [execWheelTimeout, State.gndEn_at, State.wheelUsed_at, State.at_nym, State.at_cyc, State.wheelTimeout_at,
    hen, hwheel, beq_eq_false_iff_ne.2 hmoves, not_lt.2 hdue, Bool.not_true, decide_false, Bool.or_false,
    Bool.false_eq_true, if_false]

/-- Once a second the counts start again, and the scale moves where both sources were fast all the time. -/
theorem execGroundScaleUpdate_of_due (hdue : s.nym.gnd.secFrom + sec 1 ≤ max s.cyc t) (x : State)
    (hx : x = (s.at t).setGnd { s.nym.gnd with
      secFrom := max s.cyc t, dWheel := 0, dGnss := 0, bothFast := (s.at t).bothFast }) (sc : Nat)
    (hsc : sc = nextScale s.nym.gnd.scale s.nym.gnd.dGnss (s.nym.gnd.dWheel * 16000000 / s.ppm)) :
    execGroundScaleUpdate t s = .next (
      if s.wheelUsed && s.gnssUsed && s.nym.gnd.bothFast && s.nym.gnd.wheel.isSome && s.nym.gnd.gnss.isSome
          && s.nym.gnd.dWheel != 0 then
        (((x.setGnd { x.nym.gnd with scale := sc }).wr NYM_GND_STAT NYM_GND_STAT_scale_dev
          ((((sc : Int) - 2 ^ 24) / 2 ^ 11) % 2 ^ 12).toNat).gndRecalc).freeNext
      else x) := by
  subst hx hsc
  rw [apply_ite Host.Outcome.next]
  exact if_neg (by simp only [State.gndEn_at, State.at_nym, State.at_cyc, hen, not_lt.2 hdue, Bool.not_true,
    decide_false, Bool.or_self, Bool.false_eq_true, not_false_eq_true])

/-- With no source for 200 ms GROUND coasts. -/
theorem execGroundCoast_of_due (hnot : s.bit NYM_GND_STAT NYM_GND_STAT_coast = false)
    (hwheel : (s.wheelUsed && s.nym.gnd.wheel.isSome) = false) (hgnss : (s.gnssUsed && s.nym.gnd.gnss.isSome) = false)
    (hdue : s.nym.gnd.srcAt + ms 200 ≤ max s.cyc t) :
    execGroundCoast t s = .next (((((s.at t).gndRate 0).gndSpeed 0).wr NYM_GND_STAT NYM_GND_STAT_coast 1).raise2
      0x0220 0) := by
  simp only [execGroundCoast, State.gndEn_at, State.bit_at, State.wheelUsed_at, State.gnssUsed_at, State.at_nym,
    State.at_cyc, hen, hnot, hwheel, hgnss, not_lt.2 hdue, Bool.not_true, decide_false, Bool.or_false,
    Bool.false_eq_true, if_false]

end

/-! ### The snapshot of all positions (R114) -/

/-- Position `p` in the snapshot registers of shaft `k`. -/
def State.latchShaft (s : State) (k : Nat) (p : Int) : State :=
  (s.setReg (NYM_SHAFT_POS_LO k) (lo32 (pos64 p))).setReg (NYM_SHAFT_POS_HI k) (hi32 (pos64 p))

/-- The snapshot registers of shaft `k` hold position `p`. -/
def State.ShaftLatched (s : State) (k : Nat) (p : Int) : Prop :=
  s.reg (NYM_SHAFT_POS_LO k) = lo32 (pos64 p) ∧ s.reg (NYM_SHAFT_POS_HI k) = hi32 (pos64 p)

theorem State.latchShaft_latched (s : State) (k : Nat) (p : Int) : (s.latchShaft k p).ShaftLatched k p := by
  have hne : NYM_SHAFT_POS_LO k ≠ NYM_SHAFT_POS_HI k := by simp only [NYM_SHAFT_POS_LO, NYM_SHAFT_POS_HI]; omega
  refine ⟨?_, State.reg_setReg_same ..⟩
  rw [State.latchShaft, State.reg_setReg_other _ _ _ _ hne, State.reg_setReg_same]

theorem State.latchShaft_sameBut (s : State) (k : Nat) (p : Int) :
    s.SameBut (s.latchShaft k p) [NYM_SHAFT_POS_LO k, NYM_SHAFT_POS_HI k] :=
  ((State.SameBut.of_eq rfl rfl _).setReg (by simp) _).setReg (by simp) _

/-- A snapshot stays where nothing writes its two registers. -/
theorem State.ShaftLatched.of_sameBut {s u : State} {offs : List Nat} {k : Nat} {p : Int} (h : s.ShaftLatched k p)
    (hu : s.SameBut u offs) (hoffs : NYM_SHAFT_POS_LO k ∉ offs ∧ NYM_SHAFT_POS_HI k ∉ offs) : u.ShaftLatched k p := by
  obtain ⟨hlo, hhi⟩ := h
  obtain ⟨hregs, -⟩ := hu
  exact ⟨(hregs _ hoffs.1).trans hlo, (hregs _ hoffs.2).trans hhi⟩

theorem State.latchShaft_keeps_latched {s : State} {j k : Nat} {q : Int} (p : Int) (hjk : j ≠ k)
    (h : s.ShaftLatched j q) : (s.latchShaft k p).ShaftLatched j q := by
  refine h.of_sameBut (s.latchShaft_sameBut k p) ?_
  simp only [NYM_SHAFT_POS_LO, NYM_SHAFT_POS_HI, List.mem_cons, List.not_mem_nil, or_false]
  omega

/-- All shafts latched, each at its own position. -/
def State.latchShafts (s : State) (p : Nat → Int) : State := (List.range 8).foldl (fun x k => x.latchShaft k (p k)) s

theorem State.latchShafts_latched (s : State) (p : Nat → Int) {k : Nat} (hk : k < 8) :
    (s.latchShafts p).ShaftLatched k (p k) := by
  refine foldl_establishes (P := fun x k => x.ShaftLatched k (p k)) (fun x k _ => x.latchShaft_latched k (p k)) ?_ s k
    (List.mem_range.2 hk)
  intro x k _ j _ h
  by_cases hjk : j = k
  · exact hjk ▸ x.latchShaft_latched j (p j)
  · exact State.latchShaft_keeps_latched _ hjk h

/-- The snapshot registers of the shafts. -/
def shaftSnapRegs : List Nat := (List.range 8).flatMap fun k => [NYM_SHAFT_POS_LO k, NYM_SHAFT_POS_HI k]

theorem State.latchShafts_sameBut (s : State) (p : Nat → Int) : s.SameBut (s.latchShafts p) shaftSnapRegs := by
  refine List.foldlRecOn (motive := fun x : State => s.SameBut x shaftSnapRegs) _ _ (.of_eq rfl rfl _) ?_
  intro x hx k hk
  have hregs : ∀ off ∈ [NYM_SHAFT_POS_LO k, NYM_SHAFT_POS_HI k], off ∈ shaftSnapRegs :=
    fun off h => List.mem_flatMap.2 ⟨k, hk, h⟩
  exact (hx.setReg (hregs _ (by simp)) _).setReg (hregs _ (by simp)) _

/-- Latching the position of GROUND leaves the shafts'. -/
theorem State.ShaftLatched.groundLatch {s : State} {k : Nat} {p : Int} (h : s.ShaftLatched k p) (hk : k < 8)
    (lo hi : Word) : ((s.setReg NYM_GND_POS_LO lo).setReg NYM_GND_POS_HI hi).ShaftLatched k p := by
  refine h.of_sameBut (((State.SameBut.of_eq rfl rfl [NYM_GND_POS_LO, NYM_GND_POS_HI]).setReg (by simp) _).setReg
    (by simp) _) ?_
  simp only [NYM_SHAFT_POS_LO, NYM_SHAFT_POS_HI, NYM_GND_POS_LO, NYM_GND_POS_HI, List.mem_cons, List.not_mem_nil,
    or_false]
  omega

theorem execMtimeSnapshotRead_of_ready {t : Nat} {s : State} (hr : s.readyReg NYM_MTIME_LO = true) :
    execMtimeSnapshotRead t s = .next (((((s.at t).setReg NYM_MTIME_HI (hi32 (s.at t).mtime)).latchShafts
      fun k => (s.at t).pos (2 + k)).setReg NYM_GND_POS_LO (lo32 (pos64 ((s.at t).pos 10)))).setReg NYM_GND_POS_HI
        (hi32 (pos64 ((s.at t).pos 10)))) :=
  if_neg (by simp [hr])

/-- Settles O8: one law for each command, above. -/
theorem shaftAndGroundCommands : Obligations.ShaftAndGroundCommands := by
  unfold Obligations.ShaftAndGroundCommands
  refine ⟨?enable, ?disable, ?edge, ?index, ?stall, ?pulse, ?timeout, ?scale, ?coast, ?snapshot⟩
  case enable =>
    exact fun t k v s hr hv hoff hnative hen hgood => execShaftEnable_of_good hr hv hnative hoff hen hgood
  case disable => exact fun t k v s hr hv hon hnative hen => execShaftDisable_of_enabled hr hv hnative hon hen
  case edge =>
    exact fun t k edge s hen => ⟨_, _, rfl, rfl, rfl, congrArg (· + _) (State.cnt_edgeBase (s.at t) k _),
      execShaftEdge_of_enabled hen _ rfl _ rfl⟩
  case index =>
    intro t k s hen hmode
    refine ⟨_, execShaftIndexPulse_of_indexed hen hmode, ?_, ?_, .of_eq rfl rfl _⟩ <;> rw [State.shaft_setShaft_same]
  case stall => exact fun t k s hen hmoves hdue => ⟨_, rfl, execShaftStall_of_due hen hmoves hdue _ rfl⟩
  case pulse =>
    exact fun t n c s hen hwheel hin hlast hc =>
      ⟨_, execWheelPulse_of_second hen hwheel hin hlast hc, rfl, rfl, rfl, .of_eq rfl rfl _⟩
  case timeout => exact fun t s hen hwheel hmoves hdue => execWheelTimeout_of_due hen hwheel hmoves hdue
  case scale => exact fun t s hen hdue => execGroundScaleUpdate_of_due hen hdue _ rfl _ rfl
  case coast => exact fun t s hen hnot hwheel hgnss hdue => execGroundCoast_of_due hen hnot hwheel hgnss hdue
  case snapshot =>
    intro t s hr
    obtain ⟨hregs, hmem⟩ := State.latchShafts_sameBut ((s.at t).setReg NYM_MTIME_HI (hi32 (s.at t).mtime))
      fun k => (s.at t).pos (2 + k)
    refine ⟨_, execMtimeSnapshotRead_of_ready hr, ?time, ?groundLo, State.reg_setReg_same .., fun k => ?shaft, ?memory⟩
    case time =>
      rw [State.reg_setReg_other _ _ _ _ (by decide), State.reg_setReg_other _ _ _ _ (by decide), hregs _ (by decide),
        State.reg_setReg_same]
    case groundLo => rw [State.reg_setReg_other _ _ _ _ (by decide), State.reg_setReg_same]
    case shaft => exact (State.latchShafts_latched _ _ k.isLt).groundLatch k.isLt _ _
    case memory =>
      simp only [State.memRd, State.setReg_mem] at hmem ⊢
      exact hmem

end Sys2Proof.Machine

/-! PROOFS. What one evaluation of a loop keeps of its limits (spec/06, R153, R158, R159, R163). -/

namespace Sys2Proof.Machine

/-! ### Clamping -/

theorem le_clampI (lo hi x : Int) : lo ≤ clampI lo hi x := le_max_left _ _

theorem clampI_le {lo hi : Int} (h : lo ≤ hi) (x : Int) : clampI lo hi x ≤ hi := max_le h (min_le_left _ _)

theorem clampI_of_mem {lo hi x : Int} (hlo : lo ≤ x) (hhi : x ≤ hi) : clampI lo hi x = x := by
  rw [clampI, min_eq_right hhi, max_eq_right hlo]

/-! ### The law (R158) -/

section
variable (ws : List Word) (pool : Nat → Int) (st : LawState) (y tgt f : Int) (auth : Bool) (range : Int × Int)

/-- The limited output ends in a clamp to u_min and u_max. -/
theorem lawStep_uLim_mem (h : lpS ws 13 ≤ lpS ws 14) :
    lpS ws 13 ≤ (lawStep ws pool st y tgt auth range f).uLim ∧
      (lawStep ws pool st y tgt auth range f).uLim ≤ lpS ws 14 :=
  ⟨le_clampI .., clampI_le h _⟩

/-- The code ends in a clamp to the range of the output's kind (R163). -/
theorem lawStep_code_mem (h : range.1 ≤ range.2) :
    range.1 ≤ (lawStep ws pool st y tgt auth range f).code ∧
      (lawStep ws pool st y tgt auth range f).code ≤ range.2 :=
  ⟨le_clampI .., clampI_le h _⟩

/-- The integrator, held or moved, ends in a clamp to i_lim. -/
theorem lawStep_integ_mem (h : 0 ≤ lpS ws 12) :
    -(lpS ws 12) ≤ (lawStep ws pool st y tgt auth range f).st.integ ∧
      (lawStep ws pool st y tgt auth range f).st.integ ≤ lpS ws 12 :=
  ⟨le_clampI .., clampI_le (neg_le_self h) _⟩

/-- Without authority the profile stands at the measurement (R159). -/
theorem lawStep_prof_of_noAuth : (lawStep ws pool st y tgt false range f).st.prof = ⟨y * 2 ^ 24, 0, 0⟩ := rfl

/-- Without authority the integrator is held, and only clamped (R159). -/
theorem lawStep_integ_of_noAuth :
    (lawStep ws pool st y tgt false range f).st.integ = clampI (-(lpS ws 12)) (lpS ws 12) st.integ := rfl

end

/-- Settles O48: the law clamps each of the three values last, and without authority the integrator's clamp finds it
within its limit. -/
theorem loopOutputStaysInItsLimits : Obligations.LoopOutputStaysInItsLimits := by
  unfold Obligations.LoopOutputStaysInItsLimits
  refine ⟨?limits, ?noAuth⟩
  case limits =>
    intro ws pool st y tgt f auth range hout hrange hint
    obtain ⟨hlo, hhi⟩ := lawStep_uLim_mem ws pool st y tgt f auth range hout
    obtain ⟨hclo, hchi⟩ := lawStep_code_mem ws pool st y tgt f auth range hrange
    exact ⟨hlo, hhi, hclo, hchi, lawStep_integ_mem ws pool st y tgt f auth range hint⟩
  case noAuth =>
    intro ws pool st y tgt f range hlo hhi
    exact ⟨lawStep_prof_of_noAuth .., (lawStep_integ_of_noAuth ..).trans (clampI_of_mem hlo hhi)⟩

end Sys2Proof.Machine

/-! PROOFS. The ring operations and the register window of the control engine (spec/06, R152, R172 to R174). -/

namespace Sys2Proof.Machine

section
variable {t : Nat} {r : Fin 64} {s : State} {d : RDesc}

/-! ### Host targets (R152, R172) -/

theorem execSetTarget_of_hostLoop (h : s.opFor r 0x03 0 1 = some d)
    (hhost : s.hostLoop (bits (d.par 8) 5 0) = true) :
    execSetTarget t r s = .next ((((s.at t).startOp r d.slot).writeTarget (bits (d.par 8) 5 0) 0 (sInt (d.par 9))
      (some (r, d.slot))).settleRing r) :=
  State.ringOp_next (s := s.at t) h (if_pos hhost)

/-- The pairs of loop and target in a buffer of SET_TARGETS, in buffer order. -/
def targetPairs (ws : List Word) (n : Nat) : List (Nat × Int) :=
  (List.range n).map fun i => (bits (wAt ws (2 * i)) 5 0, sInt (wAt ws (2 * i + 1)))

/-- One pair of operation `op` is written: of several for one loop the last is the one waited for. -/
def State.writePair (s : State) (op : Nat × Nat) (p : Nat × Int) : State :=
  (s.setLoop p.1 { s.loop p.1 with tgtOps := (s.loop p.1).tgtOps.filter fun o => o.1 != op }).writeTarget p.1 0 p.2
    (some op)

/-- SET_TARGETS starts: it waits for each loop of its pairs. -/
def State.startTargets (s : State) (r slot : Nat) (ps : List (Nat × Int)) : State :=
  let y := s.startOp r slot
  { y with cle := { y.cle with tgts := y.cle.tgts ++ [⟨(r, slot), (ps.map Prod.fst).dedup, ps.length, false⟩] } }

/-- Pairs that all name loops which take host targets are written one after another. -/
theorem execSetTargets_of_hostLoops {buf : List Word} {ps : List (Nat × Int)} (h : s.opFor r 0x03 0 2 = some d)
    (hwhole : d.len % 8 = 0) (hlen : d.len ≠ 0) (htake : s.canTake r d (4 * buf.length) = true)
    (hps : ps = targetPairs (s.bufWords r d buf) (d.len / 8)) (hhost : (ps.all fun p => s.hostLoop p.1) = true) :
    execSetTargets t r buf s = .next ((ps.foldl (fun x p => x.writePair (r, d.slot) p)
      ((s.at t).startTargets r d.slot ps)).settleRing r) := by
  subst hps
  refine State.ringOp_next (s := s.at t) h ?_
  simp only [hwhole, hlen, ne_eq, not_true_eq_false, if_false, State.takesBuf_eq ((State.canTake_at ..).trans htake)]
  exact if_pos hhost

/-! ### Loop halves and run states (R173) -/

/-- A good write of shadow halves writes each of them, and commits it when asked. -/
theorem execCleWrite_of_good {buf : List Word} {hs : List (List Word × Nat)} (h : s.opFor r 0x03 1 0x10 = some d)
    (hrange : bits (d.par 8) 5 0 + (d.len + 127) / 128 ≤ 64) (hmode : bits (d.par 8) 17 16 ≤ 1)
    (hwhole : d.len % 128 = 0) (htake : s.canTake r d (4 * buf.length) = true)
    (hhs : hs = (itemsOf (s.bufWords r d buf) 32 (d.len / 128)).zipIdx (bits (d.par 8) 5 0))
    (hgood : (hs.any fun p => lpBad p.2 p.1) = false) (x : State)
    (hx : x = hs.foldl (fun s p => if bits (d.par 8) 17 16 = 1 then (s.loopWrite p.2 p.1).loopCommit p.2
      else s.loopWrite p.2 p.1) (s.at t)) :
    execCleWrite t r buf s = .next ((x.endSeq 3 r d.slot d.len x.hoCle).settleRing r) := by
  subst hhs hx
  refine State.ringOp_next (s := s.at t) h ?_
  simp [not_lt.2 hrange, not_le.2 (Nat.lt_succ_of_le hmode), hwhole, hgood, htake]

theorem execCleCommit_of_good (h : s.opFor r 0x03 1 0x11 = some d)
    (hrange : bits (d.par 8) 5 0 + bits (d.par 9) 6 0 ≤ 64) :
    execCleCommit t r s = .next ((((List.range (bits (d.par 9) 6 0)).foldl
      (fun s k => s.loopCommit (bits (d.par 8) 5 0 + k)) (s.at t)).endSeq 3 r d.slot 0 s.hoCle).settleRing r) :=
  State.ringOp_next (s := s.at t) h (if_neg (not_lt.2 hrange))

/-- A good read puts the items asked for into the buffer. -/
theorem execCleRead_of_good (h : s.opFor r 0x03 1 0x12 = some d)
    (hrange : bits (d.par 8) 5 0 + (d.len + 127) / 128 ≤ 64) (hitem : bits (d.par 8) 17 16 ≠ 3)
    (hwhole : d.len % 128 = 0) (hbuf : s.bufBad r d = false) :
    execCleRead t r s = .next ((((s.at t).bufOut r d 0 ((List.range (d.len / 128)).flatMap fun k =>
      s.loopItem (bits (d.par 8) 5 0 + k) (bits (d.par 8) 17 16))).endSeq 3 r d.slot d.len s.hoCle).settleRing r) := by
  refine State.ringOp_next (s := s.at t) h ?_
  simp [not_lt.2 hrange, hitem, hwhole, hbuf]

theorem execClearState_of_good (h : s.opFor r 0x03 1 0x13 = some d)
    (hrange : bits (d.par 8) 5 0 + bits (d.par 9) 6 0 ≤ 64) :
    execClearState t r s = .next ((((List.range (bits (d.par 9) 6 0)).foldl
      (fun s k => s.loopClear (bits (d.par 8) 5 0 + k)) (s.at t)).endSeq 3 r d.slot 0 s.hoCle).settleRing r) :=
  State.ringOp_next (s := s.at t) h (if_neg (not_lt.2 hrange))

/-! ### The pool (R173) -/

section
variable (hrange : bits (d.par 8) 12 0 + (d.len + 3) / 4 ≤ 8192) (hwhole : d.len % 4 = 0)
include hrange hwhole

theorem execPoolWrite_of_good {buf : List Word} (h : s.opFor r 0x03 1 0x14 = some d)
    (htake : s.canTake r d (4 * buf.length) = true) :
    execPoolWrite t r buf s = .next (((((s.bufWords r d buf).zipIdx (bits (d.par 8) 12 0)).foldl
      (fun s p => s.setPool p.2 p.1) (s.at t)).endSeq 3 r d.slot d.len s.hoCle).settleRing r) := by
  refine State.ringOp_next (s := s.at t) h ?_
  simp [not_lt.2 hrange, hwhole, htake]

theorem execPoolRead_of_good (h : s.opFor r 0x03 1 0x15 = some d) (hbuf : s.bufBad r d = false) :
    execPoolRead t r s = .next ((((s.at t).bufOut r d 0 ((List.range (d.len / 4)).map fun k =>
      s.poolAt (bits (d.par 8) 12 0 + k))).endSeq 3 r d.slot d.len s.hoCle).settleRing r) := by
  refine State.ringOp_next (s := s.at t) h ?_
  simp [not_lt.2 hrange, hwhole, hbuf]

end
end

/-! ### The register window (R174) -/

/-- CLE_HO_SEQ latched after a window command. -/
def State.winLatch (s : State) : State := (s.setReg CLE_WIN_SEQ (s.reg CLE_HO_SEQ)).hoNote 3 (.reg CLE_WIN_SEQ)

section
variable {s : State} (hr : s.readyReg CLE_WIN_CMD = true)
include hr

/-- A window command acts on the selected loop, and latches CLE_HO_SEQ. -/
theorem State.winCmd_next {u : State} {k : State → Nat → Out}
    (hk : k s (s.rd CLE_WIN_IDX CLE_WIN_IDX_loop) = .next u) : s.winCmd k = .next u.winLatch := by
  simp only [State.winCmd, State.winLatch, hr, hk, Bool.not_true, Bool.false_eq_true, if_false]

theorem State.winWrite_shadow (hgood : lpBad (s.rd CLE_WIN_IDX CLE_WIN_IDX_loop) s.winData = false) :
    s.winWrite false = .next (s.loopWrite (s.rd CLE_WIN_IDX CLE_WIN_IDX_loop) s.winData).winLatch :=
  State.winCmd_next hr (by simp [hgood])

theorem State.winWrite_commit (hgood : lpBad (s.rd CLE_WIN_IDX CLE_WIN_IDX_loop) s.winData = false) :
    s.winWrite true = .next ((s.loopWrite (s.rd CLE_WIN_IDX CLE_WIN_IDX_loop) s.winData).loopCommit
      (s.rd CLE_WIN_IDX CLE_WIN_IDX_loop)).winLatch :=
  State.winCmd_next hr (by simp [hgood])

theorem State.winRead_item (item : Nat) : s.winRead item =
    .next (s.setWinData (s.loopItem (s.rd CLE_WIN_IDX CLE_WIN_IDX_loop) item)).winLatch :=
  State.winCmd_next hr rfl

theorem State.winCmd_clear : s.winCmd (fun s n => .next (s.loopClear n)) =
    .next (s.loopClear (s.rd CLE_WIN_IDX CLE_WIN_IDX_loop)).winLatch :=
  State.winCmd_next hr rfl

end

/-- The pool word selected is written where the access carries one. -/
def State.poolAccess (s : State) : Option Word → State
  | some w => s.setPool (s.rd CLE_POOL_IDX CLE_POOL_IDX_index) w
  | none => s

theorem execPoolDataAccess_of_ready {t : Nat} {s : State} (hr : s.readyReg CLE_POOL_DATA = true) (v : Option Word) :
    execPoolDataAccess t v s = .next (
      if s.bit CLE_POOL_IDX CLE_POOL_IDX_autoinc then
        ((s.at t).poolAccess v).wr CLE_POOL_IDX CLE_POOL_IDX_index ((s.rd CLE_POOL_IDX CLE_POOL_IDX_index + 1) % 8192)
      else (s.at t).poolAccess v) := by
  cases v <;> exact if_neg (by simp [hr])

/-- Settles O11: one law for each command, above. -/
theorem loopRingAndWindowCommands : Obligations.LoopRingAndWindowCommands := by
  unfold Obligations.LoopRingAndWindowCommands
  refine ⟨?target, ?targets, ?write, ?commit, ?read, ?clear, ?poolWrite, ?poolRead, ?winWrite, ?winRead, ?poolData⟩
  case target => exact fun t r s d h hhost => execSetTarget_of_hostLoop h hhost
  case targets =>
    exact fun t r buf s d ps h hwhole hlen htake hps hhost =>
      ⟨_, rfl, execSetTargets_of_hostLoops h hwhole hlen htake hps hhost⟩
  case write =>
    exact fun t r buf s d hs h hrange hmode hwhole htake hhs hgood =>
      ⟨_, rfl, execCleWrite_of_good h hrange hmode hwhole htake hhs hgood _ rfl⟩
  case commit => exact fun t r s d h hrange => execCleCommit_of_good h hrange
  case read => exact fun t r s d h hrange hitem hwhole hbuf => execCleRead_of_good h hrange hitem hwhole hbuf
  case clear => exact fun t r s d h hrange => execClearState_of_good h hrange
  case poolWrite => exact fun t r buf s d h hrange hwhole htake => execPoolWrite_of_good hrange hwhole h htake
  case poolRead => exact fun t r s d h hrange hwhole hbuf => execPoolRead_of_good hrange hwhole h hbuf
  case winWrite =>
    exact fun t s hr hgood => ⟨State.winWrite_shadow (s := s.at t) hr hgood,
      State.winWrite_commit (s := s.at t) hr hgood⟩
  case winRead =>
    exact fun t s hr => ⟨State.winRead_item (s := s.at t) hr 0, State.winRead_item (s := s.at t) hr 1,
      State.winRead_item (s := s.at t) hr 2, State.winCmd_clear (s := s.at t) hr⟩
  case poolData =>
    intro t v s hr
    cases v with
    | none => exact execPoolDataAccess_of_ready hr none
    | some w => exact execPoolDataAccess_of_ready hr (some w)

end Sys2Proof.Machine

/-! PROOFS. What the voter makes of the records of three and of two live cores (spec/07, R177 to R181). -/

namespace Sys2Proof.Machine

/-- Two cores deliver the same record; a missing record equals no other. -/
def SameRecord (a b : Option (List Word)) : Prop := a ≠ none ∧ a = b

theorem sameRecord_iff {a b : Option (List Word)} : SameRecord a b ↔ ∃ w, a = some w ∧ b = some w := by
  cases a with
  | none => simp [SameRecord]
  | some u => simp [SameRecord, eq_comm]

theorem sameRecord_some {u : List Word} {b : Option (List Word)} : SameRecord (some u) b ↔ b = some u := by
  simp [SameRecord, eq_comm]

section
variable {i j k : Nat} {a b c : Option (List Word)}

/-! ### Two live cores (R181) -/

theorem verdict_two_of_same (u : List Word) : verdict [(i, some u), (j, some u)] = .apply u := by simp [verdict]

theorem verdict_two_of_not_same (h : ¬ SameRecord a b) : verdict [(i, a), (j, b)] = .escalate 0x0410 := by
  cases a with
  | none => rfl
  | some u => exact if_neg fun e => h ⟨Option.some_ne_none u, e⟩

/-! ### Three live cores (R179) -/

theorem verdict_three_of_same (u : List Word) : verdict [(i, some u), (j, some u), (k, some u)] = .apply u := by
  simp [verdict]

theorem verdict_three_of_third_alone {u : List Word} (h : c ≠ some u) :
    verdict [(i, some u), (j, some u), (k, c)] = .drop u k := by simp [verdict, h]

theorem verdict_three_of_second_alone {u : List Word} (h : b ≠ some u) :
    verdict [(i, some u), (j, b), (k, some u)] = .drop u j := by
  cases b with
  | none => simp [verdict]
  | some v =>
    have hne : u ≠ v := fun e => h (congrArg some e.symm)
    simp [verdict, hne]

theorem verdict_three_of_first_alone {u : List Word} (h : a ≠ some u) :
    verdict [(i, a), (j, some u), (k, some u)] = .drop u i := by
  cases a with
  | none => simp [verdict]
  | some v =>
    have hne : v ≠ u := fun e => h (congrArg some e)
    simp [verdict, hne, hne.symm]

theorem verdict_three_of_none_same (hab : ¬ SameRecord a b) (hac : ¬ SameRecord a c) (hbc : ¬ SameRecord b c) :
    verdict [(i, a), (j, b), (k, c)] = .escalate 0x0411 := by
  cases a with
  | none =>
    cases b with
    | none => rfl
    | some v =>
      cases c with
      | none => rfl
      | some w => exact if_neg fun e => hbc (sameRecord_some.2 (congrArg some e.symm))
  | some u =>
    rw [sameRecord_some] at hab hac
    cases b with
    | none =>
      cases c with
      | none => rfl
      | some w => exact if_neg fun e => hac (congrArg some e.symm)
    | some v =>
      rw [sameRecord_some] at hbc
      have hne : u ≠ v := fun e => hab (congrArg some e.symm)
      simp [verdict, hne, hac, hbc]

end

/-- Which of three cores deliver one record: all, all but one, or no two of them. -/
theorem three_records_cases (a b c : Option (List Word)) :
    (∃ u, a = some u ∧ b = some u ∧ c = some u) ∨ (∃ u, a = some u ∧ b = some u ∧ c ≠ some u) ∨
      (∃ u, a = some u ∧ c = some u ∧ b ≠ some u) ∨ (∃ u, b = some u ∧ c = some u ∧ a ≠ some u) ∨
        (¬ SameRecord a b ∧ ¬ SameRecord a c ∧ ¬ SameRecord b c) := by
  simp only [sameRecord_iff]
  by_cases hab : ∃ u, a = some u ∧ b = some u
  · obtain ⟨u, rfl, rfl⟩ := hab
    by_cases hc : c = some u
    · exact .inl ⟨u, rfl, rfl, hc⟩
    · exact .inr (.inl ⟨u, rfl, rfl, hc⟩)
  by_cases hac : ∃ u, a = some u ∧ c = some u
  · obtain ⟨u, rfl, rfl⟩ := hac
    exact .inr (.inr (.inl ⟨u, rfl, rfl, fun hb => hab ⟨u, rfl, hb⟩⟩))
  by_cases hbc : ∃ u, b = some u ∧ c = some u
  · obtain ⟨u, rfl, rfl⟩ := hbc
    exact .inr (.inr (.inr (.inl ⟨u, rfl, rfl, fun ha => hab ⟨u, ha, rfl⟩⟩)))
  exact .inr (.inr (.inr (.inr ⟨hab, hac, hbc⟩)))

/-- Settles O45: in each case of which cores agree the verdict is known, and it is none of the others. -/
theorem votingTakesTheMajority : Obligations.VotingTakesTheMajority := by
  unfold Obligations.VotingTakesTheMajority
  refine ⟨fun a b c w => ?three, fun i j a b w => ?two⟩
  case three =>
    obtain ⟨u, rfl, rfl, rfl⟩ | ⟨u, rfl, rfl, hc⟩ | ⟨u, rfl, rfl, hb⟩ | ⟨u, rfl, rfl, ha⟩ | ⟨hab, hac, hbc⟩ :=
      three_records_cases a b c
    · rw [verdict_three_of_same]
      grind
    · rw [verdict_three_of_third_alone hc]
      grind
    · rw [verdict_three_of_second_alone hb]
      grind
    · rw [verdict_three_of_first_alone ha]
      grind
    · rw [verdict_three_of_none_same hab hac hbc]
      exact ⟨⟨nofun, fun ⟨ha, hb, _⟩ => (hab (sameRecord_iff.2 ⟨w, ha, hb⟩)).elim⟩,
        ⟨nofun, fun ⟨hb, hc, _⟩ => (hbc (sameRecord_iff.2 ⟨w, hb, hc⟩)).elim⟩,
        ⟨nofun, fun ⟨ha, hc, _⟩ => (hac (sameRecord_iff.2 ⟨w, ha, hc⟩)).elim⟩,
        ⟨nofun, fun ⟨ha, hb, _⟩ => (hab (sameRecord_iff.2 ⟨w, ha, hb⟩)).elim⟩, fun _ => ⟨hab, hac, hbc⟩, fun _ => rfl⟩
  case two =>
    by_cases h : SameRecord a b
    · obtain ⟨u, rfl, rfl⟩ := sameRecord_iff.1 h
      rw [verdict_two_of_same]
      simp
    · rw [verdict_two_of_not_same h]
      exact ⟨⟨nofun, fun hw => (h (sameRecord_iff.2 ⟨w, hw⟩)).elim⟩, fun _ => h, fun _ => rfl⟩

end Sys2Proof.Machine

/-! PROOFS. Commits, lapsed leases, limp-home's safe states and the steering override (spec/07, R177 to R189). -/

namespace Sys2Proof.Machine

/-! ### COMMIT_VOTE (R177, R179, R181) -/

/-- The commit ends in `u`, unless the machine state that its record sets is misuse of an open test session. -/
def State.commitTo (s u : State) : Out := if u.tstUnsafe && !s.tstUnsafe then .fault .testMisuse else .next u

theorem State.commitTo_of_safe {s u : State} (h : (u.tstUnsafe && !s.tstUnsafe) = false) : s.commitTo u = .next u := by
  rw [State.commitTo, h]
  rfl

/-- What a verdict does to a commit of plan `p`, whose record is `mine`, tracked to state `x`. -/
def State.carryVerdict (s : State) (p : Plan) (mine : List Word) (x : State) : Verdict → Out
  | .apply ws => s.commitTo (State.applyRecord s p mine ws x).commitNext
  | .drop ws c => s.commitTo ((State.applyRecord s p mine ws x).tailDrop c).commitNext
  | .escalate code => .next (s.raise0 code 0 0)

/-- A commit whose records are all there, or waited for no longer, carries out the voter's verdict. -/
theorem execCommitVote_of_due {t : Nat} {c0 c1 c2 : CoreRec} {s : State} {p : Plan} {mine : List Word} {v : Verdict}
    (hr : (s.at t).ready 4 = true) (hmode : s.triMode ≠ modeLimp) (hdue : s.tri.due ≤ max s.cyc t)
    (hp : p = (s.at t).expireAll.plan (s.at t).tracked.2) (hmine : mine = (s.at t).planRecord p)
    (hrecs : ((s.liveRecs mine c0 c1 c2).any fun x => x.2.isNone) = false ∨ s.tri.due + us 100 ≤ max s.cyc t)
    (hv : verdict (s.liveRecs mine c0 c1 c2) = v) :
    execCommitVote t c0 c1 c2 s = (s.at t).carryVerdict p mine (s.at t).tracked.1 v := by
  have hgo : ¬ (!(s.at t).ready 4 || (s.at t).triMode == modeLimp ||
      decide ((s.at t).cyc < (s.at t).tri.due)) = true := by
    simp only [hr, State.triMode_at, beq_eq_false_iff_ne.2 hmode, State.at_tri, State.at_cyc, not_lt.2 hdue,
      Bool.not_true, decide_false, Bool.or_self, Bool.false_eq_true, not_false_eq_true]
  have hvote : ¬ (((s.liveRecs mine c0 c1 c2).any fun x => x.2.isNone) &&
      decide ((s.at t).cyc < (s.at t).tri.due + us 100)) = true := by
    simpa [or_iff_not_imp_left] using hrecs
  simp only [execCommitVote]
  rw [if_neg hgo, ← hp, ← hmine, State.liveRecs_at, if_neg hvote, hv]
  cases v <;> rfl

/-! ### Limp-home and lease ends (R182, R186, R188) -/

/-- Limp-home's sequencer acts once, on each group that limp-home holds; an active override input keeps group 0 from
it. -/
theorem execLimpSafeStateApply_of_limp {t : Nat} {s : State} (hmode : s.triMode = modeLimp)
    (hdone : s.tri.limpDone = false) (hhold : s.pow.holdUp = none) : execLimpSafeStateApply t s =
      .next ((List.range 32).foldl (fun u g =>
        if u.limpHeld g && (u.group g).granted
          && !(g == 0 && (s.bit TRI_OVR_STAT TRI_OVR_STAT_act0 || s.bit TRI_OVR_STAT TRI_OVR_STAT_act1))
        then u.applySafe g else u) { s.at t with tri := { s.tri with limpDone := true } }) :=
  if_neg (by simp [hmode, hdone, hhold])

theorem execLeaseExpiry_of_lapsed {t : Nat} {g : Fin 32} {s : State} (hheld : s.holder g ≠ 0)
    (hover : (s.group g).expiry ≤ max s.cyc t) : execLeaseExpiry t g s = .next ((s.at t).leaseExpire g) :=
  if_pos (by simp [State.lapsed, hheld, hover])

theorem execHoldLimitEnd_of_over {t c : Nat} {g : Fin 32} {s : State} (hhold : (s.group g).holdEnd = some c)
    (hover : c ≤ max s.cyc t) : execHoldLimitEnd t g s =
      .next ((((s.at t).keepLease g).setGroup g { s.group g with holdEnd := none }).safeOff g) := by
  simp [execHoldLimitEnd, hhold, not_lt.2 hover]

/-! ### The steering override (R189) -/

theorem ovrAct_wd (n : Nat) : (ovrAct n).wd = 1 := by
  unfold ovrAct
  split <;> rfl

theorem ovrAct_fits (n : Nat) : (ovrAct n).lo + (ovrAct n).wd ≤ 32 := by
  unfold ovrAct
  split <;> decide

theorem State.bit_wr_field (s : State) (off : Nat) (f g : Fld) (v : Nat) (k : f.lo + f.wd ≤ 32)
    (h : g.lo + g.wd ≤ f.lo ∨ f.lo + f.wd ≤ g.lo) : (s.wr off f v).bit off g = s.bit off g := by
  rw [State.bit, State.bit, State.rd_wr_field _ _ _ _ _ k h]

theorem execOverrideActive_of_enabled {t : Nat} {n : Fin 2} {s : State} (hr : (s.at t).ready 4 = true)
    (hen : s.bit (TRI_OVR_CFG n) TRI_OVR_CFG_en = true) (hidle : s.bit TRI_OVR_STAT (ovrAct n) = false) :
    execOverrideActive t n s = .next (((s.at t).keepOvr.wr TRI_OVR_STAT (ovrAct n) 1).overrideRevoke n) :=
  if_neg (by simp [hr, hen, hidle])

theorem execOverrideInactive_of_active {t : Nat} {n : Fin 2} {s : State}
    (hact : s.bit TRI_OVR_STAT (ovrAct n) = true) : execOverrideInactive t n s = .next ((s.at t).ovrOff n) :=
  if_pos hact

/-- Where the rearm time starts, no further register changes. -/
theorem State.ovrOff_regs (s : State) (n : Nat) :
    (s.ovrOff n).regs = (s.keepOvr.wr TRI_OVR_STAT (ovrAct n) 0).regs := by
  dsimp only [State.ovrOff]
  split <;> rfl

theorem State.ovrOff_mem (s : State) (n : Nat) : (s.ovrOff n).mem = s.mem := by
  dsimp only [State.ovrOff]
  split <;> rfl

/-- An input that is no longer active reads so. -/
theorem State.bit_ovrOff (s : State) (n : Nat) : (s.ovrOff n).bit TRI_OVR_STAT (ovrAct n) = false := by
  rw [State.bit, State.rd, State.reg, State.ovrOff_regs]
  exact State.bit_wr_same s.keepOvr _ _ false (ovrAct_wd n) (ovrAct_fits n)

theorem State.ovrOff_sameBut (s : State) (n : Nat) : s.SameBut (s.ovrOff n) [TRI_OVR_STAT] :=
  (State.sameBut_wr_of_eq (x := s.keepOvr) rfl rfl TRI_OVR_STAT (ovrAct n) 0).trans
    (.of_eq (s.ovrOff_regs n) (s.ovrOff_mem n) _)

/-- The override armed again. -/
def State.rearmed (s : State) : State := s.keepOvr.wr TRI_OVR_STAT TRI_OVR_STAT_armed 1

/-- Armed again with no input active, the override shuts group 0 no longer. -/
theorem State.overridden_rearmed {s : State} (h0 : s.bit TRI_OVR_STAT TRI_OVR_STAT_act0 = false)
    (h1 : s.bit TRI_OVR_STAT TRI_OVR_STAT_act1 = false) : s.rearmed.overridden = false := by
  have harmed : s.rearmed.bit TRI_OVR_STAT TRI_OVR_STAT_armed = true :=
    State.bit_wr_same _ _ _ true rfl (by decide)
  have hact (g : Fld) (hg : 30 ≤ g.lo) : s.rearmed.bit TRI_OVR_STAT g = s.bit TRI_OVR_STAT g :=
    State.bit_wr_field _ _ _ _ _ (by decide) (.inr hg)
  rw [State.overridden, harmed, hact _ (by decide), hact _ (by decide), h0, h1]
  rfl

/-- What the cycle began with stays what it began with. -/
theorem State.overriddenThen_rearmed (s : State) : s.rearmed.overriddenThen = s.overriddenThen := by
  simp [State.overriddenThen, State.rearmed, State.keepOvr]

theorem execOverrideRearm_of_over {t : Nat} {s : State} (h0 : s.bit TRI_OVR_STAT TRI_OVR_STAT_act0 = false)
    (h1 : s.bit TRI_OVR_STAT TRI_OVR_STAT_act1 = false) (harmed : s.bit TRI_OVR_STAT TRI_OVR_STAT_armed = false)
    (hover : s.tri.ovrFrom + ms (10 * TRI_CFG_rearm.get s.tri.cfg) ≤ max s.cyc t) :
    execOverrideRearm t s = .next (s.at t).rearmed :=
  if_neg (by simp only [State.bit_at, h0, h1, harmed, State.at_tri, State.at_cyc, not_lt.2 hover, decide_false,
    Bool.or_self, Bool.false_eq_true, not_false_eq_true])

/-- Settles O12: one law for each command, above. -/
theorem commitAndLeaseEndCommands : Obligations.CommitAndLeaseEndCommands := by
  unfold Obligations.CommitAndLeaseEndCommands
  refine ⟨?apply, ?drop, ?escalate, ?limp, ?expiry, ?hold, ?active, ?inactive, ?rearm⟩
  case apply =>
    intro t c0 c1 c2 s p mine ws hr hmode hdue hrecs hp hmine hv hsafe
    subst hp hmine
    exact (execCommitVote_of_due hr hmode hdue rfl rfl hrecs hv).trans (State.commitTo_of_safe hsafe)
  case drop =>
    intro t c0 c1 c2 s p mine ws c hr hmode hdue hrecs hp hmine hv hsafe
    subst hp hmine
    exact (execCommitVote_of_due hr hmode hdue rfl rfl hrecs hv).trans (State.commitTo_of_safe hsafe)
  case escalate =>
    exact fun t c0 c1 c2 s code hr hmode hdue hrecs hv => execCommitVote_of_due hr hmode hdue rfl rfl hrecs hv
  case limp => exact fun t s hmode hdone hhold => execLimpSafeStateApply_of_limp hmode hdone hhold
  case expiry => exact fun t g s hheld hover => execLeaseExpiry_of_lapsed hheld hover
  case hold => exact fun t c g s hhold hover => execHoldLimitEnd_of_over hhold hover
  case active => exact fun t n s hr hen hidle => execOverrideActive_of_enabled hr hen hidle
  case inactive =>
    exact fun t n s hact => ⟨execOverrideInactive_of_active hact, State.bit_ovrOff _ _, (s.at t).ovrOff_sameBut n⟩
  case rearm =>
    exact fun t s h0 h1 harmed hover => ⟨execOverrideRearm_of_over h0 h1 harmed hover,
      State.overridden_rearmed (s := s.at t) h0 h1, (s.at t).overriddenThen_rearmed⟩

end Sys2Proof.Machine

/-! PROOFS. The ring operations of TRI, the group map, and outputs without their lease (spec/07, R183 to R195, R485). -/

namespace Sys2Proof.Machine

section
variable {t : Nat} {r : Fin 64} {s : State} {d : RDesc}

/-! ### Operations that wait for the next commit (R193) -/

theorem execSetSp_of_good (h : s.opFor r 0x04 0 1 = some d) (hlimp : s.limp = false)
    (hslot : bits (d.par 8) 1 0 < 3) (htrack : ¬ (bits (d.par 8) 1 0 = 0 ∧ TRI_CFG_track.get s.tri.cfg = 1)) :
    execSetSp t r s =
      .next (((s.at t).triWait r d.slot (.setSp (bits (d.par 8) 1 0) (d.par 9))).settleRing r) := by
  refine State.ringOp_next (s := s.at t) h ?_
  simp only [State.limp_at, hlimp, hslot.ne, State.at_tri, htrack, Bool.false_eq_true, if_false]

theorem execPathClear_of_good (h : s.opFor r 0x04 0 3 = some d)
    (hbase : ¬ (TRI_CFG_track.get s.tri.cfg = 1 ∧ d.par 10 = 0#32)) (hlimp : s.limp = false) :
    execPathClear t r s =
      .next (((s.at t).triWait r d.slot (.pathClear (d.par 8) (d.par 9) (d.par 10).toNat)).settleRing r) := by
  refine State.ringOp_next (s := s.at t) h ?_
  simp only [State.at_tri, hbase, State.limp_at, hlimp, Bool.false_eq_true, if_false]

section
variable (hlimp : s.limp = false) (h11 : s.passed 11 = true)
include hlimp h11

theorem execGrant_of_good (h : s.opFor r 0x04 1 0x10 = some d) (hholder : bits (d.par 8) 9 8 ≠ 0)
    (hfenced : s.holderFenced (bits (d.par 8) 9 8) = false) : execGrant t r s =
      .next (((s.at t).triWait r d.slot (.grant (bits (d.par 8) 4 0) (bits (d.par 8) 9 8))).settleRing r) := by
  refine State.ringOp_next (s := s.at t) h ?_
  simp [hlimp, h11, hholder, hfenced]

theorem execRelease_of_good (h : s.opFor r 0x04 1 0x11 = some d) :
    execRelease t r s = .next (((s.at t).triWait r d.slot (.release (bits (d.par 8) 4 0))).settleRing r) := by
  refine State.ringOp_next (s := s.at t) h ?_
  simp [hlimp, h11]

theorem execSetState_of_good (h : s.opFor r 0x04 1 0x12 = some d) :
    execSetState t r s = .next (((s.at t).triWait r d.slot (.setState (bits (d.par 8) 7 0))).settleRing r) := by
  refine State.ringOp_next (s := s.at t) h ?_
  simp [hlimp, h11]

end

/-! ### PATH_APPEND (R190, R193) -/

/-- Points added behind the path. -/
def State.pathExtend (s : State) (l : List PathPt) : State := { s with tri := { s.tri with path := s.tri.path ++ l } }

theorem execPathAppend_of_good {buf : List Word} (h : s.opFor r 0x04 0 2 = some d) (hwhole : d.len % 16 = 0)
    (htake : s.canTake r d (4 * buf.length) = true) (hlimp : s.limp = false)
    (hgood : pathBad (s.bufWords r d buf) (d.len / 16) = false) (hroom : s.tri.path.length + d.len / 16 ≤ 4096) :
    execPathAppend t r buf s = .next ((((s.at t).pathExtend (pathPts (s.bufWords r d buf) (d.len / 16))).endOp r d.slot
      stDone d.len 0).settleRing r) := by
  refine State.ringOp_next (s := s.at t) h ?_
  simp [hwhole, hlimp, htake, hgood, not_lt.2 hroom, State.pathExtend]

/-! ### DRIVE and RENEW (R183, R193) -/

section
variable (hlimp : s.limp = false) (h11 : s.passed 11 = true)
include hlimp h11

theorem execDrive_of_valve (h : s.opFor r 0x04 2 0x20 = some d) (hitem : bits (d.par 8) 7 0 < 48)
    (hholds : s.holds (bits (d.par 8) 7 0) 3 = true) : execDrive t r s =
      .next (((((s.at t).valveWrite (bits (d.par 8) 7 0) (bits (d.par 9) 13 0) false false).driven
        (s.groupOf (bits (d.par 8) 7 0))).endOp r d.slot stDone 0 0).settleRing r) := by
  refine State.ringOp_next (s := s.at t) h ?_
  simp [hlimp, h11, hitem, hholds]

theorem execDrive_of_switch (h : s.opFor r 0x04 2 0x20 = some d) (hlo : 64 ≤ bits (d.par 8) 7 0)
    (hhi : bits (d.par 8) 7 0 < 128) (hholds : s.holds (bits (d.par 8) 7 0) 3 = true)
    (hmode : bits (d.par 9) 17 16 ≠ 3) : execDrive t r s =
      .next (((((s.at t).switchWrite (bits (d.par 8) 7 0 - 64) (bits (d.par 9) 17 16) (bits (d.par 9) 15 0) false
        false).driven (s.groupOf (bits (d.par 8) 7 0))).endOp r d.slot stDone 0 0).settleRing r) := by
  have hvalve : ¬ bits (d.par 8) 7 0 < 48 := by omega
  refine State.ringOp_next (s := s.at t) h ?_
  simp [hlimp, h11, hlo, hhi, hvalve, hholds, hmode]

theorem execRenew_of_holder (h : s.opFor r 0x04 2 0x21 = some d) (hholder : s.holder (bits (d.par 8) 4 0) = 3)
    (hlive : s.limpHeld (bits (d.par 8) 4 0) = false) :
    execRenew t r s = .next ((((s.at t).driven (bits (d.par 8) 4 0)).endOp r d.slot stDone 0 0).settleRing r) := by
  refine State.ringOp_next (s := s.at t) h ?_
  simp [hlimp, h11, hholder, hlive]

end

/-- A DRIVE in limp-home, or without the lease, has no authority. -/
theorem execDrive_of_noAuth (h : s.opFor r 0x04 2 0x20 = some d) (h11 : s.passed 11 = true)
    (hitem : bits (d.par 8) 7 0 < 48 ∨ (64 ≤ bits (d.par 8) 7 0 ∧ bits (d.par 8) 7 0 < 128))
    (hnot : s.limp = true ∨ s.holds (bits (d.par 8) 7 0) 3 = false) :
    execDrive t r s = .next (((s.at t).endOp r d.slot stNoAuth 0 0).settleRing r) := by
  refine State.ringOp_next (s := s.at t) h ?_
  simp only [State.limp_at, State.passed_at, State.holds_at, h11, hitem]
  cases hlimp : s.limp with
  | true => rfl
  | false =>
    have hholds : s.holds (bits (d.par 8) 7 0) 3 = false := hnot.resolve_left (by simp [hlimp])
    simp [hholds]

end

/-! ### The group map (R195) -/

/-- The map gives the item written its new group, and every other item the one it had. -/
theorem execTriGmapWrite_of_free {t : Nat} {v : Word} {s : State} (hr : s.readyReg TRI_GMAP_DATA = true)
    (hv : reservedOf TRI_GMAP_DATA v = 0#32)
    (hfree : (s.at t).gmapLocked (s.rd TRI_GMAP_IDX TRI_GMAP_IDX_item) (TRI_GMAP_DATA_group.get v) = false) :
    ∃ m, execTriGmapWrite t v s = .next { s.at t with tri := { s.tri with
      gmap := cellSet (fun _ => 1) s.tri.gmap (s.rd TRI_GMAP_IDX TRI_GMAP_IDX_item) (TRI_GMAP_DATA_group.get v)
      mapped := m } } := by
  have hwrite := fun k => State.hostWrite_of_ready (s.at t) k hr hv
  simp only [execTriGmapWrite, State.rd_at, hfree, hwrite]
  exact ⟨_, rfl⟩

/-- Settles O13: one law for each command, above. -/
theorem triadRingCommands : Obligations.TriadRingCommands := by
  unfold Obligations.TriadRingCommands
  refine ⟨?setSp, ?append, ?clear, ?grant, ?release, ?setState, ?valve, ?switch, ?renew, ?gmap⟩
  case setSp => exact fun t r s d h hlimp hslot htrack => execSetSp_of_good h hlimp hslot htrack
  case append =>
    exact fun t r buf s d h hwhole htake hlimp hgood hroom => execPathAppend_of_good h hwhole htake hlimp hgood hroom
  case clear => exact fun t r s d h hbase hlimp => execPathClear_of_good h hbase hlimp
  case grant => exact fun t r s d h hlimp h11 hholder hfenced => execGrant_of_good hlimp h11 h hholder hfenced
  case release => exact fun t r s d h hlimp h11 => execRelease_of_good hlimp h11 h
  case setState => exact fun t r s d h hlimp h11 => execSetState_of_good hlimp h11 h
  case valve => exact fun t r s d h hlimp h11 hitem hholds => execDrive_of_valve hlimp h11 h hitem hholds
  case switch =>
    exact fun t r s d h hlimp h11 hlo hhi hholds hmode => execDrive_of_switch hlimp h11 h hlo hhi hholds hmode
  case renew => exact fun t r s d h hlimp h11 hholder hlive => execRenew_of_holder hlimp h11 h hholder hlive
  case gmap =>
    intro t v s hr hv hfree
    obtain ⟨m, hm⟩ := execTriGmapWrite_of_free hr hv hfree
    exact ⟨_, hm, cellGet_set_same .., fun i hi => cellGet_set_ne _ _ _ hi, .of_eq rfl rfl _⟩

/-! ### Outputs whose lease is not held (R183, R193, R485) -/

/-- Recording touches no engine. -/
theorem Quiet.sameEngines {s u : State} (h : Quiet s u) : s.SameEngines u :=
  ⟨h.nym, h.valves, h.switches, h.cle, h.tri, h.sns, h.fus, h.hsl, h.vis, h.gns, h.can, h.net, h.dma, h.dpy, h.upd,
    h.kept⟩

/-- Nor does the passing of time. -/
theorem State.sameEngines_of_at {s u : State} {t : Nat} (h : (s.at t).SameEngines u) : s.SameEngines u := h

theorem State.k12Put_of_notHeld {s : State} {c : Nat}
    (h : s.holds (if c < 16 then itemValve c else itemSwitch c) 2 = false) (v : Nat) : s.k12Put c v = s :=
  if_pos (by rw [h]; rfl)

/-- Settles O51: the refused DRIVE only ends its descriptor, and the engine's write looks at the lease first. -/
theorem outputsObeyTheLeaseHolder : Obligations.OutputsObeyTheLeaseHolder := by
  unfold Obligations.OutputsObeyTheLeaseHolder
  refine ⟨fun t r s d h h11 hitem hnot => ?drive, fun c v s h => State.k12Put_of_notHeld h v⟩
  have hquiet := ((s.at t).endOp_quiet r d.slot stNoAuth 0 0).trans (State.settleRing_quiet _ r)
  exact ⟨_, execDrive_of_noAuth h h11 hitem hnot, rfl, State.sameEngines_of_at hquiet.sameEngines⟩

end Sys2Proof.Machine

/-! PROOFS. The valve drive: enabling, period ends, trips, retries, latches and the two load checks (spec/08, R199 to
R217). -/

namespace Sys2Proof.Machine

/-! ### Enabling and disabling (R205, R207, R217) -/

section
variable {t : Nat} {n : Fin 48} {v : Word} {s : State} (hr : s.readyReg (VDR_CFGn n) = true)
  (hv : reservedOf (VDR_CFGn n) v = 0#32) (hk12 : s.valveK12 n = false) (hgood : valveCfgBad v = false)
include hr hv hk12 hgood

theorem execValveEnable_of_good (hoff : s.valveEn n = false) (hen : VDR_CFGn_en.get v = 1) :
    execValveEnable t n v s = .next ((s.at t).valveEnable n v) := by
  have hfree : ((s.at t).valveEn n || (s.at t).valveK12 n) = false := by simp [hoff, hk12]
  rw [execValveEnable, hfree, State.hostWrite_of_ready (s.at t) _ hr hv]
  simp [hgood, hen]

theorem execValveDisable_of_good (hon : s.valveEn n = true) (hen : VDR_CFGn_en.get v = 0) :
    execValveDisable t n v s = .next ((s.at t).valveDisable n v) := by
  rw [execValveDisable, State.valveK12_at, hk12, State.hostWrite_of_ready (s.at t) _ hr hv]
  simp [hgood, hon, hen]

end

/-! ### Period ends and off-times (R199, R205, R208, R214, R215) -/

/-- At its period's end a channel of a pair goes by the pair rule, every other channel by itself. -/
theorem execValvePeriodEnd_of_ends {t cur mv : Nat} {n : Fin 48} {s : State} (h : (s.at t).valveEnds n = true) :
    execValvePeriodEnd t n cur mv s =
      .next (if s.paired n then (s.at t).pairPeriodEnd n cur mv else (s.at t).valvePeriodEnd n cur mv) := by
  rw [apply_ite Host.Outcome.next]
  exact if_neg (by simp [h])

theorem execValveOfftimeEnd_of_over {t : Nat} {n : Fin 48} {s : State} (hover : (s.valve n).offEnd ≤ max s.cyc t) :
    execValveOfftimeEnd t n s = .next ((s.at t).valveRestart n) :=
  if_neg (not_lt.2 hover)

/-! ### Trips (R209, R210) -/

/-- What every trip does: the channel turns off, its short is marked, and the fault of the side it is on is raised. -/
def State.valveShort (s : State) (n : Nat) (rtn : Bool) : State :=
  ((s.valveOff n).wr (VDR_STAT n) VDR_STAT_short 1).raise2 ((if rtn then 0x0530 else 0x0500) + n) 0

/-- A valve that has tripped, and on which side. -/
def Valve.trippedOn (x : Valve) (rtn : Bool) : Valve := { x with tripped := if rtn then 2 else 1 }

section
variable {t : Nat} {n : Fin 48} {s : State} (rtn : Bool) (hon : s.valveOn n = true)
include hon

/-- A trip of a channel that no retry has restarted within 100 ms waits for its retry and counts nothing. -/
theorem execValveTrip_of_first (hlong : ∀ c, (s.valve n).restartAt = some c → c + ms 100 ≤ max s.cyc t) :
    execValveTrip t n rtn s = .next (((s.at t).valveShort n rtn).setValve n
      { (((s.at t).valveShort n rtn).valve n).trippedOn rtn with retryAt := some (max s.cyc t + s.valveRetry) }) := by
  simp only [execValveTrip, State.valveOn_at, State.valve_at, State.at_cyc, hon, Bool.not_true, Bool.false_eq_true,
    if_false]
  cases hre : (s.valve n).restartAt with
  | none => rfl
  | some c =>
    simp only [not_lt.2 (hlong c hre), decide_false, Bool.false_and, Bool.false_eq_true, if_false]
    rfl

/-- A trip within 100 ms of a restart counts, and with `rmax` of them the channel latches where else it would wait. -/
theorem execValveTrip_of_again {c : Nat} (hre : (s.valve n).restartAt = some c) (hsoon : max s.cyc t < c + ms 100)
    {w : State} (hw : w = ((s.at t).valveShort n rtn).bump (VDR_STAT n) VDR_STAT_retry_cnt) :
    execValveTrip t n rtn s = .next (if s.valveRmax ≤ w.rd (VDR_STAT n) VDR_STAT_retry_cnt
      then (w.setValve n { (w.valve n).trippedOn rtn with latched := true }).raise2 (0x0560 + n) 0
      else w.setValve n { (w.valve n).trippedOn rtn with retryAt := some (max s.cyc t + s.valveRetry) }) := by
  subst hw
  simp only [execValveTrip, State.valveOn_at, State.valve_at, State.at_cyc, State.valveRmax_at, hon, hre, hsoon,
    Bool.not_true, Bool.false_eq_true, if_false, decide_true, Bool.true_and, decide_eq_true_eq, if_true]
  rw [apply_ite Host.Outcome.next]
  rfl

end

/-! ### Retries and latches (R210) -/

theorem execValveRetryEnd_of_over {t c : Nat} {n : Fin 48} {s : State} (hretry : (s.valve n).retryAt = some c)
    (hover : c ≤ max s.cyc t) (hcool : (s.valve n).therm = false) : execValveRetryEnd t n s =
      .next (((s.at t).setValve n { s.valve n with retryAt := none }).valveRestart n) := by
  simp [execValveRetryEnd, hretry, not_lt.2 hover, hcool]

/-- A channel that has driven for 100 ms since its restart counts anew and clears its trip faults. -/
theorem execValveRestartOk_of_over {t c : Nat} {n : Fin 48} {s : State} (hre : (s.valve n).restartAt = some c)
    (hover : c + ms 100 ≤ max s.cyc t) (hon : s.valveOn n = true) : execValveRestartOk t n s =
      .next (((((s.at t).setValve n { s.valve n with restartAt := none, tripped := 0 }).wr (VDR_STAT n)
        VDR_STAT_retry_cnt 0).clear2 (0x0500 + n)).clear2 (0x0530 + n)) := by
  simp [execValveRestartOk, hre, not_lt.2 hover, hon]

theorem execValveClrLatch_of_set {t : Nat} {n : Fin 48} {v : Word} {s : State}
    (hr : s.readyReg (VDR_STAT n) = true) (hv : reservedOf (VDR_STAT n) v = 0#32) (hk12 : s.valveK12 n = false)
    (hclr : clrLatch v = true) :
    execValveClrLatch t n v s = .next (((s.at t).store (VDR_STAT n) v).valveClear n) := by
  rw [execValveClrLatch, State.valveK12_at, hk12, State.hostWrite_of_ready (s.at t) _ hr hv]
  exact if_pos hclr

/-! ### Open load and headroom (R211, R212) -/

theorem execValveOpenLoad_of_over {t c : Nat} {n : Fin 48} {s : State} (hlow : (s.valve n).lowAt = some c)
    (hover : c + ms 10 ≤ max s.cyc t) (hnew : (s.valve n).lowTold = false) : execValveOpenLoad t n s =
      .next ((((s.at t).setValve n { s.valve n with lowTold := true }).wr (VDR_STAT n) VDR_STAT_open 1).note
        (0x0590 + n) 0) := by
  simp [execValveOpenLoad, hlow, not_lt.2 hover, hnew]

theorem execValveHeadroom_of_over {t c : Nat} {n : Fin 48} {s : State} (hhead : (s.valve n).headAt = some c)
    (hover : c + ms 20 ≤ max s.cyc t) (hnew : (s.valve n).headTold = false) : execValveHeadroom t n s =
      .next ((((s.at t).setValve n { s.valve n with headTold := true }).wr (VDR_STAT n) VDR_STAT_head 1).note
        (0x05C0 + n) 0) := by
  simp [execValveHeadroom, hhead, not_lt.2 hover, hnew]

/-- Settles O14: one law for each command, above. -/
theorem valveCommands : Obligations.ValveCommands := by
  unfold Obligations.ValveCommands
  refine ⟨?enable, ?disable, ?period, ?offtime, ?first, ?again, ?retry, ?ok, ?clear, ?openLoad, ?headroom⟩
  case enable => exact fun t n v s hr hv hoff hk12 hgood hen => execValveEnable_of_good hr hv hk12 hgood hoff hen
  case disable => exact fun t n v s hr hv hon hk12 hgood hen => execValveDisable_of_good hr hv hk12 hgood hon hen
  case period => exact fun t cur mv n s h => execValvePeriodEnd_of_ends h
  case offtime => exact fun t n s hover => execValveOfftimeEnd_of_over hover
  case first => exact fun t n rtn s hon hlong => execValveTrip_of_first rtn hon hlong
  case again => exact fun t c n rtn s hon hre hsoon => execValveTrip_of_again rtn hon hre hsoon rfl
  case retry => exact fun t c n s hretry hover hcool => execValveRetryEnd_of_over hretry hover hcool
  case ok => exact fun t c n s hre hover hon => execValveRestartOk_of_over hre hover hon
  case clear => exact fun t n v s hr hv hk12 hclr => execValveClrLatch_of_set hr hv hk12 hclr
  case openLoad => exact fun t c n s hlow hover hnew => execValveOpenLoad_of_over hlow hover hnew
  case headroom => exact fun t c n s hhead hover hnew => execValveHeadroom_of_over hhead hover hnew

end Sys2Proof.Machine

/-! PROOFS. The load switches: period ends, disabling, trips, retries, writes of LSW_STAT, phases and open load
(spec/09, R222 to R237). -/

namespace Sys2Proof.Machine

/-! ### Period ends and disabling (R227, R228, R237) -/

/-- At its period's end a switch reports, counts, takes its shadow over and marks its on-edge, full where it was on for
the whole of the period that ends. -/
theorem execLswPeriodEnd_of_ends {t cur : Nat} {n : Fin 64} {s : State} (h : (s.at t).switchEnds n = true) :
    execLswPeriodEnd t n cur s =
      .next (((((s.at t).wr (LSW_MEAS n) LSW_MEAS_cur (min 0xFFFF cur)).openCount n cur).switchHand n).edgeMark n
        ((s.switch n).on && decide ((s.at t).periodLen n ≤ (s.at t).onPast n))) :=
  if_neg (by simp [h])

theorem execLswDisable_of_good {t : Nat} {n : Fin 64} {v : Word} {s : State} (hr : s.readyReg (LSW_CFG n) = true)
    (hv : reservedOf (LSW_CFG n) v = 0#32) (hon : s.switchEn n = true) (hk12 : s.switchK12 n = false)
    (hgood : switchCfgBad n v = false) (hen : LSW_CFG_en.get v = 0) :
    execLswDisable t n v s = .next ((s.at t).switchDisable n v) := by
  rw [execLswDisable, State.switchK12_at, hk12, State.hostWrite_of_ready (s.at t) _ hr hv]
  simp [hgood, hon, hen]

/-! ### Trips (R229, R230) -/

section
variable {t : Nat} {n : Fin 64} {s : State}

/-- A short trips a channel whose blanking is over, also where the thermal latch was entered earlier in the cycle. -/
theorem execLswShortTrip_of_short (h : ((s.at t).shortCan n || (s.at t).hotNow n && (s.switch n).shortOk) = true) :
    execLswShortTrip t n s = .next ((s.at t).switchTrip n LSW_STAT_short) :=
  if_pos h

/-- So does an overload a channel whose 1 ms is full. -/
theorem execLswOverloadTrip_of_overload (h : ((s.at t).ovlCan n || (s.at t).hotNow n && (s.switch n).ovlOk) = true) :
    execLswOverloadTrip t n s = .next ((s.at t).switchTrip n LSW_STAT_ovl) :=
  if_pos h

end

/-! ### Retries and writes of LSW_STAT (R231 to R233) -/

section
variable {t c : Nat} {n : Fin 64} {s : State}

theorem execLswRetryEnd_of_over (hretry : (s.switch n).retryAt = some c) (hover : c ≤ max s.cyc t)
    (hcool : (s.switch n).therm = false) : execLswRetryEnd t n s =
      .next (((s.at t).setSwitch n { s.switch n with retryAt := none }).switchTurnOn n true) := by
  simp [execLswRetryEnd, hretry, not_lt.2 hover, hcool]

/-- A channel that has driven for 100 ms since its restart counts anew and clears its trip fault. -/
theorem execLswRestartOk_of_over (hre : (s.switch n).restartAt = some c) (hover : c + ms 100 ≤ max s.cyc t)
    (hon : (s.switch n).on = true) : execLswRestartOk t n s =
      .next ((((s.at t).setSwitch n { s.switch n with restartAt := none, tripped := false }).wr (LSW_STAT n)
        LSW_STAT_retry_cnt 0).clear2 (0x0600 + n)) := by
  simp [execLswRestartOk, hre, not_lt.2 hover, hon]

end

theorem execLswClrLatch_of_ready {t : Nat} {n : Fin 64} {v : Word} {s : State} (hr : s.readyReg (LSW_STAT n) = true)
    (hv : reservedOf (LSW_STAT n) v = 0#32) (hk12 : s.switchK12 n = false) :
    execLswClrLatch t n v s = .next ((s.at t).switchStatWrite n v) := by
  rw [execLswClrLatch, State.switchK12_at, hk12, State.hostWrite_of_ready (s.at t) _ hr hv]

/-- Both commands are one write of LSW_STAT, whose bits say which latches it acts on. -/
theorem execLswClrTherm_eq_clrLatch (t : Nat) (n : Fin 64) (v : Word) (s : State) :
    execLswClrTherm t n v s = execLswClrLatch t n v s := rfl

/-! ### Phases and open load (R222, R225, R234) -/

section
variable {t c : Nat} {n : Fin 64} {s : State}

theorem execInrushEnd_of_over (hrush : (s.switch n).inrushEnd = some c) (hover : c ≤ max s.cyc t) :
    execInrushEnd t n s = .next ((s.at t).setSwitch n { s.switch n with
      inrushEnd := none, throttled := (s.switch n).throttled && !(s.switch n).thrInrush, thrInrush := false }) := by
  simp [execInrushEnd, hrush, not_lt.2 hover]

theorem execProtectedPhaseEnd_of_over (hprot : (s.switch n).protEnd = some c) (hover : c ≤ max s.cyc t) :
    execProtectedPhaseEnd t n s = .next ((s.at t).setSwitch n { s.switch n with protEnd := none }) := by
  simp [execProtectedPhaseEnd, hprot, not_lt.2 hover]

theorem execLswOpenLoad_of_low (hon : (s.switch n).on = true) (hrush : (s.switch n).inrushEnd = none)
    (hlow : 10000000 ≤ (s.switch n).olAcc) (hnew : (s.switch n).olTold = false) : execLswOpenLoad t n s =
      .next ((((s.at t).setSwitch n { s.switch n with olTold := true }).wr (LSW_STAT n) LSW_STAT_open 1).note
        (0x06C0 + n) 0) :=
  if_pos (by simp [hon, hrush, hlow, hnew])

end

/-- Settles O15: one law for each command, above. -/
theorem loadSwitchCommands : Obligations.LoadSwitchCommands := by
  unfold Obligations.LoadSwitchCommands
  refine ⟨?period, ?disable, ?inrush, ?short, ?overload, ?retry, ?ok, ?stat, ?phase, ?openLoad⟩
  case period => exact fun t cur n s h => execLswPeriodEnd_of_ends h
  case disable => exact fun t n v s hr hv hon hk12 hgood hen => execLswDisable_of_good hr hv hon hk12 hgood hen
  case inrush => exact fun t c n s hrush hover => execInrushEnd_of_over hrush hover
  case short => exact fun t n s h => execLswShortTrip_of_short h
  case overload => exact fun t n s h => execLswOverloadTrip_of_overload h
  case retry => exact fun t c n s hretry hover hcool => execLswRetryEnd_of_over hretry hover hcool
  case ok => exact fun t c n s hre hover hon => execLswRestartOk_of_over hre hover hon
  case stat =>
    intro t n v s hr hv hk12
    have hlatch := execLswClrLatch_of_ready (t := t) hr hv hk12
    exact ⟨hlatch, (execLswClrTherm_eq_clrLatch t n v s).trans hlatch⟩
  case phase => exact fun t c n s hprot hover => execProtectedPhaseEnd_of_over hprot hover
  case openLoad => exact fun t n s hon hrush hlow hnew => execLswOpenLoad_of_low hon hrush hlow hnew

end Sys2Proof.Machine

/-! PROOFS. The thermal model's updates and those of the derating factors (spec/09, spec/19, R221 to R235, R446 to
R452). -/

namespace Sys2Proof.Machine

/-- The network after one step: the temperatures move by `heat` and the estimates follow, the instant of the update is
kept, and the LSW_TCFG written last applies from here (R240, R446). -/
def State.networkStep (s : State) (heat : List (Nat × Nat)) : State :=
  s.setThm { s.thm with
    temps := s.network heat, est := s.estimates (s.network heat), modelAt := s.cyc, tcfg := s.reg LSW_TCFG }

/-- What is judged by the new temperatures: the valves' latches, the switches' latches and the clusters' limits. -/
def State.thermalJudged (s : State) : State :=
  (List.range 16).foldl State.cluster
    ((List.range 64).foldl State.switchTherm ((List.range 48).foldl State.valveTherm s))

theorem execModelUpdate_of_due {t : Nat} {heat : List (Nat × Nat)} {s : State} (h10 : s.passed 10 = true)
    (hdue : s.thm.modelAt + us 50 ≤ max s.cyc t) : execModelUpdate t heat s =
      .next ((List.range 48).foldl State.clampTaken ((s.at t).networkStep heat)).thermalJudged :=
  if_neg (by simp [h10, not_lt.2 hdue])

theorem execDeratingUpdate_of_due {t : Nat} {s : State} (h10 : s.passed 10 = true)
    (hdue : s.thm.derAt + ms 1 ≤ max s.cyc t) : execDeratingUpdate t s =
      .next (((List.range 48).map nodeValve ++ (List.range 64).map nodeSwitch).foldl State.derateSet
        ((s.at t).setThm { s.thm with derAt := max s.cyc t })) :=
  if_neg (by simp [h10, not_lt.2 hdue])

/-- Settles O29: the law of each update, above. -/
theorem thermalUpdates : Obligations.ThermalUpdates := by
  unfold Obligations.ThermalUpdates
  refine ⟨?model, fun t s h10 hdue => execDeratingUpdate_of_due h10 hdue⟩
  rintro t heat s z rfl h10 hdue
  exact execModelUpdate_of_due h10 hdue

end Sys2Proof.Machine

/-! PROOFS. The sensor front ends: analog, frequency and digital inputs, loss channels and their hit maps (spec/10, R243
to R252, R272). -/

namespace Sys2Proof.Machine

/-! ### Analog inputs (R243 to R245) -/

theorem execAinPeriodicTrigger_of_due {t : Nat} {n : Fin 64} {s : State}
    (hper : s.bit (SNS_AIN_CFG n) SNS_AIN_CFG_periodic = true) (hint : 0 < s.rd (SNS_AIN_CFG n) SNS_AIN_CFG_interval)
    (hdue : (s.at t).mtime % (1000 * s.rd (SNS_AIN_CFG n) SNS_AIN_CFG_interval) < 5) :
    execAinPeriodicTrigger t n s = .next ((s.at t).ainTrigger n []) := by
  have hint : 1000 * s.rd (SNS_AIN_CFG n) SNS_AIN_CFG_interval ≠ 0 := by omega
  simp only [execAinPeriodicTrigger, State.bit_at, State.rd_at, hper, beq_eq_false_iff_ne.2 hint, not_le.2 hdue,
    Bool.not_true, decide_false, Bool.or_false, Bool.false_eq_true, if_false]

theorem execAinDeferredConversion_of_over {t c : Nat} {w : List Nat} {n : Fin 64} {s : State}
    (hlast : (s.ain n).last = some c) (hwait : (s.ain n).wait = some w) (hover : c + us 100 ≤ max s.cyc t)
    (hruns : s.snsRuns = true) (hen : s.ainEn n = true) :
    execAinDeferredConversion t n s = .next ((s.at t).ainStart n w true) := by
  simp [execAinDeferredConversion, hlast, hwait, not_lt.2 hover, hruns, hen]

/-- The level lies below 0 V or above the full scale of input `n`, which itself is in range (log entry 117). -/
def State.ainBeyond (s : State) (n : Nat) (y : AinLevel) : Bool :=
  decide (y.nv < 0) || decide ((s.ainFull n y.ref : Int) < y.nv)

/-- SNS_AIN_DATA of input `n` takes the code `x`, and its two latching bits where they apply. -/
def State.ainShow (s : State) (n x : Nat) (sat defer : Bool) : State :=
  let a := s.wr (SNS_AIN_DATA n) SNS_AIN_DATA_value x
  let b := if sat then a.wr (SNS_AIN_DATA n) SNS_AIN_DATA_sat 1 else a
  if defer then b.wr (SNS_AIN_DATA n) SNS_AIN_DATA_defer_seen 1 else b

/-- The oldest conversion under way ends: its code `x` is shown, goes to the loops that wait for it, and on to the units
and the raw stream. -/
theorem execAinConversionDone_of_underWay {t : Nat} {n : Fin 64} {edge : Fin 201} {y : AinLevel} {v : AinConv}
    {rest : List AinConv} {s : State} (hconv : (s.ain n).conv = v :: rest) (x : Nat)
    (hx : x = ainCode y.nv (s.ainFull n y.ref)) :
    execAinConversionDone t n edge y s =
      .next (((if s.ainK12 n then s.loopsOn 1 n else v.loops).foldl (fun z m => z.loopSample ((x : Int) * 2 ^ 8) m)
        (((s.at t).setAin n { s.ain n with conv := rest }).ainShow n x (s.ainBeyond n y) v.defer).headerSeen).sampleIn
        ⟨n, (v.stamp + edge) % 2 ^ 64, [(x : Int) * 2 ^ 8], v.speeds, false⟩ (s.bit (SNS_AIN_CFG n) SNS_AIN_CFG_raw)
        ((if v.defer then rfDefer else 0) ||| (if s.ainBeyond n y then rfSat else 0)) (word x)) := by
  subst hx
  simp only [execAinConversionDone, State.ain_at, hconv]
  rfl

/-! ### Frequency inputs (R246) -/

/-- The period that a rising edge in cycle `c` completes; 0 for the first one. -/
def FreqIn.periodTo (f : FreqIn) (c : Nat) : Nat :=
  match f.rise with
  | some r => c - r
  | none => 0

/-- A level that has held for glitch µs is taken; where it is the high one, it dates a rising edge. -/
theorem execFinEdge_of_held {t : Nat} {n : Fin 24} {x : FinCross} {level : Bool} {s y : State}
    (hlevel : level = decide ((s.finThr n x.peak : Int) ≤ 2 * x.mv)) (hnew : (level == (s.fin n).level) = false)
    (hheld : max s.cyc t = x.since + us (s.rd (SNS_FIN_CFG n) SNS_FIN_CFG_glitch))
    (hy : y = ((s.at t).setFin n { s.fin n with level := level }).gndFin n) :
    execFinEdge t n x s = .next (if y.snsRuns && level then y.setFin n { y.fin n with
      rise := some (max s.cyc t), per := (s.fin n).periodTo (max s.cyc t) } else y) := by
  simp only [execFinEdge, State.fin_at, State.finThr_at, ← hlevel, hnew, State.at_cyc, State.rd_at, ← hheld, ← hy,
    bne_self_eq_false, Bool.or_false, Bool.false_eq_true, if_false]
  rw [← Bool.not_and]
  cases y.snsRuns && level <;> rfl

theorem execFinDataUpdate_of_running {t : Nat} {n : Fin 24} {s : State} (h : s.snsRuns = true) :
    execFinDataUpdate t n s = .next ((s.at t).setReg (SNS_FIN_DATA n) (word ((s.at t).finMilli n))) := by
  simp [execFinDataUpdate, h]

/-! ### Digital inputs (R247) -/

/-- The levels that a sample reads: an input between the thresholds reads as in the sample before. -/
def State.dinLevels (s : State) (lo hi : Word) : Word :=
  ofBits fun i => bitAt hi i || (bitAt s.sns.din i && !bitAt lo i)

/-- The number of equal samples in a row of input `i`, up to the sample that reads `x`. -/
def State.dinRun (s : State) (x : Word) (i : Nat) : Nat :=
  if bitAt x i == bitAt s.sns.din i then min 255 (cellGet (fun _ => 0) s.sns.run i + 1) else 1

/-- The accepted levels after a sample that reads `x`. -/
def State.dinAccepted (s : State) (x : Word) : Word :=
  ofBits fun i => if s.rd SNS_CFG SNS_CFG_din_filt ≤ s.dinRun x i then bitAt x i else bitAt (s.reg SNS_DIN_STATE) i

/-- A sample that reads `x` is kept with its runs, and SNS_DIN_STATE follows. -/
def State.dinTaken (s : State) (x : Word) : State :=
  ({ s with sns := { s.sns with
    din := x
    run := (List.range 32).foldl (fun c i => cellSet (fun _ => 0) c i (s.dinRun x i)) s.sns.run } }).setReg
    SNS_DIN_STATE (s.dinAccepted x)

theorem State.dinTaken_sameBut (s : State) (x : Word) : s.SameBut (s.dinTaken x) [SNS_DIN_STATE] :=
  (State.SameBut.of_eq rfl rfl _).setReg (List.mem_singleton_self _) _

theorem State.reg_dinTaken (s : State) (x : Word) : (s.dinTaken x).reg SNS_DIN_STATE = s.dinAccepted x :=
  State.reg_setReg_same ..

theorem execDinSample_of_running {t : Nat} {lo hi : Word} {s : State} (h : s.snsRuns = true) :
    execDinSample t lo hi s = .next ((s.at t).dinTaken (s.dinLevels lo hi)).gndTurn.headerSeen :=
  if_neg (by simp [h])

/-! ### Loss channels (R248, R249) -/

/-- The detector of a channel after the filter has taken the sample `x`; an envelope beyond 16 bits is the free value
numbered `free` (log entry 66). -/
def LossCh.filtered (c : LossCh) (x : Int) (hp free : Nat) : LossCh :=
  let h := x - c.xPrev + c.h * hp / 2 ^ 16
  let e := max (h.natAbs / 2 ^ 8) (c.env * 65280 / 2 ^ 16)
  { c with h := h, xPrev := x, env := if e < 2 ^ 16 then e else Config.freeNat free % 2 ^ 16 }

/-- In IDLE an envelope that reaches thr_on begins a hit, dated by the capture of its sample. -/
theorem execLossSample_of_idle {t : Nat} {n : Fin 16} {x : Int} {s : State} (hruns : s.snsRuns = true)
    (hen : s.lossEn n = true) (hraw : s.rd (SNS_LOSS_CFG n) SNS_LOSS_CFG_raw ≠ 2) (hidle : (s.lossCh n).st = 0)
    (c : LossCh) (hc : c = (s.lossCh n).filtered x (s.hpOf n) s.free) :
    execLossSample t n x s = .next (if s.rd (SNS_LOSS_THR n) SNS_LOSS_THR_thr_on ≤ c.env
      then (s.at t).freeNext.setLoss n { c with
        tImp := lossGrid ((s.at t).mtime - 80000), peak := c.env, k := 0, st := 1 }
      else (s.at t).freeNext.setLoss n c) := by
  subst hc
  exact (if_neg (by simp [hruns, hen])).trans (congrArg Host.Outcome.next ((if_neg hraw).trans (if_pos hidle)))

theorem execLossExcFault_of_excited {t : Nat} {n : Fin 16} {s : State} (hruns : s.snsRuns = true)
    (hexc : s.bit (SNS_LOSS_CFG n) SNS_LOSS_CFG_exc = true) (x : State)
    (hx : x = ((s.at t).wr (SNS_LOSS_CFG n) SNS_LOSS_CFG_excf 1).note (0x0740 + n) 0) :
    execLossExcFault t n s = .next (x.setLoss n { x.lossCh n with excs := (x.lossCh n).excs + 1 }) := by
  subst hx
  exact if_neg (by simp [hruns, hexc])

/-! ### Hit maps (R251, R252, R272) -/

/-- The oldest bank change that waits on channel `n` of schedule `k` is carried out when its instant is due. -/
def State.swapOldest (s : State) (k n : Nat) : State :=
  match (s.lossCh n).swaps with
  | w :: rest => if s.swapDue k w then s.swapChannel n w rest else s
  | [] => s

theorem execMapBankSwap_of_running {t : Nat} {k : Fin 16} {s : State} (h : s.fusRuns = true) :
    execMapBankSwap t k s = .next (((List.range 16).filter fun n => s.lossSched n == k.val).foldl
      (fun u n => u.swapOldest k n) (s.at t)) :=
  if_neg (by simp [h])

/-- A read that the map's banks swapped under is aborted; any other writes the map out. -/
theorem execReadMap_of_buffer {t n k : Nat} {x : MapCopy} {s : State} {d : RDesc}
    (h : s.opFor x.ring 0x08 1 0x10 = some d) (hbuf : s.bufBad x.ring d = false) (hlen : 2080 ≤ d.len)
    (hn : n = bits (d.par 8) 3 0) (hk : k = bits (d.par 8) 6 4) :
    execReadMap t x s = .next ((if (s.hitMap n k).swapAt.any fun c => decide (max s.cyc t ≤ c + x.took)
      then (s.at t).endOp x.ring d.slot stAborted 0 0
      else ((s.at t).bufOut x.ring d 0 (s.mapWords n k)).endOp x.ring d.slot stDone 2080
        ((s.hitMap n k).seq % 2 ^ 24)).settleRing x.ring) := by
  unfold execReadMap
  refine State.ringOp_next h ?_
  rw [State.givesBuf_eq (s := s.at t) hbuf, if_neg (not_lt.2 hlen)]
  simp only [← hn, ← hk, State.hitMap_at, State.mapWords_at, State.at_cyc]
  cases (s.hitMap n k).swapAt with
  | none => rfl
  | some c => exact (apply_ite Host.Outcome.next _ _ _).symm

/-- Settles O16: one law for each command, above. -/
theorem sensorFrontEndCommands : Obligations.SensorFrontEndCommands := by
  unfold Obligations.SensorFrontEndCommands
  refine ⟨?periodic, ?deferred, ?done, ?edge, ?freq, ?din, ?loss, ?exc, ?swap, ?readMap⟩
  case periodic => exact fun t n s hper hint hdue => execAinPeriodicTrigger_of_due hper hint hdue
  case deferred =>
    exact fun t c w n s hlast hwait hover hruns hen => execAinDeferredConversion_of_over hlast hwait hover hruns hen
  case done => exact fun t ref n edge nv v rest s hconv => execAinConversionDone_of_underWay hconv _ rfl
  case edge =>
    exact fun t peak since n mv level s y hlevel hnew hheld hy =>
      execFinEdge_of_held (x := ⟨mv, peak, since⟩) hlevel hnew hheld hy
  case freq => exact fun t n s h => execFinDataUpdate_of_running h
  case din =>
    exact fun t lo hi s h => ⟨(s.at t).dinTaken (s.dinLevels lo hi), execDinSample_of_running h, rfl,
      (s.at t).dinTaken_sameBut _, (s.at t).reg_dinTaken _⟩
  case loss => exact fun t n x s hruns hen hraw hidle => execLossSample_of_idle hruns hen hraw hidle _ rfl
  case exc => exact fun t n s hruns hexc => execLossExcFault_of_excited hruns hexc _ rfl
  case swap => exact fun t k s h => execMapBankSwap_of_running h
  case readMap =>
    intro t took r s d n k h hbuf hlen hn hk
    have hread := execReadMap_of_buffer (t := t) (x := ⟨r, took⟩) h hbuf hlen hn hk
    refine ⟨fun hwhole => hread.trans ?whole, fun c hswap hfell => hread.trans ?fell⟩
    case whole => simp only [hwhole, Bool.false_eq_true, if_false]
    case fell => simp only [hswap, Option.any_some, hfell, decide_true, if_true]

end Sys2Proof.Machine

/-! PROOFS. The setting loop: its trigger, the end of a step, its mode and its rings (spec/11, R279 to R291). -/

namespace Sys2Proof.Machine

/-! ### The trigger (R282, R284) -/

/-- A release that is counted, with the hand-over of a commit that waits. -/
def State.hslReleased (s : State) : State :=
  if s.hslDue then (s.incReg HSL_SEQ).hslCopy s.hslSource true else s.incReg HSL_SEQ

theorem State.hslReleased_of_due {s : State} (h : s.hslDue = true) :
    s.hslReleased = (s.incReg HSL_SEQ).hslCopy s.hslSource true := if_pos h

theorem State.hslReleased_of_idle {s : State} (h : s.hslDue = false) : s.hslReleased = s.incReg HSL_SEQ :=
  if_neg (by simp [h])

/-- A trigger that is reached, in a mode that runs steps, starts one. -/
theorem execHslTriggerRelease_of_reached {t m : Nat} {s : State} (hruns : s.hslRuns = true)
    (hm : m = HSL_CFG_mode.get (s.at t).hslCfgNow) (hon : m ≠ 0) (hidle : s.hsl.run = none)
    (hreached : (s.at t).hslReached = true) (hfrozen : s.hslFrozen = false) (hsteps : m ≠ 3)
    (hgood : ((s.at t).hslDue && problemBad (s.at t).hslSource) = false) :
    execHslTriggerRelease t s = .next (((s.at t).hslReleased.setHsl { (s.at t).hslReleased.hsl with mode := m }).hslStart
      m (s.at t).hslBypNow) := by
  subst hm
  simp only [execHslTriggerRelease, State.hslRuns_at, State.hslFrozen_at, State.at_hsl, hruns, hidle, hreached, hfrozen,
    hgood, hsteps, beq_eq_false_iff_ne.2 hon, Option.isSome_none, Bool.not_true, Bool.or_false, Bool.false_eq_true,
    if_false]
  rfl

/-! ### The end of a step (R280, R283, R286, R289) -/

/-- A target that the setting loop writes is the control engine's alone. -/
theorem State.writeTarget_hsl (s : State) (n src : Nat) (v : Int) (op : Option (Nat × Nat)) :
    (s.writeTarget n src v op).hsl = s.hsl := by
  simp only [State.writeTarget]
  split <;> rfl

theorem State.hslWrite_hsl (s : State) (l : List (Nat × Nat × Int)) : (s.hslWrite l).1.hsl = s.hsl := by
  unfold State.hslWrite
  induction l using List.reverseRecOn with
  | nil => rfl
  | append_singleton l n ih => rw [List.foldl_concat]; exact (State.writeTarget_hsl ..).trans ih

/-- The next trigger leaves the problem, its commit and the step under way as they are. -/
theorem State.hslNext_hsl (s : State) (x : HslRun) : (s.hslNext x).1.hsl.pending = s.hsl.pending ∧
    (s.hslNext x).1.hsl.sh = s.hsl.sh ∧ (s.hslNext x).1.hsl.run = s.hsl.run := by
  have hlate (lag : Nat) : (if 0 < lag then (s.bump HSL_CNT HSL_CNT_late_cnt).wrMax HSL_LAG HSL_LAG_max_lag lag
      else s).hsl = s.hsl := by
    split
    · rw [State.wrMax_hsl, State.bump_hsl]
    · rfl
  simp only [State.hslNext]
  generalize (s.pos x.dom - (x.nom + x.dlp)).toNat = lag
  split
  · rw [hlate]; exact ⟨rfl, rfl, rfl⟩
  · split <;> simp only [State.setHsl_hsl, hlate, and_self]

/-- At the end of a step the problem and its commit are as before, and no step is under way. -/
theorem State.hslStepped_hsl (s : State) (x : HslRun) : (s.hslStepped x).hsl.pending = s.hsl.pending ∧
    (s.hslStepped x).hsl.sh = s.hsl.sh ∧ (s.hslStepped x).hsl.run = none := by
  have htold (y : State × Bool) :
      (if y.2 then (y.1.bump HSL_NCNT HSL_NCNT_drop_cnt).noteSlow 0x0920 0 else y.1).hsl = y.1.hsl := by
    split
    · rw [(State.noteSlow_quiet ..).hsl, State.bump_hsl]
    · rfl
  have hwritten (c : Bool) : (if c then s.hslWrite x.set else (s, [])).1.hsl = s.hsl := by
    cases c
    · rfl
    · exact State.hslWrite_hsl ..
  unfold State.hslStepped
  simp only [htold, (State.deliver_quiet _ _ _).hsl]
  simp only [State.hslNext_hsl, State.setHsl_hsl, hwritten, and_self]

/-- The hand-over of a setting loop that is off and idle: a commit that waits is taken, if its problem is good. -/
theorem State.hslHandOff_of_off {s : State} (hmode : s.hsl.mode = 0) (hidle : s.hsl.run = none)
    (hgood : problemBad s.hsl.sh = false) :
    s.hslHandOff = .next (if s.hsl.pending then s.hslCopy s.hsl.sh false else s) := by
  simp only [State.hslHandOff, hmode, hidle, hgood]
  cases s.hsl.pending <;> rfl

theorem State.hslHandOff_of_none {s : State} (h : s.hsl.pending = false) : s.hslHandOff = .next s := by
  simp [State.hslHandOff, h]

theorem State.hslHandOff_of_on {s : State} (h : s.hsl.mode ≠ 0) : s.hslHandOff = .next s := by
  simp [State.hslHandOff, h]

/-- A setting loop disarmed, as a write of OFF leaves it. -/
def State.hslDisarmed (s : State) : State := s.setHsl { s.hsl with mode := 0, armed := false }

/-- A step that has had its time ends; with the loop set to OFF meanwhile, the loop is disarmed and hands over. -/
theorem execHslStepEnd_of_over {t : Nat} {x : HslRun} {s y : State} (hrun : s.hsl.run = some x)
    (hruns : s.hslRuns = true) (hover : x.cyc + us 16 ≤ max s.cyc t) (hgood : problemBad s.hsl.sh = false)
    (hy : y = (s.at t).hslStepped x) :
    execHslStepEnd t s = .next (if y.rd HSL_CFG HSL_CFG_mode = 0
      then (if s.hsl.pending then y.hslDisarmed.hslCopy s.hsl.sh false else y.hslDisarmed) else y) := by
  obtain ⟨hpending, hsh, hidle⟩ := State.hslStepped_hsl (s.at t) x
  rw [← hy] at hpending hsh hidle
  have hoff : y.hslDisarmed.hslHandOff =
      .next (if s.hsl.pending then y.hslDisarmed.hslCopy s.hsl.sh false else y.hslDisarmed) := by
    have hsh' : y.hslDisarmed.hsl.sh = s.hsl.sh := hsh
    have hpending' : y.hslDisarmed.hsl.pending = s.hsl.pending := hpending
    rw [State.hslHandOff_of_off (s := y.hslDisarmed) rfl hidle (hsh'.symm ▸ hgood), hsh', hpending']
  simp only [execHslStepEnd, State.at_hsl, hrun, State.hslRuns_at, hruns, State.at_cyc, not_lt.2 hover, ← hy]
  exact (if_congr Iff.rfl hoff rfl).trans (apply_ite Host.Outcome.next _ _ _).symm

/-! ### Writes of HSL_CFG (R287) -/

/-- HSL_CFG with value `v` stored; a release of this cycle still sees the value before. -/
def State.hslCfgStored (s : State) (v : Word) : State :=
  (s.store HSL_CFG v).setHsl { s.hsl with
    cfgAt := s.cyc, cfgPrev := if s.hsl.cfgAt = s.cyc then s.hsl.cfgPrev else s.reg HSL_CFG }

section
variable {t : Nat} {v : Word} {s : State} (hr : s.readyReg HSL_CFG = true) (hv : reservedOf HSL_CFG v = 0#32)
include hr hv

/-- Leaving OFF arms the trigger; the mode waits for the end of a step that is under way. -/
theorem execHslModeWrite_of_start (hoff : s.rd HSL_CFG HSL_CFG_mode = 0) (hon : HSL_CFG_mode.get v ≠ 0)
    (hgood : s.hslTrgBad = false) : execHslModeWrite t v s = .next (if s.hsl.run.isSome
      then ((s.at t).hslCfgStored v).hslArm
      else (((s.at t).hslCfgStored v).setHsl { ((s.at t).hslCfgStored v).hsl with
        mode := HSL_CFG_mode.get v }).hslArm) := by
  have hstart : s.rd HSL_CFG HSL_CFG_mode = 0 ∧ HSL_CFG_mode.get v ≠ 0 := ⟨hoff, hon⟩
  rw [execHslModeWrite, State.hostWrite_of_ready (s.at t) _ hr hv]
  simp only [State.rd_at, State.hslTrgBad_at, hstart, hgood, ne_eq, not_false_eq_true, and_self, if_true,
    Bool.false_eq_true, if_false]
  exact (apply_ite Host.Outcome.next _ _ _).symm

/-- Any other write takes OFF at once when no step is under way. -/
theorem execHslModeWrite_of_other (hnot : s.rd HSL_CFG HSL_CFG_mode ≠ 0 ∨ HSL_CFG_mode.get v = 0)
    (hnone : s.hsl.pending = false) : execHslModeWrite t v s = .next (if HSL_CFG_mode.get v = 0 ∧ s.hsl.run.isNone
      then ((s.at t).hslCfgStored v).setHsl { ((s.at t).hslCfgStored v).hsl with mode := 0 }
      else (s.at t).hslCfgStored v) := by
  have hnot' : ¬ (s.rd HSL_CFG HSL_CFG_mode = 0 ∧ HSL_CFG_mode.get v ≠ 0) := by omega
  rw [execHslModeWrite, State.hostWrite_of_ready (s.at t) _ hr hv]
  refine (if_neg hnot').trans (Eq.trans ?_ (apply_ite Host.Outcome.next _ _ _).symm)
  exact if_congr Iff.rfl (State.hslHandOff_of_none hnone) rfl

end

/-! ### Ring operations (R290, R291) -/

/-- The end of an operation leaves the setting loop as it is. -/
theorem State.endSeq_hsl (s : State) (b r slot len seq : Nat) : (s.endSeq b r slot len seq).hsl = s.hsl :=
  (State.endOp_quiet ..).hsl

/-- An operation that commits while the loop is on ends with its commit pending. -/
theorem State.hslEnd_commit {s : State} (h : s.hsl.mode ≠ 0) (r slot len : Nat) :
    s.hslEnd r slot len true = .next (s.endSeq 9 r slot len s.hoHsl).hslCommit :=
  State.hslHandOff_of_on (by simpa only [State.hslCommit, State.setHsl_hsl, State.endSeq_hsl] using h)

/-- What an operation writes into its buffer leaves the hand-over number. -/
theorem State.hoHsl_bufOut (s : State) (r : Nat) (d : RDesc) (off : Nat) (ws : List Word) :
    (s.bufOut r d off ws).hoHsl = s.hoHsl :=
  congrArg BitVec.toNat ((State.bufOut_quiet ..).regs HSL_HO_SEQ (by decide))

section
variable {t : Nat} {r : Fin 64} {s : State} {d : RDesc}

theorem execHslWrite_of_good {buf : List Word} {l : List (Nat × Word)} (h : s.opFor r 0x09 0 1 = some d)
    (hrange : bits (d.par 8) 10 0 + (d.len + 3) / 4 ≤ probSize) (hmode : bits (d.par 8) 17 16 = 0) (hlen : d.len ≠ 0)
    (hwhole : d.len % 4 = 0) (htake : s.canTake r d (4 * buf.length) = true)
    (hl : l = ((s.bufWords r d buf).zipIdx (bits (d.par 8) 10 0)).map fun p => (p.2, p.1))
    (hgood : (l.any fun p => probBad p.1 p.2) = false) :
    execHslWrite t r buf s = .next ((((s.at t).hslWords l).endSeq 9 r d.slot d.len
      ((s.at t).hslWords l).hoHsl).settleRing r) := by
  refine State.ringOp_next (s := s.at t) h ?_
  simp only [hmode, hlen, hwhole, not_lt.2 hrange, State.takesBuf_eq ((State.canTake_at ..).trans htake), ← hl, hgood,
    State.bufWords_at]
  rfl

theorem execHslCommit_of_on (h : s.opFor r 0x09 0 2 = some d) (hon : s.hsl.mode ≠ 0) :
    execHslCommit t r s = .next ((((s.at t).endSeq 9 r d.slot 0 s.hoHsl).hslCommit).settleRing r) :=
  State.ringOp_next (s := s.at t) h (State.hslEnd_commit (s := s.at t) hon r d.slot 0)

theorem execHslRead_of_good (h : s.opFor r 0x09 0 3 = some d)
    (hrange : bits (d.par 8) 10 0 + (d.len + 3) / 4 ≤ probSize) (hhalf : bits (d.par 8) 17 16 < 2)
    (hwhole : d.len % 4 = 0) (hbuf : s.bufBad r d = false) :
    execHslRead t r s = .next ((((s.at t).bufOut r d 0 ((List.range (d.len / 4)).map fun i =>
      prob (if bits (d.par 8) 17 16 = 0 then s.hsl.sh else s.hsl.act) (bits (d.par 8) 10 0 + i))).endSeq 9 r d.slot d.len
        s.hoHsl).settleRing r) := by
  refine State.ringOp_next (s := s.at t) h ?_
  simp only [not_lt.2 hrange, not_le.2 hhalf, or_self, hwhole, ne_eq, not_true_eq_false, if_false]
  rw [State.givesBuf_eq (s := s.at t) hbuf, State.hslEnd, State.hoHsl_bufOut]
  rfl

theorem execSetObj_of_good {buf : List Word} {l : List (Nat × Word)} (h : s.opFor r 0x09 0 4 = some d)
    (hwhole : d.len % 8 = 0) (hlen : d.len ≠ 0) (htake : s.canTake r d (4 * buf.length) = true) (hon : s.hsl.mode ≠ 0)
    (hl : l = (List.range (d.len / 8)).map fun i => (bits (wAt (s.bufWords r d buf) (2 * i)) 4 0,
      wAt (s.bufWords r d buf) (2 * i + 1)))
    (hgood : (l.any fun p => decide (24 ≤ p.1)) = false) (x : State)
    (hx : x = (s.at t).hslWords (l.map fun p => (249 + 4 * p.1, p.2))) :
    execSetObj t r buf s = .next (((x.endSeq 9 r d.slot d.len x.hoHsl).hslCommit).settleRing r) := by
  subst hl hx
  have hmode : ((s.at t).hslWords ((List.range (d.len / 8)).map (fun i => (bits (wAt (s.bufWords r d buf) (2 * i)) 4 0,
    wAt (s.bufWords r d buf) (2 * i + 1))) |>.map fun p => (249 + 4 * p.1, p.2))).hsl.mode ≠ 0 := hon
  refine State.ringOp_next (s := s.at t) h ?_
  simp only [hwhole, hlen, ne_eq, not_true_eq_false, if_false, State.takesBuf_eq ((State.canTake_at ..).trans htake),
    State.bufWords_at, hgood, Bool.false_eq_true]
  exact State.hslEnd_commit hmode ..

end

/-- Settles O18: one law for each command, above. -/
theorem settingLoopCommands : Obligations.SettingLoopCommands := by
  unfold Obligations.SettingLoopCommands
  refine ⟨?release, ?releaseDue, ?stepEnd, ?start, ?other, ?write, ?commit, ?read, ?setObj, ?fill⟩
  case release =>
    intro t s hruns hon hidle hreached hfrozen hsteps hdue
    have h := execHslTriggerRelease_of_reached hruns rfl hon hidle hreached hfrozen hsteps (by simp [hdue])
    rwa [State.hslReleased_of_idle hdue] at h
  case releaseDue =>
    intro t s hruns hon hidle hreached hfrozen hsteps hdue hgood
    have h := execHslTriggerRelease_of_reached hruns rfl hon hidle hreached hfrozen hsteps (by simp [hgood])
    rwa [State.hslReleased_of_due hdue] at h
  case stepEnd => exact fun t x s hrun hruns hover hgood => execHslStepEnd_of_over hrun hruns hover hgood rfl
  case start => exact fun t v s hr hv hoff hon hgood => execHslModeWrite_of_start hr hv hoff hon hgood
  case other => exact fun t v s hr hv hnot hnone => execHslModeWrite_of_other hr hv hnot hnone
  case write =>
    exact fun t r buf s d h hrange hmode hlen hwhole htake hgood =>
      execHslWrite_of_good h hrange hmode hlen hwhole htake rfl (by simpa [Function.comp_def] using hgood)
  case commit => exact fun t r s d h hon => execHslCommit_of_on h hon
  case read => exact fun t r s d h hrange hhalf hwhole hbuf => execHslRead_of_good h hrange hhalf hwhole hbuf
  case setObj =>
    exact fun t r buf s d l h hwhole hlen htake hon hl hgood =>
      execSetObj_of_good h hwhole hlen htake hon hl hgood _ rfl
  case fill => exact fun t r s d h hb hl => State.fill_next (s := s.at t) h hb (by omega) hl

end Sys2Proof.Machine

/-! PROOFS. The inference engine and the ring operations of vision (spec/12, R304, R307, R313, R315 to R321). -/

namespace Sys2Proof.Machine

/-! ### Inference (R315, R319, R320) -/

theorem State.slot_setCam (s : State) (c : Nat) (x : Cam) (m : Nat) : (s.setCam c x).slot m = s.slot m := rfl

/-- A tensor joins a queue that has room. -/
theorem execTensorReady_of_room {t m : Nat} {c : Fin 12} {i : VItem} {rest : List (Nat × VItem)} {s : State}
    (htens : (s.cam c).tens = (m, i) :: rest) (hruns : s.inferRuns = true) (hroom : (s.slot m).q.length < 4) :
    execTensorReady t c s = .next ((((s.at t).setCam c { s.cam c with tens := rest }).setSlot m { s.slot m with
      q := (s.slot m).q ++ [i] }).inferStart) := by
  simp only [execTensorReady, State.cam_at, htens, State.inferRuns_at, hruns, Bool.not_true, Bool.false_eq_true, if_false,
    State.slot_setCam, State.slot_at]
  cases hq : (s.slot m).q with
  | nil => rfl
  | cons o q => exact if_neg (not_le.2 (hq ▸ hroom))

section
variable {t m k : Nat} {h : List Word} {i : VItem} {s : State} (hrun : s.vis.run = some (m, h, i, k))
  (hruns : s.inferRuns = true)
include hrun hruns

/-- A run within twice its time issues its result, or is dropped for an uncorrectable error. -/
theorem execInferenceRunDone_of_inTime {scal : List Word} {blob : List Byte} {ecc : List EccHit}
    (hin : max s.cyc t - k ≤ us (2 * mdMaxUs h)) (x : State)
    (hx : x = ({ s.at t with vis := { s.vis with run := none } } : State).wr (VIS_MOD_STAT m) VIS_MOD_STAT_last_us
      (min 0xFFFFFF ((max s.cyc t - k) / 200))) :
    execInferenceRunDone t ⟨scal, blob⟩ ecc s = .next (if eccBad (sramHits ecc)
      then (((x.bump (VIS_MOD_CNT m) VIS_MOD_CNT_drop_cnt).inferResult m h i ifDrop ((max s.cyc t - k) / 200) []
        []).eccDone (sramHits ecc)).inferStart
      else (((x.eccAll (sramHits ecc)).inferResult m h i 0 ((max s.cyc t - k) / 200) scal blob).clear2
        (0x0A28 + m)).inferStart) := by
  subst hx
  simp only [execInferenceRunDone, State.at_vis, hrun, State.inferRuns_at, hruns, State.at_cyc, not_lt.2 hin,
    decide_false, Bool.not_true, Bool.or_false, Bool.false_eq_true, if_false]
  exact (apply_ite Host.Outcome.next _ _ _).symm

theorem execInferenceTimeout_of_over (hover : us (2 * mdMaxUs h) < max s.cyc t - k) :
    execInferenceTimeout t s = .next ((((({ s.at t with vis := { s.vis with run := none } } : State).bump (VIS_MOD_CNT m)
      VIS_MOD_CNT_tmo_cnt).inferResult m h i ifTimeout ((max s.cyc t - k) / 200) [] []).raise2
        (0x0A28 + m) 0).inferStart) := by
  simp only [execInferenceTimeout, State.at_vis, hrun, State.inferRuns_at, hruns, State.at_cyc, not_le.2 hover,
    decide_false, Bool.not_true, Bool.or_false, Bool.false_eq_true, if_false]

end

/-! ### Exposure sets and transfers to a sensor (R307) -/

section
variable {t : Nat} {r : Fin 64} {s : State} {d : RDesc}

section
variable {buf : List Word} (hwhole : d.len % 4 = 0) (hlen : d.len ≠ 0) (htake : s.canTake r d (4 * buf.length) = true)
  (hcam : bits (d.par 8) 3 0 < 12) (hitems : d.len ≤ 128)
include hwhole hlen htake hcam hitems

theorem execSetExposure_of_enabled (h : s.opFor r 0x0A 0 1 = some d) (hen : s.camEn (bits (d.par 8) 3 0) = true) :
    execSetExposure t ⟨r, buf⟩ s = .next ((((s.at t).startOp r d.slot).setCam (bits (d.par 8) 3 0) {
      s.cam (bits (d.par 8) 3 0) with
        exps := (s.cam (bits (d.par 8) 3 0)).exps ++
          [⟨(r, d.slot), bits (d.par 8) 31 16, (d.par 9).toNat, s.bufWords r d buf⟩] }).settleRing r) := by
  rw [execSetExposure]
  refine State.ringOp_next (s := s.at t) h ?_
  simp only [hwhole, hlen, not_le.2 hcam, not_lt.2 hitems, State.camEn_at, hen, ne_eq, not_true_eq_false, Bool.not_true,
    Bool.false_eq_true, if_false, State.takesBuf_eq ((State.canTake_at ..).trans htake)]
  rfl

/-- Items go to the sensor up to one it refuses, outside the hold-up. -/
theorem execSensorXfer_of_good {reads : List Byte} (nack : Option Nat) (hpower : s.pow.holdUp = none)
    (h : s.opFor r 0x0A 0 2 = some d) : execSensorXfer t r buf reads nack s =
      .next (((s.at t).sensorXfer r d (bits (d.par 8) 3 0) (s.bufWords r d buf) reads nack).settleRing r) := by
  have hgo : s.pow.holdUp.isSome ≠ true := by simp [hpower]
  refine (if_neg hgo).trans (State.ringOp_next (s := s.at t) h ?_)
  simp only [hwhole, hlen, not_le.2 hcam, not_lt.2 hitems, ne_eq, not_true_eq_false, if_false, State.bufWords_at,
    State.takesBuf_eq ((State.canTake_at ..).trans htake)]

end

section
variable {c : Fin 12} {x : VExp} {rest : List VExp} (hexps : (s.cam c).exps = x :: rest) (hruns : s.visRuns = true)
  (hframe : (s.cam c).frame = none)
include hexps hruns hframe

/-- A sensor that refuses item `i` in the blanking aborts the operation. -/
theorem execExposureAccepted_of_refused (i : Nat) : execExposureAccepted t c (some i) s =
    .next (((((s.at t).sendItems c x.items (some i)).setCam c { s.cam c with exps := rest }).endRunning x.op false
      stAborted 0 i).settleRing x.op.1) := by
  simp only [execExposureAccepted, State.cam_at, hexps, State.visRuns_at, hruns, hframe, Option.isSome_none, Bool.not_true,
    Bool.or_false, Bool.false_eq_true, if_false]

/-- Items that are all acknowledged complete it, and its token is accepted. -/
theorem execExposureAccepted_of_all {y : State} (hy : y = (s.at t).sendItems c x.items none) :
    execExposureAccepted t c none s = .next (((((y.setCam c { s.cam c with
      exps := rest, toks := (s.cam c).toks ++ [⟨x.token, x.exp, y.cyc, 0⟩] }).relock c).wr (VIS_CAM_TOK c)
        VIS_CAM_TOK_tok_acc x.token).endRunning x.op false stDone (4 * x.items.length)
          (y.mtime % 2 ^ 32)).settleRing x.op.1) := by
  subst hy
  simp only [execExposureAccepted, State.cam_at, hexps, State.visRuns_at, hruns, hframe, Option.isSome_none, Bool.not_true,
    Bool.or_false, Bool.false_eq_true, if_false]

end

/-! ### Parameters (R304): once the hand-overs of idle cameras that are due have been made, the state is `z` -/

section
variable {z : State} (hz : z = (s.at t).camsNow) (hwhole : d.len % 4 = 0) (hlen : d.len ≠ 0)
  (hcam : bits (d.par 8) 3 0 < 12) (hrange : bits (d.par 8) 27 16 + d.len / 4 ≤ 4096)
include hz hwhole hlen hcam hrange

theorem execParamRead_of_good (h : z.opFor r 0x0A 0 4 = some d) (hbuf : z.bufBad r d = false) :
    execParamRead t r s = .next (((z.bufOut r d 0 ((List.range (d.len / 4)).map fun i => cellGet (fun _ => 0#32)
      (if bits (d.par 8) 30 30 = 1 then (z.cam (bits (d.par 8) 3 0)).act else (z.cam (bits (d.par 8) 3 0)).sh)
        (bits (d.par 8) 27 16 + i))).endOp r d.slot stDone d.len 0).settleRing r) := by
  rw [execParamRead, ← hz]
  refine State.ringOp_next h ?_
  simp only [hwhole, hlen, not_le.2 hcam, not_lt.2 hrange, ne_eq, not_true_eq_false, if_false, State.givesBuf_eq hbuf]

theorem execParamWrite_of_good {buf : List Word} {l : List (Word × Nat)} (h : z.opFor r 0x0A 0 3 = some d)
    (htake : z.canTake r d (4 * buf.length) = true) (hl : l = (z.bufWords r d buf).zipIdx (bits (d.par 8) 27 16))
    (hgood : (l.any fun p => paramBad p.2 p.1) = false) :
    execParamWrite t r buf s = .next (((z.camWrite (bits (d.par 8) 3 0) l (bits (d.par 8) 31 31 == 1)).endSeq 0x0A r
      d.slot d.len (z.reg VIS_HO_SEQ).toNat).settleRing r) := by
  rw [execParamWrite, ← hz]
  refine State.ringOp_next h ?_
  simp only [hwhole, hlen, not_le.2 hcam, not_lt.2 hrange, ne_eq, not_true_eq_false, if_false, State.takesBuf_eq htake,
    ← hl, hgood, Bool.false_eq_true]

end

/-! ### Models and encoders (R313, R316) -/

/-- A container whose signature checks, with a good header that fits, fills the slot. -/
theorem execLoadModel_of_good {buf ws hd : List Word} (h : s.opFor r 0x0A 0 5 = some d)
    (htake : s.canTake r d (4 * buf.length) = true) (hlen : d.len ≠ 0) (hfree : s.slotBound (bits (d.par 8) 2 0) = false)
    (hws : ws = s.bufWords r d buf) (hhd : hd = (List.range 16).map fun i => wAt ws (16 + i))
    (hok : containerOk ws 0x08 d.len = true) (hgood : mdBad hd = false)
    (hfits : s.modelFits (bits (d.par 8) 2 0) hd = true) :
    execLoadModel t r buf true s = .next (((((s.at t).putModel (bits (d.par 8) 2 0) (some hd)).inferStart).endOp r d.slot
      stDone d.len 0).settleRing r) := by
  refine State.ringOp_next (s := s.at t) h ?_
  simp only [State.bufWords_at, ← hws, ← hhd, hlen, State.slotBound_at, hfree, hok, hgood, State.modelFits_at, hfits,
    State.takesBuf_eq ((State.canTake_at ..).trans htake), Bool.not_true, Bool.or_false, Bool.false_eq_true, if_false]

theorem execUnloadModel_of_free (h : s.opFor r 0x0A 0 6 = some d) (hfree : s.slotBound (bits (d.par 8) 2 0) = false) :
    execUnloadModel t r s = .next (((((s.slot (bits (d.par 8) 2 0)).q.foldl (fun x i => x.inferDrop (bits (d.par 8) 2 0) i)
      ((s.at t).setSlot (bits (d.par 8) 2 0) { s.slot (bits (d.par 8) 2 0) with q := [] })).putModel (bits (d.par 8) 2 0)
        none).endOp r d.slot stDone 0 0).settleRing r) :=
  State.ringOp_next (s := s.at t) h (if_neg (by simp [hfree]))

theorem execForceIdr_of_enabled (h : s.opFor r 0x0A 0 7 = some d)
    (hen : s.bit (VIS_ENC_CFG (bits (d.par 8) 1 0)) VIS_ENC_CFG_en = true) :
    execForceIdr t r s = .next ((((s.at t).setEnc (bits (d.par 8) 1 0) { s.enc (bits (d.par 8) 1 0) with
      force := true }).endOp r d.slot stDone 0 0).settleRing r) :=
  State.ringOp_next (s := s.at t) h (if_pos hen)

end

/-- Settles O20: one law for each command, above. -/
theorem visionRingCommands : Obligations.VisionRingCommands := by
  unfold Obligations.VisionRingCommands
  refine ⟨?tensor, ?done, ?timeout, ?setExposure, ?accepted, ?xfer, ?paramRead, ?paramWrite, ?load, ?unload, ?idr, ?fills⟩
  case tensor => exact fun t m c i rest s htens hruns hroom => execTensorReady_of_room htens hruns hroom
  case done =>
    exact fun t m k scal blob ecc h i s hrun hruns hin => execInferenceRunDone_of_inTime hrun hruns hin _ rfl
  case timeout => exact fun t m k h i s hrun hruns hover => execInferenceTimeout_of_over hrun hruns hover
  case setExposure =>
    exact fun t r buf s d h hwhole hlen htake hcam hitems hen =>
      execSetExposure_of_enabled hwhole hlen htake hcam hitems h hen
  case accepted =>
    intro t c nack x rest s y hexps hruns hframe hy
    cases nack with
    | none => exact execExposureAccepted_of_all hexps hruns hframe hy
    | some i => subst hy; exact execExposureAccepted_of_refused hexps hruns hframe i
  case xfer =>
    intro t r buf reads s d hpower h hwhole hlen htake hcam hitems
    have hxfer (nack : Option Nat) :=
      execSensorXfer_of_good (t := t) (reads := reads) hwhole hlen htake hcam hitems nack hpower h
    exact ⟨hxfer none, fun k => hxfer (some k)⟩
  case paramRead =>
    exact fun t r s z d hz h hwhole hlen hbuf hcam hrange => execParamRead_of_good hz hwhole hlen hcam hrange h hbuf
  case paramWrite =>
    exact fun t r buf s z d l hz h hwhole hlen htake hcam hrange hl hgood =>
      execParamWrite_of_good hz hwhole hlen hcam hrange h htake hl hgood
  case load =>
    exact fun t r buf s d ws hd h htake hlen hfree hws hhd hok hgood hfits =>
      execLoadModel_of_good h htake hlen hfree hws hhd hok hgood hfits
  case unload => exact fun t r s d h hfree => execUnloadModel_of_free h hfree
  case idr => exact fun t r s d h hen => execForceIdr_of_enabled h hen
  case fills =>
    exact fun t r e s d hb hl => ⟨fun h => State.fill_next (s := s.at t) h hb hl hl,
      fun h => State.fill_next (s := s.at t) h hb hl hl, fun h => State.fill_next (s := s.at t) h hb hl hl⟩

end Sys2Proof.Machine

/-! PROOFS. Fixes, antenna supplies, checks, corrections and snapshots of GNS, and module time (spec/13, R327 to R348). -/

namespace Sys2Proof.Machine

/-! ### Antenna supplies (R327) -/

/-- A supply that is on is allowed, so that its antenna may draw current. -/
theorem State.antMisuse_of_on {s : State} {a : Nat} (h : s.antOn a = true) (ma : Nat) : s.antMisuse a ma = false := by
  simp only [State.antOn, Bool.and_eq_true] at h
  obtain ⟨⟨-, hsup⟩, -⟩ := h
  simp [State.antMisuse, hsup]

theorem State.antCurrent_of_on {s : State} {a : Nat} (h : s.antOn a = true) (ma : Nat) :
    s.antCurrent a ma = if 3 ≤ ma
      then ((s.wr GNS_ANT (antCur a) (min 0xFF ma)).antLimit a (decide (100 ≤ ma))).wr GNS_ANT (antOpen a) 0
      else if s.bit GNS_ANT (antOpen a) then (s.wr GNS_ANT (antCur a) (min 0xFF ma)).antLimit a (decide (100 ≤ ma))
      else (((((s.wr GNS_ANT (antCur a) (min 0xFF ma)).antLimit a (decide (100 ≤ ma))).wr GNS_ANT (antOpen a) 1).antSeen a
        false).note (0x0B01 + 2 * a) 0) := by
  simp [State.antCurrent, h]

theorem execAntennaOpen_of_on {t ma : Nat} {a : Fin 2} {s : State} (h : (s.at t).antOn a = true) :
    execAntennaOpen t ⟨a, ma⟩ s = .next ((s.at t).antCurrent a ma) :=
  if_neg (by simp [State.antMisuse_of_on h])

/-- A supply that has been at its limit for 10 ms turns off, to be retried 1 s later. -/
theorem execAntennaShort_of_long {t : Nat} {a : Fin 2} {s y : State} (hon : s.antOn a = true)
    (hlong : cellGet (fun _ => 0) s.gns.antShortAt a = 0 ∨
      cellGet (fun _ => 0) s.gns.antShortAt a + ms 10 ≤ max s.cyc t) (hy : y = (s.at t).antLimit a true) :
    execAntennaShort t a s = .next ((((y.setGns { y.gns with
      antRetry := cellSet (fun _ => 0) y.gns.antRetry a (max s.cyc t + sec 1) }).antShortTime a 0).wr GNS_ANT (antCur a)
        0).raise2 (0x0B02 + 2 * a) 0) := by
  subst hy
  refine if_neg ?_
  simp only [State.antOn_at, hon, State.at_gns, State.at_cyc, Bool.not_true, Bool.false_or, Bool.and_eq_true,
    decide_eq_true_eq]
  omega

theorem execAntennaRetry_of_due {t : Nat} {a : Fin 2} {s : State} (hset : cellGet (fun _ => 0) s.gns.antRetry a ≠ 0)
    (hpower : s.pow.holdUp = none) (hdue : cellGet (fun _ => 0) s.gns.antRetry a ≤ max s.cyc t) :
    execAntennaRetry t a s = .next ((s.at t).antOff a) :=
  if_neg (by simp [hset, hpower, not_lt.2 hdue])

/-! ### Consistency checks (R335, R336) -/

theorem State.suspect_exclSync (s : State) : s.exclSync.suspect = s.suspect := by
  simp only [State.suspect, State.exclSync, State.bit, State.rd_wr_other _ _ _ _ _ _ (show GNS_STAT ≠ GNS_CHKSTAT by decide)]

theorem State.suspect_orBits (s : State) (v : Nat) :
    (s.orBits GNS_CHKSTAT GNS_CHKSTAT_fail_seen v).suspect = s.suspect := by
  rw [State.suspect, State.suspect, State.bit, State.bit, State.rd, State.rd, State.reg_orBits_other _ _ _ _ _ (by decide)]

/-- A second in which no check sets SUSPECT is counted; the third in a row ends it. -/
theorem State.suspectCalm_spec (s : State) : s.suspectCalm.gns = { s.gns with calm := s.gns.calm + 1 } ∧
    s.suspectCalm.suspect = (s.suspect && decide (s.gns.calm + 1 < 3)) := by
  simp only [State.suspectCalm]
  by_cases hend : (s.suspect && decide (3 ≤ s.gns.calm + 1)) = true
  · have hthird : ¬ (s.gns.calm + 1 < 3) := by simp at hend; omega
    have hq := State.clear2_quiet ((s.setGns { s.gns with calm := s.gns.calm + 1 }).wr GNS_STAT GNS_STAT_suspect 0) 0x0B12
    rw [if_pos hend]
    refine ⟨hq.gns, ?_⟩
    rw [State.suspect, State.bit, hq.rd _ _ (by decide), State.rd_wr_same _ _ _ _ (by decide)]
    simp [hthird]
  · rw [if_neg hend]
    refine ⟨rfl, ?_⟩
    have hsame : (s.setGns { s.gns with calm := s.gns.calm + 1 }).suspect = s.suspect := rfl
    rw [hsame]
    cases hs : s.suspect
    · rfl
    · simp [hs] at hend; simp; omega

/-- A check second in which nothing fails and nothing is excluded. -/
theorem execGnssCheckSecond_of_clean {t : Nat} {chk : GnssCheck} {s z : State} (hz : z = s.at t)
    (hruns : z.gnsRuns = true) (hiono : ionoFails chk = []) (hcode : z.codeFails chk = [])
    (hpower : z.powerFails chk = []) (hcons : z.consFails chk = []) (hagree : chk.noAgree = false)
    (hosc : z.oscFails chk = false) (hexcl : z.gns.excl = []) :
    execGnssCheckSecond t chk s =
      .next (((z.setGns { z.gns with excl := [] }).exclSync.orBits GNS_CHKSTAT GNS_CHKSTAT_fail_seen 0).suspectCalm) := by
  simp only [execGnssCheckSecond, ← hz, hruns, hiono, hcode, hpower, hcons, hagree, hosc, hexcl, exclude, ite_self,
    List.filter_nil, List.foldl_nil, List.any_nil, Bool.and_false, Bool.or_false, List.isEmpty_nil, Bool.not_true,
    Bool.false_eq_true, if_false]
  rfl

/-! ### Writes, corrections and snapshots (R333, R345, R346, R348) -/

theorem execGnssDisable_of_unlocked {t : Nat} {v : Word} {s : State} (hr : s.readyReg GNS_CFG = true)
    (hv : reservedOf GNS_CFG v = 0#32) (hfree : s.gnsLocked v = false) :
    execGnssDisable t v s = .next ((s.at t).gnsConfig v) := by
  rw [execGnssDisable, State.gnsLocked_at, hfree, State.hostWrite_of_ready (s.at t) _ hr hv]

section
variable {t : Nat} {r : Fin 64} {s : State} {d : RDesc}

/-- The frames of what has come in are read one after another, and the rest is kept. -/
theorem execRtcmIn_of_buffer {buf bs : List Byte} (f : List (List Byte × Bool) × List Byte)
    (h : s.opFor r 0x0B 0 1 = some d) (htake : s.canTake r d buf.length = true)
    (hbs : bs = s.gns.rtcm ++ s.bufIn r d buf) (hf : f = rtcmFrames bs.length bs) :
    execRtcmIn t r buf s = .next (((f.1.foldl (fun x p => if p.2 then x.rtcmGood p.1 else x.rtcmBad)
      ((s.at t).setGns { s.gns with rtcm := f.2 })).endOp r d.slot stDone d.len
        (f.1.filter Prod.snd).length).settleRing r) := by
  subst hbs hf
  exact State.ringOp_next (s := s.at t) h (State.takesBuf_eq ((State.canTake_at ..).trans htake))

/-- A capture asked for at once starts in this cycle. -/
theorem execSnapshot_of_now (h : s.opFor r 0x0B 0 2 = some d) (hbuf : s.bufBad r d = false)
    (hpower : s.pow.holdUp = none) (hlo : 2 ≤ bits (d.par 8) 5 0) (hhi : bits (d.par 8) 5 0 ≤ 32)
    (hmask : bits (d.par 8) 11 8 ≠ 0)
    (hlen : 64 + streams (bits (d.par 8) 11 8) * bits (d.par 8) 5 0 * 81840 ≤ d.len) (hidle : s.gns.snap = none)
    (hhead : ¬ (4 ≤ bits (d.par 8) 11 8 ∧ s.bit GNS_CFG GNS_CFG_head = false)) (hnow : u64 (d.par 9) (d.par 10) = 0) :
    execSnapshot t r s = .next ((((s.at t).startOp r d.slot).setGns { s.gns with
      snap := some ⟨(r.val, d.slot), (s.at t).mtime, bits (d.par 8) 5 0, bits (d.par 8) 11 8, some (max s.cyc t), false,
        some (s.gns.foffThen (max s.cyc t))⟩ }).settleRing r) := by
  have hgo : s.pow.holdUp.isSome ≠ true := by simp [hpower]
  have hlegal : ¬ (bits (d.par 8) 5 0 < 2 ∨ 32 < bits (d.par 8) 5 0 ∨ bits (d.par 8) 11 8 = 0 ∨
    d.len < 64 + streams (bits (d.par 8) 11 8) * bits (d.par 8) 5 0 * 81840) := by omega
  have hbands : ¬ (4 ≤ bits (d.par 8) 11 8 ∧ (!s.bit GNS_CFG GNS_CFG_head) = true) := by simpa using hhead
  refine (if_neg hgo).trans (State.ringOp_next (s := s.at t) h ?_)
  simp only [State.givesBuf_eq (s := s.at t) hbuf, hlegal, if_false, State.at_gns, hidle, Option.isSome_none,
    Bool.false_eq_true, State.bit_at, hbands, hnow, beq_self_eq_true, Bool.true_or, if_true]
  rfl

end

/-- What a capture that has been taken puts into its buffer. -/
def State.snapBytes (s : State) (x : SnapRun) (agc0 agc1 : BitVec 16) (samples : List Byte) : List Byte :=
  wordsBytes ([lo32 x.start, hi32 x.start, packW [(x.len, 24), (x.mask, 20), (b2n x.stepped, 19)], word 163680000,
    agc1 ++ agc0, wInt (x.foff.getD (s.gns.foffThen (s.snapBegan x)))] ++ List.replicate 10 0#32) ++
  (List.range (streams x.mask * x.len * 81840)).map fun i => samples.getD i 0#8

theorem execSnapshotDone_of_over {t : Nat} {agc0 agc1 : BitVec 16} {samples : List Byte} {x : SnapRun} {s z : State}
    {d : RDesc} (hz : z = s.at t) (hsnap : z.gns.snap = some x) (hpower : z.pow.holdUp = none) (hbegun : x.begun ≠ none)
    (hover : z.snapBegan x + ms x.len ≤ z.cyc) (hrunning : z.running x.op.1 x.op.2 = some d) :
    execSnapshotDone t agc0 agc1 samples s = .next (((z.setGns { z.gns with snap := none }).bufOutBytes x.op.1 d 0
      (z.snapBytes x agc0 agc1 samples)).finish x.op false stDone (64 + streams x.mask * x.len * 81840) 0) := by
  have hwaiting : x.begun.isNone = false := by simpa [Option.isSome_iff_ne_none] using hbegun
  have hrunning' : (z.setGns { z.gns with snap := none }).running x.op.1 x.op.2 = some d := hrunning
  simp only [execSnapshotDone, ← hz, hsnap, hpower, hwaiting, not_lt.2 hover, hrunning', Option.isSome_none,
    Bool.false_and, decide_false, Bool.or_false, Bool.false_eq_true, if_false]
  rfl

/-- Settles O21: one law for each command, above. -/
theorem positioningCommands : Obligations.PositioningCommands := by
  unfold Obligations.PositioningCommands
  refine ⟨?fix, ?ant, ?short, ?retry, ?check, ?expiry, ?write, ?rtcm, ?snapshot, ?done, ?fills⟩
  case fix =>
    intro t x s z hz hruns hnew h0 h1
    subst hz
    refine (if_neg ?due).trans (if_neg ?drawn)
    case due => simpa [hruns] using hnew
    case drawn => simp [h0, h1]
  case ant =>
    intro t ma a s z hz hon
    subst hz
    exact (execAntennaOpen_of_on hon).trans (congrArg _ (State.antCurrent_of_on hon ma))
  case short => exact fun t a s y hon hlong hy => execAntennaShort_of_long hon hlong hy
  case retry => exact fun t a s hset hpower hdue => execAntennaRetry_of_due hset hpower hdue
  case check =>
    rintro t chk s z hz hruns ⟨hiono, hcode, hpower, hcons, hagree⟩ hosc hexcl
    refine ⟨_, execGnssCheckSecond_of_clean hz hruns hiono hcode hpower hcons hagree hosc hexcl, ?_⟩
    obtain ⟨hgns, hsuspect⟩ := State.suspectCalm_spec
      ((z.setGns { z.gns with excl := [] }).exclSync.orBits GNS_CHKSTAT GNS_CHKSTAT_fail_seen 0)
    refine ⟨congrArg Gns.excl hgns, congrArg Gns.calm hgns, ?_⟩
    rw [hsuspect, State.suspect_orBits, State.suspect_exclSync]
    rfl
  case expiry => exact fun t id con s => rfl
  case write => exact fun t v s hr hv hfree => execGnssDisable_of_unlocked hr hv hfree
  case rtcm => exact fun t r buf s d bs h htake hbs => execRtcmIn_of_buffer _ h htake hbs rfl
  case snapshot =>
    exact fun t r s d h hbuf hpower hlo hhi hmask hlen hidle hhead hnow =>
      execSnapshot_of_now h hbuf hpower hlo hhi hmask hlen hidle hhead hnow
  case done =>
    exact fun t agc0 agc1 samples x s z d hz hsnap hpower hbegun hover hrunning =>
      execSnapshotDone_of_over hz hsnap hpower hbegun hover hrunning
  case fills =>
    exact fun t r s d hb hl => ⟨fun h => State.fill_next (s := s.at t) h hb (by omega) hl,
      fun h => State.fill_next (s := s.at t) h hb (by omega) hl⟩

/-! ### Module time (R338, R339, R342, R343) -/

/-- `u` has noted the second that `s` has, and shows the time state that `s` shows. -/
structure State.SameSecond (s u : State) : Prop where
  second : u.gns.second = s.gns.second
  tstate : u.tstate = s.tstate

theorem State.SameSecond.trans {s t u : State} (h : s.SameSecond t) (k : t.SameSecond u) : s.SameSecond u :=
  ⟨k.second.trans h.second, k.tstate.trans h.tstate⟩

theorem State.SameSecond.ite {s a b : State} {c : Prop} [Decidable c] (h : s.SameSecond a) (k : s.SameSecond b) :
    s.SameSecond (if c then a else b) := by split <;> assumption

theorem State.bump_sameSecond (s : State) {off : Nat} (f : Fld) (h : GNS_STAT ≠ off) : s.SameSecond (s.bump off f) :=
  ⟨congrArg Gns.second (State.bump_gns ..), State.rd_wr_other s off GNS_STAT f GNS_STAT_tstate _ h⟩

theorem State.gnsSend_sameSecond (s : State) (f : Nat) (ws : List Word) : s.SameSecond (s.gnsSend f ws) := by
  have hq := State.deliver_quiet s (0xB0 + f) ws
  have hdeliver : s.SameSecond (s.deliver (0xB0 + f) ws).1 := ⟨congrArg Gns.second hq.gns, hq.rd _ _ (by decide)⟩
  simp only [State.gnsSend]
  exact .ite (hdeliver.trans (State.bump_sameSecond _ _ (by decide))) hdeliver

theorem State.discipline_sameSecond (s : State) (sol : TimeSol) (e : Int) : s.SameSecond (s.discipline sol e) :=
  .ite ⟨rfl, rfl⟩ ⟨rfl, rfl⟩

/-- The second is noted, and the time state is what the decision of this second made it. -/
theorem execTimeSecondBoundary_of_new {t : Nat} {sol : TimeSol} {s z : State} (hz : z = s.at t) (hon : z.pow.on = true)
    (hedge : z.mtime % 1000000000 < 5) (hnew : z.gns.second ≠ some (z.mtime / 1000000000 * 1000000000)) :
    ∃ u x, execTimeSecondBoundary t sol s = .next u ∧
      x = (z.timeDecide sol (z.mtime / 1000000000 * 1000000000)).1 ∧
      (x.setGns { x.gns with second := some (z.mtime / 1000000000 * 1000000000) }).SameSecond u := by
  have hgo : ¬ ((!z.pow.on || decide (5 ≤ z.mtime % 1000000000) ||
      z.gns.second == some (z.mtime / 1000000000 * 1000000000)) = true) := by simp [hon, not_le.2 hedge, hnew]
  subst hz
  refine ⟨_, _, if_neg hgo, rfl, ?_⟩
  generalize (s.at t).mtime / 1000000000 * 1000000000 = edge
  obtain ⟨a, step⟩ := (s.at t).timeDecide sol edge
  have hpps (x : State) (c : Bool) (ends : Option Nat) :
      x.SameSecond (if c then (x.setGns { x.gns with edge := some edge, ppsEnd := ends }).emit .pps else x) :=
    .ite ⟨rfl, rfl⟩ ⟨rfl, rfl⟩
  have hunc (x : State) (v : Word) : x.SameSecond (x.setReg GNS_UNC v) :=
    ⟨rfl, congrArg (GNS_STAT_tstate.get ·) (State.reg_setReg_other x GNS_UNC GNS_STAT v (by decide))⟩
  have hgood (x : State) (c : Bool) (unc : Nat) (kept : Store) : x.SameSecond
      (if c then { x with gns := { x.gns with goodAt := (s.at t).cyc, goodUnc := unc }, kept := kept } else x) :=
    .ite ⟨rfl, rfl⟩ ⟨rfl, rfl⟩
  exact ((((State.discipline_sameSecond ..).trans (hunc ..)).trans (hgood ..)).trans (hpps ..)).trans
    (State.gnsSend_sameSecond ..)

theorem execSlewEnd_of_small {t : Nat} {x : Nat × Nat} {s : State} (hstate : s.tstate = tsSlew)
    (hslew : s.gns.slew = some x) (hsmall : x.2 * sec 1 < 20 * (max s.cyc t - x.1) + 5 * sec 1) :
    execSlewEnd t s =
      .next (((s.at t).setGns { s.gns with slew := none }).wr GNS_STAT GNS_STAT_tstate tsLocked) := by
  simp only [execSlewEnd, State.at_gns, hslew]
  exact if_pos ⟨hstate, hsmall⟩

theorem execPpsPulseEnd_of_over {t c : Nat} {s : State} (hpps : s.gns.ppsEnd = some c) (hover : c ≤ max s.cyc t) :
    execPpsPulseEnd t s = .next ((s.at t).setGns { s.gns with ppsEnd := none }) := by
  simp only [execPpsPulseEnd, State.at_gns, hpps]
  exact if_neg (not_lt.2 hover)

/-- Settles O22: one law for each command, above. -/
theorem moduleTimeCommands : Obligations.ModuleTimeCommands := by
  unfold Obligations.ModuleTimeCommands
  refine ⟨?second, ?slew, ?pps⟩
  case second =>
    intro t sol s z hz hon hedge hnew
    obtain ⟨u, x, hu, rfl, hsame⟩ := execTimeSecondBoundary_of_new (sol := sol) hz hon hedge hnew
    exact ⟨u, hu, hsame.second, hsame.tstate⟩
  case slew => exact fun t x s hstate hslew hsmall => execSlewEnd_of_small hstate hslew hsmall
  case pps => exact fun t c s hpps hover => execPpsPulseEnd_of_over hpps hover

end Sys2Proof.Machine

/-! PROOFS. The state that a CAN channel's error counters select, and the lengths of its frames (spec/14, R356, R364). -/

namespace Sys2Proof.Machine

/-! ### Error states (R364) -/

theorem not_logReg_canStat {n : Nat} (hn : n < 8) : ¬ LogReg (CAN_STAT n) := by
  simp only [LogReg, CAN_STAT, RNG_CNT, FLT_CNT0, FLT_CNT1, FLT_LAST, REC_CNT]
  omega

/-- Held queues are shown in CAN_QSTATn alone. -/
theorem State.reg_boHeld (s : State) (n : Nat) {off : Nat} (h : off ≠ CAN_QSTAT n) :
    (s.boHeld n).reg off = s.reg off := by
  unfold State.boHeld
  induction List.range 4 generalizing s with
  | nil => rfl
  | cons q l ih =>
    refine (ih _).trans ?_
    dsimp only
    split
    · rfl
    · exact State.reg_orBits_other _ _ _ _ _ h

/-- In `u` channel `n` is in state `st`, with the error counters that it has in `s`. -/
structure State.CanShows (s u : State) (n st : Nat) : Prop where
  state : u.canState n = st
  tec : u.rd (CAN_STAT n) CAN_STAT_tec = s.rd (CAN_STAT n) CAN_STAT_tec
  rec_ : u.rd (CAN_STAT n) CAN_STAT_rec = s.rd (CAN_STAT n) CAN_STAT_rec

namespace State.CanShows

variable {s u v : State} {n st : Nat}

theorem of_reg (h : s.CanShows u n st) (hreg : v.reg (CAN_STAT n) = u.reg (CAN_STAT n)) : s.CanShows v n st := by
  obtain ⟨hstate, htec, hrec⟩ := h
  constructor <;> simpa only [State.canState, State.rd, hreg]

theorem wr_state (hu : u.reg (CAN_STAT n) = s.reg (CAN_STAT n)) (hst : st < 4) :
    s.CanShows (u.wr (CAN_STAT n) CAN_STAT_state st) n st where
  state := (State.rd_wr_same _ _ _ _ (by decide)).trans (Nat.mod_eq_of_lt hst)
  tec := (State.rd_wr_field _ _ _ _ _ (by decide) (by decide)).trans (congrArg _ hu)
  rec_ := (State.rd_wr_field _ _ _ _ _ (by decide) (by decide)).trans (congrArg _ hu)

/-- The bits that remember an error state stand beside the state and the counters. -/
theorem wr_seen (h : s.CanShows u n st) (f : Fld) (w : Nat) (hf : 25 ≤ f.lo) (htop : f.lo + f.wd ≤ 30) :
    s.CanShows (u.wr (CAN_STAT n) f w) n st where
  state := (State.rd_wr_field u _ f CAN_STAT_state w (by omega) (.inr htop)).trans h.state
  tec := (State.rd_wr_field u _ f CAN_STAT_tec w (by omega) (.inl hf)).trans h.tec
  rec_ := (State.rd_wr_field u _ f CAN_STAT_rec w (by omega) (.inl (le_trans (by decide) hf))).trans h.rec_

theorem quiet (h : s.CanShows u n st) (hq : Quiet u v) (hn : n < 8) : s.CanShows v n st :=
  h.of_reg (hq.regs _ (not_logReg_canStat hn))

end State.CanShows

theorem State.canConfine_of_out {s : State} {n : Nat} (h : s.canState n = csBusOff ∨ s.canState n = csRecovering) :
    s.canConfine n = s := if_pos h

/-- A channel on its bus takes the state that its counters select. -/
theorem State.canConfine_shows {s : State} {n : Nat} (hn : n < 8) (hoff : s.canState n ≠ csBusOff)
    (hrec : s.canState n ≠ csRecovering) : s.CanShows (s.canConfine n) n
      (if 255 < s.rd (CAN_STAT n) CAN_STAT_tec then csBusOff
      else if 127 < s.rd (CAN_STAT n) CAN_STAT_tec ∨ 127 < s.rd (CAN_STAT n) CAN_STAT_rec then csPassive
      else csActive) := by
  have hon : ¬ (s.canState n = csBusOff ∨ s.canState n = csRecovering) := by simp [hoff, hrec]
  simp only [State.canConfine, if_neg hon, Bool.or_eq_true, decide_eq_true_eq]
  split
  case isTrue =>
    have hfrom (x : State) (hx : x.reg (CAN_STAT n) = s.reg (CAN_STAT n)) :
        s.CanShows ((((x.wr (CAN_STAT n) CAN_STAT_state csBusOff).wr (CAN_STAT n) CAN_STAT_bo_seen 1).boHeld n).raise2
          (0x0C00 + n) 0) n csBusOff :=
      (((State.CanShows.wr_state hx (by decide)).wr_seen _ _ (by decide) (by decide)).of_reg
        (State.reg_boHeld _ _ (by simp))).quiet (State.raise2_quiet ..) hn
    exact hfrom _ (by split <;> rfl)
  case isFalse =>
    split
    case isTrue =>
      split
      case isTrue hpassive => exact ⟨hpassive, rfl, rfl⟩
      case isFalse =>
        exact ((State.CanShows.wr_state rfl (by decide)).wr_seen _ _ (by decide) (by decide)).quiet
          (State.note_quiet ..) hn
    case isFalse => exact State.CanShows.wr_state rfl (by decide)

/-- Settles O52: a channel on its bus by `canConfine_shows`, any other by `canConfine_of_out`. -/
theorem errorCountersSelectTheState : Obligations.ErrorCountersSelectTheState := by
  unfold Obligations.ErrorCountersSelectTheState
  refine ⟨fun n s hn hoff hrec => ?on, fun n s hout => State.canConfine_of_out hout⟩
  case on =>
    obtain ⟨hstate, htec, hrec⟩ := State.canConfine_shows hn hoff hrec
    exact ⟨hstate, htec, hrec⟩

/-! ### Frame lengths (R356) -/

theorem dlcLen_of_le {fdf : Bool} {n : Nat} (h : n ≤ 8) : dlcLen fdf n = n := if_pos h

theorem dlcLen_classical {n : Nat} (h : 8 < n) : dlcLen false n = 8 := if_neg (not_le.2 h)

/-- Settles O44: DLC 0 to 8 and classical frames by the laws above, the seven longer FD frames one by one. -/
theorem dlcLengths : Obligations.DlcLengths := by
  unfold Obligations.DlcLengths
  exact ⟨fun fd n => dlcLen_of_le (Nat.le_of_lt_succ n.isLt), by decide, fun n => dlcLen_classical (by omega)⟩

end Sys2Proof.Machine

/-! PROOFS. The commands of a CAN channel: enabling, frames, errors, recovery and the ring operations (spec/14, R352 to
R370). -/

namespace Sys2Proof.Machine

section
variable {t : Nat} {n : Fin 8} {s : State}

/-! ### Writes of CAN_CFGn and CAN_CTLn (R352, R362, R365, R370) -/

section
variable {v : Word} (hfree : s.canK12 n = false)
include hfree

theorem execCanEnable_of_legal (hr : s.readyReg (CAN_CFG n) = true) (hv : reservedOf (CAN_CFG n) v = 0#32)
    (hoff : s.canEn n = false) (hen : CAN_CFG_en.get v = 1) (hok : s.canTimingBad n = false) :
    execCanEnable t n v s =
      .next (((s.at t).store (CAN_CFG n) v).setCan n { s.canCh n with left := none }).canSave := by
  simp only [execCanEnable, State.canEn_at, State.canK12_at, hoff, hfree, Bool.or_false,
    State.hostWrite_of_ready (s.at t) _ hr hv, State.canTimingBad_at, hok, hen, Nat.one_ne_zero, Bool.false_eq_true,
    if_false]
  rfl

theorem execCanDisable_of_enabled (hr : s.readyReg (CAN_CFG n) = true) (hv : reservedOf (CAN_CFG n) v = 0#32)
    (hon : s.canEn n = true) (hen : CAN_CFG_en.get v = 0) :
    execCanDisable t n v s = .next (((s.at t).store (CAN_CFG n) v).canLeave n) := by
  simp only [execCanDisable, State.canK12_at, hfree, State.hostWrite_of_ready (s.at t) _ hr hv]
  exact if_neg (by simp [hon, hen])

theorem execCanRecover_of_ready (hr : s.readyReg (CAN_CTL n) = true) (hv : reservedOf (CAN_CTL n) v = 0#32) :
    execCanRecover t n v s = .next ((s.at t).canCtl n v) := by
  rw [execCanRecover, State.canK12_at, hfree, State.hostWrite_of_ready (s.at t) _ hr hv]

end

theorem execCanFlush_eq_recover (t : Nat) (n : Fin 8) (v : Word) (s : State) :
    execCanFlush t n v s = execCanRecover t n v s := rfl

theorem execCanRecoveryDone_of_recovering (h : s.canState n = csRecovering) :
    execCanRecoveryDone t n s = .next ((s.at t).canReset n) := if_pos h

/-! ### Frames on the bus (R353, R359, R360) -/

theorem execCanFrameReceived_of_heard {frame : CanFrame} {z x : State} (hz : z = s.at t)
    (hhears : z.canHears n frame.sof = true) (hx : x = (z.bump (CAN_CNT0 n) CAN_CNT0_rx_cnt).canGood n) :
    execCanFrameReceived t n frame s =
      .next (((x.setCan n { x.canCh n with left := none }).canDeliver n frame false).k12Heard n frame) := by
  subst hz hx
  exact if_neg (by simp [hhears])

/-- At an opportunity the best frame takes the bus; one that failed before counts as a retry. -/
theorem execCanTxOpportunity_of_best {q : Nat} (hon : s.canEn n = true)
    (hsends : s.bit (CAN_CFG n) CAN_CFG_listen = false) (hstate : s.canState n < csBusOff)
    (hidle : (s.canCh n).cur = none) (hbest : (s.canCh n).best = some q) (c : CanCh) (hc : c = s.canCh n) :
    execCanTxOpportunity t n s = .next ((if (c.queue q).head?.any TxFrame.again
      then (s.at t).bump (CAN_CNT1 n) CAN_CNT1_retry_cnt else s.at t).setCan n { c.setQueue q
        (modAt (fun f => { f with again := false }) 0 (c.queue q)) with cur := some q, curGone := false }) := by
  subst hc
  simp only [execCanTxOpportunity, State.canEn_at, hon, State.bit_at, hsends, State.canState_at, not_le.2 hstate,
    State.canCh_at, hidle, hbest, Option.isSome_none, Bool.not_true, decide_false, Bool.or_false, Bool.false_eq_true,
    if_false]

theorem execCanError_of_notForced {err : CanFault} (hon : s.canOnBus n = true) (hforced : err.forced = false)
    (hown : err.own = true → (s.canCh n).cur ≠ none) : execCanError t n err s =
      .next (((if err.own then (((s.at t).bump (CAN_CNT1 n) CAN_CNT1_err_cnt).canCount n err.own err.add).canMissed n true
        else ((s.at t).bump (CAN_CNT1 n) CAN_CNT1_err_cnt).canCount n err.own err.add).canConfine n).canGone n) := by
  have hgo : ¬ ((!s.canOnBus n || (err.own && (s.canCh n).cur.isNone) ||
      (err.forced && !(err.own && s.canForced n))) = true) := by simpa [hon, hforced] using hown
  refine (if_neg hgo).trans ?_
  simp only [hforced, Bool.false_eq_true, if_false]

/-- A frame that was sent leaves its queue and counts, lowers TEC, ends its operation and may come back as an echo. -/
theorem execCanFrameTransmitted_of_sent {sof q : Nat} {f : TxFrame} {rest : List TxFrame} {z : State} (hz : z = s.at t)
    (hsof : 25 * sof ≤ 10 * z.cyc) (hcur : (z.canCh n).cur = some q) (hqueue : (z.canCh n).queue q = f :: rest)
    (x : State)
    (hx : x = (z.setCan n (CanCh.setQueue { z.canCh n with cur := none, behind := none, curGone := false, left := none } q
      ((z.canCh n).behind.toList ++ rest))).bump (CAN_CNT0 n) CAN_CNT0_tx_cnt)
    (y : State)
    (hy : y = ((x.wr (CAN_STAT n) CAN_STAT_tec (x.rd (CAN_STAT n) CAN_STAT_tec - 1)).canConfine n).txDone f stDone
      (z.canStamp sof % 2 ^ 32)) :
    execCanFrameTransmitted t n sof s = .next (if y.canEcho n
      then y.canDeliver n (f.onBus (z.canState n == csPassive && f.fdf) sof) true else y) := by
  subst hy hx
  simp only [execCanFrameTransmitted, ← hz, hcur, not_lt.2 hsof, hqueue, if_false]

end

/-! ### Ring operations (R357, R369) -/

section
variable {t : Nat} {r : Fin 64} {s : State} {d : RDesc}

theorem execCanFill_of_first (hrecv : s.ringFunc r < 8) (hfirst : s.behindRing r = false)
    (h : s.opFor r 0x0C (s.ringFunc r) 1 = some d) (hbuf : s.bufBad r d = false) (hlen : 0 < d.len) :
    execCanFill t r s =
      .next ((((s.at t).startOp r d.slot).pumpAll (0x0C * 16 + s.ringFunc r)).settleRing r) := by
  have hfill : (s.at t).fill r (s.ringFunc r) 0x0C 1 = _ := State.fill_next (s := s.at t) h hbuf hlen hlen
  simp only [execCanFill, State.ringFunc_at, State.behindRing_at, not_le.2 hrecv, hfirst, Bool.false_eq_true, if_false,
    hfill]

/-- The frame in a buffer of CAN_SEND: two header words and the data. -/
def sentFrame (bs : List Byte) (op : Nat × Nat) : TxFrame :=
  { fdf := bits (wAt (bytesWords bs) 0) 31 31 == 1, brs := bits (wAt (bytesWords bs) 0) 30 30 == 1,
    ide := bits (wAt (bytesWords bs) 0) 29 29 == 1, id := bits (wAt (bytesWords bs) 0) 28 0,
    dlc := bits (wAt (bytesWords bs) 1) 3 0, data := bs.drop 8, tmpl := none, op := some op, again := false }

/-- A legal frame joins a queue of its class that has room, on a channel that sends. -/
theorem execCanSend_of_room {n q : Nat} {buf bs : List Byte} {x : TxFrame} (hfunc : s.ringFunc r = 8 + n)
    (h : s.opFor r 0x0C (8 + n) 1 = some d) (htake : s.canTake r d buf.length = true) (hq : q = bits (d.par 8) 1 0)
    (hbs : bs = s.bufIn r d buf) (hx : x = sentFrame bs (r, d.slot)) (hlen : 8 ≤ d.len)
    (hkind : x.fdf = true ∨ (x.dlc ≤ 8 ∧ x.brs = false)) (hsize : d.len = 8 + dlcLen x.fdf x.dlc)
    (hclass : s.queueClass n q = s.rd (RNG_CFG r) RNG_CFG_class) (hres : bits (wAt (bytesWords bs) 1) 31 4 = 0)
    (hon : s.canEn n = true) (hsends : s.bit (CAN_CFG n) CAN_CFG_listen = false) (hfree : s.canK12 n = false)
    (hfd : x.fdf = false ∨ s.bit (CAN_CFG n) CAN_CFG_fd = true)
    (hroom : ((s.canCh n).queue q).length < if q = 0 then 16 else 64) :
    execCanSend t r buf s = .next ((((s.at t).startOp r d.slot).setCan n ((s.canCh n).setQueue q
      ((s.canCh n).queue q ++ [x]))).settleRing r) := by
  have hlegal : ¬ (d.len < 8 ∨ d.len ≠ 8 + dlcLen x.fdf x.dlc ∨ ((!x.fdf) = true ∧ (8 < x.dlc ∨ x.brs = true)) ∨
      s.queueClass n q ≠ s.rd (RNG_CFG r) RNG_CFG_class) := by
    rintro (hshort | hother | ⟨hclassic, hlong | hbrs⟩ | hwrong)
    · omega
    · exact hother hsize
    · simp at hclassic; simp [hclassic] at hkind; omega
    · simp at hclassic; simp [hclassic, hbrs] at hkind
    · exact hwrong hclass
  have hmay : ¬ ((!s.canEn n || s.bit (CAN_CFG n) CAN_CFG_listen || s.canK12 n ||
      (x.fdf && !s.bit (CAN_CFG n) CAN_CFG_fd)) = true) := by
    simp only [hon, hsends, hfree]
    rcases hfd with hfd | hfd <;> simp [hfd]
  have hrecv : ¬ (s.ringFunc r < 8) := by omega
  subst hbs hx hq
  refine (if_neg hrecv).trans (State.ringOp_next (s := s.at t) (d := d) (hfunc ▸ h) ?_)
  simp only [State.ringFunc_at, hfunc, Nat.add_sub_cancel_left]
  refine (State.takesBuf_eq ((State.canTake_at ..).trans htake)).trans ?_
  refine (if_neg (by omega)).trans ((if_neg hlegal).trans ((if_neg ?_).trans ((if_neg hmay).trans (if_neg ?_))))
  · simpa using hres
  · exact not_le.2 hroom

end

/-- Settles O23: one law for each command, above. -/
theorem canCommands : Obligations.CanCommands := by
  unfold Obligations.CanCommands
  refine ⟨?enable, ?disable, ?received, ?opportunity, ?sent, ?lost, ?error, ?ownError, ?control, ?recovered, ?fill, ?send⟩
  case enable => exact fun t n v s hr hv hoff hfree hen hok => execCanEnable_of_legal hfree hr hv hoff hen hok
  case disable => exact fun t n v s hr hv hon hfree hen => execCanDisable_of_enabled hfree hr hv hon hen
  case received => exact fun t n frame s z x hz hhears hx => execCanFrameReceived_of_heard hz hhears hx
  case opportunity =>
    exact fun t q n s hon hsends hstate hidle hbest => execCanTxOpportunity_of_best hon hsends hstate hidle hbest _ rfl
  case sent =>
    exact fun t sof q n f rest s z hz hsof hcur hqueue =>
      execCanFrameTransmitted_of_sent hz hsof hcur hqueue _ rfl _ rfl
  case lost => exact fun t n s => rfl
  case error =>
    intro t n err s hon hown hforced
    exact (execCanError_of_notForced hon hforced (by simp [hown])).trans (by simp [hown])
  case ownError =>
    intro t n err s hon hown hforced hcur
    exact (execCanError_of_notForced hon hforced fun _ => hcur).trans (by simp [hown])
  case control =>
    exact fun t n v s hr hv hfree => ⟨execCanRecover_of_ready hfree hr hv,
      (execCanFlush_eq_recover ..).trans (execCanRecover_of_ready hfree hr hv)⟩
  case recovered => exact fun t n s h => execCanRecoveryDone_of_recovering h
  case fill => exact fun t r s d hrecv hfirst h hbuf hlen => execCanFill_of_first hrecv hfirst h hbuf hlen
  case send =>
    rintro t n q fdf brs r buf s d bs h0 h1 hfunc h htake hq hbs rfl rfl rfl rfl hlen hkind hsize hclass hres hon hsends
      hfree hfd hroom
    exact execCanSend_of_room hfunc h htake hq hbs rfl hlen hkind hsize hclass hres hon hsends hfree hfd hroom

end Sys2Proof.Machine

/-! PROOFS. The Ethernet switch and the modem root port (spec/15, R374 to R385). -/

namespace Sys2Proof.Machine

section
variable {t : Nat} {s : State}

/-! ### Frames, gates and the service contact (R374, R375, R378, R379) -/

theorem execSwitchFrameIngress_of_up {k : Fin 8} {bs : List Byte} (hruns : s.netRuns = true) (hup : s.netUp k = true)
    (hlen : 14 ≤ bs.length) : execSwitchFrameIngress t k bs s = .next ((s.at t).ingress k bs) :=
  if_neg (by simp [hruns, hup, hlen])

theorem execGateIntervalEnd_of_runs {k : Fin 7} (hruns : s.netRuns = true) :
    execGateIntervalEnd t k s = .next ((((s.at t).portCatch k).gateEnd k).portCatch k) := if_neg (by simp [hruns])

/-- What has left is sent, the hand-over that is due is made, and the frames it lets go are sent. -/
theorem execGclHandover_of_runs {k : Fin 7} (hruns : s.netRuns = true) :
    execGclHandover t k s = .next ((((s.at t).portCatch k).gclDue k).portCatch k) := if_neg (by simp [hruns])

theorem State.gclDue_of_none {k : Nat} (h : (s.nport k).oper = none) : s.gclDue k = s.gclFirst k := by
  simp only [State.gclDue, h]

theorem State.gclDue_of_cycleEnd {k : Nat} {g : Gcl} (hoper : (s.nport k).oper = some g)
    (hend : (s.nport k).endM ≤ s.mtime) (hlast : (s.nport k).cut = true ∨ g.es.length ≤ (s.nport k).idx + 1) :
    s.gclDue k = s.gclStart k (s.nport k).endM := by
  simp only [State.gclDue, hoper, if_neg (not_lt.2 hend)]
  exact if_pos (by simpa using hlast)

/-- A changed service contact restarts P3's training. -/
theorem execSvcDetEdge_of_change {grounded : Bool} (hruns : s.netRuns = true) (hold : s.pow.svc = !grounded) :
    execSvcDetEdge t grounded s = .next (((({ s.at t with pow := { s.pow with svc := grounded } } : State).portCatch
      3).wr (NET_PSTAT 3) NET_PSTAT_svc (b2n grounded)).portTrain 3) :=
  if_neg (by simp [hruns, hold])

/-! ### Time messages (R377, R384) -/

/-- A period that has passed since every last time there is. -/
theorem State.since_of_passed {last : Option Nat} {n : Nat} (h : ∀ c, last = some c → c + n ≤ s.cyc) :
    s.since last n = true := by
  cases last with
  | none => rfl
  | some c => exact decide_eq_true (h c rfl)

/-- `s` has sent out `es`, and nothing else of it is different. -/
def State.emitAll (s : State) (es : List Emission) : State := { s with out := es.reverse ++ s.out }

/-- What the grandmaster sends at port `k`. -/
def State.syncOf (s : State) (k : Nat) : List Emission :=
  [.sync k s.netStamp, .announce k s.clockClass (clockAccuracy (s.reg GNS_UNC).toNat) 0x20]

theorem State.foldl_syncPort (s : State) (l : List Nat) : l.foldl State.syncPort s = s.emitAll (l.flatMap s.syncOf) := by
  induction l generalizing s with
  | nil => rfl
  | cons k l ih =>
    have hsame : (s.syncPort k).syncOf = s.syncOf := rfl
    rw [List.foldl_cons, ih, hsame, List.flatMap_cons]
    simp only [State.emitAll, State.syncPort, State.emit, State.syncOf, List.reverse_append, List.append_assoc]
    rfl

theorem State.foldl_emit (s : State) (l : List Nat) (f : Nat → Emission) :
    l.foldl (fun x k => x.emit (f k)) s = s.emitAll (l.map f) := by
  induction l generalizing s with
  | nil => rfl
  | cons k l ih =>
    rw [List.foldl_cons, ih, List.map_cons]
    simp only [State.emitAll, State.emit, List.reverse_cons, List.append_assoc]
    rfl

theorem execGptpSyncSend_of_due {x : State} (hruns : s.netRuns = true)
    (hdue : ∀ c, s.net.syncAt = some c → c + ms 125 ≤ max s.cyc t)
    (hx : x = ({ s.at t with net := { s.net with syncAt := some (max s.cyc t) } } : State).portsCatch) :
    execGptpSyncSend t s = .next (x.emitAll (((List.range 7).filter s.netUp).flatMap x.syncOf)) := by
  have hsince : (s.at t).since s.net.syncAt (ms 125) = true := State.since_of_passed hdue
  subst hx
  exact (if_neg (by simp [hruns, hsince])).trans (congrArg _ (State.foldl_syncPort ..))

theorem execPdelayMeasure_of_due {x : State} (hruns : s.netRuns = true)
    (hdue : ∀ c, s.net.pdAt = some c → c + sec 1 ≤ max s.cyc t)
    (hx : x = ({ s.at t with net := { s.net with pdAt := some (max s.cyc t) } } : State).portsCatch) :
    execPdelayMeasure t s =
      .next (x.emitAll (((List.range 7).filter s.netUp).map fun k => .pdelay k (s.at t).netStamp)) := by
  have hsince : (s.at t).since s.net.pdAt (sec 1) = true := State.since_of_passed hdue
  subst hx
  exact (if_neg (by simp [hruns, hsince])).trans (congrArg _ (State.foldl_emit ..))

theorem execAnnounceReceived_of_up {k : Fin 7} (hruns : s.netRuns = true) (hup : s.netUp k = true) :
    execAnnounceReceived t k s = .next ((s.at t).bump (NET_PSTAT k) NET_PSTAT_ann_cnt) := if_neg (by simp [hruns, hup])

/-! ### Ring operations (R379 to R381) -/

section
variable {r : Fin 64} {d : RDesc}

theorem execNetSend_of_good {buf : List Byte} (h : s.opFor r 0x0D 0 1 = some d)
    (htake : s.canTake r d buf.length = true) (hlo : 14 ≤ d.len) (hhi : d.len ≤ 2000) :
    execNetSend t r buf s =
      .next ((((s.at t).ingress 7 (s.bufIn r d buf)).endOp r d.slot stDone d.len 0).settleRing r) := by
  refine State.ringOp_next (s := s.at t) h ((State.takesBuf_eq ((State.canTake_at ..).trans htake)).trans ?_)
  exact (if_neg (by omega)).trans (if_neg (by omega))

/-- A list of legal entries is the port's administrative half; with the commit bit it waits for its hand-over. -/
theorem execGclWrite_of_good {buf : List Word} {l : List (Word × Word)} {g : Gcl} {p p1 p2 : NPort}
    (h : s.opFor r 0x0D 2 0x10 = some d) (hwhole : d.len % 8 = 0) (htake : s.canTake r d (4 * buf.length) = true)
    (hlen : d.len ≠ 0) (htop : d.len ≤ 1024) (hport : bits (d.par 8) 2 0 ≠ 7)
    (hl : l = gatePairs (s.bufWords r d buf))
    (hg : g = ⟨u64 (d.par 9) (d.par 10), l.map fun e => (bits e.1 31 24, e.2.toNat)⟩) (hgood : l.any gateBad = false)
    (hcycle : g.cycle ≤ 1000000000) (hp : p = s.nport (bits (d.par 8) 2 0))
    (hp1 : p1 = { p with adm := g, wroteAt := max s.cyc t, prevAdm := if p.wroteAt = max s.cyc t then p.prevAdm else p.adm })
    (hp2 : p2 = if bits (d.par 8) 7 7 = 1 then { p1 with
      pending := true, pendAt := max s.cyc t, pendM := (s.at t).mtime,
      prevPend := if p.pendAt = max s.cyc t then p.prevPend else p.pending } else p1) :
    execGclWrite t r buf s = .next (((((s.at t).setNport (bits (d.par 8) 2 0) p2).wr (NET_PSTAT (bits (d.par 8) 2 0))
      NET_PSTAT_pend (b2n p2.pending)).endOp r d.slot stDone d.len (s.reg NET_HO_SEQ).toNat).settleRing r) := by
  have hmay : ¬ ((l.any gateBad || decide (1000000000 < g.cycle)) = true) := by simp [hgood, hcycle]
  subst hp2 hp1 hp hg hl
  refine State.ringOp_next (s := s.at t) h ((if_neg (by simp [hwhole])).trans ?_)
  refine (State.takesBuf_eq ((State.canTake_at ..).trans htake)).trans ((if_neg hlen).trans ((if_neg ?_).trans (if_neg hmay)))
  omega

theorem execSfWrite_of_good {buf : List Word} {x : State} (h : s.opFor r 0x0D 2 0x11 = some d) (hwhole : d.len % 16 = 0)
    (htake : s.canTake r d (4 * buf.length) = true) (hlen : d.len ≠ 0)
    (hrange : bits (d.par 8) 7 0 + d.len / 16 ≤ 256)
    (hx : x = ((filterQuads (s.bufWords r d buf)).zipIdx (bits (d.par 8) 7 0)).foldl (fun x e =>
      x.setSfilt e.2 { (⟨e.1, (x.sfilt e.2).blocked, 0, max s.cyc t⟩ : SFilter) with
        tok := SFilter.burst ⟨e.1, (x.sfilt e.2).blocked, 0, max s.cyc t⟩ }) (s.at t))
    (hgood : ((filterQuads (s.bufWords r d buf)).any fun q => bits (wAt q 0) 29 12 != 0) = false)
    (hapart : x.filtersClash = false) :
    execSfWrite t r buf s = .next ((x.endOp r d.slot stDone d.len 0).settleRing r) := by
  subst hx
  refine State.ringOp_next (s := s.at t) h ((if_neg (by simp [hwhole])).trans ?_)
  refine (State.takesBuf_eq ((State.canTake_at ..).trans htake)).trans ((if_neg hlen).trans ((if_neg ?_).trans (if_neg ?_)))
  · exact not_lt.2 hrange
  · exact Bool.eq_false_iff.1 (Bool.or_eq_false_iff.2 ⟨hgood, hapart⟩)

theorem execUnblock_of_op (h : s.opFor r 0x0D 2 0x12 = some d) : execUnblock t r s =
    .next ((((s.at t).setSfilt (bits (d.par 8) 7 0) { s.sfilt (bits (d.par 8) 7 0) with blocked := false }).endOp r d.slot
      stDone 0 0).settleRing r) := State.ringOp_next (s := s.at t) h rfl

end

/-! ### The modem root port (R383) -/

section
variable (hruns : s.netRuns = true)
include hruns

section
variable (haddr : (s.reg NET_RP_ADDR).toNat % 4 = 0)
include haddr

theorem execRpDataRead_of_aligned {v : Option Word} (x : Word)
    (hx : x = if s.rpUp then v.getD 0xFFFFFFFF#32 else 0xFFFFFFFF#32) :
    execRpDataRead t v s = .next (((s.at t).setReg NET_RP_DATA x).emit
      (.modem false (s.rd NET_RP_CFG NET_RP_CFG_space) (s.reg NET_RP_ADDR).toNat x)) := by
  subst hx
  exact (if_neg (by simp [hruns])).trans (if_neg (by simp [haddr]))

theorem execRpDataWrite_of_aligned {v : Word} : execRpDataWrite t v s = .next (if s.rpUp
    then ((s.at t).setReg NET_RP_DATA v).emit
      (.modem true (s.rd NET_RP_CFG NET_RP_CFG_space) (s.reg NET_RP_ADDR).toNat v)
    else (s.at t).setReg NET_RP_DATA v) :=
  (if_neg (by simp [hruns])).trans (if_neg (by simp [haddr]))

end

section
variable (hup : s.rpUp = true)
include hup

theorem execModemMemoryRequest_of_outside {write : Bool} {addr len : Nat} {bs : List Byte}
    (hout : sharedTop < addr + if write then bs.length else len) : execModemMemoryRequest t write addr len bs s =
      .next (if write then (s.at t).note 0x0D30 0 else ((s.at t).note 0x0D30 0).emit (.modemData none)) :=
  (if_neg (by simp [hruns, hup])).trans (if_pos hout)

theorem execModemMemoryRequest_of_inside {write : Bool} {addr len : Nat} {bs : List Byte}
    (hin : addr + (if write then bs.length else len) ≤ sharedTop)
    (hfree : areasMeet [(addr, bs.length)] (s.at t).writtenAreas = false) (hclean : (s.at t).poisoned addr len = false) :
    execModemMemoryRequest t write addr len bs s = .next (if write then (s.at t).memStore addr bs
      else (s.at t).emit (.modemData (some (s.memBytes addr len)))) := by
  refine (if_neg (by simp [hruns, hup])).trans ((if_neg (not_lt.2 hin)).trans ?_)
  cases write
  · exact (if_neg Bool.false_ne_true).trans (if_neg (Bool.eq_false_iff.1 hclean))
  · exact (if_pos rfl).trans (if_neg (Bool.eq_false_iff.1 hfree))

theorem execModemMsi_of_up :
    execModemMsi t s = .next ((s.at t).emit (.msix (s.rd NET_RP_CFG NET_RP_CFG_vector))) :=
  if_neg (by simp [hruns, hup])

theorem execModemLinkLoss_of_up : execModemLinkLoss t s =
    .next ((((s.at t).rpDown.bump NET_RP_STAT NET_RP_STAT_retry_cnt).note 0x0D40 0).rpRetry
      (some (max s.cyc t + sec 5))) := if_neg (by simp [hruns, hup])

end

theorem execModemLinkRetry_of_due {c : Nat} {gen : Fin 5} (hretry : s.net.rpRetry = some c)
    (hen : s.bit NET_RP_CFG NET_RP_CFG_en = true) (hdue : c ≤ max s.cyc t) :
    execModemLinkRetry t gen s = .next (if gen.val = 0 then (s.at t).rpRetry (some (max s.cyc t + sec 5))
      else (((s.at t).wr NET_RP_STAT NET_RP_STAT_link 1).wr NET_RP_STAT NET_RP_STAT_gen gen).rpRetry none) := by
  simp only [execModemLinkRetry, State.at_net, hretry, State.netRuns_at, hruns, State.bit_at, hen, State.at_cyc,
    not_lt.2 hdue, Bool.not_true, decide_false, Bool.or_false, Bool.false_eq_true, if_false]
  exact (apply_ite Host.Outcome.next _ _ _).symm

end
end

/-- Settles O24: one law for each command, above. -/
theorem switchCommands : Obligations.SwitchCommands := by
  unfold Obligations.SwitchCommands
  refine ⟨?ingress, ?age, ?gate, ?first, ?cycle, ?sync, ?pdelay, ?announce, ?svc, ?send, ?fill, ?gcl, ?filters, ?unblock⟩
  case ingress => exact fun t k bs s hruns hup hlen => execSwitchFrameIngress_of_up hruns hup hlen
  case age => exact fun t s => rfl
  case gate => exact fun t k s hruns => execGateIntervalEnd_of_runs hruns
  case first =>
    rintro t k s x hruns rfl hoper
    exact (execGclHandover_of_runs hruns).trans (by rw [State.gclDue_of_none hoper])
  case cycle =>
    rintro t k g s x hruns rfl hoper hend hlast
    exact (execGclHandover_of_runs hruns).trans (by rw [State.gclDue_of_cycleEnd hoper hend hlast])
  case sync =>
    exact fun t s x hruns hdue hx => ⟨_, execGptpSyncSend_of_due hruns hdue hx, rfl, .of_eq rfl rfl _, rfl⟩
  case pdelay =>
    exact fun t s x hruns hdue hx => ⟨_, execPdelayMeasure_of_due hruns hdue hx, rfl, .of_eq rfl rfl _, rfl⟩
  case announce => exact fun t k s hruns hup => execAnnounceReceived_of_up hruns hup
  case svc => exact fun t grounded s hruns hold => execSvcDetEdge_of_change hruns hold
  case send => exact fun t r buf s d h htake hlo hhi => execNetSend_of_good h htake hlo hhi
  case fill => exact fun t r s d h hb hl => State.fill_next (s := s.at t) h hb hl hl
  case gcl =>
    exact fun t r buf s d l g p p1 p2 h hwhole htake hlen htop hport hl hg hgood hcycle hp hp1 hp2 =>
      execGclWrite_of_good h hwhole htake hlen htop hport hl hg hgood hcycle hp hp1 hp2
  case filters =>
    exact fun t r buf s d x h hwhole htake hlen hrange hx hgood hapart =>
      execSfWrite_of_good h hwhole htake hlen hrange hx hgood hapart
  case unblock => exact fun t r s d h => execUnblock_of_op h

/-- Settles O25: one law for each command, above. -/
theorem modemPortCommands : Obligations.ModemPortCommands := by
  unfold Obligations.ModemPortCommands
  refine ⟨?read, ?write, ?inside, ?outside, ?msi, ?loss, ?retry⟩
  case read => exact fun t v s hruns haddr => execRpDataRead_of_aligned hruns haddr _ rfl
  case write => exact fun t v s hruns haddr => execRpDataWrite_of_aligned hruns haddr
  case inside =>
    exact fun t addr len bs s hruns hup hw hr hfree hclean =>
      ⟨execModemMemoryRequest_of_inside (write := true) hruns hup hw hfree hclean,
        execModemMemoryRequest_of_inside (write := false) hruns hup hr hfree hclean⟩
  case outside =>
    exact fun t addr len bs s hruns hup hw hr =>
      ⟨execModemMemoryRequest_of_outside (write := true) hruns hup hw,
        execModemMemoryRequest_of_outside (write := false) hruns hup hr⟩
  case msi => exact fun t s hruns hup => execModemMsi_of_up hruns hup
  case loss => exact fun t s hruns hup => execModemLinkLoss_of_up hruns hup
  case retry => exact fun t c gen s hretry hruns hen hdue => execModemLinkRetry_of_due hruns hretry hen hdue

end Sys2Proof.Machine

/-! PROOFS. The DMA engine: where its writes go, and the commands of its channels (spec/16, R386 to R397). -/

namespace Sys2Proof.Machine

/-! ### Where a channel's writes go (R386, R389) -/

/-- Bytes stored one by one at rising addresses. -/
theorem State.foldl_memWr_zipIdx (s : State) (a i : Nat) (bs : List Byte) :
    (bs.zipIdx i).foldl (fun x e => x.memWr (a + e.2) e.1) s = s.memStore (a + i) bs := by
  induction bs generalizing s i with
  | nil => rfl
  | cons b bs ih => rw [List.zipIdx_cons, List.foldl_cons, ih, State.memStore, Nat.add_assoc]

/-- A write to a destination in module memory that counts up is a plain store. -/
theorem State.dmaWrite_of_counting (s : State) (n i : Nat) {ws : List Word} (bs : List Byte)
    (hfix : dBit ws dFixDst = false) (hmod : dBit ws dDstHost = false) :
    s.dmaWrite n ws i bs = s.memStore (dDst ws + i) bs := by
  simp only [State.dmaWrite, hfix, hmod, Bool.false_eq_true, false_and, if_false, dAddr]
  exact State.foldl_memWr_zipIdx ..

/-- Settles O55: such a write is a plain store, of which each byte reads back and every other byte is as before. -/
theorem dmaWritesItsDestination : Obligations.DmaWritesItsDestination := by
  unfold Obligations.DmaWritesItsDestination
  intro n i ws bs s hfix hmod _
  rw [State.dmaWrite_of_counting s n i bs hfix hmod]
  refine ⟨fun k hk => ?_, fun a ha => State.memRd_memStore_outside _ _ _ _ ha⟩
  rw [State.memRd_memStore_inside _ _ _ _ hk, List.getD_eq_getElem _ _ hk]

/-! ### Kicks and NEXT (R387, R397) -/

section
variable {t : Nat} {n : Fin 32} {s : State}

theorem execDmaKick_of_apart {beaten : List (Fin 32)} (hr : s.readyReg (DMA_CH_CTL n) = true)
    (hapart : ((s.at t).dmaKick n (beaten.map Fin.val)).dmaShared n = false) :
    execDmaKick t n beaten s = .next ((s.at t).dmaKick n (beaten.map Fin.val)) :=
  (if_neg (by simp [hr])).trans (if_neg (Bool.eq_false_iff.1 hapart))

theorem execDmaNextWrite_of_idle {v : Word} (hr : s.readyReg (DMA_CH_NEXT_LO n) = true)
    (hv : reservedOf (DMA_CH_NEXT_LO n) v = 0#32) (hidle : s.dmaState n = dmaIdle) : execDmaNextWrite t n v s =
      .next ((((s.at t).store (DMA_CH_NEXT_LO n) v).wr (DMA_CH_STAT n) DMA_CH_STAT_nv 1).dmaPend n) := by
  have hopen : ((s.at t).dmaState n != dmaIdle) = false := by simp [hidle]
  rw [execDmaNextWrite, hopen, State.hostWrite_of_ready (s.at t) _ hr hv]

/-! ### Descriptors (R386, R389, R391, R395, R396) -/

/-- A transfer that feeds no session wrongly is carried out. -/
theorem State.dmaFeeds_of_good {n put : Nat} {k : Out} (h : s.dmaOverfeeds n put = false) : s.dmaFeeds n put k = k :=
  if_neg (Bool.eq_false_iff.1 h)

section
variable {ws : List Word} {beaten : List (Fin 32)} {ecc : List EccHit} {z : State} (hz : z = s.at t)
  (hfetch : (z.dch n).fetch = true) (hbusy : z.dmaState n ≠ dmaIdle) (hgo : z.dmaStalled n = false)
  (hshared : (z.dch n).host = false → z.dmaDescAddr n + 64 ≤ sharedTop)
include hz hfetch hbusy hgo hshared

/-- A good descriptor that is awaited is taken up, and reading begins. -/
theorem execDmaDescriptorArrival_of_good {d : List Word} {x : DChan} {y : State} (hx : x = z.dch n)
    (hd : d = if x.host then (List.range 16).map (wAt ws) else z.memWords (z.dmaDescAddr n) 16)
    (hecc : eccBad ecc = false) (hclean : x.host = false → z.poisoned (z.dmaDescAddr n) 64 = false)
    (hgood : dBad d = false)
    (hy : y = (z.eccAll ecc).setDch n { x with
      fetch := false, desc := some d, put := 0, got := 0, owned := x.owned ++ descAreas (z.dmaDescAddr n) x.host d,
      past := x.past ++ [(z.dmaDescAddr n, x.host)] })
    (hapart : y.dmaShared n = false) (hclash : z.dmaClash n d = false) (hmirror : z.mirrorMisused n d = false) :
    execDmaDescriptorArrival t n ws beaten ecc s =
      .next (((y.dmaMove n 0 []).dmaReadOn n).dmaLeap n false (beaten.map Fin.val)) := by
  subst hz hx
  have hreach : ¬ ((!((s.at t).dch n).host && decide (sharedTop < (s.at t).dmaDescAddr n + 64)) = true) := by
    simpa using hshared
  have hread : ¬ ((eccBad ecc || (!((s.at t).dch n).host && (s.at t).poisoned ((s.at t).dmaDescAddr n) 64)) = true) := by
    rw [hecc, Bool.false_or]; simpa using hclean
  have hmay : ¬ ((dBad d || y.dmaShared n || (s.at t).dmaClash n d) = true) := by simp only [hgood, hapart, hclash]; decide
  subst hy hd
  exact (if_neg (by simp only [hfetch, hgo, beq_eq_false_iff_ne.2 hbusy]; decide)).trans ((if_neg hreach).trans
    ((if_neg hread).trans ((if_neg hmay).trans (if_neg (Bool.eq_false_iff.1 hmirror)))))

/-- One with an uncorrectable error is aborted, and NEXT is not valid. -/
theorem execDmaDescriptorArrival_of_poisoned (hecc : eccBad ecc = true) :
    execDmaDescriptorArrival t n ws beaten ecc s =
      .next (((ecc.foldl State.eccEnd (((z.eccAll ecc).dmaErr n).dmaAbort n 0 [] true)).poisonEnds (z.dmaDescAddr n)
        64).wr (DMA_CH_STAT n) DMA_CH_STAT_nv 0) := by
  subst hz
  have hreach : ¬ ((!((s.at t).dch n).host && decide (sharedTop < (s.at t).dmaDescAddr n + 64)) = true) := by
    simpa using hshared
  exact (if_neg (by simp only [hfetch, hgo, beq_eq_false_iff_ne.2 hbusy]; decide)).trans ((if_neg hreach).trans
    (if_pos (by rw [hecc, Bool.true_or])))

end

section
variable {put : Nat} {bs : List Byte} {ecc : List EccHit} {ws : List Word} {z : State} (hz : z = s.at t)
  (hdesc : (z.dch n).desc = some ws) (hbusy : z.dmaState n ≠ dmaIdle) (hruns : z.dmaState n ≠ dmaPaused)
  (hgo : z.dmaStalled n = false) (hpaced : z.dmaReq n = 0 ∨ dLen ws = (z.dch n).put ∨ z.dmaLineOn (z.dmaReq n) = true)
include hz hdesc hbusy hruns hgo hpaced

/-- The end of a descriptor that may move its bytes depends on its data alone. -/
theorem execDmaDescriptorEnd_of_moving : execDmaDescriptorEnd t n put bs ecc s =
    if (eccBad ecc || decide (z.dmaClean ws < dLen ws)) = true then
      z.dmaFeeds n put (.next ((ecc.foldl State.eccEnd (((z.eccAll ecc).dmaErr n).dmaAbort n put bs false)).poisonEnds
        (dSrc ws) (dSpan ws (dBit ws dFixSrc))))
    else z.dmaFeeds n (dLen ws)
      (.next ((((z.eccAll ecc).dmaMove n (dLen ws) bs).dmaBack n stDone (dLen ws) (dBit ws dIrq)).dmaGoOn n ws)) := by
  subst hz
  have hpaced' : ((s.at t).dmaReq n != 0 && dLen ws - ((s.at t).dch n).put != 0 &&
      !(s.at t).dmaLineOn ((s.at t).dmaReq n)) = false := by
    rcases hpaced with hfree | hall | hline
    · rw [hfree]; rfl
    · rw [hall, Nat.sub_self]; simp
    · rw [hline, Bool.not_true, Bool.and_false]
  simp only [execDmaDescriptorEnd, hdesc]
  exact if_neg (by
    rw [hpaced', hgo, beq_eq_false_iff_ne.2 hbusy, beq_eq_false_iff_ne.2 hruns]; decide)

theorem execDmaDescriptorEnd_of_clean (hecc : eccBad ecc = false) (hclean : dLen ws ≤ z.dmaClean ws)
    (hfeeds : z.dmaOverfeeds n (dLen ws) = false) : execDmaDescriptorEnd t n put bs ecc s =
      .next ((((z.eccAll ecc).dmaMove n (dLen ws) bs).dmaBack n stDone (dLen ws) (dBit ws dIrq)).dmaGoOn n ws) := by
  rw [execDmaDescriptorEnd_of_moving hz hdesc hbusy hruns hgo hpaced, State.dmaFeeds_of_good hfeeds]
  exact if_neg (by simp [hecc, hclean])

theorem execDmaDescriptorEnd_of_poisoned (hbad : eccBad ecc = true ∨ z.dmaClean ws < dLen ws)
    (hfeeds : z.dmaOverfeeds n put = false) : execDmaDescriptorEnd t n put bs ecc s =
      .next ((ecc.foldl State.eccEnd (((z.eccAll ecc).dmaErr n).dmaAbort n put bs false)).poisonEnds (dSrc ws)
        (dSpan ws (dBit ws dFixSrc))) := by
  rw [execDmaDescriptorEnd_of_moving hz hdesc hbusy hruns hgo hpaced, State.dmaFeeds_of_good hfeeds]
  exact if_pos (by simpa using hbad)

end

/-! ### Pauses, stops and read errors (R393 to R395) -/

theorem execDmaPause_of_ready (hr : s.readyReg (DMA_CH_CTL n) = true) :
    execDmaPause t n s = .next ((s.at t).dmaPauseSet n) := if_neg (by simp [hr])

theorem execDmaResume_of_ready (hr : s.readyReg (DMA_CH_CTL n) = true) :
    execDmaResume t n s = .next ((s.at t).dmaPauseClear n) := if_neg (by simp [hr])

section
variable {put : Nat} {bs : List Byte} (hfeeds : (s.at t).dmaOverfeeds n put = false)
include hfeeds

theorem execDmaPaused_of_pausing (hstate : s.dmaState n = dmaPausing) :
    execDmaPaused t n put bs s = .next (((s.at t).dmaMove n put bs).setDmaState n dmaPaused) :=
  (if_neg (not_not.2 hstate)).trans (State.dmaFeeds_of_good hfeeds)

theorem execDmaStop_of_ready (hr : s.readyReg (DMA_CH_CTL n) = true) :
    execDmaStop t n put bs s = .next ((s.at t).dmaStop n put bs) :=
  (if_neg (by simp [hr])).trans (State.dmaFeeds_of_good hfeeds)

theorem execDmaReadError_of_busy (hbusy : s.dmaState n ≠ dmaIdle) : execDmaReadError t n put bs s =
    .next (((((s.at t).dmaErr n).raise2 (0x0E00 + n) 0).dmaAbort n put bs true).clear2 (0x0E00 + n)) :=
  (if_neg hbusy).trans (State.dmaFeeds_of_good hfeeds)

end

/-! ### Request lines (R390, R396) -/

section
variable {q : Fin 4} {z : State} (hz : z = s.at t)
include hz

theorem execDmaRequestAssert_of_asked (hoff : z.dmaLineOn (q + 1) = false) (hasks : z.lineAsks (q + 1) = true) :
    execDmaRequestAssert t q s = .next (((List.range 32).filter fun n => z.dmaReq n == q + 1 &&
      z.dmaState n == dmaRun).foldl (fun x n => (x.dmaReadOn n).dmaLeap n true [])
        { z with dmaLine := cellSet (fun _ => false) z.dmaLine (q + 1) true }) := by
  subst hz
  exact if_neg (by simp only [hoff, hasks]; decide)

/-- The channels that a line paces, while they are enabled. -/
def State.pacedBy (s : State) (q : Nat) : List Nat :=
  (List.range 32).filter fun n => s.dmaReq n == q && s.bit (DMA_CH_CFG n) DMA_CH_CFG_en

theorem execDmaRequestWithdraw_of_on {done : List (Nat × Nat × List Byte)} (hon : z.dmaLineOn (q + 1) = true)
    (hfeeds : ¬ (q.val = 3 ∧ z.sessWritten = true ∧
      done.any (fun e => decide ((z.dch e.1).put < z.burstEnd e.1 e.2.1)) = true)) :
    execDmaRequestWithdraw t q done s = .next ((done.foldl (fun x e =>
      if (z.pacedBy (q + 1)).contains e.1 && x.dmaState e.1 != dmaIdle
      then x.dmaMove e.1 (x.burstEnd e.1 e.2.1) e.2.2 else x) z).lineDrop (q + 1)) := by
  subst hz
  exact (if_neg (by rw [hon]; decide)).trans (if_neg hfeeds)

end
end

/-- Settles O26: one law for each command, above. -/
theorem dmaCommands : Obligations.DmaCommands := by
  unfold Obligations.DmaCommands
  refine ⟨?kick, ?next, ?arrival, ?badArrival, ?ended, ?badEnd, ?pause, ?paused, ?resume, ?stop, ?error, ?assert, ?withdraw⟩
  case kick => exact fun t n beaten s hr hapart => execDmaKick_of_apart hr hapart
  case next => exact fun t n v s hr hv hidle => execDmaNextWrite_of_idle hr hv hidle
  case arrival =>
    rintro t n ws beaten ecc d x s z y hz rfl hfetch hbusy hgo hshared hd hecc hclean hgood hy hapart hclash hmirror
    exact execDmaDescriptorArrival_of_good hz hfetch hbusy hgo hshared rfl hd hecc hclean hgood hy hapart hclash hmirror
  case badArrival =>
    exact fun t n ws beaten ecc s z hz hfetch hbusy hgo hshared hecc =>
      execDmaDescriptorArrival_of_poisoned hz hfetch hbusy hgo hshared hecc
  case ended =>
    exact fun t put n bs ecc ws s z hz hdesc hbusy hruns hgo hpaced hecc hclean hfeeds =>
      execDmaDescriptorEnd_of_clean hz hdesc hbusy hruns hgo hpaced hecc hclean hfeeds
  case badEnd =>
    exact fun t put n bs ecc ws s z hz hdesc hbusy hruns hgo hpaced hbad hfeeds =>
      execDmaDescriptorEnd_of_poisoned hz hdesc hbusy hruns hgo hpaced hbad hfeeds
  case pause => exact fun t n s hr => execDmaPause_of_ready hr
  case paused => exact fun t put n bs s hstate hfeeds => execDmaPaused_of_pausing hfeeds hstate
  case resume => exact fun t n s hr => execDmaResume_of_ready hr
  case stop => exact fun t put n bs s hr hfeeds => execDmaStop_of_ready hfeeds hr
  case error => exact fun t put n bs s hbusy hfeeds => execDmaReadError_of_busy hfeeds hbusy
  case assert => exact fun t q s z hz hoff hasks => execDmaRequestAssert_of_asked hz hoff hasks
  case withdraw => exact fun t q done s z hz hon hfeeds => execDmaRequestWithdraw_of_on hz hon hfeeds

end Sys2Proof.Machine

/-! PROOFS. What drawn pixels change in a frame store (spec/17, R399, R404, R413). -/

namespace Sys2Proof.Machine

/-! ### Writes to a store, one after another -/

theorem cellGet_foldl_cellSet_of_forall_ne {α : Type} [DecidableEq α] (d : Nat → α) (st : Cells α) {j : Nat} :
    ∀ ps : List (Nat × α), (∀ p ∈ ps, p.1 ≠ j) →
      cellGet d (ps.foldl (fun m p => cellSet d m p.1 p.2) st) j = cellGet d st j := by
  intro ps
  induction ps generalizing st with
  | nil => exact fun _ => rfl
  | cons p ps ih =>
    intro h
    obtain ⟨hp, hps⟩ := List.forall_mem_cons.1 h
    exact (ih _ hps).trans (cellGet_set_ne d st p.2 hp.symm)

/-- Of writes to different keys each stands at the end. -/
theorem cellGet_foldl_cellSet_of_mem {α : Type} [DecidableEq α] (d : Nat → α) (st : Cells α) {p : Nat × α} :
    ∀ ps : List (Nat × α), (ps.map Prod.fst).Nodup → p ∈ ps →
      cellGet d (ps.foldl (fun m p => cellSet d m p.1 p.2) st) p.1 = p.2 := by
  intro ps
  induction ps generalizing st with
  | nil => exact fun _ h => absurd h (by simp)
  | cons q ps ih =>
    intro hnd hp
    obtain ⟨hq, hnd⟩ := List.nodup_cons.1 hnd
    rcases List.mem_cons.1 hp with rfl | hp
    · refine (cellGet_foldl_cellSet_of_forall_ne d _ ps fun r hr he => hq ?_).trans (cellGet_set_same d st _ _)
      exact he ▸ List.mem_map_of_mem hr
    · exact ih _ hnd hp

/-! ### The keys of an area -/

theorem pixKey_inj {x y x' y' : Nat} (hx : x < 65536) (hx' : x' < 65536) (h : pixKey x y = pixKey x' y') :
    x = x' ∧ y = y' := by
  unfold pixKey at h
  omega

/-- The keys of an area in row order, by the pixel's number. -/
theorem Area.keys_eq_map (a : Area) (hw : 0 < a.w) :
    a.keys = (List.range (a.w * a.h)).map fun k => pixKey (a.x + k % a.w) (a.y + k / a.w) := by
  unfold Area.keys
  induction a.h with
  | zero => rfl
  | succ h ih =>
    rw [List.range_succ, List.flatMap_append, ih, Nat.mul_succ, List.range_add, List.map_append, List.map_map]
    congr 1
    refine (List.flatMap_singleton ..).trans (List.map_congr_left fun i hi => ?_)
    have hi : i < a.w := List.mem_range.1 hi
    simp [Nat.mod_eq_of_lt hi, Nat.mul_add_div hw, Nat.div_eq_of_lt hi]

theorem Area.mem_keys {a : Area} {k : Nat} : k ∈ a.keys ↔ ∃ j < a.h, ∃ i < a.w, pixKey (a.x + i) (a.y + j) = k := by
  simp [Area.keys]

theorem Area.keys_nodup (a : Area) (hw : 0 < a.w) (hx : a.x + a.w ≤ 65536) : a.keys.Nodup := by
  rw [Area.keys_eq_map a hw]
  refine List.Nodup.map_on (fun k _ k' _ h => ?_) List.nodup_range
  have hk := Nat.mod_lt k hw
  have hk' := Nat.mod_lt k' hw
  obtain ⟨hmod, hdiv⟩ := pixKey_inj (by omega) (by omega) h
  rw [← Nat.div_add_mod k a.w, ← Nat.div_add_mod k' a.w, Nat.add_left_cancel hmod, Nat.add_left_cancel hdiv]

/-! ### Drawn pixels -/

section
variable {a : Area} {pix : List Nat} (p : Nat) (st : Cells Nat)

theorem cellGet_putPix_inside (hx : a.x + a.w ≤ 65536) (hpix : pix.length = a.w * a.h) {i j : Nat} (hi : i < a.w)
    (hj : j < a.h) :
    cellGet (storeReset p) (putPix p st a pix) (pixKey (a.x + i) (a.y + j)) = pix.getD (a.w * j + i) 0 := by
  have hw : 0 < a.w := by omega
  have hkeys := a.keys_eq_map hw
  have hlen : a.keys.length = a.w * a.h := by simp [hkeys]
  have hk : a.w * j + i < a.w * a.h := by
    have := Nat.mul_le_mul_left a.w (Nat.succ_le_of_lt hj)
    rw [Nat.mul_succ] at this
    omega
  have hmem : (pixKey (a.x + i) (a.y + j), pix.getD (a.w * j + i) 0) ∈ a.keys.zip pix := by
    refine List.mem_iff_getElem.2 ⟨a.w * j + i, by simp [hlen, hpix, hk], ?_⟩
    simp [hkeys, Nat.mod_eq_of_lt hi, Nat.mul_add_div hw, Nat.div_eq_of_lt hi, hpix, hk]
  refine cellGet_foldl_cellSet_of_mem (storeReset p) st (a.keys.zip pix) ?_ hmem
  rw [List.map_fst_zip (by omega)]
  exact a.keys_nodup hw hx

theorem cellGet_putPix_outside (hx : a.x + a.w ≤ 65536) {x y : Nat} (hx' : x < 65536)
    (hout : ¬ (a.x ≤ x ∧ x < a.x + a.w ∧ a.y ≤ y ∧ y < a.y + a.h)) :
    cellGet (storeReset p) (putPix p st a pix) (pixKey x y) = cellGet (storeReset p) st (pixKey x y) := by
  refine cellGet_foldl_cellSet_of_forall_ne (storeReset p) st _ fun q hq he => hout ?_
  obtain ⟨j, hj, i, hi, hkey⟩ := Area.mem_keys.1 (List.of_mem_zip hq).1
  obtain ⟨rfl, rfl⟩ := pixKey_inj (by omega) hx' (hkey.trans he)
  omega

end

/-- Settles O54: the keys of the area's pixels are all different, and no pixel outside has one of them. -/
theorem drawnPixelsEnterTheStore : Obligations.DrawnPixelsEnterTheStore := by
  unfold Obligations.DrawnPixelsEnterTheStore
  exact fun p st a pix hx hpix => ⟨fun i j hi hj => cellGet_putPix_inside p st hx hpix hi hj,
    fun x y hx' hout => cellGet_putPix_outside p st hx hx' hout⟩

end Sys2Proof.Machine

/-! PROOFS. The K12 engine's conversions, the derating factor, and what a step does (spec/21, spec/19, R450, R483). -/

namespace Sys2Proof.Machine

/-! ### The K12 engine's conversions (R483, R486) -/

theorem k12Milli_k12Code {ma : Nat} (h : ma ≤ 3000) : k12Milli (k12Code ma) = ma := by
  rw [k12Code, Nat.min_eq_left h, k12Milli]
  omega

theorem k12Code_le (ma : Nat) : k12Code ma ≤ 12288 := by
  unfold k12Code
  omega

theorem k12Code_of_large {ma : Nat} (h : 3000 ≤ ma) : k12Code ma = 12288 := by
  rw [k12Code, Nat.min_eq_right h]

theorem k12Code_mono {ma m : Nat} (h : ma ≤ m) : k12Code ma ≤ k12Code m := by
  unfold k12Code
  omega

theorem k12Out_of_duty {d : Nat} (h : d < 1000) : k12Out true (0xC000 + d) = (2, (d * 65536 + 500) / 1000) := by
  have hmod : (0xC000 + d) % 1024 = d := by omega
  have hmode : ¬ ((0xC000 + d) / 2 ^ 14 % 2 = 0 ∨ !true ∨ 1000 ≤ d) := by simp; omega
  rw [k12Out]
  simp only [hmod]
  rw [if_neg (by omega), if_neg hmode]

theorem k12OutVal_of_duty {d : Nat} : k12OutVal 2 ((d * 65536 + 500) / 1000) = 0xC000 + d := by
  simp only [k12OutVal, show ¬ (2 = 0) by decide, show ¬ (2 = 1) by decide, if_false]
  omega

/-- Settles O46: half of a code's step in mA, and half of a duty's step, is lost at most and rounded back. -/
theorem engineConversionsRoundTrip : Obligations.EngineConversionsRoundTrip := by
  unfold Obligations.EngineConversionsRoundTrip
  refine ⟨fun ma => ⟨fun h => ⟨k12Milli_k12Code h, k12Code_le ma⟩, k12Code_of_large, fun _ => k12Code_mono⟩,
    fun d h => ?_⟩
  rw [k12Out_of_duty h]
  refine ⟨k12OutVal_of_duty, by decide, by decide, ?_⟩
  dsimp only
  omega

/-! ### The derating factor (R450, R451) -/

/-- The junction's factor as one expression over the integers. -/
theorem derateJunction_cast (tj tder : Int) :
    (derateJunction tj tder : Int) = max 320 (min 1280 (1280 - 3 * (tj - tder))) := by
  unfold derateJunction clampI
  omega

theorem derateBand_ge (band : Nat) : 320 ≤ derateBand band := by
  unfold derateBand
  split_ifs <;> decide

theorem State.derateOf_ge (s : State) (n : Nat) : 320 ≤ s.derateOf n := by
  have hj := derateJunction_cast (s.nodeTemp n) s.tder
  refine le_min (by omega) (le_min (derateBand_ge _) ?_)
  split_ifs <;> decide

/-- Settles O47: each bound is read off the clamped line of R450. -/
theorem deratingFactorBounds : Obligations.DeratingFactorBounds := by
  unfold Obligations.DeratingFactorBounds
  refine ⟨fun tj tder => ?_, fun n s =>
    ⟨Nat.min_le_left .., (Nat.min_le_right ..).trans (Nat.min_le_left ..), s.derateOf_ge n⟩⟩
  have hj := derateJunction_cast tj tder
  refine ⟨by omega, by omega, by omega, by omega, fun tk _ => ?_⟩
  have hk := derateJunction_cast tk tder
  omega

/-! ### A step -/

theorem step_of_cons {s : State} {c : Instr} {rest : List Instr} (h : s.pending = c :: rest) :
    step s = exec c (s.setPending rest) := by
  unfold step
  rw [h]

/-- Settles O35: `step` is `exec` of the front command, on the state with the queue's rest. -/
theorem stepCarriesOutTheFrontCommand : Obligations.StepCarriesOutTheFrontCommand := by
  unfold Obligations.StepCarriesOutTheFrontCommand
  exact ⟨fun c s => step_of_cons (s.setPending_pending _), fun _ _ _ => step_of_cons⟩

end Sys2Proof.Machine

/-! PROOFS. The commands of the recorder and of CROAK change no engine (spec/18, R423, R430, R435, R441, R443). -/

namespace Sys2Proof.Machine

/-! ### Steps that change no engine -/

namespace State.SameEngines

theorem refl (s : State) : s.SameEngines s := (Quiet.refl s).sameEngines

theorem trans {s t u : State} (h : s.SameEngines t) (k : t.SameEngines u) : s.SameEngines u := by
  obtain ⟨h1, h2, h3, h4, h5, h6, h7, h8, h9, h10, h11, h12, h13, h14, h15, h16⟩ := h
  obtain ⟨k1, k2, k3, k4, k5, k6, k7, k8, k9, k10, k11, k12, k13, k14, k15, k16⟩ := k
  exact ⟨k1.trans h1, k2.trans h2, k3.trans h3, k4.trans h4, k5.trans h5, k6.trans h6, k7.trans h7, k8.trans h8,
    k9.trans h9, k10.trans h10, k11.trans h11, k12.trans h12, k13.trans h13, k14.trans h14, k15.trans h15, k16.trans h16⟩

theorem quiet {s t u : State} (h : s.SameEngines t) (k : Quiet t u) : s.SameEngines u := h.trans k.sameEngines

/-- An update of registers, of the power state, of fault collection, of the recorder and of request lines alone. -/
theorem mk' (s : State) (free' : Nat) (regs' : Cells Word) (hot' : Nat × Cells Word) (pow' : Power) (flt' : Flt)
    (recr' : Recorder) (dmaLine' : Cells Bool) :
    s.SameEngines { s with free := free', regs := regs', hot := hot', pow := pow', flt := flt', recr := recr',
                           dmaLine := dmaLine' } :=
  ⟨rfl, rfl, rfl, rfl, rfl, rfl, rfl, rfl, rfl, rfl, rfl, rfl, rfl, rfl, rfl, rfl⟩

theorem ite {s a b : State} {c : Prop} [Decidable c] (h : s.SameEngines a) (k : s.SameEngines b) :
    s.SameEngines (if c then a else b) := by
  split <;> assumption

theorem foldl {α : Type} (s : State) (l : List α) {f : State → α → State}
    (hf : ∀ (x : State) a, x.SameEngines (f x a)) : s.SameEngines (l.foldl f s) := by
  induction l generalizing s with
  | nil => exact refl s
  | cons a l ih => exact (hf s a).trans (ih _)

end State.SameEngines

namespace State

variable (s : State)

theorem wr_sameEngines (off : Nat) (f : Fld) (v : Nat) : s.SameEngines (s.wr off f v) := .mk' ..

theorem bump_sameEngines (off : Nat) (f : Fld) : s.SameEngines (s.bump off f) := .mk' ..

theorem setRecr_sameEngines (x : Recorder) : s.SameEngines (s.setRecr x) := .mk' ..

theorem poisonEnds_quiet (a n : Nat) : Quiet s (s.poisonEnds a n) :=
  Quiet.foldl _ _ _ fun x _ => Quiet.ite (State.fltPut_quiet x ..) (Quiet.refl x)

theorem finish_quiet (k : Nat × Nat) (honours : Bool) (status len result : Nat) :
    Quiet s (s.finish k honours status len result) :=
  (State.endRunning_quiet ..).trans (State.settleRing_quiet ..)

/-- A request line that falls is told to the registers of its channels alone. -/
theorem lineDrop_sameEngines (q : Nat) : s.SameEngines (s.lineDrop q) := by
  unfold State.lineDrop
  refine .ite (.trans ?_ (.mk' ..)) (.refl s)
  exact .foldl s _ fun x _ => (x.wr_sameEngines ..).trans (bump_sameEngines ..)

theorem stopEntry_quiet (n : Nat) : Quiet s (s.stopEntry n) := .ite (addEntry_quiet ..) (.refl s)

theorem stopTold_sameEngines (x : StopRun) : s.SameEngines (s.stopTold x) := by
  have hpow : s.SameEngines (s.setPow { s.pow with stop := some { x with told := true } }) := .mk' ..
  unfold State.stopTold
  generalize s.setPow _ = s1 at hpow ⊢
  refine .ite (.refl s) ?_
  cases x.began
  case upd => exact (hpow.trans (.mk' ..)).quiet (stopEntry_quiet ..)
  all_goals exact hpow.quiet (stopEntry_quiet ..)

/-! ### Flushes -/

theorem flushBegin_sameEngines : s.SameEngines s.flushBegin := .mk' ..

theorem storeEntries_sameEngines (l : List RecEntry) : s.SameEngines (s.storeEntries l) :=
  .ite ((s.setRecr_sameEngines _).quiet (note_quiet ..)) (s.setRecr_sameEngines _)

theorem recClear_sameEngines (issued : Nat) : s.SameEngines (s.recClear issued) := .mk' ..

theorem flushFinish_sameEngines : s.SameEngines s.flushFinish := by
  unfold State.flushFinish
  cases s.recr.flush
  case none => exact .refl s
  case some n =>
    refine .trans ?ops (.foldl _ _ fun x c => (x.recClear_sameEngines c.2).quiet (finish_quiet ..))
    refine .trans ?kept (.foldl _ _ fun x o => (x.finish_quiet o false stDone 0 0).sameEngines)
    exact .trans (.trans (s.setRecr_sameEngines _) (lineDrop_sameEngines ..)) (storeEntries_sameEngines ..)

end State

/-! ### Answers that change no engine -/

/-- An answer that, if it is a next state, has the engines of `s`. -/
inductive OutSame (s : State) : Out → Prop
  | next {u : State} (h : s.SameEngines u) : OutSame s (.next u)
  | fault (f : Fault) : OutSame s (.fault f)
  | refused (f : Refusal) : OutSame s (.refused f)

namespace OutSame

theorem sameEngines {s u : State} (h : OutSame s (.next u)) : s.SameEngines u := by
  cases h with
  | next h => exact h

theorem ite {s : State} {a b : Out} {c : Prop} [Decidable c] (h : OutSame s a) (k : OutSame s b) :
    OutSame s (if c then a else b) := by
  split <;> assumption

theorem quiet {s u : State} (h : Quiet s u) : OutSame s (.next u) := .next h.sameEngines

theorem endOp (s : State) (r slot status len result : Nat) : OutSame s (.next (s.endOp r slot status len result)) :=
  quiet (State.endOp_quiet ..)

theorem ringOp {s : State} {r tgt func op : Nat} {k : State → RDesc → Out} (hk : ∀ d, OutSame s (k s d)) :
    OutSame s (s.ringOp r tgt func op k) := by
  unfold State.ringOp
  cases s.opFor r tgt func op
  case none => exact quiet (Quiet.refl s)
  case some d =>
    dsimp only
    have hd := hk d
    generalize k s d = o at hd ⊢
    cases hd with
    | next h => exact .next (h.quiet (State.settleRing_quiet ..))
    | fault f => exact .fault f
    | refused f => exact .refused f

theorem takesBuf {s : State} {r : Nat} {d : RDesc} {n : Nat} {k : Out} (hk : OutSame s k) :
    OutSame s (s.takesBuf r d n k) :=
  .ite (.fault _) <| .ite (.fault _) <| .ite (quiet ((s.poisonEnds_quiet _ _).trans (State.endOp_quiet ..))) hk

theorem givesBuf {s : State} {r : Nat} {d : RDesc} {k : Out} (hk : OutSame s k) : OutSame s (s.givesBuf r d k) :=
  .ite (.fault _) hk

end OutSame

/-! ### The commands -/

section
variable (t : Nat) (r : Fin 64) (s : State)

theorem execCroakToggle_outSame : OutSame (s.at t) (execCroakToggle t s) :=
  .ite (.next (.refl _)) (.next (.trans (State.wr_sameEngines ..) (.mk' ..)))

theorem execRecorderFlushStart_outSame : OutSame (s.at t) (execRecorderFlushStart t s) := by
  unfold execRecorderFlushStart
  refine .ite (.next ?_) (.next (.refl _))
  cases (s.at t).pow.stop
  case none => exact State.flushBegin_sameEngines _
  case some x => exact .trans (State.stopTold_sameEngines ..) (State.flushBegin_sameEngines _)

theorem execFlushPeriodEnd_outSame : OutSame (s.at t) (execFlushPeriodEnd t s) :=
  .ite (.next (.refl _)) (.next (State.setRecr_sameEngines ..))

theorem execFlushEnd_outSame : OutSame (s.at t) (execFlushEnd t s) := .next (State.flushFinish_sameEngines _)

theorem execFaultFill_outSame : OutSame (s.at t) (execFaultFill t r s) := by
  unfold execFaultFill State.fill
  exact .ringOp fun _ => .ite (.fault _) <| .ite (.endOp ..) <| .ite (.endOp ..) <|
    .quiet ((State.startOp_quiet ..).trans (State.pumpAll_quiet ..))

theorem execFlush_outSame : OutSame (s.at t) (execFlush t r s) :=
  .ringOp fun _ => .next ((State.startOp_quiet ..).sameEngines.trans (State.setRecr_sameEngines ..))

theorem execMark_outSame (buf : List Word) : OutSame (s.at t) (execMark t r buf s) :=
  .ringOp fun _ => .takesBuf <| .ite (.endOp ..) <|
    .quiet ((State.addEntry_quiet ..).trans (State.endOp_quiet ..))

theorem execChallenge_outSame : OutSame (s.at t) (execChallenge t r s) :=
  .ringOp fun _ => .givesBuf <| .ite (.endOp ..) <|
    .next (.trans (.mk' ..) ((State.bufOut_quiet ..).trans (State.endOp_quiet ..)).sameEngines)

theorem execChallengeExpiry_outSame : OutSame (s.at t) (execChallengeExpiry t s) := by
  unfold execChallengeExpiry
  dsimp only
  cases (s.at t).recr.chal
  case none => exact .next (.refl _)
  case some c => exact .ite (.next (.refl _)) (.next (State.setRecr_sameEngines ..))

theorem execClear_outSame (ok : Bool) : OutSame (s.at t) (execClear t r ok s) := by
  refine .ringOp fun d => .takesBuf <| .ite (.endOp ..) ?_
  generalize s.at t = z
  cases z.recr.chal
  case none => exact .endOp ..
  case some c =>
    refine .ite (.endOp ..) <| .ite (.next ?refused) <| .ite (.next ?waits) (.next ?done)
    case refused => exact (z.setRecr_sameEngines _).quiet ((State.note_quiet ..).trans (State.endOp_quiet ..))
    case waits => exact ((z.setRecr_sameEngines _).quiet (State.startOp_quiet ..)).trans (State.setRecr_sameEngines ..)
    case done => exact ((z.setRecr_sameEngines _).trans (State.recClear_sameEngines ..)).quiet (State.endOp_quiet ..)

end

/-- Settles O50: each of the ten commands writes registers, rings and the recorder's own state alone. -/
theorem recorderCommandsChangeNoEngine : Obligations.RecorderCommandsChangeNoEngine := by
  unfold Obligations.RecorderCommandsChangeNoEngine
  intro t r ok buf c s u hc hu
  refine State.sameEngines_of_at (t := t) (OutSame.sameEngines (hu ▸ ?_))
  simp only [List.mem_cons, List.not_mem_nil, or_false] at hc
  rcases hc with rfl | rfl | rfl | rfl | rfl | rfl | rfl | rfl | rfl | rfl
  · exact execCroakToggle_outSame t s
  · exact execRecorderFlushStart_outSame t s
  · exact execFlushPeriodEnd_outSame t s
  · exact execFlushEnd_outSame t s
  · exact execFaultFill_outSame t r s
  · exact execFlush_outSame t r s
  · exact execMark_outSame t r s buf
  · exact execChallenge_outSame t r s
  · exact execChallengeExpiry_outSame t s
  · exact execClear_outSame t r s ok

end Sys2Proof.Machine

/-! PROOFS. Flushes, records of persisting faults and the recorder's ring operations (spec/18, R427 to R443). -/

namespace Sys2Proof.Machine

section
variable {t : Nat} {r : Fin 64} {s : State} {d : RDesc}

/-! ### Fault collection (R427, R430, R442) -/

theorem execFaultPersisting_of_found {code detail i : Nat} (h10 : s.passed 10 = true)
    (hi : (s.flt.wins.findIdx? fun w : FltWin => w.code == code && w.detail == detail && w.cls == 2 && !w.told &&
      decide (w.since + (s.at t).plim ≤ max s.cyc t)) = some i) :
    execFaultPersisting t code detail s = .next (({ s.at t with flt := { s.flt with
      wins := modAt (fun w => { w with told := true }) i s.flt.wins } }).fltPut code 2 detail 2 false) := by
  simp only [execFaultPersisting, State.at_flt, State.at_cyc, hi]
  exact if_neg (by simp [h10])

theorem execCroakToggle_of_due (halive : s.bit FLT_STAT FLT_STAT_alive = true) (hdue : s.flt.croakAt ≤ max s.cyc t) :
    ∃ u, execCroakToggle t s = .next u ∧ u.rd FLT_STAT FLT_STAT_level = 1 - s.rd FLT_STAT FLT_STAT_level ∧
      u.flt.croakAt = s.flt.croakAt + 100000 ∧ s.SameBut u [FLT_STAT] := by
  refine ⟨_, if_neg (by simp [halive, not_lt.2 hdue]), ?_, rfl, ?_⟩
  · refine (State.rd_wr_same (s.at t) FLT_STAT FLT_STAT_level _ (by decide)).trans (Nat.mod_eq_of_lt ?_)
    exact (Nat.sub_le ..).trans_lt (by decide)
  · exact State.wr_sameBut (s.at t) FLT_STAT FLT_STAT_level _

theorem execFaultFill_of_good (h : s.opFor r 0x10 0 1 = some d) (hbuf : s.bufBad r d = false) (hlen : 32 ≤ d.len) :
    execFaultFill t r s = .next ((((s.at t).startOp r d.slot).pumpAll 256).settleRing r) :=
  State.fill_next (s := s.at t) h hbuf (by omega) hlen

/-! ### Flushes (R435 to R437) -/

/-- What a flush takes from the recorder as it begins. -/
theorem State.flushBegin_spec (x : State) : x.flushBegin.recr.flush = some x.recr.buf.length ∧
    x.flushBegin.recr.flushDue = false ∧ x.flushBegin.recr.flushRun = x.recr.flushOps ∧
    x.flushBegin.recr.flushOps = [] ∧ x.flushBegin.recr.buf = x.recr.buf ∧ x.flushBegin.recr.store = x.recr.store ∧
    (x.bitThen REC_CFG REC_CFG_mirror = true → x.recr.mirrorGap = 0 → x.flushBegin.recr.mirror = x.recr.buf) ∧
    x.SameBut x.flushBegin [] := by
  refine ⟨rfl, rfl, rfl, rfl, rfl, rfl, fun hon hgap => ?_, .of_eq rfl rfl _⟩
  simp [State.flushBegin, State.setRecr, State.freeNext, hon, hgap]

/-- The flush that is due begins; in an orderly stop the STOP entry comes first. -/
theorem execRecorderFlushStart_of_due {x : State} (hdue : s.recr.flushDue = true) (hidle : s.recr.flush = none)
    (h10 : s.passed 10 = true)
    (hx : (s.pow.stop = none ∧ x = s.at t) ∨ ∃ y, s.pow.stop = some y ∧ x = (s.at t).stopTold y) :
    execRecorderFlushStart t s = .next x.flushBegin := by
  refine (if_pos (by simp [hdue, hidle, h10])).trans ?_
  rw [State.at_pow]
  obtain ⟨hstop, rfl⟩ | ⟨y, hstop, rfl⟩ := hx <;> rw [hstop]

theorem execFlushPeriodEnd_of_due (hper : (s.at t).rdThen REC_CFG REC_CFG_per ≠ 0) (h10 : s.passed 10 = true)
    (hdue : s.recr.perFrom + sec ((s.at t).rdThen REC_CFG REC_CFG_per) ≤ max s.cyc t) :
    execFlushPeriodEnd t s =
      .next ((s.at t).setRecr { s.recr with flushDue := true, perFrom := max s.cyc t }) :=
  if_neg (by simp only [State.at_recr, State.at_cyc, hper, not_lt.2 hdue, false_or, or_false]; simp [h10])

/-! ### Ring operations (R436, R440, R441, R443) -/

theorem execFlush_of_op (h : s.opFor r 0x11 0 2 = some d) :
    execFlush t r s = .next ((((s.at t).startOp r d.slot).setRecr { s.recr with
      flushDue := true, flushOps := s.recr.flushOps ++ [(r.val, d.slot)] }).settleRing r) :=
  State.ringOp_next (s := s.at t) h rfl

theorem execMark_of_good {buf : List Word} (h : s.opFor r 0x11 0 3 = some d)
    (htake : s.canTake r d (4 * buf.length) = true) (hlen : d.len = 16) : execMark t r buf s =
      .next ((((s.at t).addEntry (s.at t).mtime 7 (s.bufWords r d buf)).1.endOp r d.slot stDone 16 0).settleRing r) := by
  refine State.ringOp_next (s := s.at t) h ?_
  rw [State.takesBuf_eq ((State.canTake_at ..).trans htake)]
  exact if_neg (not_not.2 hlen)

theorem execSnap_of_enabled {z : State} {a : State × Bool} (hz : z = s.at t) (h : z.opFor r 0x11 0 4 = some d)
    (hen : z.bitThen (REC_TRG_A (bits (d.par 8) 5 0)) REC_TRG_A_en = true)
    (ha : a = z.snap (bits (d.par 8) 5 0) 0xFFFFFFFF) : execSnap t r s =
      .next ((if a.2 then a.1.endOp r d.slot stDone 0 0
        else (a.1.snapNotes 1).freeNext.endOp r d.slot (freeStatus z) 0 0).settleRing r) := by
  subst hz ha
  exact State.ringOp_next (s := s.at t) h (if_neg (by simp [hen]))

/-- The nonce, SYS_ID, the serial number and the time of expiry of a CHALLENGE, filled up to 64 bytes. -/
def State.challengeWords (s : State) : List Word :=
  let exp := (s.mtime + 60000000000) % 2 ^ 64
  (s.freeWords 9).take 8 ++ [s.reg SYS_ID] ++ (List.range 4).map Config.serial ++ [lo32 exp, hi32 exp] ++
    (s.freeWords 9).drop 8

theorem State.challengeWords_spec (s : State) : s.challengeWords.length = 16 ∧
    wAt s.challengeWords 8 = s.reg SYS_ID ∧
    wAt s.challengeWords 13 = lo32 ((s.mtime + 60000000000) % 2 ^ 64) :=
  ⟨rfl, rfl, rfl⟩

theorem execChallenge_of_good (h : s.opFor r 0x11 0 5 = some d) (hbuf : s.bufBad r d = false) (hlen : 64 ≤ d.len) :
    execChallenge t r s = .next ((((((s.at t).freeAdd 9).setRecr { s.recr with
      chal := some ((s.at t).mtime, max s.cyc t + sec 60) }).bufOut r d 0 (s.at t).challengeWords).endOp r d.slot stDone
        64 0).settleRing r) := by
  refine State.ringOp_next (s := s.at t) h ?_
  rw [State.givesBuf_eq (s := s.at t) hbuf]
  exact if_neg (not_lt.2 hlen)

theorem execChallengeExpiry_of_due {m c : Nat} (hchal : s.recr.chal = some (m, c)) (hdue : c ≤ max s.cyc t) :
    execChallengeExpiry t s = .next ((s.at t).setRecr { s.recr with chal := none }) := by
  simp only [execChallengeExpiry, State.at_recr, State.at_cyc, hchal]
  exact if_neg (not_lt.2 hdue)

section
variable {z x : State} {m c : Nat} (hz : z = s.at t) (h : z.opFor r 0x11 0 6 = some d)
  (htake : z.canTake r d d.len = true) (hlen : d.len = 96) (hchal : z.recr.chal = some (m, c)) (hlive : z.cyc < c)
  (hx : x = z.setRecr { z.recr with chal := none })
include hz h htake hlen hchal hlive hx

/-- A CLEAR on a live challenge uses it up; a signature that does not check is noted and leaves the history. -/
theorem execClear_of_wrong : execClear t r false s =
    .next (((x.note 0x1103 0).endOp r d.slot stBadParam 0 0).settleRing r) := by
  subst hz hx
  refine State.ringOp_next h ?_
  rw [State.takesBuf_eq htake]
  refine (if_neg (not_not.2 hlen)).trans ?_
  simp only [hchal]
  exact (if_neg (not_le.2 hlive)).trans (if_pos rfl)

theorem execClear_of_right : execClear t r true s =
    .next ((if z.recr.flush.isSome then (x.startOp r d.slot).setRecr
        { x.recr with clearOps := x.recr.clearOps ++ [((r.val, d.slot), m)] }
      else (x.recClear m).endOp r d.slot stDone 96 0).settleRing r) := by
  subst hz hx
  refine State.ringOp_next h ?_
  rw [State.takesBuf_eq htake]
  refine (if_neg (not_not.2 hlen)).trans ?_
  simp only [hchal]
  exact ((if_neg (not_le.2 hlive)).trans (if_neg (by simp))).trans (apply_ite Host.Outcome.next _ _ _).symm

end

/-! REC_READ. -/

/-- The number of the entry after those a READ returns. -/
def nextOfRead (l fit : List RecEntry) (first : Nat) : Nat :=
  match l[fit.length]? with
  | some e => e.seq
  | none => match fit.getLast? with
    | some e => e.seq + 1
    | none => first

theorem nextOfRead_eq {l fit : List RecEntry} {next : Nat} (first : Nat)
    (h : (∃ e, l[fit.length]? = some e ∧ next = e.seq) ∨
      (l.length ≤ fit.length ∧ ∃ e, fit.getLast? = some e ∧ next = e.seq + 1)) : nextOfRead l fit first = next := by
  obtain ⟨e, he, rfl⟩ | ⟨hlen, e, he, rfl⟩ := h
  · simp [nextOfRead, he]
  · simp [nextOfRead, List.getElem?_eq_none hlen, he]

theorem takeFit_nil (n : Nat) : takeFit n [] = [] := by cases n <;> rfl

theorem execRecRead_of_some {next : Nat} {ecc : List (Nat × EccHit)} {l fit : List RecEntry}
    {hits : List (Nat × EccHit)} {ws : List Word} (h : s.opFor r 0x11 0 1 = some d) (hbuf : s.bufBad r d = false)
    (hlen : d.len ≠ 0) (hl : l = s.recr.store.filter fun e => decide ((d.par 8).toNat ≤ e.seq))
    (hfit : fit = takeFit d.len l) (hsome : fit ≠ [])
    (hnext : (∃ e, l[fit.length]? = some e ∧ next = e.seq) ∨
      (l.length ≤ fit.length ∧ ∃ e, fit.getLast? = some e ∧ next = e.seq + 1))
    (hhits : hits = ecc.filter fun x => x.2.region.val == 6)
    (hws : ws = fit.flatMap fun e => e.out (hits.any fun x => x.1 == e.seq && !x.2.correctable)) :
    execRecRead t r ecc s = .next (((((s.at t).bufOut r d 0 ws).eccAll (hits.map Prod.snd)).endOp r d.slot stDone
      (4 * ws.length) next).settleRing r) := by
  have hnot : l ≠ [] := by
    rintro rfl
    exact hsome (hfit.trans (takeFit_nil _))
  rw [← nextOfRead_eq (d.par 8).toNat hnext]
  subst hws hhits hfit hl
  refine State.ringOp_next (s := s.at t) h ?_
  rw [State.givesBuf_eq (s := s.at t) hbuf]
  exact (if_neg hlen).trans ((if_neg (by simpa using hnot)).trans (if_neg (by simpa using hsome)))

end

/-- Settles O28: one law for each command, above. -/
theorem recorderCommands : Obligations.RecorderCommands := by
  unfold Obligations.RecorderCommands
  refine ⟨?persisting, ?croak, ?fill, ?start, ?period, ?flushEnd, ?read, ?flush, ?mark, ?snap, ?challenge, ?expiry,
    ?clear⟩
  case persisting => exact fun t code detail i s h10 hi => execFaultPersisting_of_found h10 hi
  case croak => exact fun t s halive hdue => execCroakToggle_of_due halive hdue
  case fill => exact fun t r s d h hbuf hlen => execFaultFill_of_good h hbuf hlen
  case start =>
    exact fun t s x hdue hidle h10 hx => ⟨_, execRecorderFlushStart_of_due hdue hidle h10 hx, x.flushBegin_spec⟩
  case period => exact fun t s hper h10 hdue => execFlushPeriodEnd_of_due hper h10 hdue
  case flushEnd => exact fun t s => rfl
  case read =>
    exact fun t next r ecc s d l fit hits ws h hbuf hlen hl hfit hsome hnext hhits hws =>
      execRecRead_of_some h hbuf hlen hl hfit hsome hnext hhits hws
  case flush => exact fun t r s d h => execFlush_of_op h
  case mark => exact fun t r buf s d h htake hlen => execMark_of_good h htake hlen
  case snap => exact fun t r s z d a hz h hen ha => execSnap_of_enabled hz h hen ha
  case challenge =>
    intro t r s d h hbuf hlen
    obtain ⟨hwords, hid, hexp⟩ := (s.at t).challengeWords_spec
    exact ⟨_, hwords, hid, hexp, execChallenge_of_good h hbuf hlen⟩
  case expiry => exact fun t m c s hchal hdue => execChallengeExpiry_of_due hchal hdue
  case clear =>
    exact fun t m c r s z x d hz h htake hlen hchal hlive hx =>
      ⟨execClear_of_wrong hz h htake hlen hchal hlive hx, execClear_of_right hz h htake hlen hchal hlive hx⟩

end Sys2Proof.Machine

/-! PROOFS. The update ring, and the commands of axolotl, the recovery mode (spec/20, R461 to R469). -/

namespace Sys2Proof.Machine

/-! ### The update ring (R461, R463, R464, R466) -/

section
variable {t : Nat} {r : Fin 64} {s : State} {d : RDesc}

theorem execUpdBegin_of_free (h : s.opFor r 0x13 0 1 = some d) (hsess : s.upd.sess = none)
    (hlo : 1 ≤ bits (d.par 8) 7 0) (hhi : bits (d.par 8) 7 0 ≤ 0x0B)
    (hslot : slotType (bits (d.par 8) 7 0) = false ∨ s.slotMoved = false) :
    execUpdBegin t r s = .next ((((s.at t).sessOpen (bits (d.par 8) 7 0) (bits (d.par 8) 10 8)
      (1 - s.actSlot)).endOp r d.slot stDone 0 0).settleRing r) := by
  refine State.ringOp_next (s := s.at t) h ?_
  refine (if_neg (by simp [hsess])).trans ((if_neg (by omega)).trans (if_neg ?_))
  rintro ⟨hty, hmoved⟩
  rcases hslot with h | h
  · exact absurd (hty.symm.trans h) (by decide)
  · exact absurd (hmoved.symm.trans h) (by decide)

theorem execUpdWrite_of_good {buf : List Byte} {z : State} {a : State × Nat} (hz : z = s.at t)
    (h : z.opFor r 0x13 0 2 = some d) (htake : z.canTake r d buf.length = true) (hlen : d.len ≠ 0)
    (ha : a = z.sessWrite (d.par 9).toNat (z.bufIn r d buf)) (hfed : a.2 ≠ stDone ∨ z.sessFed = false) :
    execUpdWrite t r buf s =
      .next ((a.1.endOp r d.slot a.2 (if a.2 = stDone then d.len else 0) 0).settleRing r) := by
  subst hz ha
  refine State.ringOp_next h ?_
  rw [State.takesBuf_eq htake]
  refine (if_neg hlen).trans (if_neg ?_)
  rintro ⟨hdone, hsess⟩
  rcases hfed with h | h
  · exact h hdone
  · exact absurd (hsess.symm.trans h) (by decide)

theorem execFinish_of_open {sig : Bool} {y : Sess} (h : s.opFor r 0x13 0 3 = some d) (hsess : s.upd.sess = some y) :
    execFinish t r sig s = .next (((((s.at t).sessFinish y sig).1).endOp r d.slot stDone 0
      ((s.at t).sessFinish y sig).2).settleRing r) := by
  refine State.ringOp_next (s := s.at t) h ?_
  simp only [State.at_upd, hsess]

theorem execAbort_of_op (h : s.opFor r 0x13 0 4 = some d) :
    execAbort t r s = .next (((s.at t).sessClose.endOp r d.slot stDone 0 0).settleRing r) :=
  State.ringOp_next (s := s.at t) h rfl

theorem execCopy_of_free (h : s.opFor r 0x13 0 5 = some d) (hsess : s.upd.sess = none) (hslot : s.slotMoved = false)
    (hty : slotType (bits (d.par 8) 7 0) = true) :
    execCopy t r s = .next ((((s.at t).setImg (1 - s.actSlot) (bits (d.par 8) 7 0) (bits (d.par 8) 10 8)
      (s.img s.actSlot (bits (d.par 8) 7 0) (bits (d.par 8) 10 8))).endOp r d.slot stDone 0 0).settleRing r) := by
  refine State.ringOp_next (s := s.at t) h ?_
  have hmoved : (s.at t).slotMoved = false := hslot
  exact (if_neg (by simp [hsess, hmoved])).trans (if_neg (by simp [hty]))

/-- A start of the booted slot is no trial, of the other slot one. -/
theorem execActivate_of_ready (h : s.opFor r 0x13 0 6 = some d) (hsess : s.upd.sess = none)
    (hslot : (bits (d.par 8) 0 0 = s.actSlot ∧ s.slotFloors (bits (d.par 8) 0 0) = true) ∨
      (bits (d.par 8) 0 0 ≠ s.actSlot ∧ s.slotReady (bits (d.par 8) 0 0) = true)) :
    execActivate t r s = .next ((((s.at t).setBoot { s.kept.boot with
      act := s.actSlot, next := bits (d.par 8) 0 0, trial := decide (bits (d.par 8) 0 0 ≠ s.actSlot),
      trying := false }).endOp r d.slot stDone 0 0).settleRing r) := by
  refine State.ringOp_next (s := s.at t) h ((if_neg (by simp [hsess])).trans ?_)
  rcases hslot with ⟨hact, hfloors⟩ | ⟨hact, hready⟩
  · rw [decide_eq_false (not_not.2 hact)]
    exact if_pos ⟨hact, hfloors⟩
  · rw [decide_eq_true hact]
    have hready : (s.at t).slotReady (bits (d.par 8) 0 0) = true := hready
    exact (if_neg fun h => hact h.1).trans (if_neg (by simp [hready]))

theorem execReport_of_room (h : s.opFor r 0x13 0 7 = some d) (hbuf : s.bufBad r d = false)
    (hlen : 4 * s.reportWords.length ≤ d.len) : execReport t r s =
      .next ((((s.at t).bufOut r d 0 s.reportWords).endOp r d.slot stDone (4 * s.reportWords.length) 0).settleRing r) := by
  have hwords : 4 ≤ s.reportWords.length := by simp [State.reportWords]
  refine State.ringOp_next (s := s.at t) h ?_
  rw [State.givesBuf_eq (s := s.at t) hbuf]
  exact (if_neg (by omega)).trans (if_neg (not_lt.2 hlen))

end

/-- Settles O30: one law for each command, above. -/
theorem updateRingCommands : Obligations.UpdateRingCommands := by
  unfold Obligations.UpdateRingCommands
  refine ⟨?begin, ?write, ?finish, ?abort, ?copy, ?activate, ?report⟩
  case begin => exact fun t r s d h hsess hlo hhi hslot => execUpdBegin_of_free h hsess hlo hhi hslot
  case write => exact fun t r buf s z d a hz h htake hlen ha hfed => execUpdWrite_of_good hz h htake hlen ha hfed
  case finish => exact fun t r sig s d y h hsess => execFinish_of_open h hsess
  case abort => exact fun t r s d h => execAbort_of_op h
  case copy => exact fun t r s d h hsess hslot hty => execCopy_of_free h hsess hslot hty
  case activate => exact fun t r s d h hsess hslot => execActivate_of_ready h hsess hslot
  case report => exact fun t r s d h hbuf hlen => execReport_of_room h hbuf hlen

/-! ### Axolotl on the path that holds the session (R468, R469) -/

section
variable {t : Nat} {via : AxoVia} {s : State} (hruns : s.axoRuns via.path = true)
include hruns

section
variable (hpath : (s.upd.path.any fun p => p != via.path.val) = false)
include hpath

theorem execAxoHello_of_can (hcan : via.path = 2) :
    execAxoHello t via s = .next (((s.at t).setUpd { s.upd with
      path := some 2, canSeq := (via.seq + 1) % 256, canFd := via.fd }).axoReply via stDone 0
        [s.reg SYS_ID, word (s.rd UPD_AXO_STAT UPD_AXO_STAT_reason), s.reg UPD_SLOT]) :=
  (if_neg (by simp [hruns])).trans ((if_neg (Bool.eq_false_iff.1 hpath)).trans (if_pos hcan))

theorem execAxoHello_of_other (hcan : via.path ≠ 2) (hnew : via.path = 1 → s.upd.lastSeq ≠ some via.seq) :
    execAxoHello t via s = .next (((s.at t).setUpd { s.upd with path := some via.path.val }).axoReply via stDone 0
      [s.reg SYS_ID, word (s.rd UPD_AXO_STAT UPD_AXO_STAT_reason), s.reg UPD_SLOT]) := by
  refine (if_neg (by simp [hruns])).trans ((if_neg (Bool.eq_false_iff.1 hpath)).trans ((if_neg hcan).trans ?_))
  refine (State.axoHeld_next (s := (s.at t).setUpd { s.upd with path := some via.path.val }) hnew
    fun h => absurd h hcan).trans ?_
  rw [State.axoSeen, if_neg hcan]
  rfl

end

section
variable (hpath : s.upd.path = some via.path.val) (hnew : via.path = 1 → s.upd.lastSeq ≠ some via.seq)
  (hseq : via.path = 2 → via.seq % 256 = s.upd.canSeq)
include hpath hnew hseq

/-- A command on the path that holds the session acts, with its sequence number seen. -/
theorem State.axoCmd_at (k : State → Out) : (s.at t).axoCmd via k = k ((s.at t).axoSeen via) :=
  State.axoCmd_next (s := s.at t) hruns hpath hnew hseq

theorem execAxoBegin_of_free {arg a : Word} (ha : a = if via.path = 0 then s.reg (UPD_AXO_ARG 0) else arg)
    (hlo : 1 ≤ bits a 7 0) (hhi : bits a 7 0 ≤ 9) (hsess : s.upd.sess = none) : execAxoBegin t via arg s =
      .next ((((s.at t).axoSeen via).sessOpen (bits a 7 0) (bits a 11 9) (bits a 8 8)).axoReply via stDone 0 []) := by
  refine (State.axoCmd_at hruns hpath hnew hseq _).trans ?_
  obtain ⟨hregs, -, -, hsess'⟩ := (s.at t).axoSeen_same via
  have harg : ((s.at t).axoSeen via).axoArg via arg = a := by
    rw [State.axoArg, State.reg, hregs, ha]
    rfl
  simp only [harg]
  exact (if_neg (by omega)).trans (if_neg (by simp [hsess', hsess]))

theorem execAxoData_of_pcie {off : Nat} {bs : List Byte} {x : State} {a : State × Nat} (hx : x = (s.at t).axoSeen via)
    (hpcie : via.path = 0) (hlo : 1 ≤ (s.reg (UPD_AXO_ARG 1)).toNat) (hhi : (s.reg (UPD_AXO_ARG 1)).toNat < 2 ^ 24)
    (ha : a = x.sessWrite (s.reg (UPD_AXO_ARG 0)).toNat (s.memBytes 0 (s.reg (UPD_AXO_ARG 1)).toNat)) :
    execAxoData t via off bs s = .next (a.1.axoReply via a.2 0 []) := by
  refine (State.axoCmd_at hruns hpath hnew hseq _).trans ?_
  have hseen : (s.at t).axoSeen via = s.at t := if_neg (by simp [hpcie])
  subst hx ha
  rw [hseen]
  refine (if_pos hpcie).trans (if_neg ?_)
  rw [State.reg_at]
  omega

theorem execAxoData_of_frame {off : Nat} {bs : List Byte} {x : State} {a : State × Nat} (hx : x = (s.at t).axoSeen via)
    (hpcie : via.path ≠ 0) (hlen : via.path = 1 → bs.length ≤ 1024)
    (ha : a = x.sessWrite (if via.path = 2 then (s.reg UPD_SESS_CNT).toNat else off) bs) :
    execAxoData t via off bs s = .next (a.1.axoDataReply via a.2) := by
  refine (State.axoCmd_at hruns hpath hnew hseq _).trans ?_
  obtain ⟨hregs, -⟩ := (s.at t).axoSeen_same via
  have hcnt : ((s.at t).axoSeen via).reg UPD_SESS_CNT = s.reg UPD_SESS_CNT := by
    rw [State.reg, hregs]
    rfl
  subst hx ha
  refine (if_neg hpcie).trans ((if_neg fun h => absurd (hlen h.1) (not_le.2 h.2)).trans ?_)
  rw [hcnt]

theorem execAxoFinish_of_open {sig : Bool} {y : Sess} (hsess : s.upd.sess = some y) :
    execAxoFinish t via sig s = .next ((((s.at t).axoSeen via).sessFinish y sig).1.axoReply via stDone
      (((s.at t).axoSeen via).sessFinish y sig).2 [word (((s.at t).axoSeen via).sessFinish y sig).2]) := by
  refine (State.axoCmd_at hruns hpath hnew hseq _).trans ?_
  obtain ⟨-, -, -, hsess'⟩ := (s.at t).axoSeen_same via
  simp only [hsess', State.at_upd, hsess]

theorem execAxoActivate_of_ready {arg : Word} {k : Nat}
    (hk : k = bits (if via.path = 0 then s.reg (UPD_AXO_ARG 0) else arg) 0 0) (hready : s.slotReady k = true) :
    execAxoActivate t via arg s = .next ((((s.at t).axoSeen via).setBoot { s.kept.boot with
      next := k, trial := decide (k ≠ s.kept.boot.act), trying := false }).axoReply via stDone 0 []) := by
  refine (State.axoCmd_at hruns hpath hnew hseq _).trans ?_
  obtain ⟨hregs, -, hkept, -⟩ := (s.at t).axoSeen_same via
  have harg : bits (((s.at t).axoSeen via).axoArg via arg) 0 0 = k := by
    rw [State.axoArg, State.reg, hregs, hk]
    rfl
  have hready' : ((s.at t).axoSeen via).slotReady k = true := by
    rw [State.axoSeen]
    split <;> exact hready
  simp only [harg, hkept, State.at_kept]
  exact if_neg (by simp [hready'])

theorem execAxoBoot_of_held :
    execAxoBoot t via s = .next ((((s.at t).axoSeen via).axoReply via stDone 0 []).railsOff (.after 5)) :=
  State.axoCmd_at hruns hpath hnew hseq _

end

end

theorem execAxoCanSilenceReply_of_due {t c : Nat} {s : State} (hset : s.upd.canAt = some c)
    (hdue : c + ms 20 ≤ max s.cyc t) : execAxoCanSilenceReply t s =
      .next ((s.at t).axoReply ⟨2, (s.upd.canSeq + 255) % 256, s.upd.canFd, 0#48⟩ stDone 0 []) := by
  simp only [execAxoCanSilenceReply, State.at_upd, State.at_cyc, hset]
  exact if_neg (not_lt.2 hdue)

/-- Settles O31: one law for each command, above. -/
theorem recoveryCommands : Obligations.RecoveryCommands := by
  unfold Obligations.RecoveryCommands
  refine ⟨?can, ?other, ?begin, ?pcie, ?frame, ?finish, ?activate, ?boot, ?silence⟩
  case can => exact fun t via s hruns hpath hcan => execAxoHello_of_can hruns hpath hcan
  case other => exact fun t via s hruns hpath hcan hnew => execAxoHello_of_other hruns hpath hcan hnew
  case begin =>
    exact fun t via arg a s hruns hpath hnew hseq ha hlo hhi hsess =>
      execAxoBegin_of_free hruns hpath hnew hseq ha hlo hhi hsess
  case pcie =>
    exact fun t off via bs s hruns hpath hnew hseq hpcie hlo hhi =>
      execAxoData_of_pcie hruns hpath hnew hseq rfl hpcie hlo hhi rfl
  case frame =>
    exact fun t off via bs s hruns hpath hnew hseq hpcie hlen =>
      execAxoData_of_frame hruns hpath hnew hseq rfl hpcie hlen rfl
  case finish => exact fun t via sig y s hruns hpath hnew hseq hsess => execAxoFinish_of_open hruns hpath hnew hseq hsess
  case activate =>
    exact fun t k via arg s hruns hpath hnew hseq hk hready =>
      execAxoActivate_of_ready hruns hpath hnew hseq hk hready
  case boot => exact fun t via s hruns hpath hnew hseq => execAxoBoot_of_held hruns hpath hnew hseq
  case silence => exact fun t c s hset hdue => execAxoCanSilenceReply_of_due hset hdue

end Sys2Proof.Machine

/-! PROOFS. Rectangles, frames, panel readings and store checks of the two display ports (spec/17, R400 to R419). -/

namespace Sys2Proof.Machine

/-! ### Rectangles (R400, R401, R419) -/

section
variable {t p : Nat} {r : Fin 64} {s z : State} {d : RDesc} {x : DRect} (hz : z = s.at t)
  (hw : d.area.w ≠ 0) (hh : d.area.h ≠ 0) (hbuf : z.bufBad r d = false)
include hz hw hh hbuf

theorem execRect_of_mayFly (hp : p = z.ringFunc r) (h : z.opFor r 0x0F p 1 = some d) (hbad : z.rectBad p d = false)
    (hwaves : p = 1 → z.dpy.wavesOk = true)
    (hclear : p = 1 → z.bit DPY_STAT DPY_STAT_clearing = false ∧ z.dpy.ckClear = false ∧ z.dpy.decided = false)
    (hheld : z.rectHeld p d = false) (hdown : z.portDown p = false) (hfly : z.mayFly p d.area = true)
    (hx : x = ⟨some (r, d.slot), d.area, bits (d.par 10) 29 28, [], [], .fetching, false⟩) :
    execRect t r s = .next ((if p = 1 then ((z.startOp r d.slot).setRects p (z.rects p ++ [x.launch p z.cyc])).railsUp
      else (z.startOp r d.slot).setRects p (z.rects p ++ [x.launch p z.cyc])).settleRing r) := by
  subst hp hx
  rw [execRect, ← hz]
  refine State.ringOp_next h ?_
  refine (if_neg (by simp [hw, hh])).trans <| (if_neg fun h1 => ?busy).trans <| (if_neg fun h1 => ?waves).trans <|
    (if_neg (by simp [hbuf])).trans <| (if_neg (by simp [hbad])).trans <| (if_neg (by simp [hheld])).trans <|
    (if_neg (by simp [hdown])).trans <| (if_neg (by simp [hheld])).trans <| (if_neg ?waits).trans ?_
  case busy => simp [hclear h1.1] at h1
  case waves => simp [hwaves h1.1] at h1
  case waits =>
    rintro (⟨h1, h2⟩ | h1)
    · simp [hclear h1] at h2
    · simp [hfly] at h1
  rw [hheld]

theorem execRect_of_held (hfunc : z.ringFunc r = 1) (h : z.opFor r 0x0F 1 1 = some d) (hbad : z.rectBad 1 d = false)
    (hwaves : z.dpy.wavesOk = true) (hclear : z.bit DPY_STAT DPY_STAT_clearing = false) (hheld : z.rectHeld 1 d = true)
    (hdown : z.portDown 1 = false) (hroom : z.dpy.held.length < 32) (hstop : z.pow.stop = none)
    (hx : x = ⟨some (r, d.slot), d.area, bits (d.par 10) 29 28, [], [], .fetching, true⟩) :
    execRect t r s = .next (((z.startOp r d.slot).setDpy { (z.startOp r d.slot).dpy with
      held := (z.startOp r d.slot).dpy.held ++ [x] }).settleRing r) := by
  subst hx
  rw [execRect, ← hz]
  dsimp only
  rw [hfunc]
  refine State.ringOp_next h ?_
  refine (if_neg (by simp [hw, hh])).trans <| (if_neg (by simp [hclear])).trans <| (if_neg (by simp [hwaves])).trans <|
    (if_neg (by simp [hbuf])).trans <| (if_neg (by simp [hbad])).trans <| (if_neg (by simp [hroom])).trans <|
    (if_neg (by simp [hdown])).trans <| (if_pos ⟨hheld, by simp [hstop]⟩).trans ?_
  rw [hheld]

end

section
variable {t i : Nat} {p : Fin 2} {buf : List Byte} {x : DRect} {s : State}
  (hi : ((s.rects p).findIdx? fun r => r.st == .fetching) = some i) (hx : (s.rects p)[i]? = some x)
include hi hx

theorem execRectFetchDone_of_buffer {r slot : Nat} {d : RDesc} (hintake : s.bit (DPY_INTAKE p) DPY_INTAKE_en = false)
    (hop : x.op = some (r, slot)) (hrun : s.running r slot = some d) (hlen : s.ringEth r = false → d.len ≤ buf.length)
    (hgood : s.ringEth r = true → s.poisoned d.addr d.len = false) : execRectFetchDone t p buf s =
      .next ((s.at t).setRects p (modAt (fun z => { z with
        pix := pixOf p x.area d.pitch (s.bufIn r d buf), fed := [], st := .fetched (max s.cyc t) }) i (s.rects p))) := by
  have hrects : (s.at t).rects p = s.rects p := rfl
  simp only [execRectFetchDone, hrects, hi, hx]
  refine (if_neg (by simp [hintake])).trans ?_
  simp only [hop, State.running_at, hrun]
  refine (if_neg fun h => ?long).trans (if_neg fun h => ?poisoned)
  case long =>
    simp only [State.ringEth_at, Bool.and_eq_true, Bool.not_eq_true', decide_eq_true_eq] at h
    exact absurd (hlen h.1) (not_le.2 h.2)
  case poisoned =>
    simp only [State.ringEth_at, State.poisoned_at, Bool.and_eq_true] at h
    exact absurd (h.2.symm.trans (hgood h.1)) (by decide)

theorem execRectFetchDone_of_intake (hintake : s.bit (DPY_INTAKE p) DPY_INTAKE_en = true)
    (hlen : rowBytes p x.area.w * x.area.h ≤ x.fed.length) : execRectFetchDone t p buf s =
      .next ((s.at t).setRects p (modAt (fun z => { z with
        pix := pixOf p x.area (rowBytes p x.area.w) x.fed, fed := [], st := .fetched (max s.cyc t) }) i (s.rects p))) := by
  have hrects : (s.at t).rects p = s.rects p := rfl
  simp only [execRectFetchDone, hrects, hi, hx]
  exact (if_pos hintake).trans (if_neg (not_lt.2 hlen))

end

/-! ### Port A (R403, R405, R407, R408) -/

section
variable {t : Nat} {s : State}

theorem execHpdRise_of_on (hpa : s.dpy.pa ≠ 0) :
    execHpdRise t s = .next (((s.at t).setDpy { s.dpy with pa := 2 }).wr SYS_LINK SYS_LINK_edp_up 0) :=
  if_neg hpa

theorem execEdpTrainingResult_of_failure (vrr : Bool) {x : State} (hpa : s.dpy.pa = 1 ∨ s.dpy.pa = 2)
    (hx : x = ((s.at t).setDpy { s.dpy with pa := 1 }).wr SYS_LINK SYS_LINK_edp_fail 1) :
    execEdpTrainingResult t none vrr s = .next (if x.isOpen 0x0F02 then x else x.raise2 0x0F02 0) := by
  subst hx
  exact if_neg (by simp only [State.at_dpy]; omega)

theorem execEdpTrainingResult_of_success {w k : Nat} (vrr : Bool) {z x y : State} (hz : z = s.at t)
    (hpa : z.dpy.pa = 1 ∨ z.dpy.pa = 2)
    (hx : x = z.setDpy { z.dpy with pa := 3, vrr := vrr, black := if z.bit DPY_STAT DPY_STAT_a_on then 0 else 3 })
    (hy : y = (x.setReg DPY_GEO0 (packW [(w % 2 ^ 16, 16), (k % 2 ^ 16, 0)])).wr SYS_LINK SYS_LINK_edp_up 1) :
    execEdpTrainingResult t (some (w, k)) vrr s =
      .next ((if z.dpy.umap.isSome then y.umapCheck else y).takeCfgA.clear2 0x0F02) := by
  subst hz hx hy
  exact if_neg (by omega)

theorem execPortAPowerOff_of_due (hpa : s.dpy.pa ≠ 0) (hwhy : s.pow.stop.isSome = true ∨ s.pow.holdUp.isSome = true ∨
    s.dpy.dead = true ∨ s.bit DPY_A_CFG DPY_A_CFG_en = false) :
    execPortAPowerOff t s = .next (s.at t).portAOff := by
  refine (if_neg hpa).trans (if_pos ?_)
  simpa only [State.at_pow, State.at_dpy, State.bit_at, Bool.or_eq_true, Bool.not_eq_true', or_assoc] using hwhy

/-- With the fault as it stands in `z`, the third measurement of a kind in a row changes it. -/
theorem execCrackMeasure_of_due {res thr up dn : Nat} {z x y : State} (hz : z = s.at t) (h14 : z.passed 14 = true)
    (hdue : z.dpy.crackAt + ms 100 ≤ z.cyc)
    (hthr : thr = if z.dpy.pa = 3 then z.dpy.thrA else z.rd DPY_A_CRACK DPY_A_CRACK_thr)
    (hup : up = if thr < res then z.dpy.above + 1 else 0) (hdn : dn = if thr < res then 0 else z.dpy.below + 1)
    (hx : x = (z.setDpy { z.dpy with crackAt := z.cyc, above := up, below := dn }).wr DPY_A_CRACK DPY_A_CRACK_res
      (min 0xFFFF res))
    (hy : y = ((x.wr DPY_STAT DPY_STAT_crack 1).wr DPY_STAT DPY_STAT_crack_seen 1).raise2 0x0F01 0) :
    execCrackMeasure t res s = .next (if up = 3 ∧ z.bit DPY_STAT DPY_STAT_crack = false then
        if DPY_A_CFG_crack_off.get y.cfgA = 1 then y.setDpy { y.dpy with dead := true } else y
      else if dn = 3 ∧ z.bit DPY_STAT DPY_STAT_crack = true then (x.wr DPY_STAT DPY_STAT_crack 0).clear2 0x0F01
      else x) := by
  have hguard : ¬ (!z.passed 14 || decide (z.cyc < z.dpy.crackAt + ms 100)) = true := by
    simp only [h14, not_lt.2 hdue, decide_false, Bool.not_true, Bool.or_false, Bool.false_eq_true, not_false_eq_true]
  have hcrack : (up = 3 ∧ (!z.bit DPY_STAT DPY_STAT_crack) = true) = (up = 3 ∧ z.bit DPY_STAT DPY_STAT_crack = false) := by
    rw [Bool.not_eq_true']
  rw [execCrackMeasure, ← hz]
  refine (if_neg hguard).trans ?_
  simp only [decide_eq_true_eq, ← hthr, ← hup, ← hdn, ← hx, ← hy, hcrack]
  simp only [apply_ite Host.Outcome.next]

end

section
variable {t : Nat} {s z : State} (hz : z = s.at t) (hpa : z.dpy.pa = 3) (hdue : z.frameDue = true)
include hz hpa hdue

theorem execPortAFrameStart_of_black (hblack : z.dpy.black ≠ 0) : execPortAFrameStart t s =
    .next (((z.setDpy { z.dpy with black := z.dpy.black - 1, frameA := z.cyc, idle := 0 }).takeCfgA).emit (.cabFrame none)) := by
  subst hz
  exact (if_neg (not_or.2 ⟨not_not.2 hpa, by simp [hdue]⟩)).trans (if_pos hblack)

theorem execPortAFrameStart_of_shown {l : List DRect} {x y w : State} (hblack : z.dpy.black = 0) (hl : l = z.showA)
    (hx : x = (z.wr DPY_STAT DPY_STAT_a_on 1).takeWindows.takeCfgA)
    (hy : y = x.setDpy { x.dpy with
      storeA := l.foldl (fun m r => putPix 0 m r.area r.pix) x.dpy.storeA
      frameA := z.cyc, idle := if z.changeA then 0 else z.dpy.idle + 1 })
    (hw : w = if l.isEmpty then y else y.incReg DPY_A_SEQ) : execPortAFrameStart t s =
      .next ((l.foldl (fun x r => x.rectEnd r stDone (w.reg DPY_A_SEQ).toNat)
        (w.setRects 0 (w.dpy.rectA.filter fun r => !l.contains r))).emit (.cabFrame (some y.cabPix))) := by
  rw [execPortAFrameStart, ← hz]
  refine (if_neg (by simp [hdue, hpa])).trans ((if_neg (not_not.2 hblack)).trans ?_)
  simp only [← hl, ← hx, ← hy, ← hw]

end

/-! ### Port B (R409, R411, R412, R414, R415, R419) -/

section
variable {t : Nat} {s : State}

/-- A frame may start: the one before is over. -/
theorem execPortBFrameStart_of_due {fresh : Bool} {z x y : State} (hz : z = s.at t)
    (hover : ∀ c, z.dpy.frameB = some c → c + z.fper ≤ z.cyc) (hspent : z.dpy.rectB.any DRect.spent = false)
    (hfresh : fresh = z.dpy.rectB.any (DRect.ripe z.cyc)) (hany : fresh = true ∨ z.dpy.rectB.any DRect.drives = true)
    (hoff : z.rd DPY_B_STAT DPY_B_STAT_rails ≠ 0) (hfall : z.rd DPY_B_STAT DPY_B_STAT_rails ≠ 3)
    (hx : x = if fresh && !z.dpy.railsEnd then (z.wr DPY_B_STAT DPY_B_STAT_rails 2).beginWaves.clear2 0x0F10
      else z.wr DPY_B_STAT DPY_B_STAT_rails 2)
    (hy : y = x.setRects 1 (x.dpy.rectB.map DRect.step)) : execPortBFrameStart t s =
      .next ((y.setDpy { y.dpy with frameB := some z.cyc, cfgB := z.reg DPY_B_CFG, idleB := none }).emit
        (.panelFrame (x.dpy.rectB.flatMap x.codes))) := by
  rw [execPortBFrameStart, ← hz]
  simp only [← hfresh]
  refine (if_neg ?_).trans ((if_neg (by simp only [hoff, hfall, or_self, not_false_eq_true])).trans ?_)
  · rw [← Bool.or_eq_true] at hany
    cases hframe : z.dpy.frameB with
    | none => simp [hspent, hany]
    | some c => simp [hspent, hany, hover c hframe]
  · simp only [← hx, ← hy]

theorem execWaveformComplete_of_due {c : Nat} {x : State} (hframe : s.dpy.frameB = some c)
    (hover : c + s.fper ≤ max s.cyc t) (hspent : s.dpy.rectB.any DRect.spent = true)
    (hx : x = (((s.dpy.rectB.filter DRect.spent).foldl State.waveEnd (s.at t)).clearsEnd).flyB) :
    execWaveformComplete t s = .next (if x.dpy.rectB.any DRect.drives then x
      else if x.dpy.railsEnd then x.railsFall
      else x.setDpy { x.dpy with frameB := none, idleB := some (max s.cyc t) }) := by
  have hsome : (s.dpy.rectB.filter DRect.spent).isEmpty = false := by
    obtain ⟨r, hr, hd⟩ := List.any_eq_true.1 hspent
    exact List.isEmpty_eq_false_iff_exists_mem.2 ⟨r, List.mem_filter.2 ⟨hr, hd⟩⟩
  have hfper : (s.at t).fper = s.fper := rfl
  subst hx
  simp only [execWaveformComplete, State.at_dpy, State.at_cyc, hframe, hsome, hfper, hover]
  exact if_neg (by simp)

theorem execRailFault_of_up {z y : State} (hz : z = s.at t)
    (hup : z.rd DPY_B_STAT DPY_B_STAT_rails = 1 ∨ z.rd DPY_B_STAT DPY_B_STAT_rails = 2)
    (hy : y = (z.dpy.rectB.filter DRect.drives).foldl State.rectStop
      ((z.wr DPY_STAT DPY_STAT_rail_seen 1).raise2 0x0F10 0)) :
    execRailFault t s = .next y.railsStop := by
  subst hz hy
  exact if_neg (by omega)

theorem execRailHoldEnd_of_falling (hfall : (s.at t).railsNow = 3) (hidle : s.dpy.rectB.any DRect.drives = false) :
    execRailHoldEnd t s =
      .next (((s.at t).wr DPY_B_STAT DPY_B_STAT_rails 0).setDpy { s.dpy with idleB := none }).railsAgain :=
  if_neg (by simp [hfall, hidle])

theorem execEpdPanelPoll_of_due {present : Bool} {temp : Option Int} (h12 : s.passed 12 = true)
    (hdue : s.dpy.pollAt + sec 10 ≤ max s.cyc t) : execEpdPanelPoll t present temp s =
      .next (((s.at t).panelSeen present temp).setDpy
        { ((s.at t).panelSeen present temp).dpy with pollAt := max s.cyc t }) :=
  if_neg (by simp only [State.at_dpy, State.at_cyc, not_lt.2 hdue]; simp [h12])

section
variable {bad : List (Nat × Nat)} {st : Cells Nat} (h12 : s.passed 12 = true) (hdue : s.dpy.ckAt + sec 10 ≤ max s.cyc t)
  (hst : st = bad.foldl (fun m k => cellSet (storeReset 1) m k.1 (k.2 % 16)) s.dpy.storeB)
include h12 hdue hst

theorem execStoreCrcCheck_of_match (hcrc : crc32 (s.storeBytes st) = s.dpy.crcB) : execStoreCrcCheck t bad s =
    .next ((s.at t).setDpy { s.dpy with ckAt := max s.cyc t, storeB := st }) := by
  subst hst
  refine (if_neg (by simp only [State.at_dpy, State.at_cyc, not_lt.2 hdue]; simp [h12])).trans (if_neg ?_)
  exact fun h => h.1 hcrc

theorem execStoreCrcCheck_of_mismatch {x : State} (hck : s.dpy.ckClear = false)
    (hcrc : crc32 (s.storeBytes st) ≠ s.dpy.crcB)
    (hx : x = ((((s.at t).setDpy { s.dpy with ckAt := max s.cyc t, storeB := st }).wr DPY_STAT DPY_STAT_cks_err 1).raise2
      0x0F20 0).markAll) : execStoreCrcCheck t bad s =
    .next (x.setDpy { x.dpy with ckClear := true, clears := x.dpy.clears ++ [x.panel 1] }).flyB := by
  subst hst hx
  refine (if_neg (by simp only [State.at_dpy, State.at_cyc, not_lt.2 hdue]; simp [h12])).trans (if_pos ?_)
  exact ⟨hcrc, by simp [hck]⟩

end

theorem execStoreFlashCopy_of_unsaved (hsome : s.dpy.unsaved ≠ []) (hpower : s.pow.holdUp = none) :
    execStoreFlashCopy t s = .next (s.at t).epdCopy :=
  if_neg (by simp [hsome, hpower])

/-- With no final rectangle in flight the held ones are all that ends at the cutoff. -/
theorem execFinalImageCutoff_of_due {x : StopRun} {y : State} (hstop : s.pow.stop = some x)
    (hdue : x.ts + ms 2900 ≤ max s.cyc t) (hfinal : (s.dpy.rectB.all fun r => !r.final) = true)
    (hy : y = s.dpy.held.foldl (fun y r => y.rectEnd r stAborted 0) (s.at t)) :
    execFinalImageCutoff t s = .next (y.setDpy { y.dpy with held := [] }) := by
  have hnone : ∀ f : DRect → Bool, (s.dpy.rectB.filter fun r => r.final && f r) = [] := fun f =>
    List.filter_eq_nil_iff.2 fun r hr => by
      have := List.all_eq_true.1 hfinal r hr
      simp_all
  subst hy
  simp only [execFinalImageCutoff, State.at_pow, State.at_dpy, State.at_cyc, hstop, hnone]
  exact if_neg (not_lt.2 hdue)

end

/-- Settles O27: one law for each command, above. -/
theorem displayCommands : Obligations.DisplayCommands := by
  unfold Obligations.DisplayCommands
  refine ⟨?fly, ?held, ?buffer, ?intake, ?black, ?shown, ?hpd, ?fails, ?trains, ?crack, ?off, ?frameB, ?wave, ?fault,
    ?rails, ?poll, ?ckMatch, ?ckMismatch, ?flash, ?cutoff⟩
  case fly =>
    exact fun t p r s z d x hz hp h hw hh hbuf hbad hwaves hclear hheld hdown hfly hx =>
      execRect_of_mayFly hz hw hh hbuf hp h hbad hwaves hclear hheld hdown hfly hx
  case held =>
    exact fun t r s z d x hz hfunc h hw hh hbuf hbad hwaves hclear hheld hdown hroom hstop hx =>
      execRect_of_held hz hw hh hbuf hfunc h hbad hwaves hclear hheld hdown hroom hstop hx
  case buffer =>
    exact fun t i slot p r buf x d s hi hx hintake hop hrun hlen hgood =>
      execRectFetchDone_of_buffer hi hx hintake hop hrun hlen hgood
  case intake => exact fun t i p buf x s hi hx hintake hlen => execRectFetchDone_of_intake hi hx hintake hlen
  case black => exact fun t s z hz hpa hdue hblack => execPortAFrameStart_of_black hz hpa hdue hblack
  case shown => exact fun t s z hz hpa hdue hblack => execPortAFrameStart_of_shown hz hpa hdue hblack rfl rfl rfl rfl
  case hpd => exact fun t s hpa => execHpdRise_of_on hpa
  case fails => exact fun t vrr s hpa => execEdpTrainingResult_of_failure vrr hpa rfl
  case trains => exact fun t w k vrr s z x y hz hpa hx hy => execEdpTrainingResult_of_success vrr hz hpa hx hy
  case crack =>
    exact fun t res thr up dn s z hz h14 hdue hthr hup hdn => execCrackMeasure_of_due hz h14 hdue hthr hup hdn rfl rfl
  case off => exact fun t s hpa hwhy => execPortAPowerOff_of_due hpa hwhy
  case frameB =>
    exact fun t fresh s z x hz hover hspent hfresh hany hoff hfall hx =>
      execPortBFrameStart_of_due hz hover hspent hfresh hany hoff hfall hx rfl
  case wave => exact fun t c s hframe hover hspent => execWaveformComplete_of_due hframe hover hspent rfl
  case fault => exact fun t s z y hz hup hy => execRailFault_of_up hz hup hy
  case rails => exact fun t s hfall hidle => execRailHoldEnd_of_falling hfall hidle
  case poll => exact fun t present temp s h12 hdue => execEpdPanelPoll_of_due h12 hdue
  case ckMatch => exact fun t bad st s h12 hdue hst hcrc => execStoreCrcCheck_of_match h12 hdue hst hcrc
  case ckMismatch =>
    exact fun t bad st s h12 hdue hck hst hcrc => execStoreCrcCheck_of_mismatch h12 hdue hst hck hcrc rfl
  case flash =>
    exact fun t s hsome hpower => ⟨_, execStoreFlashCopy_of_unsaved hsome hpower, rfl, rfl, .of_eq rfl rfl _⟩
  case cutoff => exact fun t x s hstop hdue hfinal => execFinalImageCutoff_of_due hstop hdue hfinal rfl

end Sys2Proof.Machine

/-! PROOFS. The legacy host port of the K12 engine (spec/21, R475 to R485). -/

namespace Sys2Proof.Machine

/-! ### A frame on the legacy host port (R475, R479) -/

/-- The state in which a valid write frame acts: it is counted, the map before this cycle's writes is kept, and the host
timeout starts again. -/
def State.k12Counted (s : State) : State :=
  let y := (s.bump K12_PORT K12_PORT_frm_cnt).k12Keep
  y.setK12 { y.k12 with lastFrame := s.cyc }

/-- Keeping the map touches neither the map nor OPWM as it applies. -/
theorem State.k12Keep_k12 (s : State) : s.k12Keep.k12.map = s.k12.map ∧ s.k12Keep.k12.opwm = s.k12.opwm := by
  unfold State.k12Keep
  split <;> exact ⟨rfl, rfl⟩

theorem State.k12Counted_k12 (s : State) : s.k12Counted.k12.map = s.k12.map ∧ s.k12Counted.k12.opwm = s.k12.opwm :=
  (s.bump K12_PORT K12_PORT_frm_cnt).k12Keep_k12

@[simp] theorem State.k12Get_k12Counted (s : State) (a : Nat) : s.k12Counted.k12Get a = s.k12Get a := by
  rw [State.k12Get, State.k12Get, s.k12Counted_k12.1]

@[simp] theorem State.k12Pwm_k12Counted (s : State) (i : Nat) : s.k12Counted.k12Pwm i = s.k12Pwm i := by
  rw [State.k12Pwm, State.k12Pwm, s.k12Counted_k12.2]

@[simp] theorem State.k12Half_k12Counted (s : State) (i : Nat) : s.k12Counted.k12Half i = s.k12Half i := by
  unfold State.k12Half
  simp only [State.k12Get_k12Counted, State.k12Pwm_k12Counted]

@[simp] theorem State.k12Bad_k12Counted (s : State) (a v : Nat) : s.k12Counted.k12Bad a v = s.k12Bad a v := by
  simp only [State.k12Bad, State.k12Get_k12Counted]

theorem State.fenced_bump_k12Port (s : State) (f : Fld) (u : Nat) : (s.bump K12_PORT f).fenced u = s.fenced u := by
  rw [State.fenced, State.fenced, State.rd, State.rd,
    show (s.bump K12_PORT f).reg FLT_FENCE = s.reg FLT_FENCE from State.reg_wr_other s K12_PORT FLT_FENCE _ _ (by decide)]

/-- A write frame to a register that the host may write, with the engine not fenced, stores its value. -/
theorem State.k12Frame_write {s : State} {a : Nat} (v : Nat) (hans : s.k12Answers = true) (hfence : s.fenced 6 = false)
    (hro : k12Ro a = false) : s.k12Frame 36 9 a v = s.k12Counted.k12Store a v := by
  have hfence := (s.fenced_bump_k12Port K12_PORT_frm_cnt 6).trans hfence
  unfold State.k12Frame State.k12Write State.k12Counted
  simp only [hans, hro, hfence, Bool.not_true, Bool.false_eq_true, if_false, if_true, ne_eq, not_true_eq_false,
    beq_self_eq_true, Bool.true_or, or_self, State.bump_cyc]

/-! ### Event entries (R483) -/

/-- EV_CMD 1 and 2 write the entry and commit it. -/
theorem State.k12EvCmd_commit {s : State} {code : Nat} (hcode : code = 1 ∨ code = 2) (hi : s.k12Get 0x0B0 < 3000)
    (hact : let w := s.k12Get 0x0B1; w / 2 ^ 12 % 4 ≠ 3 ∧ (w / 2 ^ 12 % 4 = 0 → w % 32 < 16) ∧
      (w / 2 ^ 12 % 4 = 1 → w % 32 < 24)) (hgood : evBad (s.k12Half (s.k12Get 0x0B0)) = false) : s.k12EvCmd code =
    .next ((s.evWrite (s.k12Get 0x0B0) (s.k12Half (s.k12Get 0x0B0))).evCommit (s.k12Get 0x0B0) code) := by
  obtain ⟨hact3, hvalve, hswitch⟩ := hact
  unfold State.k12EvCmd
  dsimp only
  rw [if_neg (by omega), if_neg (by omega), if_neg (by omega), if_neg (by omega), if_neg (by omega),
    if_neg (Bool.eq_false_iff.1 hgood)]

/-! ### The frames -/

section
variable {t : Nat} {s : State} (hans : s.k12Answers = true)
include hans

theorem execK12PortRead_of_plain {a : BitVec 16} (v : BitVec 16) (hang : a.toNat ≠ 0xA2) (hname : a.toNat ≠ 0xC0) :
    execK12PortRead t 36 6 a v s =
      .next (((s.at t).bump K12_PORT K12_PORT_frm_cnt).emit (.k12Data ((s.at t).k12Read a.toNat))) := by
  refine (if_neg (by simp [hans])).trans ((if_neg (by decide)).trans ((if_neg (by decide)).trans ?_))
  exact congrArg Host.Outcome.next ((if_neg hang).trans (if_neg hname))

/-- A frame of another length, or of an op that is neither read nor write, counts as bad. -/
theorem State.k12Frame_of_bad {clocks : Nat} {op : Fin 16} (hbad : clocks ≠ 36 ∨ (op ≠ 9 ∧ op ≠ 6)) (a v : Nat) :
    (s.at t).k12Frame clocks op a v = .next ((s.at t).bump K12_PORT K12_PORT_bad_cnt) := by
  refine (if_neg (by simp [hans])).trans (if_pos ?_)
  refine hbad.imp_right fun ⟨hw, hr⟩ => ?_
  have hw : op.val ≠ 9 := fun h => hw (Fin.ext h)
  have hr : op.val ≠ 6 := fun h => hr (Fin.ext h)
  simp [hw, hr]

section
variable (hfence : s.fenced 6 = false)
include hfence

/-- An output register takes its value for the next latch; one beyond the range also sets clamp. -/
theorem execK12PortWrite_of_output {a : BitVec 16} (v : BitVec 16) (hlo : 16 ≤ a.toNat) (hhi : a.toNat < 32) :
    execK12PortWrite t 36 9 a v s = .next (if 3000 < v.toNat
      then ((s.at t).k12Counted.k12Set a.toNat v.toNat).k12Flag 0x1000 else (s.at t).k12Counted.k12Set a.toNat v.toNat) := by
  have hro : k12Ro a.toNat = false := by
    simp only [k12Ro, Bool.or_eq_false_iff, Bool.and_eq_false_iff, decide_eq_false_iff_not, beq_eq_false_iff_ne]
    omega
  refine (State.k12Frame_write (s := s.at t) v.toNat hans hfence hro).trans ?_
  have hgood : (s.at t).k12Counted.k12Bad a.toNat v.toNat = false := by
    unfold State.k12Bad
    rw [if_neg (by omega), if_neg (by omega), if_neg (by omega), if_neg (by omega), if_neg (by omega), if_neg (by omega),
      if_neg (by omega)]
  refine (if_neg (Bool.eq_false_iff.1 hgood)).trans ?_
  rw [if_neg (by omega), if_neg (by omega), if_neg (by omega), if_pos ⟨hlo, hhi⟩]

theorem execK12PortWrite_of_setUp {a v : BitVec 16} (hro : k12Ro a.toNat = false)
    (hgood : s.k12Bad a.toNat v.toNat = false) (hplain : a.toNat = 6 ∨ 0x38 ≤ a.toNat)
    (hother : [0x70, 0x71, 0xB5, 0xC4].contains a.toNat = false) : execK12PortWrite t 36 9 a v s =
      .next (((s.at t).k12Counted.k12Set a.toNat v.toNat).k12Spread a.toNat v.toNat) := by
  refine (State.k12Frame_write (s := s.at t) v.toNat hans hfence hro).trans ?_
  simp only [List.contains_cons, List.contains_nil, Bool.or_false, Bool.or_eq_false_iff, beq_eq_false_iff_ne] at hother
  refine (if_neg (by simp [hgood])).trans ?_
  rw [if_neg (by omega), if_neg (by omega), if_neg (by omega), if_neg (by omega), if_neg (by omega), if_neg (by omega),
    if_neg (by omega), if_neg (by omega)]

theorem execK12StatusClear_of_open (v : BitVec 16) : execK12StatusClear t v s =
    .next ((s.at t).k12Counted.k12Set 0x004 (s.k12Get 0x004 &&&
      (65535 - (v.toNat &&& (65535 - ((s.at t).k12Counted.hotBits (K12_MAP 4)).toNat % 65536))))) := by
  refine (State.k12Frame_write (s := s.at t) v.toNat hans hfence rfl).trans ?_
  refine (if_neg (by simp [State.k12Bad])).trans ((if_neg (by decide)).trans ((if_pos rfl).trans ?_))
  rw [State.k12Get_k12Counted, State.k12Get_at]

theorem execK12HtoClear_of_good {v : BitVec 16} (hgood : v.toNat / 2 % 2 ^ 13 = 0) :
    execK12HtoClear t v s = .next ((s.at t).k12Counted.k12Ctrl v.toNat) := by
  refine (State.k12Frame_write (s := s.at t) v.toNat hans hfence rfl).trans ?_
  exact (if_neg (by simpa [State.k12Bad] using hgood)).trans (if_pos rfl)

/-- A write of a code to EV_CMD reaches the event engine. -/
theorem State.k12Frame_evCmd (code : Nat) : (s.at t).k12Frame 36 9 0x0B5 code = (s.at t).k12Counted.k12EvCmd code := by
  rw [State.k12Frame_write (s := s.at t) code hans hfence (by decide), State.k12Store, if_neg (by simp [State.k12Bad])]
  simp

variable (hi : s.k12Get 0x0B0 < 3000)
include hi

theorem State.k12Frame_commit {code : Nat} (hcode : code = 1 ∨ code = 2)
    (hact : let w := s.k12Get 0x0B1; w / 2 ^ 12 % 4 ≠ 3 ∧ (w / 2 ^ 12 % 4 = 0 → w % 32 < 16) ∧
      (w / 2 ^ 12 % 4 = 1 → w % 32 < 24)) (hgood : evBad (s.k12Half (s.k12Get 0x0B0)) = false) :
    (s.at t).k12Frame 36 9 0x0B5 code = .next
      (((s.at t).k12Counted.evWrite (s.k12Get 0x0B0) (s.k12Half (s.k12Get 0x0B0))).evCommit (s.k12Get 0x0B0) code) := by
  refine (State.k12Frame_evCmd hans hfence code).trans ?_
  have h := State.k12EvCmd_commit (s := (s.at t).k12Counted) hcode
  simp only [State.k12Get_k12Counted, State.k12Half_k12Counted, State.k12Get_at, State.k12Half_at] at h
  exact h hi hact hgood

theorem execEvRead_of_entry : execEvRead t s = .next ((k12Back ((s.at t).k12Counted.ev (s.k12Get 0x0B0)).act).zipIdx.foldl
    (fun s p => s.k12Set (0x0B1 + p.2) p.1) (s.at t).k12Counted) := by
  refine (State.k12Frame_evCmd hans hfence 3).trans ?_
  unfold State.k12EvCmd
  simp only [State.k12Get_k12Counted, State.k12Get_at]
  rw [if_neg (by decide), if_neg (by omega), if_pos trivial]

theorem execEvDisarm_of_entry : execEvDisarm t s = .next ((s.at t).k12Counted.evDisarm (s.k12Get 0x0B0)) := by
  refine (State.k12Frame_evCmd hans hfence 4).trans ?_
  unfold State.k12EvCmd
  simp only [State.k12Get_k12Counted, State.k12Get_at]
  rw [if_neg (by decide), if_neg (by omega), if_neg (by decide), if_pos trivial]

end

end

/-- Settles O32: one law for each command, above. -/
theorem legacyPortCommands : Obligations.LegacyPortCommands := by
  unfold Obligations.LegacyPortCommands
  refine ⟨?output, ?setUp, ?read, ?bad, ?status, ?ctrl, ?arm, ?now, ?evRead, ?disarm⟩
  case output => exact fun t a v s hans hfence hlo hhi => execK12PortWrite_of_output hans hfence v hlo hhi
  case setUp =>
    exact fun t a v s hans hfence hro hgood hplain hother =>
      execK12PortWrite_of_setUp hans hfence hro hgood hplain hother
  case read => exact fun t a v s hans hang hname => execK12PortRead_of_plain hans v hang hname
  case bad =>
    exact fun t clocks op a v s hans hbad => ⟨State.k12Frame_of_bad hans hbad _ _, State.k12Frame_of_bad hans hbad _ _⟩
  case status => exact fun t v s hans hfence => execK12StatusClear_of_open hans hfence v
  case ctrl => exact fun t v s hans hfence hgood => execK12HtoClear_of_good hans hfence hgood
  case arm =>
    exact fun t s hans hfence hi hact hgood => State.k12Frame_commit hans hfence hi (.inl rfl) hact hgood
  case now =>
    exact fun t s hans hfence hi hact hgood => State.k12Frame_commit hans hfence hi (.inr rfl) hact hgood
  case evRead => exact fun t s hans hfence hi => execEvRead_of_entry hans hfence hi
  case disarm => exact fun t s hans hfence hi => execEvDisarm_of_entry hans hfence hi

end Sys2Proof.Machine

/-! PROOFS. The cycle of the K12 engine and the test perturbation registers (spec/21, spec/22, R479 to R495). -/

namespace Sys2Proof.Machine

/-! ### The K12 cycle (R479, R481, R482) -/

theorem State.k12Phase_k12 (s : State) (err : Nat) (stale : Bool) : (s.k12Phase err stale).k12 = s.k12 := by
  simp only [State.k12Phase]
  split
  · rw [State.bump_k12, State.wrMax_k12]
  · rw [State.wrMax_k12]

/-- A change of OPWM leaves the host's loss as it stands. -/
theorem State.k12Opwm_hto (s : State) : s.k12Opwm.k12.hto = s.k12.hto := by
  unfold State.k12Opwm
  induction List.range 24 generalizing s with
  | nil => rfl
  | cons i l ih =>
    refine (ih _).trans ?_
    dsimp only
    split
    · rfl
    · rw [State.wr_k12, State.wr_k12]
      rfl

section
variable {t : Nat} {s : State} (hruns : s.k12Runs = true)
include hruns

/-- While the outputs are off for the loss of the host no shadow is written. -/
theorem execK12Latch_of_due {m : Cells Nat} {x : State} (hlatch : (s.at t).k12Latches = true)
    (hm : m = if s.k12.wroteAt = max s.cyc t then s.k12.prev else s.k12.map)
    (hx : x = (((s.at t).setK12 { s.k12 with latchAt := some (max s.cyc t) }).k12Phase (s.at t).k12LatchErr false).k12Opwm) :
    execK12Latch t s = .next (if s.k12.hto then x else
      (List.range 40).foldl (fun y c => if y.k12Want m c = y.k12Taken c then y else y.k12Put c (y.k12Want m c)) x) := by
  have hhto : x.k12.hto = s.k12.hto := by
    rw [hx, State.k12Opwm_hto, State.k12Phase_k12]
    rfl
  have hguard : ¬ (!(s.at t).k12Runs || !(s.at t).k12Latches) = true := by simp [hruns, hlatch]
  rw [execK12Latch]
  simp only [if_neg hguard, State.at_k12, State.at_cyc, ← hm, ← hx, hhto]
  exact (apply_ite Host.Outcome.next _ _ _).symm

theorem execK12InputRefresh_of_due {x : State} (hon : (s.at t).k12On 200000 = true)
    (hnew : s.k12.refreshAt ≠ some (max s.cyc t))
    (hx : x = (List.range 4).foldl (fun y n => y.finLatch n (y.loopsOn 2 n)) (s.at t)) :
    execK12InputRefresh t s = .next (x.k12Inputs.foldl (fun y p => y.k12Set p.1 p.2)
      (x.setK12 { x.k12 with refreshAt := some (max s.cyc t) })) := by
  subst hx
  exact if_neg (by simp [hruns, hon, hnew])

theorem execK12CyclicCan_of_claimed (frames : List (Fin 2 × Nat × List Byte)) (hon : (s.at t).k12On 750000 = true)
    (hclaimed : s.k12Get 0x0C4 / 256 ≠ 0xFE) : execK12CyclicCan t frames s =
      .next (frames.foldl (fun y f => y.k12Send f.1 f.2.1 f.2.2) (s.at t)) :=
  if_neg (by simp [hruns, hon, hclaimed])

theorem execK12PairRealign_of_off {p : Fin 8} (hon : (s.at t).k12On 0 = true) (hstale : s.k12.stale.contains p.val = true)
    (hoff : s.valveActive (2 * p) = 0) (hoff' : s.valveActive (2 * p + 1) = 0)
    (hend : (s.valve (2 * p)).offEnd ≤ max s.cyc t) (hend' : (s.valve (2 * p + 1)).offEnd ≤ max s.cyc t) :
    execK12PairRealign t p s = .next (((s.at t).setValve (2 * p) { s.valve (2 * p) with
      since := max s.cyc t }).setK12 { s.k12 with stale := s.k12.stale.filter (· != p.val) }) := by
  have hidle : ∀ n, s.valveActive n = 0 → (s.valve n).offEnd ≤ max s.cyc t →
      ((s.at t).valveActive n == 0 && decide (((s.at t).valve n).offEnd ≤ (s.at t).cyc)) = true := fun n h h' =>
    Bool.and_eq_true_iff.2 ⟨beq_iff_eq.2 h, decide_eq_true h'⟩
  refine if_neg ?_
  simp only [hidle _ hoff hend, hidle _ hoff' hend', State.k12Runs_at, hruns, hon, State.at_k12, hstale]
  decide

theorem execK12HostTimeout_of_late {x : State} (hto : s.k12.hto = false) (hen : s.k12Get 0x002 / 2 ^ 14 % 2 = 1)
    (hlate : s.k12.lastFrame + ms (s.k12Get 0x006) ≤ max s.cyc t) (hx : x = ((s.at t).k12Flag 0x4000).k12Off) :
    execK12HostTimeout t s = .next (x.setK12 { x.k12 with hto := true }) := by
  subst hx
  refine if_neg ?_
  simp only [State.k12Runs_at, hruns, State.at_k12, hto, State.k12Get_at, hen, State.at_cyc, not_lt.2 hlate]
  decide

/-- The address won, or the null address, is stored and claimed on both channels. -/
theorem execK12AddressClaim_of_runs {won : Option (Fin 254)} {a : Nat} {x y : State}
    (ha : a = (won.map Fin.val).getD 0xFE) (hx : x = (s.at t).k12Set 0x0C4 (a * 256 + s.k12Get 0x0C4 % 256))
    (hy : y = x.k12Send 0 (0x18EEFF00 + a) x.k12Name) :
    execK12AddressClaim t won s = .next (y.k12Send 1 (0x18EEFF00 + a) y.k12Name) := by
  subst hy hx ha
  refine (if_neg (by simp [hruns])).trans ?_
  cases won <;> rfl

theorem execK12BusoffRecover_of_due {n : Fin 2} (hoff : s.canState n = csBusOff)
    (hdue : cellGet (fun _ => 0) s.k12.busOff n + ms 100 ≤ max s.cyc t) :
    execK12BusoffRecover t n s = .next ((s.at t).canCtl n 1#32) := by
  refine if_neg ?_
  simp only [State.k12Runs_at, hruns, State.canState_at, hoff, State.at_k12, State.at_cyc, not_lt.2 hdue]
  decide

end

/-- Settles O33: one law for each command, above. -/
theorem engineCycleCommands : Obligations.EngineCycleCommands := by
  unfold Obligations.EngineCycleCommands
  refine ⟨?latch, ?refresh, ?cyclic, ?realign, ?timeout, ?claim, ?recover⟩
  case latch => exact fun t s hruns hlatch => execK12Latch_of_due hruns hlatch rfl rfl
  case refresh => exact fun t s hruns hon hnew => execK12InputRefresh_of_due hruns hon hnew rfl
  case cyclic => exact fun t frames s hruns hon hclaimed => execK12CyclicCan_of_claimed hruns frames hon hclaimed
  case realign =>
    exact fun t p s hruns hon hstale hoff hoff' hend hend' =>
      execK12PairRealign_of_off hruns hon hstale hoff hoff' hend hend'
  case timeout => exact fun t s hruns hto hen hlate => execK12HostTimeout_of_late hruns hto hen hlate rfl
  case claim => exact fun t won s hruns => execK12AddressClaim_of_runs hruns rfl rfl rfl
  case recover => exact fun t n s hruns hoff hdue => execK12BusoffRecover_of_due hruns hoff hdue

/-! ### Test perturbation (R490 to R492, R495) -/

theorem State.reg_store_other (s : State) {off o : Nat} (v : Word) (h : o ≠ off) : (s.store off v).reg o = s.reg o := by
  unfold State.store
  split
  · rfl
  · exact State.reg_setReg_other s off o _ h

section
variable {t : Nat} {s : State}

section
variable (hready : s.readyReg TST_UNLOCK = true)
include hready

section
variable (hshut : s.tstOpen = false)
include hshut

/-- The first half of the key is kept, with its cycle. -/
theorem State.tstUnlock_first : s.tstUnlock 0xD5A1#32 = { s with tst := { s.tst with key := some s.cyc } } :=
  (if_neg (by simp [hready])).trans ((if_neg (Bool.eq_false_iff.1 hshut)).trans (if_neg fun h => absurd h.1 (by decide)))

theorem State.tstUnlock_second {c : Nat} (hkey : s.tst.key = some c) (hsoon : s.cyc ≤ c + ms 1) :
    s.tstUnlock 0x2A5E#32 = ({ s with tst := { s.tst with key := none } }).tstMark true :=
  (if_neg (by simp [hready])).trans ((if_neg (Bool.eq_false_iff.1 hshut)).trans
    (if_pos ⟨rfl, by simp [hkey, hsoon]⟩))

end

theorem State.tstUnlock_zero (hopen : s.tstOpen = true) : s.tstUnlock 0#32 = s.tstLock :=
  (if_neg (by simp [hready])).trans ((if_pos hopen).trans (if_pos rfl))

end

/-- Opening shows in TST_UNLOCK and in SYS_STATUS, and nowhere else. -/
theorem State.tstMark_true_spec (x : State) : (x.tstMark true).tstOpen = true ∧
    (x.tstMark true).bit SYS_STATUS SYS_STATUS_tst_open = true ∧ x.SameBut (x.tstMark true) [TST_UNLOCK, SYS_STATUS] := by
  refine ⟨?_, ?_, ?_⟩
  · rw [State.tstOpen, State.tstMark, State.bit, State.rd_wr_other _ _ _ _ _ _ (by decide),
      State.rd_wr_same _ _ _ _ (by decide)]
    decide
  · rw [State.tstMark, State.bit, State.rd_wr_same _ _ _ _ (by decide)]
    decide
  · exact ((State.SameBut.of_eq rfl rfl _).wr (by simp) _ _).wr (by simp) _ _

theorem execTstJitWrite_of_open {v : Word} {x : State} (hready : s.readyReg TST_JIT = true)
    (hres : reservedOf TST_JIT v = 0#32) (hopen : s.tstOpen = true) (hx : x = (s.at t).store TST_JIT v)
    (hsafe : x.tstUnsafe = false) : execTstJitWrite t v s = .next
      ({ x with tst := { x.tst with gen := if s.reg TST_SEED = 0#32 then 1#32 else s.reg TST_SEED } }).tstSync := by
  have hlock : (!(s.at t).tstOpen) = false := by simp [hopen]
  have hseed : x.reg TST_SEED = s.reg TST_SEED := hx ▸ (s.at t).reg_store_other v (by decide)
  rw [execTstJitWrite, State.tstWrite, hlock, State.hostWrite_of_ready (s.at t) _ hready hres, ← hx, ← hseed]
  refine if_neg ?_
  have hbad : tstBad TST_JIT v = false := rfl
  rw [hbad, Bool.false_or]
  exact Bool.eq_false_iff.1 hsafe

theorem execPerturbEnd_of_due {c : Nat} (hset : s.tst.endAt = some c) (hdue : c ≤ max s.cyc t)
    (hlive : s.tstLive = false) : execPerturbEnd t s =
      .next (({ s.at t with tst := { s.tst with endAt := none } }).perturbSet false) := by
  simp only [execPerturbEnd, State.at_tst, hset]
  exact if_neg (by simp only [State.at_cyc, not_lt.2 hdue, State.tstLive_at, hlive]; decide)

end

/-- Settles O34: one law for each command, above. -/
theorem perturbationCommands : Obligations.PerturbationCommands := by
  unfold Obligations.PerturbationCommands
  refine ⟨?first, ?second, ?lock, ?jit, ?perturbEnd⟩
  case first =>
    exact fun t s hready hshut => congrArg Host.Outcome.next (State.tstUnlock_first (s := s.at t) hready hshut)
  case second =>
    intro t c s hready hshut hkey hsoon
    obtain ⟨hopen, hshown, hsame⟩ := ({ s.at t with tst := { s.tst with key := none } } : State).tstMark_true_spec
    exact ⟨_, congrArg Host.Outcome.next (State.tstUnlock_second (s := s.at t) hready hshut hkey hsoon), hopen, hshown, rfl,
      hsame⟩
  case lock =>
    intro t s hready hopen
    have hlock := State.tstUnlock_zero (s := s.at t) hready hopen
    exact ⟨congrArg Host.Outcome.next hlock, congrArg Host.Outcome.next hlock⟩
  case jit => exact fun t v s hready hres hopen hsafe => execTstJitWrite_of_open hready hres hopen rfl hsafe
  case perturbEnd => exact fun t c s hset hdue hlive => execPerturbEnd_of_due hset hdue hlive

end Sys2Proof.Machine
